-- ==== Sys2Proof/Word.lean ====
section
/-! DEFINITION. The words of the register space (R438) and the bytes of the waveform memory (R37). -/

namespace Sys2Proof

/-- A 32-bit register word (R438). -/
abbrev Word := BitVec 32

/-- A byte of an envelope, a reply or the waveform memory. -/
abbrev Byte := BitVec 8

/-- A 64-byte granule, bit 0 the least significant bit of its first byte (R33). -/
abbrev Granule := BitVec 512

end Sys2Proof
end

