-- ==== Sys2Proof/Syntax.lean ====
section
/-! DEFINITION. The commands of the module: one constructor of Instr for each row of spec/opcode_table.json,
with the operands its rule names. -/

namespace Sys2Proof

/-- The two I3C ports (R349). -/
inductive I3cPort where
  | a
  | b
deriving DecidableEq, Repr

/-- What walks a sequence: a port by its global index (R4) or a stitch group (R78). -/
inductive SeqUnit where
  | port (n : Nat)
  | group (g : Nat)
deriving DecidableEq, Repr

/-- Who writes a channel block (R261). -/
inductive Writer where
  | owner
  | maintenance
  | module
  | twin
deriving DecidableEq, Repr

/-- How a read of the stacks ended (R141). -/
inductive Severity where
  | clean
  | corrected
  | uncorrectable
deriving DecidableEq, Repr

/-- The rails of R474. -/
inductive Rail where
  | vcore
  | vsram
  | vhbm
  | vpp
  | vana
  | vf
  | vd
  | vioh
  | vp15
  | vn15
  | v3a
deriving DecidableEq, Repr

/-- The dies whose temperatures R482 limits; stacks, precision and fast dies by number. -/
inductive Die where
  | sequencer
  | stack (k : Nat)
  | precision (k : Nat)
  | fast (k : Nat)
  | pattern
deriving DecidableEq, Repr

/-- One assignment value of a cartridge tap (R331): deviation, drift, uncertainty, coverage factor. -/
structure TapValue where
  v0 : Int
  drift : Int
  uncertainty : Int
  coverage : Nat
deriving DecidableEq, Repr

/-- The assignment record in force (R331): the taps 10 V, 1 V and 0.1 V, the assignment time, the
first bits of the laboratory certificate's SHA-256. -/
structure Assignment where
  tap10 : TapValue
  tap1 : TapValue
  tap01 : TapValue
  t0 : Nat
  labDigest : BitVec 256
deriving DecidableEq, Repr

/-- A record of a cartridge's assignment history and whether its seal verifies against the certificate in it (R331). -/
structure SealedRecord where
  record : Assignment
  verifies : Bool
deriving DecidableEq, Repr

/-- The life log a cartridge keeps (R334): the powered time, in seconds (PRESUMED, log entry 118), the oven cycles, the
shock events, the peak oven temperature. -/
structure LifeLog where
  seconds : Nat
  cycles : Nat
  shocks : Nat
  peakMilliC : Int
deriving DecidableEq, Repr

/-- The powered hours of a life log (R341). -/
def LifeLog.hours (l : LifeLog) : Nat := l.seconds / 3600

/-- What the module reads from a cartridge at authentication (R328, R331): the identity, the assignment history, oldest
record first, the life log. -/
structure CartData where
  identity : BitVec 128
  history : List SealedRecord
  life : LifeLog
deriving DecidableEq, Repr

/-- The assignment history: a cartridge holds at most 8 sealed records (R328). -/
def CartData.records (d : CartData) : List SealedRecord := d.history.take 8

/-- The record in force: the latest whose seal verifies (R331). -/
def CartData.record (d : CartData) : Option Assignment := ((d.records.filter (·.verifies)).getLast?).map (·.record)

/-- The reasons an authentication fails (R341 REJECT_REASON). -/
inductive AuthFailure where
  | certificate
  | signature
  | bus
  | model
deriving DecidableEq, Repr

/-- One channel emission carried by a frame's MIRROR field (R383): mirror slot 0 or 1 and the hop count. -/
structure MirrorEvent where
  slot : Nat
  hop : Nat
deriving DecidableEq, Repr

/-- A Sarron frame as received: its 256 bits (R383). What its MESSAGE field means stands beside it in the commands, since
the manual lays out no message's 88 bits (log entry 122). -/
structure LinkFrame where
  bits : BitVec 256
deriving DecidableEq, Repr

/-- The content of a HEARTBEAT message (R384). -/
structure HeartbeatContent where
  role : Nat
  moduleState : Nat
  partId : BitVec 16
  refPresent : Bool
  ready : Bool
  /-- ready for a planned swap: every port IN_STEP, whatever REQUIRE_STEP holds (R401; DEDUCED, log entry 123) -/
  inStep : Bool
  unitsInSafe : Nat
deriving DecidableEq, Repr

/-- What a SCHEDULE message schedules (R384, R391). -/
inductive Scheduled where
  | write (addr : Nat) (mask value : Word)
  | safeMap (pages : List Nat)
  | tripPark (ports : List Nat)
deriving DecidableEq, Repr

/-- One digest entry of a window: the entry's number 0-144 and its 16 bits (R396). -/
structure DigestEntry where
  entry : Nat
  value : BitVec 16
deriving DecidableEq, Repr

/-- A command latched or an event pending on a port in a JOIN record (R398 step 2): its effect slot, what it is (0 START,
1 PAUSE, 2 STOP, 3 an immediate jump, 4 a WAIT's release, 5 a recovery, 6 a trip, 7 a step to SAFE, 8 another request), its hook or
its state's code, the jump's target and CLR, the hop count of its cause. -/
structure JoinLatch where
  due : Nat
  kind : Nat
  hook : Nat
  target : Nat
  clr : BitVec 4
  hop : Nat
deriving DecidableEq, Repr

/-- A timer's state in a join (R398): STATE, the values latched at its start, the count at the join boundary, the
capture and what TM_STAT shows, the hop count. -/
structure JoinTimer where
  index : Nat
  state : Nat
  mode : Nat
  retrig : Bool
  period : Nat
  width : Nat
  count : Nat
  capture : Nat
  captValid : Bool
  captOverrun : Bool
  expires : Nat
  hop : Nat
deriving DecidableEq, Repr

/-- What a join's batch carries beside its ports (R398): the timers, the arm states of hooks by byte address (those of the
ports, of the timers and of the group-control units), GROUP_ENABLE; the cycle c of the snapshot and the cycle at which the
records take effect, both counted from the epoch. -/
structure JoinBatch where
  captured : Nat
  effect : Nat
  timers : List JoinTimer
  hooks : List (Nat × Bool)
  groupEnable : Option Word
deriving DecidableEq, Repr

/-- The state of one playhead in a JOIN record (R398 step 2), as the follower loads it: all that R398 names (DEDUCED, log
entry 132). -/
structure JoinRecord where
  port : Nat
  actual : Nat
  entry : Nat
  activity : Nat
  pass : Nat
  gran : Nat
  rows : List Nat
  ms : BitVec 4
  cause : Nat
  residue : Nat
  n : Nat
  m : Nat
  amp : Word
  offset : Word
  /-- the at-end jump events latched, the pending late ones, and the commands latched -/
  cand : BitVec 4
  pend : BitVec 4
  latches : List JoinLatch
deriving DecidableEq, Repr

/-- What a CONFIG message mirrors (R387 step 4, R388). -/
inductive ConfigItem where
  | register (addr : Nat) (value : Word)
  | entry (i : Nat) (value : BitVec 256)
  | descriptor (i : Nat) (value : BitVec 256)
  | bobbin (n : Nat) (size : Nat)
deriving DecidableEq, Repr

/-- A disagreement a health check sees (R405, R412): the unit's page, the case of R405 in order 0-3, the offset
of the register concerned (0 when none). -/
structure Disagreement where
  page : Nat
  kind : Nat
  offset : Nat
deriving DecidableEq, Repr

/-- One clock domain's measurement over a 1 ms window (R236), in kHz; tolerance as the rule judges it. -/
structure DomainReading where
  domain : Nat
  khz : Nat
deriving DecidableEq, Repr

/-- What goes wrong at a slot boundary: the entries that the SRAM could not correct at this resolution, the descriptor of
the pass that begins (R145), the ports whose granule met a bridge error (R17), the ports whose granule the SRAM could
not correct (R145). -/
structure SlotErrors where
  entries : List Nat
  desc : Bool
  bridge : List Nat
  sram : List Nat
deriving DecidableEq, Repr

/-- How the reads of one operation went, by granule address: corrected by the stack, uncorrectable once and good on the
refetch, uncorrectable on the refetch too (R141, R144). -/
structure ReadErrors where
  corrected : List Nat
  once : List Nat
  bad : List Nat
deriving DecidableEq, Repr

/-- One command: a row of spec/opcode_table.json. -/
inductive Instr where
  | read (p : I3cPort) (bytes : List Byte)
  | write (p : I3cPort) (bytes : List Byte)
  | writeMask (p : I3cPort) (bytes : List Byte)
  | claim (p : I3cPort) (bytes : List Byte)
  | release (p : I3cPort) (bytes : List Byte)
  | handover (p : I3cPort) (bytes : List Byte)
  | accept (p : I3cPort) (bytes : List Byte)
  | heartbeat (p : I3cPort) (bytes : List Byte)
  | attest (p : I3cPort) (bytes : List Byte)
  | replyRead (p : I3cPort)
  | enec (p : I3cPort)
  | disec (p : I3cPort)
  | rstdaa (p : I3cPort)
  | entdaa (p : I3cPort) (address : BitVec 7)
  | setdasa (p : I3cPort) (static address : BitVec 7)
  | setnewda (p : I3cPort) (address : BitVec 7)
  | getpid (p : I3cPort)
  | getbcr (p : I3cPort)
  | getdcr (p : I3cPort)
  | getcaps (p : I3cPort)
  | enthdr0 (p : I3cPort)
  | getstatus (p : I3cPort)
  | getmwl (p : I3cPort)
  | getmrl (p : I3cPort)
  | setmwl (p : I3cPort) (value : Nat)
  | setmrl (p : I3cPort) (value : Nat)
  | rstact (p : I3cPort) (defining : Byte) (get : Bool)
  | targetResetPattern (p : I3cPort)
  | ibiDelivery (p : I3cPort) (acked : Bool)
  | bulkWriteTlp (addr : Nat) (bytes : List Byte)
  | bulkReadTlp (addr length : Nat) (reads : ReadErrors)
  | postedWriteDrain (oldUnreadable : Bool)
  | pePerst (level : Bool)
  | bulkLinkDown
  | jtagIdcode
  | jtagBypass
  | jtagSamplePreload
  | jtagExtest
  | registerWrite (p : I3cPort) (addr : Nat) (mask value : Word)
  | requestOff (page : Nat)
  | requestParked (page : Nat)
  | requestArmed (page : Nat)
  | requestRun (page : Nat)
  | requestPaused (page : Nat)
  | requestDelivery (page : Nat)
  | pageCommit (page : Nat)
  | commitAll
  | commitDelivery (n : Nat)
  | transferEffect (n : Nat)
  | unitReset (p : I3cPort) (page : Nat)
  | tblDataWrite (p : I3cPort) (value : Word)
  | tblDataRead (p : I3cPort)
  | tblSelWrite (p : I3cPort) (value : Word)
  | tblIndexWrite (p : I3cPort) (value : Word)
  | portPosRead (p : I3cPort) (n : Nat)
  | ratioStatusRead (p : I3cPort) (n : Nat)
  | loRegisterRead (p : I3cPort) (addr : Nat)
  | infoSelWrite (value : Word)
  | infoDataRead (p : I3cPort)
  | swStrobe (value : Word)
  | firstQuery (channel : Nat)
  | snapSel (t : Nat)
  | timerStart (value : Word)
  | timerStop (value : Word)
  | testCtrlSingle (on : Bool)
  | channelConfigWrite (who : Writer) (addr : Nat) (mask value : Word)
  | tripClear (value : Word)
  | tripForce (value : Word)
  | tripSelWrite (n : Nat) (mask value : Word)
  | outSwitchWrite (n : Nat) (close : Bool)
  | syncArm
  | syncFire
  | bandTableClear
  | forceDoubleWrite (k : Nat) (on : Bool)
  | pin (desc : Nat)
  | unpin (desc : Nat)
  | pinComplete (reads : ReadErrors)
  | spareTargetWrite (g : Nat) (value : Word)
  | substitute (g : Nat)
  | returnPort (g : Nat)
  | groupEnWrite (value : Word)
  | calRebase (item : Nat)
  | legacyCtrlGo
  | select (slot : Nat)
  | contClear
  | transferGo (failure : Option AuthFailure)
  | transferAbort
  | attestStart
  | load
  | switch
  | confirm
  | revert
  | cancel
  | swap
  | join
  | abortJoin
  | twinRoleWrite (value : Word)
  | bindoffGo
  | timeSet (seconds : Word)
  | pulseFire (n : Nat)
  | monitorEnable (m : Nat)
  | monitorDisable (m : Nat)
  | syncEnWrite (m : Nat) (on : Bool)
  | fabricEvent (more : Nat)
  | trigEdge (i : Nat) (level : Bool)
  | ppsEdge (level : Bool)
  | hookJump (n j : Nat)
  | hookStart (n : Nat)
  | hookStop (n : Nat)
  | hookPause (n : Nat)
  | hookNco (n : Nat)
  | hookCommit (n : Nat)
  | hookTstart (t : Nat)
  | hookTstop (t : Nat)
  | hookTcapt (t : Nat)
  | gcHook (u : Nat)
  | timerWindowOpen (t : Nat)
  | timerExpire (t : Nat)
  | commitPoint (u : SeqUnit) (badEntries : List Nat)
  | passEnd (u : SeqUnit) (errs : SlotErrors)
  | startEffect (u : SeqUnit) (errs : SlotErrors)
  | pauseEffect (u : SeqUnit) (errs : SlotErrors)
  | stopEffect (u : SeqUnit) (errs : SlotErrors)
  | immediateJumpEffect (u : SeqUnit) (errs : SlotErrors)
  | waitRelease (u : SeqUnit) (errs : SlotErrors)
  | waitTimeout (u : SeqUnit) (errs : SlotErrors)
  | gapEnd (u : SeqUnit) (errs : SlotErrors)
  | selvedgeEnd (u : SeqUnit) (errs : SlotErrors)
  | missingSlot (u : SeqUnit) (errs : SlotErrors)
  | underrunRecovery (n : Nat) (errs : SlotErrors)
  | fetchRequest (n : Nat)
  | readComplete (n : Nat) (severity : Severity) (overBound : Bool)
  | refetchComplete (n : Nat) (severity : Severity) (late overBound : Bool)
  | stagingComplete (u : SeqUnit) (reads : ReadErrors)
  | delayTapMove (n : Nat)
  | powerDownComplete (n : Nat)
  | powerUpComplete (n : Nat)
  | isolationSwitchStep (n : Nat)
  | pulseLeadingEdge (n : Nat)
  | pulseEnd (n : Nat)
  | refreshTick (k : Nat)
  | refreshIssue (k tapSteps : Nat)
  | forcedBatch (k tapSteps : Nat)
  | stackTempReading (k : Nat) (celsius : Int)
  | crossingBatch (k tapSteps : Nat)
  | parityAlert (k pc failures errorsInMs : Nat)
  | trainingComplete (k : Nat) (ok : Bool)
  | refDetected (khz : Nat)
  | clockTransfer
  | refRemeasure (khz : Nat)
  | lockRunStart
  | bandFallback
  /-- the root cycles counted over the 64 reference cycles of the run -/
  | lockRunComplete (rootCycles : Nat)
  | guardEnd (overshoot : Nat)
  | firstLock
  | relockRefLoss
  | relockRefResume
  | lossOfReference
  | lossOfLock
  /-- the thousandths of root cycles counted over the 1,024 reference cycles, the phase offset in ps -/
  | returnQualified (rootMilli : Nat) (phasePs : Int)
  | slewEnd
  | stepCorrectionEnd
  | clockmonWindowEnd (readings : List DomainReading)
  | syncEdge (level : Bool)
  | alignmentEpoch (heldLock : Bool)
  | comparatorChange (m : Nat) (microvolts : Int)
  | thresholdStep (m : Nat) (upper : Bool)
  | blankingEnd (m : Nat)
  | sampledTick (m : Nat) (microvolts : Int)
  | tripLineAssert (k : Nat)
  | tripLatch (k : Nat)
  | tripPark (n : Nat) (errs : SlotErrors)
  | wakeRequest (m : Nat)
  | swatchStart (adc : Nat) (readback : Bool)
  | swatchPoint (adc : Nat) (readback : Bool) (value : Int) (noise : Nat)
  | swatchEnd (adc : Nat)
  | trimTap
  | targetRecompute (readings : List (Die × Int))
  | rotationStep (g : Nat)
  | legacyPass
  | legacyRelease (adc : Nat)
  | lifelineCommitStart
  | lifelineCommitComplete (ok : Bool)
  | ledgerEntryProgram
  | ledgerSecond
  | cartridgeInsert (slot : Nat)
  | cartridgeRemove (slot : Nat)
  | authenticationComplete (slot : Nat) (result : Except AuthFailure CartData)
  | reauthentication (slot : Nat) (failure : Option AuthFailure)
  | ovenReading (slot : Nat) (milliK : Int)
  | ovenReadingTimeout (slot : Nat)
  | lifeLogUpdate (slot : Nat) (shocks : Nat) (peakMilliC : Int)
  | transferPoint (ratioE15 : Int) (inWindow : Bool)
  | transferSwitch
  | transferTimeout
  | lapse
  | handoverExpiry
  | attestReportReady
  | fwVerifyComplete (signed : Bool) (reads : ReadErrors)
  | fwProgramComplete (ok : Bool)
  | quiescentPoint
  | quietTimeout
  | newImageStart (ok : Bool)
  | linkTrained
  | linkLoss
  | twinHeartbeat (f : LinkFrame) (c : HeartbeatContent)
  | faultMessage (f : LinkFrame) (sources : List Nat) (leadRelease : Bool)
  | scheduleMessage (f : LinkFrame) (c : Scheduled)
  | digestMessage (f : LinkFrame) (entries : List DigestEntry)
  | epochMessage (f : LinkFrame)
  | swapMessage (f : LinkFrame)
  | joinMessage (f : LinkFrame) (records : List JoinRecord) (batch : JoinBatch)
  | configMessage (f : LinkFrame) (item : ConfigItem)
  | idleMessage (f : LinkFrame)
  | digestWindow
  | leadActAcquire
  | watchdogRelease
  | heartbeatLoss
  | takeover
  | takeoverForceClose
  | pairFormation
  | followerLock
  | swapPrepare
  | swapInstant
  | swapForceClose
  | swapRelease
  | joinCapture
  | joinLoad
  | healthCheck (seen : List Disagreement)
  | recoveryRewrite (page : Nat)
  | recoveryResume (page : Nat)
  | stageFault (n : Nat)
  | spareStageFault (g : Nat)
  | spareSettled (g : Nat)
  | handoverConnect (g : Nat)
  | handoverComplete (g : Nat)
  | hkWatchdogExpiry
  | hkRestartComplete
  | thermalCheck (readings : List (Die × Int))
  | analogRailLow (r : Rail)
  | analogRailRestored (r : Rail)
  | suppliesValid
  | rstNLow
  | brownOut (r : Rail)
  | resetEnd
  | firmwareStart
  | castOnReady
  | bindoffDone
  | slotBoundary (u : SeqUnit) (errs : SlotErrors)
  | senseOpen (n : Nat)
  | currentLimit (n : Nat)
  | bulkLinkUp (generation lanes : Nat)
  | ppsLost
  | noSuchOpcode (p : I3cPort) (bytes : List Byte)
deriving DecidableEq, Repr

end Sys2Proof
end

