-- ==== Sys2Proof/Config.lean ====
section
/-! DEFINITION. What a variant fixes (R1, R14), the geometry of ports, slots and pages, and the free values: what
the manual leaves open, as opaque constants that nothing in Lean can evaluate. -/

namespace Sys2Proof

/-- The three variants (R1). -/
inductive Variant where
  | tg144
  | tg096
  | tg048
deriving DecidableEq, Repr

/-- The port types (R4, R171). -/
inductive PType where
  | p
  | f
  | d
deriving DecidableEq, Repr

namespace Config

/-- GLOBAL.PART_ID [15:0] (R6). -/
def partNumber : Variant → Nat
  | .tg144 => 0x0144
  | .tg096 => 0x0096
  | .tg048 => 0x0048

/-- GLOBAL.CAPS0 (R7). -/
def caps0 : Variant → Nat
  | .tg144 => 0x3f
  | .tg096 => 0x3c
  | .tg048 => 0x28

/-- The twin link is fitted (R1, R7). -/
def twinLink : Variant → Bool
  | .tg048 => false
  | _ => true

/-- The number of fitted memory stacks (R1). -/
def stackCount : Variant → Nat
  | .tg144 => 2
  | _ => 1

/-- The fitted memory in bytes (R1, R40). -/
def memoryBytes (v : Variant) : Nat := stackCount v * 2 ^ 34

/-- The number of fitted window monitors (R1, R269). -/
def monitors : Variant → Nat
  | .tg048 => 12
  | _ => 24

/-- The number of fitted spare channels (R1). -/
def spares : Variant → Nat
  | .tg048 => 2
  | _ => 4

/-- The type of the port with a global index (R4); indexes beyond 143 count as D-ports that are never fitted. -/
def portType (n : Nat) : PType :=
  if n < 64 then .p else if n < 96 then .f else .d

/-- The port is fitted on the variant (R1, R8). -/
def portFitted (v : Variant) (n : Nat) : Bool :=
  match v with
  | .tg144 => n < 144
  | .tg096 => n < 64 || (96 ≤ n && n < 128)
  | .tg048 => n < 32 || (96 ≤ n && n < 112)

/-- Samples (bits on a D-port) that one granule holds (R33). -/
def samplesPerGranule : PType → Nat
  | .p => 16
  | .f => 32
  | .d => 512

/-- The shortest segment in granules (R33). -/
def minSegment : PType → Nat
  | .p => 4
  | .f => 32
  | .d => 4

/-- The commit distance K and the action distance Ka, equal on every type (R33). -/
def ka : PType → Nat
  | .p => 2
  | .f => 16
  | .d => 2

/-- A quotient of naturals rounded up; a divisor of zero gives zero. -/
def ceilDiv (a b : Nat) : Nat := (a + b - 1) / b

/-- The selvedge length S in granules for the divisor D (R33). -/
def selvedge (t : PType) (d : Nat) : Nat :=
  match t with
  | .p => ceilDiv 4800 (250 * d)
  | .f => ceilDiv 600 d
  | .d => ceilDiv 50 d

/-- The granule duration in CK_CORE cycles (R33). -/
def granuleCycles (t : PType) (d : Nat) : Nat :=
  match t with
  | .p => 250 * d
  | .f => 8 * d
  | .d => 96 * d

/-- The fixed divider Q of the port type (R26). -/
def rootDivider : PType → Nat
  | .p => 250
  | .f => 4
  | .d => 3

/-- The full-rate demand in kB/s at divisor 1 (R159). -/
def fullRate : PType → Nat
  | .p => 307200
  | .f => 9600000
  | .d => 800000

/-- The guaranteed streaming bandwidth in kB/s (R149, R168). -/
def guaranteed (v : Variant) : Nat := stackCount v * 320000000

/-- Pseudo-channels of the module (R30). -/
def pseudoChannels (v : Variant) : Nat := stackCount v * 32

/-- The default bobbin size in units of 4 KiB (R152). -/
def defaultBobbin : PType → Nat
  | .p => 2
  | .f => 48
  | .d => 8

/-- The standard references of R215, in order of STD: the frequency in kHz and FB_INT, FB_NUM, FB_DEN. -/
def standardReferences : List (Nat × Nat × Nat × Nat) :=
  [(1000, 19200, 0, 1), (5000, 3840, 0, 1), (10000, 1920, 0, 1), (20000, 960, 0, 1), (25000, 768, 0, 1),
   (50000, 384, 0, 1), (100000, 192, 0, 1), (125000, 153, 3, 5), (200000, 96, 0, 1), (250000, 76, 4, 5)]

/-- FREE VALUE (DESIGN CHOICE, log entry 5). The k-th free word: a reading of elapsed real time, which the model does not hold. -/
opaque freeTime (k : Nat) : BitVec 64

/-- FREE VALUE (DESIGN CHOICE, log entry 5). The k-th band (0-63) and fine-tuning code that a full search finds (R227). -/
opaque freeBand (k : Nat) : BitVec 6 × BitVec 8

/-- FREE VALUE (DESIGN CHOICE, log entry 5). The k-th byte that a read of an uncorrectable granule shows to the bulk port. -/
opaque freeByte (k : Nat) : Byte

/-- FREE VALUE (DESIGN CHOICE, log entry 22). The k-th number of tags that staging, pin, verification and service reads hold on
pseudo-channel c, before the bounds of R31 and R128 are laid on it. -/
opaque freeTags (k c : Nat) : Nat

/-- FREE VALUE (DESIGN CHOICE, log entry 5). What a JTAG data register holds after an instruction (R348): the manual gives no contents. -/
opaque jtagData (k : Nat) : Nat

/-- Which sample of the slot being played is the current one when a gate looks at a marker output (R245): the model's
commands are moments, so that the place within the slot is left free (FREE VALUE, DESIGN CHOICE, log entry 5). -/
opaque samplePosition (k cycle port : Nat) : Nat

/-- FREE VALUE (DESIGN CHOICE, log entry 6). What the module computes for the sine of p / 2^40 turns, in units of 2^-62, before R99's
bound is laid on it. -/
opaque rawSine (p : Nat) : Int

/-- The sum of the first terms of the sine's power series, from term k on, in units of 2^-80: t is the term before, x2 the
square of the angle. -/
def sineTerms (x2 : Nat) : Nat → Nat → Nat → Int
  | 0, _, _ => 0
  | fuel + 1, k, t =>
    let t' : Nat := t * x2 / 2 ^ 80 / (2 * k * (2 * k + 1))
    (if k % 2 = 0 then (t' : Int) else -(t' : Int)) + sineTerms x2 fuel (k + 1) t'

/-- The sine of q / 2^40 turns for q up to a quarter turn, in units of 2^-62, within a few units: the factor is 2 pi in units
of 2^-80, and eleven terms of the series leave less than 2^-59. -/
def quarterSine (q : Nat) : Int :=
  let x : Nat := q * 7595904947272677161575987 / 2 ^ 40
  ((x : Int) + sineTerms (x * x / 2 ^ 80) 10 1 x) / 2 ^ 18

/-- The sine of p / 2^40 turns in units of 2^-62, within a few units. -/
def trueSine (p : Nat) : Int :=
  let q := p % 2 ^ 38
  match p / 2 ^ 38 % 4 with
  | 0 => quarterSine q
  | 1 => quarterSine (2 ^ 38 - q)
  | 2 => -quarterSine q
  | _ => -quarterSine (2 ^ 38 - q)

/-- How far the module's sine may lie from the true one (R99): 2^-30, in units of 2^-62, and the few units within which
`trueSine` gives it. -/
def sineBound : Int := 2 ^ 32 + 16

/-- The sine of p / 2^40 turns in units of 2^-62, as the module computes it: within 2^-30 of the true one, and free there (R99,
log entry 6). -/
def sine (p : Nat) : Int := max (trueSine p - sineBound) (min (trueSine p + sineBound) (rawSine p))

/-- FREE VALUE (DESIGN CHOICE, log entry 7). The factory linearisation L of a converter and range (R177, R290), in units of 1 pV:
converter n is that of P-port n, 144 + g that of spare g. -/
opaque linearisation (converter range : Nat) (y : Int) : Int

/-- FREE VALUE (DESIGN CHOICE, log entry 7). The factory threshold map of a threshold (R270, R290), from SET to code before the trim. -/
opaque thresholdMap (m : Nat) (upper : Bool) (set : Int) : Int

/-- FREE VALUE (DESIGN CHOICE, log entry 7). The factory temperature coefficient of a trim item between two die temperatures (R290, R294), in
1/100 tap per 0.01 degree C. -/
opaque tempco (item : Nat) (offset : Bool) (t0 t : Int) : Int

/-- FREE VALUE (DESIGN CHOICE, log entry 7). A measured voltage, in 10^-18 V, after the slot constants of the factory model (R290, R299). -/
opaque slotConstants (slot tap : Nat) (v : Int) : Int

/-- FREE VALUE (DESIGN CHOICE, log entry 7). The ratio, in units of 10^-15, that CALADC k reads, through its linearity of the factory
model (R290). -/
opaque adcLinearity (k : Nat) (ratio : Int) : Int

/-- FREE VALUE (DESIGN CHOICE, log entry 7). The calibration bus offset of an item in the factory model (R290), in 10^-18 V. -/
opaque busOffset (item : Nat) : Int

/-- FREE VALUE (DESIGN CHOICE, log entry 7). The delay that a number of taps of an F- or D-port's delay line makes by the tap weights of the
factory model (R191, R290), in femtoseconds. -/
opaque tapWeights (n taps : Nat) : Nat

/-- FREE VALUE (DESIGN CHOICE, log entry 7). The k-th offset estimate that a point swatch removes (R299), in 10^-18 V. -/
opaque offsetEstimate (k : Nat) : Int

/-- FREE VALUE (DESIGN CHOICE, log entry 9). The payload of a ledger entry whose contents the manual names and does not lay out (R321). -/
opaque ledgerPayload (kind : Nat) (content : List Nat) : List Byte

/-- FREE VALUE (DESIGN CHOICE, log entry 8). SHA-384 of a list of bytes (R315, R320): the manual names the function and does not define it. -/
opaque sha384 (bytes : List Byte) : BitVec 384

/-- FREE VALUE (DESIGN CHOICE, log entry 8). The device identity key's signature over a digest (R371): r and s. -/
opaque sign (digest : BitVec 384) : BitVec 768

/-- FREE VALUE (DESIGN CHOICE, log entry 8). The device certificate and the intermediate, DER (R371, R372). -/
opaque certificates : List Byte

/-- FREE VALUE (DESIGN CHOICE, log entry 8). SHA-384 of the boot ROM (R372). -/
opaque romDigest : BitVec 384

/-- FREE VALUE (DESIGN CHOICE, log entry 8). The digest of the factory model (R290, R372). -/
opaque factoryDigest : BitVec 384

/-- FREE VALUE (DESIGN CHOICE, log entry 8). SHA-384 of the firmware image with a version (R372, R378). -/
opaque imageDigest (version : Word) : BitVec 384

/-- FREE VALUE (DESIGN CHOICE, log entry 8). The CRC-32C of a digest contribution (R396): the manual names its contents and no layout. -/
opaque contribution (content : List Nat) : Word

end Config

end Sys2Proof
end

