-- ==== Sys2Proof/Machine/State.lean ====
section
/-! DEFINITION. The module's state as plain data: the register file, the units that move (playheads, oscillators,
bobbins, stitch groups, spares, timers, monitors, trip lines, stacks, clock loop, calibration, cartridges, ownership,
twin, health, lifecycle), the non-volatile stores, the pins and the queue of commands that wait. -/

namespace Sys2Proof
namespace Machine

/-- No command stops the module: what the manual calls a fault is a code on a page, a log entry and an event (R410),
all of them state. -/
inductive Fault where
deriving DecidableEq, Repr

/-- Why a command is refused by the model. -/
inductive Refusal where
  /-- Raised by the dispatcher for a command without a meaning; no command is left without one. Safe: it stops. -/
  | notModelled (mnemonic : String)
deriving DecidableEq, Repr

/-- A sparse table: keys rising, a key that is not listed holds the table's default. -/
abbrev Tab (α : Type) := List (Nat × α)

/-- The actual and requested states of R443. -/
inductive UState where
  | absent
  | off
  | parked
  | ready
  | armed
  | run
  | paused
  | safe
  | service
  | updating
deriving DecidableEq, Repr

/-- The states of GLOBAL.MODULE_STATE (R427). -/
inductive Life where
  | boot
  | clocking
  | memory
  | ready
  | service
  | degraded
  | follow
  | halted
deriving DecidableEq, Repr

/-! ### Oscillators (R93-R112) -/

/-- An oscillator: N and M as last loaded, the residue that the port's next sample carries, the active amplitude and
phase offset, the last conversion's remainder, the conversion count and RATIO_STATUS.SEQ. -/
structure Osc where
  n : Nat
  m : Nat
  u : Nat
  amp : Word
  offset : Word
  rho : Nat
  conv : Nat
  seq : Nat
deriving DecidableEq, Repr

/-- The items that sources carry to an oscillator at one boundary (R109). -/
structure NcoItems where
  freq : Option (Nat × Nat)
  phase : Option Nat
  amp : Option Word
  offset : Option Word
deriving DecidableEq, Repr

/-! ### Playheads (R33-R92) -/

/-- What occupies the current slot (PORT_POS.ACTIVITY, R89; the readings paused and underrun hold come from the
port's state and its running underrun episode). -/
inductive Activity where
  | idle
  | segment
  | selvedge
  | gap
  | wait
deriving DecidableEq, Repr

/-- What a resolution reached (R48), with the words of the entry as the resolution read them (R46, R47). -/
inductive Follow where
  | play (entry pass : Nat) (word : BitVec 256)
  | wait (entry : Nat) (word : BitVec 256)
  | gap (entry : Nat) (word : BitVec 256)
  | halt
deriving DecidableEq, Repr

/-- What a resolution fixed: what follows, the NCO_SET entries passed, whether a LOOP_BACK fell through, whether the
ninth zero-time entry was met, whether the transition leaves the default path, whether the entry ends, whether a CLR made
the default path beyond what follows another one. -/
structure Plan where
  follow : Follow
  loads : List NcoItems
  loopEnd : Bool
  chainLimit : Bool
  offPath : Bool
  entryEnds : Bool
  retrack : Bool
  /-- the emission hop count of the jump event that won -/
  hop : Option Nat
deriving DecidableEq, Repr

/-- A command latched in a slot, by what it does at its effect slot (R35, R36). -/
inductive Latched where
  | start
  | pause
  | stop
  | jump (hook target : Nat) (clr : BitVec 4)
  | release
  | recover
  | trip
  | safe
  /-- a register request that names no state command, judged at its effect slot (R493) -/
  | request (st : UState)
deriving DecidableEq, Repr

/-- A latched command with its effect slot and the hop count of its cause (R252). -/
structure Latch where
  due : Nat
  what : Latched
  hop : Nat
deriving DecidableEq, Repr

/-- What the acting jump event of the current slot did, so that a lower-numbered hook of the same slot can take its
place (R58). -/
inductive Judged where
  | candidate (fresh : Bool)
  | late (fresh : Bool)
  | immediate
  | release
deriving DecidableEq, Repr

/-- A playhead, of a port or of a stitch group. -/
structure Playhead where
  entry : Nat
  /-- the words of the entry as its resolution read them (R46, R47) -/
  word : BitVec 256
  /-- the start entry, taken at ARM (R88, R449) -/
  start : Nat
  activity : Activity
  /-- the pass of the entry that plays, from 1 -/
  pass : Nat
  /-- the granule index in the pass, or the slots elapsed in a selvedge, GAP or WAIT -/
  gran : Nat
  /-- the pass length L, or the length of the selvedge or GAP, or the WAIT's timeout -/
  len : Nat
  rows : Vector (BitVec 16) 4
  /-- at-end jump events latched before the commit point, bit j for hook Jj -/
  cand : BitVec 4
  /-- pending late events -/
  pend : BitVec 4
  /-- the emission hop counts that the events in cand and pend carry, by hook -/
  hops : Vector Nat 4
  plan : Option Plan
  latches : List Latch
  /-- the jump event that acts in the current slot -/
  judged : Option (Nat × Judged)
  /-- the slot of the last transition off the default path whose first stream data has not begun -/
  trans : Option Nat
  /-- the entry's start actions have applied (R70) -/
  begun : Bool
  /-- the hop count of the cause -/
  hop : Nat
deriving DecidableEq, Repr

/-- A marker record in force: its granule, its sample, the three masks (R69). -/
structure MarkRecord where
  gran : Nat
  sample : Nat
  set : BitVec 4
  clr : BitVec 4
  pulse : BitVec 4
deriving DecidableEq, Repr

/-- A copy in the segment cache (R154-R158): its descriptor's index, ADDR and LEN at the copy, the data granules held
from granule 0 on (the whole segment or a primed head; a poisoned granule is none), the marker granules, who uses it
(port indexes), pinned, touched by a bulk write since. -/
structure Copy where
  desc : Nat
  addr : Nat
  len : Nat
  whole : Bool
  data : List (Option Granule)
  marks : List Granule
  users : List Nat
  pinned : Bool
  touched : Bool
deriving DecidableEq, Repr

/-- The pass a player plays: the descriptor's index and words, the number of data granules, held throughout under
R41, the granules the cache holds, the marker records in force. -/
structure Seg where
  desc : Nat
  word : BitVec 256
  data : Nat
  mismatch : Bool
  cached : List (Option Granule)
  marks : List MarkRecord
  /-- the last sample of the data, as it stands in the granule (R39) -/
  tail : Nat
deriving DecidableEq, Repr

/-- A granule in the bobbin or on its way: the stream pass and granule index it belongs to, its address, its data
(none when it could not be read), whether the read has been issued to the stack, the burst train it belongs to, 0 for
none (R129). -/
structure Fetched where
  pass : Nat
  gran : Nat
  addr : Nat
  data : Option Granule
  issued : Bool
  train : Nat
deriving DecidableEq, Repr

/-- The fetch engine's cursor on the default path (R52, R150): what it prefetches, the words of that entry as it read
them (R46), the row counters there, the number of the stream pass, the descriptor read for it. -/
structure Cursor where
  entry : Nat
  item : BitVec 256
  pass : Nat
  gran : Nat
  rows : Vector (BitVec 16) 4
  count : Nat
  word : Option (BitVec 256)
deriving DecidableEq, Repr

/-- The CRC of a stream pass on its way (R42): the pass's number, its descriptor, the next granule to be taken in, the
CRC register so far, the granules that arrived out of order. -/
structure PassCrc where
  pass : Nat
  desc : Nat
  word : BitVec 256
  next : Nat
  acc : Nat
  wait : List Fetched
deriving DecidableEq, Repr

/-- A port's bobbin (R150): the granules present, the requests in flight (oldest first), the requests that are
refetched, the cursor, the descriptors (index and words) of the stream passes begun ahead of the playhead, the number
of the stream pass that the playhead plays, the CRCs of the passes in flight, the burst trains so far and the reads of
the last one (R129). A request of pass 0 is one whose data is discarded (R151). -/
structure Bobbin where
  present : List Fetched
  flying : List Fetched
  refetch : List Fetched
  cursor : Option Cursor
  ahead : List (Nat × BitVec 256)
  playing : Nat
  crcs : List PassCrc
  trains : Nat
  trainLen : Nat
deriving DecidableEq, Repr

/-- One output sample: the code (P, F) or the line level at the cell's end (D), the marker outputs, the positions of the
edges within the bit cell in 1/64, ascending (CLOCK mode, R101, R103). -/
structure Sample where
  value : Int
  marks : BitVec 4
  edges : List Nat
deriving DecidableEq, Repr

/-- The stage power of a port (R175). -/
inductive Power where
  | off
  | up
  | on
  | down
deriving DecidableEq, Repr

/-- The isolation switches of a P-port, or the driver enable of an F- or D-port (R182, R184). -/
structure Switches where
  sense : Bool
  force : Bool
  /-- the sequence under way: closing (true) or opening (false), its second half outstanding -/
  moving : Option Bool
deriving DecidableEq, Repr

/-- A pulse in progress (R188): its delay or width phase, and the values of its fire. -/
structure Pulse where
  lead : Bool
  idle : Bool
  delay : Nat
  width : Nat
deriving DecidableEq, Repr

/-- The trims of a P-port stage, or of a spare for one port, in one range (R177): applied values. -/
structure Trim where
  gain : Int
  offset : Int
deriving DecidableEq, Repr

/-- What a unit held when it entered SAFE (R407): its state then, whether it was a group's member, a group's members;
how far the recovery has come. -/
structure SafeRecord where
  was : UState
  member : Bool
  members : List Nat
  rewritten : Bool
  /-- the recovery counts under R408 -/
  counted : Bool
  /-- it stays in SAFE: R408, or STAY -/
  held : Bool
deriving DecidableEq, Repr

/-- A port (R4): its slot, states, active values, oscillator, playhead, bobbin and output. -/
structure Port where
  slot : Nat
  state : UState
  requested : UState
  /-- a REQUEST that the management path has yet to deliver (R493) -/
  deliver : Option UState
  /-- that request came in one word with a COMMIT and waits for its transfer (R439) -/
  withCommit : Bool
  /-- a register commit that has yet to reach the playhead (R452) -/
  commit : Bool
  /-- active PORT_MODE, PORT_DIV and PORT_SEQ_START -/
  mode : Word
  div : Nat
  seqStart : Nat
  /-- the pending bits of PAGE_SHADOW -/
  shadow : Word
  /-- the pending bits that a transfer has taken up and R174 holds -/
  held : Word
  /-- transfers latched: effect slot, and true when only the NCO group moves -/
  transfers : List (Nat × Bool)
  osc : Osc
  /-- the oscillator before the transfers of the coming boundary, and what they carried (R109) -/
  merge : Option (Osc × NcoItems)
  play : Playhead
  ms : BitVec 4
  seg : Seg
  bobbin : Bobbin
  /-- the stitch group that accepted the port (R80) -/
  group : Option Nat
  /-- an underrun episode is running (R73) -/
  underrun : Bool
  /-- the samples of the current slot -/
  out : List Sample
  last : Sample
  /-- the last sample was limited (R178) -/
  limited : Bool
  /-- PORT_PARK in force (R192) -/
  park : Word
  /-- the output is frozen by a LEGACY_HOLD pass (R310) -/
  stale : Bool
  /-- the park output is held from a HALT (R49) -/
  holdPark : Bool
  /-- a ramp to LEVEL: the start value, the granules done, the granules in all (R192) -/
  ramp : Option (Int × Nat × Nat)
  /-- the trip lines latched at the converter that force this port's output -/
  forced : Bool
  power : Power
  switches : Switches
  pulse : Option Pulse
  /-- the D_SWING.STEP in force (R186) -/
  swing : Nat
  /-- the calibration part of DELAY_TAP.ACTUAL, and ACTUAL itself (R191) -/
  delayTrim : Int
  delayActual : Nat
  trims : Vector Trim 3
  /-- reserved demand of an admitted port (R159-R162): kB/s, and the shares by pseudo-channel -/
  demand : Nat
  shares : Tab Nat
  admitted : Bool
  safeRecord : Option SafeRecord
  /-- once ARMED, the port is started: it was in RUN before a SAFE (R407) -/
  restart : Bool
  /-- PAGE_STATE.MISMATCH, and the checks since the one that first saw a disagreement (R405) -/
  mismatch : Bool
  seenAt : Option Nat
  /-- the model cycle of its ARM: units armed together are staged in order (R154) -/
  armedAt : Nat
deriving DecidableEq, Repr

/-- A stitch group (R77-R81): `lanes`, `div`, what its ARM took of its members' LANE and of the leader's divisor; `lens`,
the LEN of the leader's cached copies, by descriptor, once the leader has left alone. -/
structure Group where
  state : UState
  requested : UState
  deliver : Option UState
  seqStart : Nat
  shadow : Bool
  slot : Nat
  play : Playhead
  leader : Option Nat
  members : List Nat
  accepted : List Nat
  excluded : List Nat
  lanes : Tab Nat
  div : Nat
  lens : Tab Nat
  restart : Bool
  mismatch : Bool
  seenAt : Option Nat
  safeRecord : Option SafeRecord
  armedAt : Nat
deriving DecidableEq, Repr

/-- A hand-over or return under way (R200). -/
structure Handover where
  /-- true: to the spare; false: back to the port's own stage -/
  toSpare : Bool
  connected : Bool
deriving DecidableEq, Repr

/-- A spare channel (R198-R205). -/
structure Spare where
  settled : Bool
  substituted : Bool
  busy : Option Handover
  refused : Bool
  /-- SUBST.SUBSTITUTED and PORT of the substitution: the port's global index -/
  serves : Option Nat
  /-- a stage fault of the spare sends the served port back to its own stage at the port's next slot boundary (R204) -/
  returning : Bool
  fault : Bool
  /-- the spare is being swatched (SERVICE) -/
  service : Bool
  /-- a UNIT_RESET that waits for the return (R458) -/
  resetDue : Bool
  trims : Tab (Vector Trim 3)
  mismatch : Bool
  seenAt : Option Nat
  safeRecord : Option SafeRecord
deriving DecidableEq, Repr

/-! ### Fabric and timers (R245-R268) -/

/-- An emission: the source code, the hop count. -/
structure Emission where
  code : Nat
  hop : Nat
deriving DecidableEq, Repr

/-- An activation presented to a consumer (R250): the hook's byte address, the hop count, the count it adds, the number
of the fabric cycle that formed it. -/
structure Activation where
  hook : Nat
  hop : Nat
  count : Nat
  cycle : Nat
deriving DecidableEq, Repr

/-- What a hook holds beside its word: its arm state, the serials of its subscriptions (R259). -/
structure HookState where
  armed : Bool
  serialA : Option Nat
  serialB : Option Nat
deriving DecidableEq, Repr

/-- Why the fabric is in single-consumer mode (R258, R265): FABRIC_MODE.REASON. -/
inductive FabricMode where
  | normal
  | castOn
  | test
  | restart
deriving DecidableEq, Repr

/-- The event fabric: emissions on their way, one list for each cause; activations presented and not yet consumed;
hook states by byte address; the last serial given; the mode. -/
structure Fabric where
  emitted : List (List Emission)
  acts : List Activation
  hooks : Tab HookState
  serial : Nat
  mode : FabricMode
  /-- fabric cycles with emissions so far -/
  cycles : Nat
deriving DecidableEq, Repr

/-- TM_STAT.STATE (R268). -/
inductive TimerState where
  | idle
  | running
  | windowOpen
  | done
deriving DecidableEq, Repr

/-- A timer (R263, R264): the state, the values latched at the running start, the count at a tick of the module's
cycle count, the capture, the hop counts of the start and of the capture. -/
structure Timer where
  state : TimerState
  mode : Nat
  retrig : Bool
  period : Nat
  width : Nat
  count : Nat
  at_ : Nat
  capture : Nat
  captValid : Bool
  captOverrun : Bool
  expires : Nat
  hop : Nat
  /-- the fabric cycle of the last stop activation, which wins over a start of the same cycle -/
  stopped : Option Nat
deriving DecidableEq, Repr

/-! ### The stacks (R130-R147) -/

/-- TRAIN_STATE.STATE (R166). -/
inductive Train where
  | idle
  | training
  | tracking
  | failed
  | selfRefresh
deriving DecidableEq, Repr

/-- A memory stack and its controller: the owed count and its peak, a forced batch marked, an upward crossing held,
the mode, the last temperature and the peak, training, the failed pseudo-channels. -/
structure Stack where
  owed : Nat
  peakOwed : Nat
  forced : Bool
  up : Bool
  doubled : Bool
  initial : Bool
  forceDouble : Bool
  temp : Option Int
  peakTemp : Nat
  train : Train
  attempts : Nat
  taps : Nat
  failed : List Nat
deriving DecidableEq, Repr

/-! ### Hosts, ownership and the bulk port (R344-R372) -/

/-- An I3C port (R349-R359). -/
structure I3c where
  /-- the dynamic address -/
  address : Option (BitVec 7)
  enint : Bool
  enhj : Bool
  /-- ENTHDR0 was received, and the last envelope came in HDR-DDR -/
  hdr : Bool
  hdrEnvelope : Bool
  mwl : Nat
  mrl : Nat
  /-- the action RSTACT set for the target reset pattern -/
  rstact : Nat
  hotJoin : Bool
  protocolError : Bool
  /-- the alert classes whose IBI awaits delivery, and the last one delivered -/
  ibis : List Nat
  lastIbi : Nat
  /-- what the last direct GET code returned -/
  cccValue : Nat
  /-- the word that the last register-read command returned (the MODEL's own) -/
  lastRead : Word
  /-- the last envelope executed and its reply (R359) -/
  executed : Option (List Byte × List Byte)
  /-- the reply that a private read returns (R358) -/
  reply : Option (List Byte)
  /-- read captures by byte address (R440) -/
  captures : Tab Word
  tblSel : Nat
  tblIndex : Nat
  tblStatus : Word
  /-- the words staged by this port: table, entry, word index and word (R46, R229) -/
  staged : Option (Nat × Nat × Tab Word)
deriving DecidableEq, Repr

/-- OWNER_STATE (R363). -/
inductive OwnerState where
  | none
  | owned
  | handover
  | lapsed
deriving DecidableEq, Repr

/-- Ownership (R360-R366): the owner's token and port, the target of a pending handover. -/
structure Owner where
  state : OwnerState
  token : BitVec 64
  port : I3cPort
  target : BitVec 64
  /-- the heartbeat timer and the handover timer (R363, R365): the CK_CORE cycles each has run -/
  heard : Nat
  offered : Nat
deriving DecidableEq, Repr

/-- A write accepted into the posted-write buffer (R163): its address, its bytes, the windows it came through. -/
structure Posted where
  addr : Nat
  bytes : List Byte
  windows : List Nat
deriving DecidableEq, Repr

/-- The bulk endpoint (R367-R369, R490). -/
structure Bulk where
  buffer : List Posted
  linkUp : Bool
  generation : Nat
  lanes : Nat
  retrains : Nat
  trained : Bool
  /-- the last completion: the data read, or none for Unsupported Request -/
  completion : Option (List Byte)
  /-- Unsupported Requests reported through AER -/
  unsupported : Nat
deriving DecidableEq, Repr

/-- ATTEST_STATUS.STATE (R372). -/
inductive AttestState where
  | none
  | busy
  | ready
  | failed
deriving DecidableEq, Repr

/-- FW_UPDATE_STATUS.STATE (R375, R381). -/
inductive FwState where
  | idle
  | verifying
  | programming
  | loaded
  | waitQuiet
  | paused
  | runningNew
  | failed
deriving DecidableEq, Repr

/-- A firmware image in a slot (R373): the bytes as programmed; of the image that the module ships with no byte is given
(log entry 8). -/
structure Image where
  version : Word
  rollback : Nat
  bytes : Option (List Byte)
deriving DecidableEq, Repr

/-- The security unit (R371-R378). -/
structure Security where
  attest : AttestState
  nonce : List Byte
  reportSeq : Nat
  report : List Byte
  update : FwState
  reason : Nat
  /-- the housekeeping pause of a REVERT, not of a SWITCH -/
  reverting : Bool
  /-- the image on its way into the inactive slot, or last programmed there -/
  staging : Option Image
  /-- trips latched during the pause (R377): line, seconds and nanoseconds -/
  deferred : List (Nat × Nat × Nat)
  /-- a pin operation that waits until the switch is over (R375 step 5) -/
  pinHeld : Bool
deriving DecidableEq, Repr

/-! ### Ledger and fault log (R320-R324, R412) -/

/-- A ledger entry (R320): the payload's bytes where a chapter lays them out, its contents in order where the manual
names them and gives no layout (DESIGN CHOICE, log entry 9). -/
structure LedgerEntry where
  seq : Nat
  sec : Nat
  ns : Nat
  kind : Nat
  flags : Nat
  payload : List Byte
  content : List Nat
deriving DecidableEq, Repr

/-- An entry as programmed: its ring byte offset and its bytes. -/
structure RingEntry where
  offset : Nat
  seq : Nat
  kind : Nat
  bytes : List Byte
deriving DecidableEq, Repr

/-- The ledger's volatile part: the entries buffered (oldest first), the SEQ of the next entry, whether it carries
LOSS, the ordinary entries since the last checkpoint, the time. -/
structure Ledger where
  buffer : List LedgerEntry
  nextSeq : Nat
  loss : Bool
  ordinary : Nat
  sec : Nat
  pps : Bool
  /-- the seconds of an armed TIME_SET -/
  timeSet : Option Nat
  lost : Bool
  chainOk : Bool
  /-- second boundaries since the end of reset -/
  elapsed : Nat
  /-- the model cycle of the last second boundary, or of the end of reset (R323) -/
  secAt : Nat
deriving DecidableEq, Repr

/-- A fault-log entry (R412). -/
structure FaultEntry where
  sec : Nat
  ns : Nat
  code : Nat
  page : Nat
  detail : Word
deriving DecidableEq, Repr

/-! ### Calibration (R292-R319) -/

/-- The swatch types of R298, with a spare's full swatch apart: CAL_STATUS.ADCx_KIND 1-5 (R326). -/
inductive SwatchKind where
  | full
  | point
  | spare
  | delay
  | threshold
deriving DecidableEq, Repr

/-- A swatch under way on a CALADC (R300): the item's code, the type, whether a LEGACY_HOLD pass or spare rotation runs
it, the nominal level of a point swatch in pV, the values of the points so far, a point beyond PLAUS_NOISE. -/
structure Swatch where
  item : Nat
  kind : SwatchKind
  legacy : Bool
  rotation : Bool
  level : Int
  values : List Int
  noisy : Bool
  /-- judged; the frozen output awaits its release (R310) -/
  done : Bool
deriving DecidableEq, Repr

/-- A pair of trim values in taps: gain and offset; a delay or a threshold uses `offset` alone. -/
structure Taps where
  gain : Int
  offset : Int
deriving DecidableEq, Repr

/-- How the next swatch of an item is judged: by R304, with limits ten times those (R313), by noise and range alone
without a record (R313), or so because CAL_REBASE released the item (R306). -/
inductive Judging where
  | ordinary
  | tenfold
  | open_
  | released
deriving DecidableEq, Repr

/-- A trim item (R292-R306): the last accepted result, the die temperature then (in 0.01 degree C), the target, the
swatches accepted since cast-on and in all, the consecutive rejections, HELD, how the next swatch is judged, the second
since reset of the last accepted swatch and at which a swatch without a result is due again (R297), the ledger seconds
of the last accepted swatch, a result accepted since cast-on or carried by the record. -/
structure CalItem where
  result : Taps
  temp : Int
  target : Taps
  accepted : Nat
  total : Nat
  rejected : Nat
  held : Bool
  judging : Judging
  swatched : Option Nat
  retry : Option Nat
  at_ : Nat
  seeded : Bool
deriving DecidableEq, Repr

/-- A LEGACY_HOLD pass (R310): the ports still to come, the ports held, by CALADC. -/
structure LegacyPass where
  queue0 : List Nat
  queue1 : List Nat
  ports : Nat
  results : List Nat
deriving DecidableEq, Repr

/-- STORE_STATE.STATE (R326). -/
inductive StoreState where
  | idle
  | waiting
  | erasing
  | programming
  | verifying
  | failed
deriving DecidableEq, Repr

/-- The step of a group's spare rotation (R307). -/
inductive Rotation where
  | idle
  | shadow
  | spareSwatch
  | substitute
  | portSwatch
  | return_
deriving DecidableEq, Repr

/-- The calibration engine. -/
structure Cal where
  adc0 : Option Swatch
  adc1 : Option Swatch
  items : Tab CalItem
  /-- the die temperatures at the last recomputation, in 0.01 degree C, by die -/
  temps : Tab Int
  legacy : Option LegacyPass
  /-- the MODE in force, which a write during a pass changes only at its end (R311) -/
  legacyMode : Bool
  /-- the SUSPEND in force, which a write during a pass changes only at its end (R297, R311) -/
  suspend : Bool
  rotation : Tab (Rotation × Nat)
  factoryValid : Bool
  recordValid : Bool
  seedMismatch : Bool
  store : StoreState
  /-- a change that awaits a lifeline commit (R316) -/
  storeDue : Bool
  /-- the second since reset at which the last commit started -/
  storeAt : Option Nat
  /-- the commit under way is the second attempt (R317) -/
  storeRetry : Bool
  /-- the slot in force is B -/
  slotB : Bool
deriving DecidableEq, Repr
/-- A lifeline record (R315) in the fields that the module reads back; CRC, SIGNATURE and COMMIT are correct. -/
structure LifeRecord where
  seq : Nat
  sec : Nat
  ns : Nat
  ledgerSeq : Nat
  cartId : BitVec 128
  activeSlot : Nat
  fwVersion : Word
  /-- gain and offset of the items of kinds 0 and 1, by item code -/
  trims : Tab Taps
  /-- trim and die temperature of the items of kind 2, by port -/
  delays : Tab (Int × Int)
  /-- trims of the items of kind 3, by INDEX -/
  thresholds : Tab Int
  /-- accepted count, HELD, consecutive rejections, ledger seconds, by item code -/
  items : Tab (Nat × Bool × Nat × Nat)
deriving DecidableEq, Repr

/-! ### Window monitors and trip lines (R269-R288) -/

/-- WM_STATE.STATE (R286). -/
inductive MonState where
  | indeterminate
  | below
  | inside
  | above
deriving DecidableEq, Repr

/-- A window monitor: running since its last enable, the mode and hysteresis code in force (R276), the input in
microvolts, the applied threshold codes and their calibration trims, the comparators once determined (R273), the state
that the synchronous path presents. -/
structure Monitor where
  running : Bool
  mode : Nat
  hyst : Nat
  volts : Int
  upper : Int
  lower : Int
  trimUpper : Int
  trimLower : Int
  cu : Option Bool
  cl : Option Bool
  published : MonState
deriving DecidableEq, Repr

/-- The trip lines' latches, in the front ends and on the sequencer die (R281). -/
structure Trips where
  front : BitVec 8
  die : BitVec 8
deriving DecidableEq, Repr

/-! ### The clock (R214-R244) -/

/-- PLL_STATE.STATE (R242). -/
inductive LoopState where
  | noRef
  | searching
  | guard
  | locked
  | coasting
  | refReturned
deriving DecidableEq, Repr

/-- How far a relock has come (R224): REF_IN is measured afresh before the loop step, the band is searched (true: a full
search), the lock run goes on, it has passed and awaits the common edge, or a loss of REF_IN holds it (R226). -/
inductive Relock where
  | measuring
  | search (full : Bool)
  | run
  | passed
  | waiting
deriving DecidableEq, Repr

/-- SYNC_STATUS.STATE (R242). -/
inductive SyncState where
  | idle
  | armed
  | aligning
  | done
  | refused
  | late
  | failed
deriving DecidableEq, Repr

/-- A clock domain's status (R236, R237); `tainted`: guarded or gated during the window under way. -/
structure Domain where
  active : Bool
  mhz : Nat
  fault : Bool
  faults : Nat
  tainted : Bool
deriving DecidableEq, Repr

/-- The root clock: the loop, the relock under way, the active ratio, FB_PEND and a transfer held for a reference
(R219), the band in use, the band table and its order of use (least recent first), guard and gating, the lock run, the
correction under way after a return (R233), the domains, the alignment. -/
structure Clock where
  loop : LoopState
  refPresent : Bool
  relock : Option Relock
  fullSearch : Bool
  fbInt : Nat
  fbNum : Nat
  fbDen : Nat
  /-- the ratio last transferred, before the clamp (R219) -/
  raw : Nat × Nat × Nat
  pend : Bool
  held : Bool
  /-- a commit that has yet to reach the CLOCK page (R452) -/
  commit : Bool
  band : Nat
  fine : Nat
  fromTable : Bool
  bands : Tab Word
  use : List Nat
  guard : Bool
  gated : Bool
  windowPass : Bool
  run : Nat
  peak : Nat
  correction : Option Nat
  domains : Tab Domain
  sync : SyncState
  syncIn : Bool
  /-- FIRE written: SYNC_OUT rises at the next REF_IN rising edge (R238) -/
  syncFired : Bool
  /-- REF_IN periods for which SYNC_OUT stays high (R238) -/
  syncOut : Nat
  /-- the model cycle at which the coast under way began (R231) -/
  coastAt : Nat
  /-- the model cycle at which the sample epoch began -/
  epochAt : Nat
deriving DecidableEq, Repr

/-! ### Cartridges (R328-R343) -/

/-- SLOT_x_STATE.STATE (R335). -/
inductive SlotState where
  | empty
  | authenticating
  | rejected
  | warming
  | stable
  | fault
deriving DecidableEq, Repr

/-- A cartridge slot: its state, whether it is powered, what authentication read, the last authentication's result, the
oven reading and conditions, the life log, REJECT_REASON. -/
structure CartSlot where
  state : SlotState
  /-- the presence contact is closed (R329) -/
  present : Bool
  powered : Bool
  data : Option CartData
  auth : Bool
  milliK : Int
  ovenStable : Bool
  inWindow : Bool
  life : LifeLog
  warn : Bool
  ended : Bool
  shock : Bool
  overTemp : Bool
  reject : Nat
  /-- the elapsed second since which every reading has been within ±10 mK, and that of the latest reading (R333) -/
  nearSince : Option Nat
  readAt : Nat
  /-- the elapsed second up to which powered time is in the life log, and the oven cycles not yet in it (R334) -/
  lifeAt : Nat
  owed : Nat
  /-- the seconds for which it was powered in standby (R433) -/
  owedSec : Nat
deriving DecidableEq, Repr

/-- TRANSFER_STATUS.STATE (R341). -/
inductive TransferState where
  | idle
  | running
  | done
  | failed
  | refused
deriving DecidableEq, Repr

/-- The cartridge page: the slots, the active one, its continuity factor in units of 10^-15, the transfer with the
accepted points (R - 1 in units of 10^-15, newest last), a ratio accepted that awaits its switch. -/
structure Cart where
  a : CartSlot
  b : CartSlot
  active : Option Nat
  cont : Int
  transfer : TransferState
  reason : Nat
  points : List Int
  count : Nat
  accepted : Option Int
  ratio : Int
  infoWord : Nat
  /-- second since reset from which the active tap has been in its window -/
  since : Option Nat
  /-- the slot that the record names and whose cartridge cast-on has powered (R336) -/
  castOn : Option Nat
deriving DecidableEq, Repr

/-! ### The twin (R382-R404) -/

/-- TWIN_ROLE.ROLE (R385). -/
inductive Role where
  | solo
  | lead
  | follow
deriving DecidableEq, Repr

/-- JOIN_STATUS (R417). -/
inductive JoinState where
  | idle
  | staging
  | capturing
  | computing
  | done
  | failed
deriving DecidableEq, Repr

/-- SWAP_STATUS (R417). -/
inductive SwapState where
  | idle
  | scheduled
  | done
  | refused
deriving DecidableEq, Repr

/-- What a module of a pair is going through (TWIN_STATE.STATE, R418). -/
inductive PairPhase where
  | none
  | forming
  | paired
  | swapping
  | takingOver
deriving DecidableEq, Repr

/-- The last heartbeat heard (R384). -/
structure Partner where
  role : Nat
  moduleState : Nat
  partId : BitVec 16
  ref : Bool
  ready : Bool
  inStep : Bool
  inSafe : Nat
deriving DecidableEq, Repr

/-- The step of a planned swap (R403). -/
inductive SwapStep where
  | announced
  | prepared
  | exchanged
  | closed
deriving DecidableEq, Repr

/-- The step of a takeover (R402). -/
inductive TakeoverStep where
  | sense
  | done
deriving DecidableEq, Repr

/-- The twin logic. -/
structure Twin where
  role : Role
  phase : PairPhase
  /-- LEAD_ACT as the other module leaves it: low when it drives the line -/
  otherLow : Bool
  driven : Bool
  /-- released for a fault: LEAD_ACT is not asserted again but by a takeover (R399) -/
  barred : Bool
  lanes : Nat
  linkUp : Bool
  trained : Bool
  heartbeat : Bool
  partner : Option Partner
  /-- a FAULT with LEAD_RELEASE arrived (R400) -/
  leadRelease : Bool
  /-- the loop is locked to the link clock (R387) -/
  linkLocked : Bool
  epoch : Bool
  /-- digest entries that differ (0-143 ports, 144 the fabric) -/
  diverged : List Nat
  /-- consecutive matching windows of a diverged entry (R397) -/
  matching : Tab Nat
  /-- this window's contributions, by entry, oldest first -/
  digest : Tab (List Word)
  /-- the entries of the last complete window -/
  window : Tab (BitVec 16)
  /-- a difference in that window has been counted -/
  counted : Bool
  /-- fault 0x13 was raised within the last second (R410) -/
  divergedAt : Option Nat
  join : JoinState
  joinAttempts : Nat
  joinSet : List Nat
  snapshot : List JoinRecord
  /-- what the records so far carry of timers, hooks and GROUP_ENABLE, oldest first -/
  batches : List JoinBatch
  swap : SwapState
  swapStep : Option SwapStep
  takeover : Option TakeoverStep
  /-- output permitted in FOLLOW: before a swap makes it lead, or until a swap releases it (R403) -/
  permit : Bool
  /-- the lead's external levels and monitor states in force (R390, R393) -/
  ext : BitVec 6
  mon : BitVec 48
  /-- a relock of the pair runs: a loss of heartbeat is no takeover condition (R395) -/
  realigning : Bool
  leadLocked : Bool
  safePages : List Nat
  /-- frames that failed in a row (R382) -/
  badFrames : Nat
deriving DecidableEq, Repr

/-! ### Health, lifecycle, stores and pins -/

/-- The health checker and the housekeeping core: recoveries of each unit's page by model cycle (R408), units held,
a housekeeping restart (R409), rails out of their window, dies above their warning limits. -/
structure Health where
  recoveries : Tab (List Nat)
  held : List Nat
  restarting : Bool
  rails : List Rail
  warning : List Die
  critical : List Die
deriving DecidableEq, Repr

/-- BINDOFF_STATUS.STATE (R437). -/
inductive Bindoff where
  | idle
  | running
  | done
  | refused
deriving DecidableEq, Repr

/-- The lifecycle (R420-R437). -/
structure Lifecycle where
  state : Life
  halt : Nat
  /-- reset is in force: supplies not valid, or RST_N low -/
  reset : Bool
  supplies : Bool
  /-- cast-on has reached READY -/
  ready : Bool
  fwOk : Bool
  step5 : Bool
  retained : Bool
  readyMs : Nat
  /-- the model cycle of the end of reset (R436) -/
  upAt : Nat
  cause : Nat
  prevBindoff : Bool
  bindoff : Bindoff
  bindoffStep : Nat
  bindoffReason : Nat
  standby : Bool
  /-- the model cycle at which standby began -/
  standbyAt : Nat
deriving DecidableEq, Repr

/-- What survives a reset: fuses and straps, firmware slots, the factory copies, the lifeline slots, the ledger ring,
whether the last bind-off completed. -/
structure Nonvolatile where
  stepping : Nat
  serial : BitVec 64
  addr0 : Bool
  addr1 : Bool
  portBOwner : Bool
  lockFuses : BitVec 3
  rollback : Nat
  imageA : Option Image
  imageB : Option Image
  /-- the slot that FW_ACTIVE names -/
  activeB : Bool
  /-- the running image has not been confirmed (R375) -/
  unconfirmed : Bool
  factory0 : Bool
  factory1 : Bool
  lifeA : Option LifeRecord
  lifeB : Option LifeRecord
  ring : List RingEntry
  ringOffset : Nat
  lastSeq : Option Nat
  lastHash : BitVec 384
  checkpoint : Option Nat
  bindoffDone : Bool
deriving DecidableEq, Repr

/-- What the JTAG port executes (R348). -/
inductive Jtag where
  | idcode
  | bypass
  | samplePreload
  | extest
deriving DecidableEq, Repr

/-- The levels of the pins that the commands bring; what JTAG executes and shows (DESIGN CHOICE, log entry 5). -/
structure Pins where
  trig : BitVec 4
  pps : Bool
  perst : Bool
  rstN : Bool
  jtag : Jtag
  jtagData : Nat
deriving DecidableEq, Repr


/-! ### The whole -/

/-- The module. -/
structure State where
  part : Variant
  /-- CK_CORE cycles that steps on an empty queue have let pass -/
  cycle : Nat
  /-- the MODEL's own counter of free values -/
  free : Nat
  /-- every register whose content is a plain held word, by byte address; a register not listed holds its reset value -/
  regs : Tab Word
  ports : Tab Port
  groups : Tab Group
  spares : Tab Spare
  /-- the descriptor and entry stores (R37, R43) -/
  descs : Tab (BitVec 256)
  entries : Tab (BitVec 256)
  wave : List Host.Cell
  memctl : Tab Stack
  copies : List Copy
  /-- bobbin sizes in 4 KiB, as the allocation table holds them (R152) -/
  bobbins : Tab Nat
  fabric : Fabric
  timers : Tab Timer
  i3cA : I3c
  i3cB : I3c
  owner : Owner
  bulk : Bulk
  security : Security
  ledger : Ledger
  /-- the fault log's entries by index (R412) -/
  faults : Tab FaultEntry
  cal : Cal
  monitors : Tab Monitor
  trips : Trips
  clock : Clock
  cart : Cart
  twin : Twin
  health : Health
  life : Lifecycle
  nv : Nonvolatile
  pins : Pins
  pending : List Instr
deriving DecidableEq, Repr

/-! ### Reset (R422, R430)

Tables list nothing at reset: what a key holds that is not listed is in Machine/Ops.lean (register words, ports, groups,
spares, timers, stacks, monitors), entries and descriptors zero. Where the manual gives no value, log entries 1 to 4 (DESIGN CHOICE; entry 3 PRESUMED). -/

/-- An I3C port after reset (R349-R351). -/
def I3c.reset : I3c :=
  { address := .none, enint := true, enhj := true, hdr := false, hdrEnvelope := false, mwl := 278, mrl := 264
    rstact := 1, hotJoin := false, protocolError := false, ibis := [], lastIbi := 0, cccValue := 0, lastRead := 0, executed := .none, reply := .none
    captures := [], tblSel := 0, tblIndex := 0, tblStatus := 0, staged := .none }

/-- The security unit after reset (R366, R372, R381). -/
def Security.reset : Security :=
  { attest := .none, nonce := [], reportSeq := 0, report := [], update := .idle, reason := 0, reverting := false, staging := .none, deferred := []
    pinHeld := false }

/-- The calibration engine after reset (R325, R326). -/
def Cal.reset : Cal :=
  { adc0 := .none, adc1 := .none, items := [], temps := [], legacy := .none, legacyMode := false, suspend := false, rotation := []
    factoryValid := false, recordValid := false, seedMismatch := false, store := .idle, storeDue := false, storeAt := .none, storeRetry := false, slotB := false }

/-- The clock after reset (R241, R242): no reference, the reset ratio 1920. -/
def Clock.reset : Clock :=
  { loop := .noRef, refPresent := false, relock := .none, fullSearch := false, fbInt := 0x780, fbNum := 0, fbDen := 1, raw := (0x780, 0, 1)
    pend := false, held := false, commit := false, band := 0, fine := 0, fromTable := false, bands := [], use := List.range 16
    guard := false, gated := false, windowPass := false, run := 0, peak := 0, correction := .none
    domains := [], sync := .idle, syncIn := false, syncFired := false, syncOut := 0, coastAt := 0, epochAt := 0 }

/-- A cartridge slot after reset: empty (R335). -/
def CartSlot.reset : CartSlot :=
  { state := .empty, present := false, powered := false, data := .none, auth := false, milliK := 0, ovenStable := false
    inWindow := false, life := { seconds := 0, cycles := 0, shocks := 0, peakMilliC := 0 }, warn := false
    ended := false, shock := false, overTemp := false, reject := 0, nearSince := .none, readAt := 0, lifeAt := 0
    owed := 0, owedSec := 0 }

/-- The cartridge page after reset (R340, R341). -/
def Cart.reset : Cart :=
  { a := CartSlot.reset, b := CartSlot.reset, active := .none, cont := 0, transfer := .idle, reason := 0, points := []
    count := 0, accepted := .none, ratio := 0, infoWord := 0, since := .none, castOn := .none }

/-- The twin logic after reset: SOLO, no link, LEAD_ACT not driven (R417, R418). -/
def Twin.reset : Twin :=
  { role := .solo, phase := .none, otherLow := false, driven := false, barred := false, lanes := 0, linkUp := false
    trained := false, heartbeat := false, partner := .none, leadRelease := false, linkLocked := false, epoch := false
    diverged := [], matching := [], digest := [], window := [], counted := false, divergedAt := .none, join := .idle, joinAttempts := 0
    joinSet := [], snapshot := [], batches := [], swap := .idle, swapStep := .none, takeover := .none
    permit := false, ext := 0, mon := 0, realigning := false, leadLocked := false
    safePages := [], badFrames := 0 }

/-- What the model takes the module to hold in its fuses, straps and stores (DESIGN CHOICE, log entry 1). -/
def Nonvolatile.factory : Nonvolatile :=
  { stepping := 1, serial := 1, addr0 := false, addr1 := false, portBOwner := true, lockFuses := 7, rollback := 0
    imageA := .some { version := 0x01000000, rollback := 0, bytes := .none }, imageB := .none, activeB := false, unconfirmed := false
    factory0 := true, factory1 := true, lifeA := .none, lifeB := .none, ring := [], ringOffset := 0, lastSeq := .none
    lastHash := 0, checkpoint := .none, bindoffDone := false }

/-- The module right after reset on a variant: MODULE_STATE reads BOOT. -/
def State.resetOf (v : Variant) : State :=
  { part := v, cycle := 0, free := 0, regs := [], ports := [], groups := [], spares := [], descs := [], entries := []
    wave := [], memctl := [], copies := [], bobbins := []
    fabric := { emitted := [], acts := [], hooks := [], serial := 0, mode := .castOn, cycles := 0 }
    timers := [], i3cA := I3c.reset, i3cB := I3c.reset
    owner := { state := .none, token := 0, port := .a, target := 0, heard := 0, offered := 0 }
    bulk := { buffer := [], linkUp := false, generation := 0, lanes := 0, retrains := 0, trained := false
              completion := .none, unsupported := 0 }
    security := Security.reset
    ledger := { buffer := [], nextSeq := 0, loss := false, ordinary := 0, sec := 0, pps := false, timeSet := .none
                lost := false, chainOk := false, elapsed := 0, secAt := 0 }
    faults := [], cal := Cal.reset, monitors := [], trips := { front := 0, die := 0 }, clock := Clock.reset
    cart := Cart.reset, twin := Twin.reset
    health := { recoveries := [], held := [], restarting := false, rails := [], warning := [], critical := [] }
    life := { state := .boot, halt := 0, reset := false, supplies := true, ready := false, fwOk := false
              step5 := false, retained := false, readyMs := 0, upAt := 0, cause := 0, prevBindoff := false, bindoff := .idle
              bindoffStep := 0, bindoffReason := 0, standby := false, standbyAt := 0 }
    nv := Nonvolatile.factory
    pins := { trig := 0, pps := false, perst := true, rstN := true, jtag := .idcode, jtagData := 0 }
    pending := [] }

/-- The module right after reset (DESIGN CHOICE, log entry 1: a TG144). -/
def State.reset : State := State.resetOf .tg144

end Machine
end Sys2Proof
end

