-- ==== Sys2Proof/Machine/Operands.lean ====
section
/-! DEFINITION. Operand forms: pages and register addresses of the register space (R438, R459), what kind of page a
page number names, bit fields of words, signed fields, and the little-endian layout of words in bytes. -/

namespace Sys2Proof
namespace Machine

/-! ### Bit fields -/

/-- The field of `width` bits from bit `lo`, as a natural. -/
def bits (w : Word) (lo width : Nat) : Nat := w.toNat / 2 ^ lo % 2 ^ width

/-- A bit of a word. -/
def bit (w : Word) (i : Nat) : Bool := w.toNat / 2 ^ i % 2 == 1

/-- A natural as a word, modulo 2^32. -/
def word (n : Nat) : Word := BitVec.ofNat 32 n

/-- A word with a field replaced. -/
def setBits (w : Word) (lo width v : Nat) : Word :=
  word (w.toNat - w.toNat / 2 ^ lo % 2 ^ width * 2 ^ lo + v % 2 ^ width * 2 ^ lo)

/-- The word with one bit set. -/
def bitWord (i : Nat) : Word := word (2 ^ i)

/-- One bit as a number. -/
def b2n (b : Bool) : Nat := if b then 1 else 0

/-- A two's-complement reading of the low `width` bits. -/
def signed (width v : Nat) : Int :=
  let m := v % 2 ^ width
  if m < 2 ^ (width - 1) then (m : Int) else (m : Int) - 2 ^ width

/-- A two's-complement value in 32 bits. -/
def wordOfInt (v : Int) : Word := BitVec.ofInt 32 v

/-- A value limited to lo..hi. -/
def limit (lo hi v : Int) : Int := max lo (min hi v)

/-- The low word of a 64-bit value. -/
def lo32 (v : Nat) : Word := word v

/-- The high word of a 64-bit value. -/
def hi32 (v : Nat) : Word := word (v / 2 ^ 32)

/-- The bytes of a value, least significant first. -/
def leBytes : Nat → Nat → List Byte
  | 0, _ => []
  | k + 1, v => BitVec.ofNat 8 v :: leBytes k (v / 256)

/-- The value of little-endian bytes. -/
def leValue : List Byte → Nat
  | [] => 0
  | b :: bs => b.toNat + 256 * leValue bs

/-- The bytes of a value, most significant first. -/
def beBytes (k v : Nat) : List Byte := (leBytes k v).reverse

/-- The word at a word index of a byte list, bytes beyond the end 0. -/
def wordAt (bytes : List Byte) (i : Nat) : Word := word (leValue ((bytes.drop (4 * i)).take 4))

/-- The field of `width` bits from bit `lo` of a 256-bit store entry (R37, R43). -/
def field (w : BitVec 256) (lo width : Nat) : Nat := w.toNat / 2 ^ lo % 2 ^ width

/-! ### Pages (R459) -/

/-- What a page number names. -/
inductive PageKind where
  | global
  | owner
  | security
  | health
  | clock
  | clockmon
  | ledger
  | tables
  | memctl (k : Nat)
  | stream
  | cache
  | host
  | twin
  | cal
  | cart
  | event
  | evchan (k : Nat)
  | timer
  | wmon
  | trip
  | port (n : Nat)
  | spare (g : Nat)
  | group (g : Nat)
  | none
deriving DecidableEq, Repr

/-- The page directory (R459). -/
def pageKind (p : Nat) : PageKind :=
  match p with
  | 0 => .global
  | 1 => .owner
  | 2 => .security
  | 3 => .health
  | 4 => .clock
  | 5 => .clockmon
  | 6 => .ledger
  | 7 => .tables
  | 8 => .memctl 0
  | 9 => .memctl 1
  | 10 => .stream
  | 11 => .cache
  | 12 => .host
  | 13 => .twin
  | 14 => .cal
  | 15 => .cart
  | 16 => .event
  | 33 => .timer
  | 34 => .wmon
  | 35 => .trip
  | _ =>
    if 17 ≤ p ∧ p ≤ 32 then .evchan (p - 17)
    else if 0x100 ≤ p ∧ p < 0x190 then .port (p - 0x100)
    else if 0x190 ≤ p ∧ p < 0x194 then .spare (p - 0x190)
    else if 0x1a0 ≤ p ∧ p < 0x1c0 then .group (p - 0x1a0)
    else .none

/-- The page is present on the variant: listed, and its unit fitted (R9, R438, R459). -/
def pagePresent (v : Variant) (p : Nat) : Bool :=
  match pageKind p with
  | .memctl k => k < Config.stackCount v
  | .twin => Config.twinLink v
  | .port n => Config.portFitted v n
  | .spare g => g < Config.spares v
  | .none => false
  | _ => true

/-- The page of an address. -/
def pageOf (a : Nat) : Nat := a / 0x400

/-- The offset of an address in its page. -/
def offOf (a : Nat) : Nat := a % 0x400

/-- The byte address of an offset in a page. -/
def regAddr (page off : Nat) : Nat := page * 0x400 + off

namespace Page
def global : Nat := 0x0
def owner : Nat := 0x1
def security : Nat := 0x2
def health : Nat := 0x3
def clock : Nat := 0x4
def clockmon : Nat := 0x5
def ledger : Nat := 0x6
def tables : Nat := 0x7
def memctl (k : Nat) : Nat := 0x8 + k
def stream : Nat := 0xa
def cache : Nat := 0xb
def host : Nat := 0xc
def twin : Nat := 0xd
def cal : Nat := 0xe
def cart : Nat := 0xf
def event : Nat := 0x10
def evchan (k : Nat) : Nat := 0x11 + k
def timer : Nat := 0x21
def wmon : Nat := 0x22
def trip : Nat := 0x23
def port (n : Nat) : Nat := 0x100 + n
def spare (g : Nat) : Nat := 0x190 + g
def group (g : Nat) : Nat := 0x1a0 + g
end Page

/-- The pages of a unit that walks a sequence. -/
def unitPage : SeqUnit → Nat
  | .port n => Page.port n
  | .group g => Page.group g

/-- The byte address of a port page's register. -/
def portReg (n off : Nat) : Nat := regAddr (Page.port n) off

/-- The byte address of a jump hook (R467). -/
def hookJ (n j : Nat) : Nat := portReg n (0xc0 + 4 * j)

/-- The byte addresses of channel c's registers (R247): CH_SRC, CH_GATE at +4, CH_ATTR at +8, CH_STAT at +12. -/
def chanReg (c off : Nat) : Nat := regAddr (Page.evchan (c / 32)) (0x40 + 16 * (c % 32) + off)

/-- The byte addresses of timer t's block (R268). -/
def timerReg (t off : Nat) : Nat := regAddr Page.timer (0x40 + 16 * t + off)

/-- The byte addresses of timer t's hooks (R268): TSTART, TSTOP at +4, TCAPT at +8. -/
def timerHook (t off : Nat) : Nat := regAddr Page.timer (0x240 + 12 * t + off)

/-- The byte address of a register in monitor m's block (R285). -/
def monReg (m off : Nat) : Nat := regAddr Page.wmon (0x40 + 32 * m + off)

/-! ### Sources and maps -/

/-- Source code k of port n (R245). -/
def portSource (n k : Nat) : Nat := 0x400 + 8 * n + k

/-- Bit n of a 144-bit map held in five words from an offset: the offset of its word and its bit (R8). -/
def mapBit (off n : Nat) : Nat × Nat := (off + 4 * (n / 32), n % 32)

end Machine
end Sys2Proof
end

