-- ==== Sys2Proof/Machine/Ops.lean ====
section
/-! DEFINITION. The named operations over the state: sparse tables, the register file with its reset words, counters,
free values, ports, groups, spares and timers by number, the stores, and the waveform memory. -/

namespace Sys2Proof
namespace Machine

/-! ### Sparse tables -/

/-- What a table holds under a key, `d` giving what a key holds that is not listed. -/
def Tab.get {α : Type} (d : Nat → α) : Tab α → Nat → α
  | [], k => d k
  | (j, v) :: t, k => if j = k then v else Tab.get d t k

/-- A table with one key's content replaced; the keys stay in rising order. -/
def Tab.set {α : Type} (t : Tab α) (k : Nat) (v : α) : Tab α :=
  t.filter (fun e => e.1 < k) ++ (k, v) :: t.filter (fun e => k < e.1)

/-- A table with one key removed. -/
def Tab.erase {α : Type} (t : Tab α) (k : Nat) : Tab α := t.filter (fun e => e.1 != k)

/-! ### Registers -/

/-- The reset word of a port register that is held (R88, R121, R209). -/
def portResetWord (t : PType) (off : Nat) : Nat :=
  if off = 0x44 then (match t with | .d => 0xf002 | _ => 0xf000)
  else if off = 0x48 then (match t with | .p => 8 | _ => 1)
  else if off = 0x78 then 1
  else if off = 0xb8 then (match t with | .d => 8 | _ => 0)
  else if off = 0x168 then (match t with | .d => 1 | _ => 0)
  else 0

/-- The word that a held register has at reset (the register tables of spec/), by byte address. -/
def resetWord (v : Variant) (a : Nat) : Word :=
  let off := offOf a
  if pagePresent v (pageOf a) = false then 0
  else match pageKind (pageOf a) with
  | .port n => word (portResetWord (Config.portType n) off)
  | .owner => if off = 0x50 then 2000 else 0
  | .host => if 0x60 ≤ off ∧ off < 0xe0 ∧ off % 16 = 8 then 1 else 0
  | .health => if off = 0x48 then 250 else if off = 0x50 then 1 else 0
  | .clock =>
    if off = 0x40 then 0x1004 else if off = 0x48 then 0x780 else if off = 0x50 then 1
    else if off = 0x58 then 3 else if off = 0x6c then 0xc350 else 0
  | .stream => if off = 0x48 then 0x00ff0000 else 0
  | .twin => if off = 0x4c then 0x11 else 0
  | .cal =>
    if off = 0x44 then 0x6405e384 else if off = 0x50 then 0x7d0 else if off = 0x54 then 0x2710
    else if off = 0x68 then 0x14 else 0
  | .cart => if off = 0x60 then 0x00c35000 else 0
  | .event => if off = 0x44 then 0xffff else 0
  | .evchan k => if k = 15 ∧ 0x40 ≤ off ∧ off < 0x240 ∧ off % 16 = 8 then 5 else 0
  | .wmon =>
    if off = 0x340 then 0xc8
    else if 0x40 ≤ off ∧ (off - 0x40) / 32 < Config.monitors v then
      (if off % 32 = 4 then 0x1fff1fff else if off % 32 = 8 then 0x20002000 else 0)
    else 0
  | _ => 0

/-- A held register's content. -/
def State.reg (s : State) (a : Nat) : Word := s.regs.get (resetWord s.part) a

/-- A held register replaced. -/
def State.setReg (s : State) (a : Nat) (w : Word) : State := { s with regs := s.regs.set a w }

/-- A held register by page and offset. -/
def State.rd (s : State) (page off : Nat) : Word := s.reg (regAddr page off)

/-- A held register by page and offset, replaced. -/
def State.wr (s : State) (page off : Nat) (w : Word) : State := s.setReg (regAddr page off) w

/-- A counter field of a register advanced; it stops at its largest value (R448). -/
def State.countField (s : State) (page off lo width by_ : Nat) : State :=
  let w := s.rd page off
  s.wr page off (setBits w lo width (min (2 ^ width - 1) (bits w lo width + by_)))

/-- A 32-bit counter advanced by one. -/
def State.count (s : State) (page off : Nat) : State := s.countField page off 0 32 1

/-- A counter field advanced modulo its width. -/
def State.countMod (s : State) (page off lo width by_ : Nat) : State :=
  let w := s.rd page off
  s.wr page off (setBits w lo width (bits w lo width + by_))

/-- Bit n of a 144-bit map register (R8). -/
def State.mapGet (s : State) (page off n : Nat) : Bool := bit (s.rd page (off + 4 * (n / 32))) (n % 32)

/-- Bit n of a 144-bit map register, replaced. -/
def State.mapSet (s : State) (page off n : Nat) (v : Bool) : State :=
  let a := off + 4 * (n / 32)
  s.wr page a (setBits (s.rd page a) (n % 32) 1 (b2n v))

/-- Every held register of a page returned to its reset word, but those of the listed offsets (R457, R458). -/
def State.resetPage (s : State) (page : Nat) (keep : List Nat) : State :=
  { s with regs := s.regs.filter (fun e => pageOf e.1 != page || keep.contains (offOf e.1)) }

/-! ### Free values -/

/-- The next free value's number is used up. -/
def State.spend (s : State) : State := { s with free := s.free + 1 }

/-! ### What holds a unit off -/

/-- A rail below its window holds the port's stage off (R182, R435). -/
def State.railHolds (s : State) (n : Nat) : Bool :=
  s.health.rails.any (fun r => match r, Config.portType n with
    | .vana, _ => true
    | .vp15, .p | .vn15, .p | .v3a, .p => true
    | .vf, .f => true
    | .vd, .d => true
    | _, _ => false)

/-- Only CK_AON and the wake monitors run (R284). -/
def State.inStandby (s : State) : Bool := s.life.standby

/-! ### Units by number -/

/-- An oscillator after reset (R123). -/
def Osc.reset : Osc := { n := 0, m := 1, u := 0, amp := 0, offset := 0, rho := 0, conv := 0, seq := 0 }

/-- No item (R109). -/
def NcoItems.none : NcoItems := { freq := .none, phase := .none, amp := .none, offset := .none }

/-- Row counters at ARM (R50). -/
def rowsZero : Vector (BitVec 16) 4 := .replicate 4 0

/-- A playhead that is idle (R86). -/
def Playhead.idle : Playhead :=
  { entry := 0, word := 0, start := 0, activity := .idle, pass := 0, gran := 0, len := 0, rows := rowsZero, cand := 0, pend := 0
    hops := .replicate 4 0, plan := .none, latches := [], judged := .none, trans := .none, begun := false, hop := 0 }

/-- No pass. -/
def Seg.none : Seg := { desc := 0, word := 0, data := 0, mismatch := false, cached := [], marks := [], tail := 0 }

/-- An empty bobbin. -/
def Bobbin.empty : Bobbin :=
  { present := [], flying := [], refetch := [], cursor := .none, ahead := [], playing := 0, crcs := []
    trains := 0, trainLen := 0 }

/-- The sample of zero. -/
def Sample.zero : Sample := { value := 0, marks := 0, edges := [] }

/-- A port of a type after reset; OFF when fitted, ABSENT otherwise (R443). -/
def Port.fresh (t : PType) (fitted : Bool) : Port :=
  { slot := 0
    state := if fitted then .off else .absent
    requested := if fitted then .off else .absent
    deliver := .none, withCommit := false, commit := false
    mode := word (portResetWord t 0x44), div := portResetWord t 0x48, seqStart := 0
    shadow := 0, held := 0, transfers := [], osc := Osc.reset, merge := .none, play := Playhead.idle
    ms := 0, seg := Seg.none, bobbin := Bobbin.empty, group := .none, underrun := false
    out := [], last := Sample.zero, limited := false, park := 0, stale := false, holdPark := false, ramp := .none, forced := false, power := .off
    switches := { sense := false, force := false, moving := .none }
    pulse := .none, swing := (match t with | .d => 8 | _ => 0), delayTrim := 0, delayActual := 0, trims := .replicate 3 { gain := 0, offset := 0 }
    demand := 0, shares := [], admitted := false, safeRecord := .none, restart := false, mismatch := false, seenAt := .none
    armedAt := 0 }

/-- What a port holds that no command has touched. -/
def portDefault (v : Variant) (n : Nat) : Port := Port.fresh (Config.portType n) (Config.portFitted v n)

/-- The port with a global index (R4). -/
def State.port (s : State) (n : Nat) : Port := s.ports.get (portDefault s.part) n

/-- The port replaced. -/
def State.setPort (s : State) (n : Nat) (p : Port) : State := { s with ports := s.ports.set n p }

/-- The port changed by a function. -/
def State.modPort (s : State) (n : Nat) (f : Port → Port) : State := s.setPort n (f (s.port n))

/-- Every fitted port's index, ascending. -/
def fittedPorts (v : Variant) : List Nat := (List.range 144).filter (Config.portFitted v)

/-- A group after reset: no port names it, so its page reads OFF (R77). -/
def Group.fresh : Group :=
  { state := .off, requested := .off, deliver := .none, seqStart := 0, shadow := false, slot := 0
    play := Playhead.idle, leader := .none, members := [], accepted := [], excluded := [], lanes := []
    div := 1, lens := [], restart := false, mismatch := false, seenAt := .none, safeRecord := .none, armedAt := 0 }

/-- The stitch group with a number. -/
def State.group (s : State) (g : Nat) : Group := s.groups.get (fun _ => Group.fresh) g

/-- The group replaced. -/
def State.setGroup (s : State) (g : Nat) (x : Group) : State := { s with groups := s.groups.set g x }

/-- The group changed by a function. -/
def State.modGroup (s : State) (g : Nat) (f : Group → Group) : State := s.setGroup g (f (s.group g))

/-- A spare after reset. -/
def Spare.fresh : Spare :=
  { settled := false, substituted := false, busy := .none, refused := false, serves := .none, returning := false, fault := false
    service := false, resetDue := false, trims := [], mismatch := false, seenAt := .none, safeRecord := .none }

/-- The spare with a number. -/
def State.spare (s : State) (g : Nat) : Spare := s.spares.get (fun _ => Spare.fresh) g

/-- The spare replaced. -/
def State.setSpare (s : State) (g : Nat) (x : Spare) : State := { s with spares := s.spares.set g x }

/-- The spare changed by a function. -/
def State.modSpare (s : State) (g : Nat) (f : Spare → Spare) : State := s.setSpare g (f (s.spare g))

/-- A timer after reset (R268). -/
def Timer.fresh : Timer :=
  { state := .idle, mode := 0, retrig := false, period := 1, width := 1, count := 0, at_ := 0, capture := 0
    captValid := false, captOverrun := false, expires := 0, hop := 0, stopped := .none }

/-- The timer with a number. -/
def State.timer (s : State) (t : Nat) : Timer := s.timers.get (fun _ => Timer.fresh) t

/-- The timer replaced. -/
def State.setTimer (s : State) (t : Nat) (x : Timer) : State := { s with timers := s.timers.set t x }

/-- A stack after reset: untrained, doubled until the first reading (R165, R166). -/
def Stack.fresh : Stack :=
  { owed := 0, peakOwed := 0, forced := false, up := false, doubled := true, initial := true, forceDouble := false
    temp := .none, peakTemp := 0, train := .idle, attempts := 0, taps := 0, failed := [] }

/-- The stack with a number. -/
def State.stack (s : State) (k : Nat) : Stack := s.memctl.get (fun _ => Stack.fresh) k

/-- The stack replaced. -/
def State.setStack (s : State) (k : Nat) (x : Stack) : State := { s with memctl := s.memctl.set k x }

/-- A monitor after reset (R274, R285): disabled, ACTUAL at the reset codes, no input (DESIGN CHOICE, log entry 1). -/
def Monitor.fresh : Monitor :=
  { running := false, mode := 0, hyst := 0, volts := 0, upper := 8191, lower := -8192, trimUpper := 0, trimLower := 0
    cu := .none, cl := .none, published := .indeterminate }

/-- The monitor with a number. -/
def State.monitor (s : State) (m : Nat) : Monitor := s.monitors.get (fun _ => Monitor.fresh) m

/-- The monitor replaced. -/
def State.setMonitor (s : State) (m : Nat) (x : Monitor) : State := { s with monitors := s.monitors.set m x }

/-- The trim item with a code (R292). -/
def CalItem.fresh : CalItem :=
  { result := { gain := 0, offset := 0 }, temp := 0, target := { gain := 0, offset := 0 }, accepted := 0, total := 0
    rejected := 0, held := false, judging := .ordinary, swatched := .none, retry := .none, at_ := 0, seeded := false }

/-- A hook's arm state and serials. -/
def State.hook (s : State) (a : Nat) : HookState :=
  s.fabric.hooks.get (fun _ => { armed := false, serialA := .none, serialB := .none }) a

/-- A hook's arm state and serials, replaced. -/
def State.setHook (s : State) (a : Nat) (h : HookState) : State :=
  { s with fabric := { s.fabric with hooks := s.fabric.hooks.set a h } }

/-- The descriptor with an index (R37). -/
def State.desc (s : State) (i : Nat) : BitVec 256 := s.descs.get (fun _ => 0) i

/-- The sequence entry with an index (R43). -/
def State.entryAt (s : State) (i : Nat) : BitVec 256 := s.entries.get (fun _ => 0) i

/-! ### Emissions -/

/-- The emissions of one cause: they meet the fabric in one cycle (R245). -/
def State.emitAll (s : State) (es : List Emission) : State :=
  if es.isEmpty then s else { s with fabric := { s.fabric with emitted := s.fabric.emitted ++ [es] } }

/-- One emission (R245, R252). -/
def State.emit (s : State) (code hop : Nat) : State := s.emitAll [{ code := code, hop := hop }]

/-! ### Waveform memory -/

/-- What a byte of the waveform memory reads as that nothing has written (DESIGN CHOICE, log entry 2). -/
def Memory.unwritten : Byte := 0

/-- The canonical form: addresses strictly rising, no entry equal to what an unlisted address reads as. -/
def Memory.wf : List Host.Cell → Bool
  | [] => true
  | (_, b) :: [] => b != Memory.unwritten
  | (a, b) :: (a', b') :: m => b != Memory.unwritten && a < a' && Memory.wf ((a', b') :: m)

/-- The byte at an address. -/
def Memory.read : List Host.Cell → Nat → Byte
  | [], _ => Memory.unwritten
  | (a, b) :: m, k => if a = k then b else Memory.read m k

/-- A memory with one byte replaced, in canonical form. -/
def Memory.write : List Host.Cell → Nat → Byte → List Host.Cell
  | [], k, v => if v = Memory.unwritten then [] else [(k, v)]
  | (a, b) :: m, k, v =>
    if k < a then (if v = Memory.unwritten then (a, b) :: m else (k, v) :: (a, b) :: m)
    else if k = a then (if v = Memory.unwritten then m else (k, v) :: m)
    else (a, b) :: Memory.write m k v

/-- An address within the fitted memory (R40). -/
def State.memAddr (s : State) (a : Nat) : Nat := a % Config.memoryBytes s.part

/-- The byte of the waveform memory at an address. -/
def State.readByte (s : State) (a : Nat) : Byte := Memory.read s.wave (s.memAddr a)

/-- The waveform memory with one byte written. -/
def State.writeByte (s : State) (a : Nat) (b : Byte) : State :=
  { s with wave := Memory.write s.wave (s.memAddr a) b }

/-- A run of bytes from an address on, wrapping at the end of fitted memory (R40). -/
def State.readBytes (s : State) (a n : Nat) : List Byte := (List.range n).map (fun i => s.readByte (a + i))

/-- A run of bytes written from an address on. -/
def State.writeBytes (s : State) : Nat → List Byte → State
  | _, [] => s
  | a, b :: bs => (s.writeByte a b).writeBytes (a + 1) bs

/-- The granule at a granule-aligned address. -/
def State.readGranule (s : State) (a : Nat) : Granule := BitVec.ofNat 512 (leValue (s.readBytes (a / 64 * 64) 64))

/-- The global pseudo-channel of an address (R126). -/
def State.pseudo (s : State) (a : Nat) : Nat :=
  let g := s.memAddr a / 64
  match s.part with
  | .tg144 => 32 * (g % 2) + g / 2 % 32
  | _ => g % 32

/-- The stack of an address (R126). -/
def State.stackOf (s : State) (a : Nat) : Nat := s.pseudo a / 32

end Machine
end Sys2Proof
end

