-- ==== Sys2Proof/Machine/Flags.lean ====
section
/-! DEFINITION. Flag computations: page flags with their alerts and IBIs (R352, R353, R446), channel flags (R254),
faults (R410, R412) and ledger entries (R320, R322). -/

namespace Sys2Proof
namespace Machine

/-! ### Alerts -/

/-- The alert class of a page (R352); 0 for a page of no class. -/
def alertClass (p : Nat) : Nat :=
  match pageKind p with
  | .trip => 1
  | .health | .clock | .clockmon | .memctl _ | .stream | .cache | .twin => 2
  | .port _ | .spare _ | .group _ => 3
  | .event | .evchan _ | .timer | .wmon => 4
  | .cal | .cart | .ledger => 5
  | .global | .owner | .security | .host | .tables => 6
  | .none => 0

/-- PAGE_FLAGS of an EVCHAN page: bit i is CH_STAT.FLAG of channel 32k + i (R254). -/
def State.chanFlags (s : State) (k : Nat) : Word :=
  word ((List.range 32).foldl (fun acc i => acc + b2n (bit (s.reg (chanReg (32 * k + i) 12)) 0) * 2 ^ i) 0)

/-- PAGE_FLAGS of a page (R441, R254). -/
def State.pageFlags (s : State) (p : Nat) : Word :=
  match pageKind p with
  | .evchan k => s.chanFlags k
  | _ => s.rd p 0x14

/-- PAGE_IRQEN of a page. -/
def State.pageIrqen (s : State) (p : Nat) : Word := s.rd p 0x18

/-- The page has a pending alert (R352). -/
def State.alertPending (s : State) (p : Nat) : Bool := s.pageFlags p &&& s.pageIrqen p != 0

/-- The pages with an enabled alert bit: only a page whose PAGE_IRQEN is held can have a pending alert. -/
def State.enabledPages (s : State) : List Nat :=
  (s.regs.filter (fun e => offOf e.1 == 0x18 && e.2 != 0)).map (fun e => pageOf e.1)

/-- Class c is pending (R352). -/
def State.classPending (s : State) (c : Nat) : Bool :=
  s.enabledPages.any (fun p => alertClass p == c && s.alertPending p)

/-- The pending classes as bits c - 1 (R352). -/
def State.classes (s : State) : BitVec 6 :=
  BitVec.ofNat 6 ((List.range 6).foldl (fun acc i => acc + b2n (s.classPending (i + 1)) * 2 ^ i) 0)

/-- GLOBAL.ALERT_SUMMARY (R352). -/
def State.alertSummary (s : State) : Word :=
  let c := s.classes.toNat
  let low := s.enabledPages.find? (fun p => s.alertPending p)
  word (c + (low.getD 0) * 2 ^ 16 + b2n (c != 0) * 2 ^ 31)

/-- The lowest pending class, 0 when none is (R351 GETSTATUS). -/
def State.lowestClass (s : State) : Nat :=
  ((List.range 6).map (· + 1)).find? s.classPending |>.getD 0

/-- ALERT_N is driven low (R353). -/
def State.alertLow (s : State) : Bool := s.classes != 0

/-- A list of classes with one inserted, ascending, once. -/
def insertClass (c : Nat) (l : List Nat) : List Nat :=
  l.filter (fun x => decide (x < c)) ++ c :: l.filter (fun x => decide (c < x))

/-- A port's awaiting IBIs after the pending classes went from `before` to `after` (R353): a class that came to be
pending is requested where the port has ENINT and a dynamic address, one that stopped is withdrawn. -/
def I3c.updateIbis (x : I3c) (before after : BitVec 6) : I3c :=
  let came (c : Nat) : Bool := after.getLsbD (c - 1) && !before.getLsbD (c - 1)
  let kept := x.ibis.filter (fun c => after.getLsbD (c - 1))
  let add := if x.enint && x.address.isSome then ((List.range 6).map (· + 1)).filter came else []
  { x with ibis := add.foldl (fun l c => insertClass c l) kept }

/-- The IBIs of both I3C ports brought up to date with the pending classes of `s`, given those before. -/
def State.updateIbis (s : State) (before : BitVec 6) : State :=
  let after := s.classes
  if before = after then s
  else { s with i3cA := s.i3cA.updateIbis before after, i3cB := s.i3cB.updateIbis before after }

/-! ### Page flags -/

/-- The flag bits that a page defines (R446 and the chapters' flag tables); the other bits are reserved. -/
def flagMask (p : Nat) : Nat :=
  match pageKind p with
  | .global => 0x3
  | .owner => 0x3f
  | .security => 0x7
  | .health => 0x3f
  | .clock => 0xfff
  | .clockmon => 0
  | .ledger => 0x7
  | .tables => 0x1
  | .memctl _ => 0x1ff
  | .stream => 0x1
  | .cache => 0x3
  | .host => 0xf
  | .twin => 0xff
  | .cal => 0x7f
  | .cart => 0x7f
  | .event => 0xf
  | .evchan _ => 0xffffffff
  | .timer => 0xffffffff
  | .wmon => 0xffffff
  | .trip => 0x1ff
  | .port n => match Config.portType n with | .p => 0x7fff | _ => 0x41ff
  | .spare _ => 0xf
  | .group _ => 0x3
  | .none => 0

/-- The flag bits that a page of this variant defines: WMON has a bit for each monitor fitted (R287). -/
def State.flagBits (s : State) (p : Nat) : Nat :=
  match pageKind p with
  | .wmon => 2 ^ Config.monitors s.part - 1
  | _ => flagMask p

/-- Flag bits of a page set, with the alerts that follow (R352, R353). -/
def State.setFlags (s : State) (p : Nat) (bits_ : Word) : State :=
  let before := s.classes
  (s.wr p 0x14 (s.rd p 0x14 ||| bits_)).updateIbis before

/-- One flag of a page set. -/
def State.flag (s : State) (p i : Nat) : State := s.setFlags p (bitWord i)

/-- Flag bits of a page cleared by a W1C write (R447). -/
def State.clearFlags (s : State) (p : Nat) (bits_ : Word) : State :=
  let before := s.classes
  (s.wr p 0x14 (s.rd p 0x14 &&& ~~~bits_)).updateIbis before

/-- PAGE_IRQEN written: a bit whose flag bit is reserved is itself reserved (R445). -/
def State.setIrqen (s : State) (p : Nat) (w : Word) : State :=
  let before := s.classes
  (s.wr p 0x18 (w &&& word (s.flagBits p))).updateIbis before

/-- CH_STAT of a channel replaced, with the alerts that follow from its FLAG (R254, R255). -/
def State.setChanStat (s : State) (c : Nat) (w : Word) : State :=
  let before := s.classes
  (s.setReg (chanReg c 12) w).updateIbis before

/-! ### The ledger -/

/-- A number of CK_CORE cycles in nanoseconds, at the core clock of a 19.2 GHz root (DESIGN CHOICE, log entry 12). -/
def nsOf (cycles : Nat) : Nat := cycles * 5 / 6

/-- A number of CK_CORE cycles in whole milliseconds. -/
def msOf (cycles : Nat) : Nat := nsOf cycles / 1000000

/-- The nanoseconds within the second (R323): CK_CORE time since its boundary, or since the end of reset; without a boundary
they stop short of the next second (DESIGN CHOICE, log entry 12). -/
def State.nanos (s : State) : Nat := min 999999999 (nsOf (s.cycle - s.ledger.secAt))

/-- The bytes that an entry takes in the ring (R320). -/
def entrySize (kind : Nat) : Nat := if kind = 0xf0 then 256 else 128

/-- The ring byte offset after the entries that are buffered (R289, R320). -/
def State.ringEnd (s : State) : Nat :=
  (s.ledger.buffer.foldl (fun o e => o + entrySize e.kind) s.nv.ringOffset) % 2 ^ 24

/-- SEQ of the last checkpoint, the buffered ones included. -/
def State.lastCheckpoint (s : State) : Option Nat :=
  match s.ledger.buffer.reverse.find? (fun e => e.kind == 0xf0) with
  | .some e => .some e.seq
  | .none => s.nv.checkpoint

/-- An entry appended to the buffer with the next SEQ (R320, R323). -/
def State.ledgerAppend (s : State) (kind flags : Nat) (payload : List Byte) (content : List Nat) : State :=
  let l := s.ledger
  let e : LedgerEntry :=
    { seq := l.nextSeq, sec := l.sec, ns := s.nanos, kind := kind
      flags := flags + b2n (!l.pps) + 4 * b2n l.loss, payload := payload, content := content }
  { s with ledger := { l with buffer := l.buffer ++ [e], nextSeq := l.nextSeq + 1, loss := false } }

/-- The entries that the buffer holds at most (R322). -/
def ledgerRoom : Nat := 4096

/-- An entry of any type, FILL and CHECKPOINT too, put into the buffer; dropped and counted when 4,096 are buffered, and the
next entry written carries LOSS (R322). -/
def State.ledgerPut (s : State) (kind flags : Nat) (payload : List Byte) (content : List Nat) : State :=
  if s.ledger.buffer.length < ledgerRoom then s.ledgerAppend kind flags payload content
  else
    (({ s with ledger := { s.ledger with loss := true, lost := true } }).count Page.ledger 0x68).flag Page.ledger 1

/-- A CHECKPOINT written, after a FILL where the sector has no room for it (R320, R321). -/
def State.ledgerCheckpoint (s : State) : State :=
  let s1 := if s.ringEnd % 65536 = 65408 then s.ledgerPut 0xff 0 [] [] else s
  s1.ledgerPut 0xf0 0 [] [match s1.lastCheckpoint with | .some q => q + 1 | .none => 0]

/-- A ledger entry written (R320-R323): buffered with the next SEQ, a checkpoint after every 256th. -/
def State.ledgerWrite (s : State) (kind flags : Nat) (payload : List Byte) (content : List Nat) : State :=
  if s.ledger.buffer.length < ledgerRoom then
    let s1 := s.ledgerPut kind flags payload content
    let n := s1.ledger.ordinary + 1
    let s2 : State := { s1 with ledger := { s1.ledger with ordinary := n } }
    if n % 256 = 0 then s2.ledgerCheckpoint else s2
  else s.ledgerPut kind flags payload content

/-- A ledger entry whose payload the manual does not lay out. -/
def State.ledgerNote (s : State) (kind : Nat) (content : List Nat) : State := s.ledgerWrite kind 0 [] content

/-- A CONFIG_COMMIT entry (R321): commits within one ledger second are merged into the entry that is still buffered,
with COALESCED set, a count and the pages touched. -/
def State.ledgerCommit (s : State) (pages : List Nat) : State :=
  let l := s.ledger
  let same (e : LedgerEntry) : Bool := e.kind == 0x50 && e.sec == l.sec
  if l.buffer.any same then
    { s with ledger := { l with buffer := l.buffer.map (fun e =>
        if same e then { e with flags := setCoalesced e.flags, content := mergePages e.content pages } else e) } }
  else s.ledgerNote 0x50 (1 :: pages)
where
  setCoalesced (f : Nat) : Nat := if f / 2 % 2 = 1 then f else f + 2
  mergePages (old new : List Nat) : List Nat :=
    match old with
    | [] => 1 :: new
    | n :: ps => (n + 1) :: ps ++ new.filter (fun p => !ps.contains p)

/-! ### Faults -/

/-- The fault's code and count loaded into PAGE_FAULT of its page (R410). -/
def State.pageFault (s : State) (page code : Nat) : State :=
  let w := s.rd page 0x1c
  s.wr page 0x1c (word (code + min 0xffff (bits w 16 16 + 1) * 2 ^ 16))

/-- A fault-log entry (R412), with FAULT_LOG_PTR, LAST_FAULT and HEALTH.PAGE_FLAGS.FAULT (R415, R416). -/
def State.logFault (s : State) (page code : Nat) (detail : Word) : State :=
  let ptr := s.rd Page.health 0x40
  let next := bits ptr 0 8
  let e : FaultEntry := { sec := s.ledger.sec, ns := s.nanos, code := code, page := page, detail := detail }
  let s1 := { s with faults := s.faults.set next e }
  let s2 := s1.wr Page.health 0x40 (word ((next + 1) % 256 + (bits ptr 16 16 + 1) % 65536 * 2 ^ 16))
  (s2.wr Page.health 0x44 (word (code + page * 2 ^ 16))).flag Page.health 0

/-- A fault raised (R410): PAGE_FAULT, the fault log, and the fault sources 0x040 + code and 0x040 with hop count 0; a
follower's own faults do not feed its fabric (R390). -/
def State.fault (s : State) (page code : Nat) (detail : Word := 0) : State :=
  let s1 := (s.pageFault page code).logFault page code detail
  if s.twin.role = .follow then s1
  else s1.emitAll [{ code := 0x40 + code, hop := 0 }, { code := 0x40, hop := 0 }]

end Machine
end Sys2Proof
end

