-- ==== Sys2Proof/Machine/Resolve.lean ====
section
/-! DEFINITION. What playheads read and decide: the fields of entries and descriptors (R37, R43, R44), the resolution
of zero-time entries (R48-R50), the choice at a commit point (R48, R54-R57), jump events judged against the entry in
their latch slot (R53-R60, R65), which copy and which descriptor a player plays (R38-R41, R78). -/

namespace Sys2Proof
namespace Machine

/-! ### Entries (R43, R44) -/

/-- The kinds of entry; 6-15 are executed as HALT. -/
inductive EntryKind where
  | play
  | loopBack
  | halt
  | ncoSet
  | wait
  | gap
deriving DecidableEq, Repr

/-- KIND of an entry (R43). -/
def entryKind (e : BitVec 256) : EntryKind :=
  match field e 0 4 with
  | 0 => .play
  | 1 => .loopBack
  | 3 => .ncoSet
  | 4 => .wait
  | 5 => .gap
  | _ => .halt

/-- PLAY.DESC. -/
def playDesc (e : BitVec 256) : Nat := field e 8 18

/-- PLAY.REPEAT, 0 as 1. -/
def playRepeat (e : BitVec 256) : Nat := max 1 (field e 32 16)

/-- A marker action: SET, CLR and PULSE masks (R68). -/
structure MarkAction where
  set : BitVec 4
  clr : BitVec 4
  pulse : BitVec 4
deriving DecidableEq, Repr

/-- A PLAY's start actions. -/
def startActions (e : BitVec 256) : MarkAction :=
  { set := BitVec.ofNat 4 (field e 64 4), clr := BitVec.ofNat 4 (field e 68 4), pulse := BitVec.ofNat 4 (field e 72 4) }

/-- A PLAY's end actions. -/
def endActions (e : BitVec 256) : MarkAction :=
  { set := BitVec.ofNat 4 (field e 80 4), clr := BitVec.ofNat 4 (field e 84 4), pulse := BitVec.ofNat 4 (field e 88 4) }

/-- The jump word of hook j (R44). -/
def jumpWord (e : BitVec 256) (j : Nat) : Nat := field e (96 + 32 * j) 32

/-- JUMPj.TARGET. -/
def jumpTarget (w : Nat) : Nat := w % 2 ^ 18

/-- JUMPj.EN. -/
def jumpEn (w : Nat) : Bool := w / 2 ^ 18 % 2 == 1

/-- JUMPj.IMM. -/
def jumpImm (w : Nat) : Bool := w / 2 ^ 19 % 2 == 1

/-- JUMPj.CLR. -/
def jumpClr (w : Nat) : BitVec 4 := BitVec.ofNat 4 (w / 2 ^ 20)

/-- What an NCO_SET carries (R43, R106). -/
def ncoSetItems (e : BitVec 256) : NcoItems :=
  { freq := if field e 4 1 = 1 then .some (field e 32 48, field e 80 48) else .none
    phase := if field e 5 1 = 1 then .some (field e 128 48) else .none
    amp := .none, offset := .none }

/-- WAIT.MASK. -/
def waitMask (e : BitVec 256) : BitVec 4 := BitVec.ofNat 4 (field e 4 4)

/-- WAIT.TIMEOUT. -/
def waitTimeout (e : BitVec 256) : Nat := field e 32 24

/-! ### Descriptors (R37) -/

/-- ADDR with bits [5:0] ignored. -/
def descAddr (d : BitVec 256) : Nat := field d 0 40 / 64 * 64

/-- RES, 3 as 2. -/
def descRes (d : BitVec 256) : Nat := min 2 (field d 40 2)

/-- FORMAT, 2-15 as 0. -/
def descFormat (d : BitVec 256) : Nat := if field d 44 4 = 1 then 1 else 0

/-- MKT_GRAN, which P-ports ignore. -/
def descMarks (t : PType) (d : BitVec 256) : Nat := match t with | .p => 0 | _ => field d 48 2

/-- LEN as stored. -/
def descLen (d : BitVec 256) : Nat := field d 64 24

/-- HEAD. -/
def descHead (d : BitVec 256) : Nat := field d 96 16

/-- CRC_EN and CRC. -/
def descCrcEn (d : BitVec 256) : Bool := field d 50 1 == 1

/-- The CRC that the data must have. -/
def descCrc (d : BitVec 256) : Word := word (field d 128 32)

/-- PTYPE of a port type (R37). -/
def ptypeCode : PType → Nat
  | .p => 1
  | .f => 2
  | .d => 3

/-- The port is in CARRIER or CLOCK mode (R104): MODE bit 0, whatever bit 1 holds. -/
def usesOsc (mode : Word) : Bool := bit mode 0

/-- The port is a pulse unit (R83). -/
def pulseUnit (t : PType) (mode : Word) : Bool := t == .d && bit mode 4

/-- The descriptor suits a player: type and format (R41). -/
def descSuits (t : PType) (mode : Word) (d : BitVec 256) : Bool :=
  field d 42 2 == ptypeCode t && (descFormat d == 1) == usesOsc mode

/-- The clamped LEN (R39). -/
def clampedLen (t : PType) (len : Nat) : Nat := max (Config.minSegment t) len

/-- The byte address of data granule g of a segment, after the marker granules (R69). -/
def dataAddr (t : PType) (d : BitVec 256) (g : Nat) : Nat := descAddr d + 64 * (descMarks t d + g)

/-- The primed-head length H of a descriptor for a port with divisor D (R64). -/
def headLen (t : PType) (div : Nat) (d : BitVec 256) : Nat :=
  min (max (descHead d) (Config.selvedge t div)) (clampedLen t (descLen d))

/-! ### Resolution (R48-R50) -/

/-- Row counters with one replaced. -/
def setRow (rows : Vector (BitVec 16) 4) (l : Nat) (v : BitVec 16) : Vector (BitVec 16) 4 := rows.setIfInBounds l v

/-- A row counter. -/
def getRow (rows : Vector (BitVec 16) 4) (l : Nat) : BitVec 16 := rows.getD l 0

/-- Row counters with those of a CLR field cleared (R59). -/
def clearRows (rows : Vector (BitVec 16) 4) (clr : BitVec 4) : Vector (BitVec 16) 4 :=
  (List.range 4).foldl (fun r l => if clr.getLsbD l then setRow r l 0 else r) rows

/-- A resolution under way: the row counters, the NCO_SETs passed, a fall-through met. -/
structure Walk where
  rows : Vector (BitVec 16) 4
  loads : List NcoItems
  loopEnd : Bool
deriving DecidableEq, Repr

/-- A plan from where a walk ended. -/
def Walk.plan (w : Walk) (f : Follow) (chainLimit : Bool) : Plan × Vector (BitVec 16) 4 :=
  ({ follow := f, loads := w.loads, loopEnd := w.loopEnd, chainLimit := chainLimit, offPath := false
     entryEnds := true, retrack := false, hop := .none }, w.rows)

/-- Zero-time entries executed in order from entry e until a PLAY, WAIT, GAP or HALT (R48): at most `left` of them;
one more is executed as HALT with the chain limit. An entry in `bad`, and the one after index 262,143, is a HALT
(R49, R145). -/
def resolve (s : State) (bad : List Nat) : Nat → Nat → Walk → Plan × Vector (BitVec 16) 4
  | left, e, w =>
    let x := s.entryAt e
    let kind := if 2 ^ 18 ≤ e ∨ bad.contains e then .halt else entryKind x
    match kind with
    | .play => w.plan (.play e 1 x) false
    | .wait => w.plan (.wait e x) false
    | .gap => w.plan (.gap e x) false
    | .halt => w.plan .halt (left == 0)
    | .ncoSet =>
      match left with
      | 0 => w.plan .halt true
      | left' + 1 => resolve s bad left' (e + 1) { w with loads := w.loads ++ [ncoSetItems x] }
    | .loopBack =>
      match left with
      | 0 => w.plan .halt true
      | left' + 1 =>
        let l := field x 48 2
        let v := getRow w.rows l + 1
        if v.toNat < max 1 (field x 32 16) then
          resolve s bad left' (field x 8 18) { w with rows := setRow w.rows l v }
        else resolve s bad left' (e + 1) { w with rows := setRow w.rows l 0, loopEnd := true }

/-- A resolution from an entry with given row counters. -/
def resolveFrom (s : State) (bad : List Nat) (e : Nat) (rows : Vector (BitVec 16) 4) : Plan × Vector (BitVec 16) 4 :=
  resolve s bad 8 e { rows := rows, loads := [], loopEnd := false }

/-- How many passes the fetch engine looks at for one request, and how many entries with slots it passes on its way to a
PLAY (DESIGN CHOICE, log entry 10). -/
def fetchReach : Nat := 4096

/-- The first PLAY on the default path from an entry on, with its words and the row counters there: after a WAIT or a GAP
the default path goes on (R52, R65). -/
def State.defaultPlay (s : State) :
    Nat → Nat → Vector (BitVec 16) 4 → Option (Nat × BitVec 256 × Vector (BitVec 16) 4)
  | 0, _, _ => .none
  | fuel + 1, e, rows =>
    let r := resolveFrom s [] e rows
    match r.1.follow with
    | .play e' _ x => .some (e', x, r.2)
    | .wait e' _ | .gap e' _ => s.defaultPlay fuel (e' + 1) r.2
    | .halt => .none

/-- The first PLAY on the default path that begins with what a resolution reached. -/
def State.firstPlay (s : State) (r : Plan × Vector (BitVec 16) 4) : Option (Nat × BitVec 256 × Vector (BitVec 16) 4) :=
  match r.1.follow with
  | .play e _ x => .some (e, x, r.2)
  | .wait e _ | .gap e _ => s.defaultPlay fetchReach (e + 1) r.2
  | .halt => .none

/-- The lowest hook whose event stands in a mask and whose jump word is enabled (R48, R57). -/
def winner (e : BitVec 256) (events : BitVec 4) : Option Nat :=
  (List.range 4).find? (fun j => events.getLsbD j && jumpEn (jumpWord e j))

/-- What a commit point fixes, with the row counters after it (R48). A jump follows the default path (R62) when no pass
of the entry remains, its target is the entry at index + 1 and the first PLAY reached from there is the one that the
default path reaches, whatever its CLR clears; row counters that CLR made other ones change the path beyond that PLAY
(DEDUCED, log entry 29). A further pass of the entry goes on with the words read at its resolution (log entry 103). -/
def commitPlan (s : State) (bad : List Nat) (ph : Playhead) : Plan × Vector (BitVec 16) 4 :=
  let e := ph.word
  let more := ph.pass < playRepeat e
  match winner e (ph.cand ||| ph.pend) with
  | .some j =>
    let w := jumpWord e j
    let r := resolveFrom s bad (jumpTarget w) (clearRows ph.rows (jumpClr w))
    let d := resolveFrom s bad (ph.entry + 1) ph.rows
    let onPath := !more && jumpTarget w == ph.entry + 1 &&
      (s.firstPlay r).map (fun x => x.1) == (s.firstPlay d).map (fun x => x.1)
    ({ r.1 with offPath := !onPath, retrack := onPath && r.2 != d.2, hop := .some (ph.hops.getD j 0) }, r.2)
  | .none =>
    if more then
      ({ follow := .play ph.entry (ph.pass + 1) e, loads := [], loopEnd := false, chainLimit := false, offPath := false
         entryEnds := false, retrack := false, hop := .none }, ph.rows)
    else resolveFrom s bad (ph.entry + 1) ph.rows

/-! ### Jump events (R53-R60, R65) -/

/-- What a jump event does in a slot with a given playhead (R60): its judgement and, for one that takes effect at
t + Ka, the latch. None: ignored. -/
def judgeJump (ph : Playhead) (t ka k j hop : Nat) : Option (Judged × Option Latch) :=
  let e := ph.word
  match ph.activity with
  | .segment | .selvedge =>
    let w := jumpWord e j
    if jumpEn w = false then .none
    else if jumpImm w then
      .some (.immediate, .some { due := t + ka, what := .jump j (jumpTarget w) (jumpClr w), hop := hop })
    else if ph.activity = .selvedge ∨ ph.gran + k < ph.len then .some (.candidate (!ph.cand.getLsbD j), .none)
    else .some (.late (!ph.pend.getLsbD j), .none)
  | .wait =>
    if (waitMask e).getLsbD j then .some (.release, .some { due := t + ka, what := .release, hop := hop }) else .none
  | .idle | .gap => .none

/-- A 4-bit mask with bit j set or cleared. -/
def maskBit (m : BitVec 4) (j : Nat) (v : Bool) : BitVec 4 :=
  if v then m ||| BitVec.ofNat 4 (2 ^ j) else m &&& ~~~(BitVec.ofNat 4 (2 ^ j))

/-- The jump event that acted in the slot withdrawn in favour of a lower hook (R58). -/
def Playhead.withdraw (ph : Playhead) (t ka : Nat) : Playhead :=
  match ph.judged with
  | .none => ph
  | .some (j, .candidate fresh) => { ph with cand := if fresh then maskBit ph.cand j false else ph.cand }
  | .some (j, .late fresh) => { ph with pend := if fresh then maskBit ph.pend j false else ph.pend }
  | .some (_, .immediate) =>
    { ph with latches := ph.latches.filter (fun l => !(l.due == t + ka && (match l.what with | .jump .. => true | _ => false))) }
  | .some (_, .release) =>
    { ph with latches := ph.latches.filter (fun l => !(l.due == t + ka && l.what == .release)) }

/-- A judged jump event taken up by the playhead. -/
def Playhead.takeJump (ph : Playhead) (j hop : Nat) (r : Judged × Option Latch) : Playhead :=
  let ph1 := { ph with judged := .some (j, r.1), latches := ph.latches ++ r.2.toList }
  match r.1 with
  | .candidate _ => { ph1 with cand := maskBit ph1.cand j true, hops := ph1.hops.setIfInBounds j hop }
  | .late _ => { ph1 with pend := maskBit ph1.pend j true, hops := ph1.hops.setIfInBounds j hop }
  | _ => ph1

/-- A jump event on hook j latched in slot t of a running playhead (R53-R58). Of the events of one slot the lowest hook
that is not ignored acts; the others are discarded and leave nothing. -/
def Playhead.jumpEvent (ph : Playhead) (t ka k j hop : Nat) : Playhead :=
  match judgeJump ph t ka k j hop with
  | .none => ph
  | .some r =>
    match ph.judged with
    | .some (i, _) =>
      if i ≤ j then ph
      else
        let ph1 := ph.withdraw t ka
        match judgeJump ph1 t ka k j hop with
        | .none => ph1
        | .some r1 => ph1.takeJump j hop r1
    | .none => ph.takeJump j hop r

/-- The event that acts in the current slot is a late one (R55). -/
def Playhead.lateNow (ph : Playhead) : Bool :=
  match ph.judged with
  | .some (_, .late _) => true
  | _ => false

/-! ### Players -/

/-- The cached copy that a port uses for a descriptor (R38, R155, R158). -/
def State.copyFor (s : State) (n d : Nat) : Option Copy :=
  s.copies.find? (fun c => c.desc == d && c.users.contains n)

/-- The records of a table that are in force (R69), given the record before them in the table: one that is not later than
the record before it, or at or beyond LEN, is ignored. -/
def inForce (len : Nat) : Option MarkRecord → List MarkRecord → List MarkRecord
  | _, [] => []
  | prev, r :: rest =>
    let later := match prev with
      | .none => true
      | .some p => p.gran < r.gran || (p.gran == r.gran && p.sample < r.sample)
    if r.gran < len && later then r :: inForce len (.some r) rest else inForce len (.some r) rest

/-- The marker records in force of marker granules (R69): up to the first record of three zero masks. -/
def markRecords (samples len : Nat) (grans : List Granule) : List MarkRecord :=
  let raw := grans.flatMap (fun g => (List.range 8).map (fun i => g.toNat / 2 ^ (64 * i) % 2 ^ 64))
  let masks (r : Nat) : Nat := r / 2 ^ 36 % 2 ^ 12
  let used := raw.takeWhile (fun r => masks r != 0)
  let toRec (r : Nat) : MarkRecord :=
    { gran := r % 2 ^ 24, sample := min (samples - 1) (r / 2 ^ 24 % 2 ^ 9)
      set := BitVec.ofNat 4 (r / 2 ^ 36), clr := BitVec.ofNat 4 (r / 2 ^ 40), pulse := BitVec.ofNat 4 (r / 2 ^ 44) }
  inForce len .none (used.map toRec)

/-- The descriptor that a member of a group plays for a PLAY (R78): DESC plus the LANE that the group's ARM took (R80). -/
def Group.laneDesc (x : Group) (n : Nat) (e : BitVec 256) : Nat := (playDesc e + x.lanes.get (fun _ => 0) n) % 2 ^ 18

/-- The descriptor index that a port plays for a PLAY: DESC, plus its LANE in a stitch group (R78). -/
def State.playedDesc (s : State) (n : Nat) (e : BitVec 256) : Nat :=
  match (s.port n).group with
  | .none => playDesc e
  | .some g => (s.group g).laneDesc n e

/-- The descriptor words that a port plays for a descriptor index: those read ahead by the fetch engine for the next
stream pass when they are of that descriptor, else the store's (R47). -/
def State.playedWord (s : State) (n d : Nat) : BitVec 256 :=
  match (s.port n).bobbin.ahead with
  | (i, w) :: _ => if i = d then w else s.desc d
  | [] => s.desc d

/-- The LEN that a port plays for a PLAY entry: a whole cached copy keeps the LEN it was made with (R47). -/
def State.playedLen (s : State) (n : Nat) (e : BitVec 256) : Nat :=
  let d := s.playedDesc n e
  match s.copyFor n d with
  | .some c => if c.whole then c.len else descLen (s.playedWord n d)
  | .none => descLen (s.playedWord n d)

/-- The LEN that gives every pass of a group its length (R78): that of the leader's descriptor; once the leader has left
alone, of the copy it had or of the descriptor at its LANE (DEDUCED, log entry 30). -/
def State.leaderLen (s : State) (g : Nat) (e : BitVec 256) : Nat :=
  let x := s.group g
  match x.leader with
  | .none => 0
  | .some m =>
    if x.members.contains m then s.playedLen m e
    else let d := x.laneDesc m e; x.lens.get (fun d => descLen (s.desc d)) d

/-- The length L of a pass in granules (R39, R78). -/
def State.passLen (s : State) (n : Nat) (e : BitVec 256) : Nat :=
  match (s.port n).group with
  | .some g => clampedLen (Config.portType n) (s.leaderLen g e)
  | .none => clampedLen (Config.portType n) (s.playedLen n e)

/-- The pass that a port begins for a PLAY entry (R38, R41, R47, R78): from the cache copy where one is held whole,
else from the descriptor. A member's data ends at the leader's length. -/
def State.beginSeg (s : State) (n : Nat) (e : BitVec 256) (bad : Bool) : Seg :=
  let p := s.port n
  let t := Config.portType n
  let d := s.playedDesc n e
  let w := s.playedWord n d
  let copy := s.copyFor n d
  let whole := match copy with | .some c => c.whole | .none => false
  let len := min (s.playedLen n e) (s.passLen n e)
  let mismatch := bad || (!whole && !descSuits t p.mode w)
  { desc := d, word := w, data := len, mismatch := mismatch
    cached := match copy with | .some c => c.data.take len | .none => []
    marks := match copy with
      | .some c => if mismatch then [] else markRecords (Config.samplesPerGranule t) len c.marks
      | .none => []
    tail := 0 }

/-- A granule of the pass comes from the bobbin: beyond what the cache holds, within the data, suited (R38). -/
def Seg.streams (g : Seg) (i : Nat) : Bool := !g.mismatch && g.cached.length ≤ i && i < g.data

/-- The pass has streamed granules. -/
def Seg.streamed (g : Seg) : Bool := !g.mismatch && g.cached.length < g.data

/-- The bobbin holds the granule of the pass that plays. -/
def Bobbin.has (b : Bobbin) (pass i : Nat) : Option Fetched :=
  b.present.find? (fun f => f.pass == pass && f.gran == i)

/-- The fetch engine's next stream pass is one of a descriptor and its words (R47): read ahead, or not begun yet. -/
def Bobbin.fetchesNext (b : Bobbin) (d : Nat) (w : BitVec 256) : Bool :=
  match b.ahead with
  | x :: _ => x == (d, w)
  | [] => true

/-- The granule is being refetched (R142). -/
def Bobbin.refetching (b : Bobbin) (pass i : Nat) : Bool := b.refetch.any (fun f => f.pass == pass && f.gran == i)

/-- The granule of the pass that plays is missing at its slot's start (R73): streamed, not present, not refetched. -/
def Port.misses (p : Port) (i : Nat) : Bool :=
  p.seg.streams i && (p.bobbin.has p.bobbin.playing i).isNone && !p.bobbin.refetching p.bobbin.playing i

end Machine
end Sys2Proof
end

