-- ==== Sys2Proof/Machine/Output.lean ====
section
/-! DEFINITION. Oscillators and output samples: clamps, merge and conversion (R93-R112), the samples a granule gives
in each mode (R97-R105, R176-R178, R184, R186), marker outputs and their events (R68-R71), holds, levels and parking
output (R192), and the reported ratio (R119). -/

namespace Sys2Proof
namespace Machine

/-! ### Oscillators -/

/-- The increment the oscillator runs with: limited to floor(M / 2) in CLOCK mode (R94). -/
def Osc.runN (o : Osc) (clock : Bool) : Nat := if clock then min o.n (o.m / 2) else o.n

/-- The residue after k samples (R93). -/
def Osc.advance (o : Osc) (clock : Bool) (k : Nat) : Osc := { o with u := (o.u + k * o.runN clock) % o.m }

/-- Items of one source laid over those of earlier sources: the last to carry an item wins (R109). -/
def NcoItems.over (old new : NcoItems) : NcoItems :=
  { freq := new.freq <|> old.freq, phase := new.phase <|> old.phase
    amp := new.amp <|> old.amp, offset := new.offset <|> old.offset }

/-- An oscillator after the merged items of one boundary (R94, R109-R111): clamps, then the loaded phase or one
conversion to the final modulus. SEQ counts a change of a reported term (R120). -/
def Osc.apply (o : Osc) (clock : Bool) (x : NcoItems) : Osc :=
  let m' := match x.freq with | .some (_, m) => max 1 m | .none => o.m
  let n' := match x.freq with | .some (n, _) => min n (m' - 1) | .none => o.n
  let o1 := { o with n := n', m := m', amp := x.amp.getD o.amp, offset := x.offset.getD o.offset }
  let o2 := match x.phase with
    | .some f => { o1 with u := min f (m' - 1) }
    | .none =>
      if m' = o.m then o1
      else { o1 with u := o.u * m' / o.m, rho := o.u * m' % o.m, conv := (o.conv + 1) % 256 }
  if o2.m = o.m ∧ o2.runN clock = o.runN clock then o2 else { o2 with seq := (o.seq + 1) % 65536 }

/-- The port plays a clock (R104): a D-port in CLOCK mode that is no pulse unit, which uses neither mode (R83). -/
def Port.clockMode (p : Port) (t : PType) : Bool := t == .d && usesOsc p.mode && !pulseUnit t p.mode

/-- The loads of a chain's NCO_SETs applied at a boundary, before the transfers of that boundary (R109): the
oscillator is computed anew from what it was before them. -/
def Port.applyLoads (p : Port) (t : PType) (loads : List NcoItems) : Port :=
  if loads.isEmpty then { p with merge := .none }
  else
    let chain := loads.foldl NcoItems.over NcoItems.none
    match p.merge with
    | .none => { p with osc := p.osc.apply (p.clockMode t) chain }
    | .some (pre, items) => { p with osc := pre.apply (p.clockMode t) (chain.over items), merge := .none }

/-- The phase of a residue rendered to 40 bits, with the offset (R97). -/
def renderPhase (u m : Nat) (offset : Word) : Nat := (u * 2 ^ 40 / m + offset.toNat * 2 ^ 8) % 2 ^ 40

/-- num / den rounded to the nearest integer, ties away from zero (R99). -/
def roundAway (num : Int) (den : Nat) : Int :=
  let q := ((2 * num.natAbs + den) / (2 * den) : Nat)
  if num < 0 then -(q : Int) else q

/-- A CARRIER sample from the envelope value e (R99): code width b. -/
def carrierValue (b : Nat) (o : Osc) (u : Nat) (e : Int) : Int :=
  let a := min o.amp.toNat (2 ^ 31)
  limit (-(2 ^ (b - 1))) (2 ^ (b - 1) - 1)
    (roundAway (e * (a : Int) * Config.sine (renderPhase u o.m o.offset)) (2 ^ 93))

/-- The active DUTY in CLOCK mode (R101, R102). -/
def clockDuty (o : Osc) : Nat :=
  let n := o.runN true
  let lmin := Config.ceilDiv (2 ^ 16 * n) o.m
  let duty := bits o.amp 0 16
  max lmin (min (if duty = 0 then 0x8000 else duty) (2 ^ 16 - lmin))

/-- The falling threshold T (R101). -/
def clockFall (o : Osc) : Nat := clockDuty o * o.m / 2 ^ 16

/-- The edge that lies in a bit cell (R101): its position, 64 for the start of the next cell, and the level after it. -/
def clockEdge (o : Osc) (u : Nat) : Option (Nat × Int) :=
  let n := o.runN true
  let x0 := (o.m - u) % o.m
  let xt := (clockFall o + o.m - u) % o.m
  let pos (x : Nat) : Nat := (128 * x + n) / (2 * n)
  if x0 < n then .some (pos x0, 1) else if xt < n then .some (pos xt, 0) else .none

/-- A bit cell in CLOCK mode (R101-R103): the level at the cell's end and the positions of its edges. At the cell's start
the line goes to the level of the clock's phase there, which places an edge carried over from position 64 of the cell
before, and the rise of the first ungated cell; then comes the cell's own edge. -/
def clockCell (o : Osc) (u : Nat) (gate : Bool) (prev : Int) : Int × List Nat :=
  if gate = false then (0, if prev = 1 then [0] else [])
  else
    let phase : Int := if u < clockFall o then 1 else 0
    let edge := clockEdge o u
    let start : Int := match edge with | .some (0, v) => v | _ => phase
    let atStart := if prev = start then [] else [0]
    match edge with
    | .some (e, v) => if 0 < e ∧ e < 64 ∧ v ≠ start then (v, atStart ++ [e]) else (start, atStart)
    | .none => (start, atStart)

/-! ### Samples -/

/-- The raw samples of a granule, sample 0 first (R33, R176, R184, R186). -/
def rawSamples (t : PType) (g : Granule) : List Nat :=
  match t with
  | .p => (List.range 16).map (fun i => g.toNat / 2 ^ (32 * i) % 2 ^ 32)
  | .f => (List.range 32).map (fun i => g.toNat / 2 ^ (16 * i) % 2 ^ 16)
  | .d => (List.range 512).map (fun i => g.toNat / 2 ^ i % 2)

/-- The marker bits of a raw sample: a P-port's word bits [3:0] (R68, R176). -/
def rawMarks (t : PType) (raw : Nat) : BitVec 4 := match t with | .p => BitVec.ofNat 4 raw | _ => 0

/-- The code that a raw value gives in SAMPLE and PATTERN modes, and the envelope value in CARRIER mode (R100). -/
def rawCode (t : PType) (raw : Nat) : Int :=
  match t with
  | .p => signed 28 (raw / 16)
  | .f => signed 16 raw
  | .d => (raw % 2 : Nat)

/-- The value and edges of one sample played from raw data, k samples into the slot. -/
def formSample (t : PType) (p : Port) (k raw : Nat) (prev : Int) : Int × List Nat :=
  if usesOsc p.mode = false then (rawCode t raw, [])
  else
    let u := (p.osc.u + k * p.osc.runN (p.clockMode t)) % p.osc.m
    match t with
    | .p => (carrierValue 28 p.osc u (rawCode t raw), [])
    | .f => (carrierValue 16 p.osc u (rawCode t raw), [])
    | .d => clockCell p.osc u (raw % 2 == 1) prev

/-- Marker state after an action: CLR, then SET (R68). -/
def MarkAction.on (a : MarkAction) (ms : BitVec 4) : BitVec 4 := (ms &&& ~~~a.clr) ||| a.set

/-- No marker action. -/
def MarkAction.none : MarkAction := { set := 0, clr := 0, pulse := 0 }

/-- Actions that fall on one sample together: every CLR, then every SET, then every PULSE (R68). -/
def MarkAction.join (a b : MarkAction) : MarkAction :=
  { set := a.set ||| b.set, clr := a.clr ||| b.clr, pulse := a.pulse ||| b.pulse }

/-- The marker actions of a slot: the end actions of the entry that ended at its boundary, which apply first (R70), and
the other actions by sample. -/
structure Acts where
  ends : List MarkAction
  here : List (Nat × MarkAction)
deriving DecidableEq, Repr

/-- No actions. -/
def Acts.none : Acts := { ends := [], here := [] }

/-- Actions of one sample joined. -/
def joinActs (l : List MarkAction) : MarkAction := l.foldl MarkAction.join MarkAction.none

/-- The actions of one sample applied: the marker state after them, the pulses they raise (R68, R70). -/
def actAt (acts : Acts) (k : Nat) (ms : BitVec 4) : BitVec 4 × BitVec 4 :=
  let e := if k = 0 then joinActs acts.ends else MarkAction.none
  let h := joinActs ((acts.here.filter (fun a => a.1 == k)).map (fun a => a.2))
  (h.on (e.on ms), e.pulse ||| h.pulse)

/-- The samples of raw data from sample k on, with the marker state threaded through. -/
def formSamples (t : PType) (p : Port) (acts : Acts) :
    List Nat → Nat → BitVec 4 → Int → List Sample × BitVec 4
  | [], _, ms, _ => ([], ms)
  | raw :: rest, k, ms, prev =>
    let a := actAt acts k ms
    let v := formSample t p k raw prev
    let r := formSamples t p acts rest (k + 1) a.1 v.1
    ({ value := v.1, marks := a.1 ||| a.2 ||| rawMarks t raw, edges := v.2 } :: r.1, r.2)

/-- What a slot plays: the park output, the last sample held, a GAP's LEVEL, raw data (R33, R39, R67, R87). -/
inductive Content where
  | park
  | hold
  | level (v : Nat)
  | raw (samples : List Nat)
deriving DecidableEq, Repr

/-- Marker outputs that rise within a slot, an edge from the slot before counted (R71). -/
def risenMarks (prev : BitVec 4) : List Sample → BitVec 4
  | [] => 0
  | x :: xs => (x.marks &&& ~~~prev) ||| risenMarks x.marks xs

/-! ### P-port values (R176-R178) -/

/-- FS of a range in units of 10 nV (R176); RANGE 3 as 2. -/
def fullScale (range : Nat) : Int :=
  match range with
  | 0 => 1050000000
  | 1 => 210000000
  | _ => 42000000

/-- The active RANGE of a P-port (R172). -/
def Port.range (p : Port) : Nat := min 2 (bits p.mode 8 2)

/-- The spare drives the port's node (R198, R202). -/
def State.spareDrives (s : State) (n : Nat) : Bool :=
  (match Config.portType n with | .p => true | _ => false) &&
    (s.spare (n / 16)).substituted && (s.spare (n / 16)).serves == .some n

/-- The trims of the stage that drives the port's node: the spare's set while it is substituted (R198). -/
def State.activeTrim (s : State) (n : Nat) : Trim :=
  let p := s.port n
  let x := s.spare (n / 16)
  let own := p.trims.getD p.range { gain := 0, offset := 0 }
  if s.spareDrives n then
    (x.trims.get (fun _ => .replicate 3 { gain := 0, offset := 0 }) n).getD p.range { gain := 0, offset := 0 }
  else own

/-- y of R177 in units of 10 nV / (2^27 x 10^8). -/
def trimmedValue (range : Nat) (tr : Trim) (c : Int) : Int :=
  fullScale range * c * (100000000 + tr.gain) + tr.offset * 5 * 2 ^ 27 * 100000000

/-- y lies beyond the full scale (R178). -/
def overRange (range : Nat) (tr : Trim) (c : Int) : Bool :=
  let y := trimmedValue range tr c
  let fs := fullScale range * 2 ^ 27 * 100000000
  y > fs || y < -fs

/-- A run of limited samples begins within the samples of a slot, the one before it being limited or not (R178): the flag
is set once for each run. -/
def overRunBegins (range : Nat) (tr : Trim) : Bool → List Sample → Bool
  | _, [] => false
  | prev, x :: xs => (overRange range tr x.value && !prev) || overRunBegins range tr (overRange range tr x.value) xs

/-- The factory linearisation of the converter that drives a P-port's node: the port's, or the spare's while it serves
(R177, R198, R290); the identity while no factory copy is valid (R291). -/
def State.linearise (s : State) (n : Nat) (y : Int) : Int :=
  if s.cal.factoryValid = false then y
  else Config.linearisation (if s.spareDrives n then 144 + n / 16 else n) (s.port n).range y

/-- The terminal voltage of a P-port in 1 pV, through the factory linearisation (R177), for the code that plays. -/
def State.terminal (s : State) (n : Nat) : Int :=
  let p := s.port n
  let fs := fullScale p.range * 2 ^ 27 * 100000000
  let y := limit (-fs) fs (trimmedValue p.range (s.activeTrim n) p.last.value)
  s.linearise n (y * 10000 / (2 ^ 27 * 100000000))

/-- The voltage of an F-port in 1 pV: 0.6 V × c / 2^15 while its driver is enabled, zero differential otherwise (R184). -/
def Port.fVoltage (p : Port) : Int := if p.switches.force then 600000000000 * p.last.value / 2 ^ 15 else 0

/-- The differential swing of a D-port in mV: 200 mV + 40 mV × STEP while its driver is enabled (R186). -/
def Port.dSwing (p : Port) : Nat := if p.switches.force then 200 + 40 * p.swing else 0

/-- Whether the port's last sample is limited brought up to date with the sample, range and trims of now; the flag is set
where a limited run begins so (R178). -/
def State.settleOver (s : State) (n : Nat) : State :=
  let p := s.port n
  let now := (match Config.portType n with | .p => true | _ => false) && overRange p.range (s.activeTrim n) p.last.value
  if now = p.limited then s
  else
    let s1 := s.setPort n { p with limited := now }
    if now then s1.flag (Page.port n) 11 else s1

/-! ### Parked output (R192, R195) -/

/-- PORT_PARK.LEVEL as a code or line level (R192). -/
def parkLevel (t : PType) (park : Word) : Int :=
  match t with
  | .p => signed 28 (bits park 0 28)
  | .f => signed 16 (bits park 0 16)
  | .d => bits park 0 1

/-- The level that a trip forces (R195): LEVEL, or TRIP_LEVEL on a D-port. -/
def State.tripLevel (s : State) (n : Nat) : Int :=
  match Config.portType n with
  | .d => bits (s.reg (portReg n 0xa4)) 8 1
  | t => parkLevel t (s.port n).park

/-- The samples of one granule of a ramp to LEVEL (R192): linear from the last output, LEVEL reached with the ramp's last
sample; each rounded to the nearest code. -/
def rampSamples (from_ level : Int) (done all : Nat) : List Int :=
  (List.range 16).map (fun (i : Nat) =>
    let k : Int := (16 * done + i + 1 : Nat)
    let d : Int := (16 * all : Nat)
    from_ + (2 * (level - from_) * k + d) / (2 * d))

/-- The output of a parked port in its next slot (R175, R192, R193): zero in OFF, forced by a trip, ramping, held after a HALT with
ON_HALT, or at LEVEL; one value stands for a slot that does not change. -/
def State.parkValue (s : State) (n : Nat) : List Int × Option (Int × Nat × Nat) :=
  let p := s.port n
  let t := Config.portType n
  let level := parkLevel t p.park
  if p.state = .off then ([0], .none)
  else if p.forced then ([s.tripLevel n], .none)
  else if p.state = .safe ∧ pulseUnit t p.mode then ([bits (s.reg (portReg n 0x160)) 0 1], .none)
  else if p.holdPark then ([p.last.value], .none)
  else match p.ramp with
    | .some (from_, done, all) =>
      (rampSamples from_ level done all, if all ≤ done + 1 then .none else .some (from_, done + 1, all))
    | .none => ([level], .none)

/-! ### The digest (R396) -/

/-- An activity as PORT_POS names it (R89). -/
def Activity.code : Activity → Nat
  | .idle => 0
  | .segment => 1
  | .selvedge => 2
  | .gap => 3
  | .wait => 4

/-- A port's contribution at a slot boundary while a pair runs (R396): its position, row counters, marker state and
residue, and what it is about to play. -/
def State.contribute (s : State) (n : Nat) (plays : List Nat) : State :=
  if s.twin.phase = .none then s
  else
    let p := s.port n
    let ph := match p.group with | .some g => (s.group g).play | .none => p.play
    let content := [n, p.slot, ph.entry, ph.activity.code, ph.pass, ph.gran] ++ ph.rows.toList.map BitVec.toNat ++
      [p.ms.toNat, p.osc.u] ++ plays
    let l := s.twin.digest.get (fun _ => []) n
    { s with twin := { s.twin with digest := s.twin.digest.set n (l ++ [Config.contribution content]) } }

/-! ### A slot's output -/

/-- A sample held (R71, R105): its value and its marker bits, no edge. -/
def Sample.held (x : Sample) : Sample := { x with edges := [] }

/-- A sample with marker pulses added, then the sample without them: a slot that changes only so. -/
def Sample.pulsed (x : Sample) (pulse : BitVec 4) : List Sample :=
  if pulse = 0 then [x] else [{ x with marks := x.marks ||| pulse }, x]

/-- What a port puts out in the slot that begins (R68, R95, R105, R178): the samples, the last sample, the marker
state, the oscillator advanced by the slot's samples; with the marker events of the slot. A parked slot shows of the
actions the PULSE of an entry that a stop or a HALT ends (R70); a held slot repeats its sample's marker bits (R71, DEDUCED,
log entry 104), and the sample it repeats is the last one put out, a GAP's LEVEL too (R65, R67, DEDUCED, log entry 125).
`lost`: the granule met a bridge error, and the converter die plays the last good sample (R17). -/
def State.playSlot (s : State) (n : Nat) (c : Content) (acts : Acts) (lost : Bool) : State × List (Nat) :=
  let p := s.port n
  let t := Config.portType n
  let count := Config.samplesPerGranule t
  let osc := p.osc.advance (p.clockMode t) count
  let c := if p.stale then Content.hold else c
  let p1 : Port := match c with
    | .park =>
      let v := s.parkValue n
      let xs : List Sample := v.1.map (fun y => { value := y, marks := 0, edges := [] })
      let out := match xs with | [] => [] | x :: rest => x.pulsed (actAt acts 0 0).2 ++ rest
      { p with out := out, last := xs.getLast?.getD p.last, ms := 0, ramp := v.2 }
    | .hold =>
      let a := actAt acts 0 p.ms
      { p with out := [p.last.held], last := p.last.held, ms := a.1 }
    | .level v =>
      let a := actAt acts 0 p.ms
      let x : Sample := { value := (match t with | .p => signed 28 (v / 16) | .f => signed 16 v | .d => (v % 2 : Nat))
                          marks := a.1 ||| rawMarks t v, edges := [] }
      { p with out := x.pulsed a.2, last := x, ms := a.1 }
    | .raw vals =>
      let r := formSamples t p acts vals 0 p.ms p.last.value
      { p with out := r.1, last := r.1.getLast?.getD p.last, ms := r.2 }
  let p2 := if lost then
      let x : Sample := { p.last.held with marks := match c with | .park => 0 | _ => p.last.marks }
      { p1 with out := [x], last := x }
    else p1
  let route := bits p.mode 12 4
  let risen := risenMarks p.last.marks p2.out &&& BitVec.ofNat 4 route
  let level := s.tripLevel n
  let trip (x : Sample) : Sample := if p.forced then { x with value := level, edges := [] } else x
  let out := p2.out.map trip
  let tr := s.activeTrim n
  let isP := t == .p
  let s1 := s.setPort n { p2 with
    osc := osc, out := out, last := trip p2.last, limited := isP && overRange p.range tr (trip p2.last).value }
  let s2 := if isP && overRunBegins p.range tr p.limited out then s1.flag (Page.port n) 11 else s1
  let plays := match c with | .raw vals => vals | _ => [(wordOfInt p.last.value).toNat]
  (s2.contribute n plays, (List.range 4).filter (fun i => risen.getLsbD i))

/-! ### The reported ratio (R119) -/

/-- SR_NUM, SR_DEN, OUT_NUM, OUT_DEN of a port for a committed feedback ratio. -/
def Port.ratio (p : Port) (t : PType) (fbInt fbNum fbDen : Nat) : Nat × Nat × Nat × Nat :=
  let sn := fbInt * fbDen + fbNum
  let sd := fbDen * Config.rootDivider t * p.div
  (sn, sd, sn * p.osc.runN (p.clockMode t), sd * p.osc.m)

/-- The line of a pulse unit at a level. -/
def Port.line (p : Port) (v : Bool) : Port :=
  let x : Sample := { p.last with value := b2n v, edges := [] }
  { p with out := [x], last := x }

end Machine
end Sys2Proof
end

