-- ==== Sys2Proof/Machine/Stream.lean ====
section
/-! DEFINITION. The fetch engine and the bobbins (R52, R150-R153), the use of cached copies (R156), data faults
(R142-R145) and the CRC of stream passes (R42). -/

namespace Sys2Proof
namespace Machine

/-! ### CRC-32C (R42, R354) -/

/-- Eight steps of CRC-32C with the reflected polynomial 0x82f63b78. -/
def crcBits : Nat → Nat → Nat
  | 0, c => c
  | k + 1, c => crcBits k (if c % 2 = 1 then (c / 2) ^^^ 0x82f63b78 else c / 2)

/-- The CRC register after more bytes. -/
def crcStep (c : Nat) (bytes : List Byte) : Nat := bytes.foldl (fun c b => crcBits 8 (c ^^^ b.toNat)) c

/-- CRC-32C: initial value and final XOR 0xffffffff (R354). -/
def crc32c (bytes : List Byte) : Word := word (crcStep 0xffffffff bytes ^^^ 0xffffffff)

/-- The 64 bytes of a granule. -/
def granuleBytes (g : Granule) : List Byte := leBytes 64 g.toNat

/-! ### Bobbin contents -/

/-- The bobbin size of a port in 4 KiB (R152). -/
def State.bobbinSize (s : State) (n : Nat) : Nat :=
  s.bobbins.get (fun n => if Config.portFitted s.part n then Config.defaultBobbin (Config.portType n) else 0) n

/-- BASE of a port's bobbin: the sizes of the ports before it (R153). -/
def State.bobbinBase (s : State) (n : Nat) : Nat := ((List.range n).map s.bobbinSize).foldl (· + ·) 0

/-- The bobbin's contents discarded and its waiting requests withdrawn, which frees their tags; reads already at the stack
complete, and their data is discarded (R151). -/
def Bobbin.discard (b : Bobbin) : Bobbin :=
  { Bobbin.empty with
    flying := ((b.flying ++ b.refetch).filter (fun f => f.issued)).map (fun f => { f with pass := 0 })
    trains := b.trains }

/-- The fetch engine set to prefetch along the default path from a pass of a PLAY on (R52). -/
def Bobbin.startAt (b : Bobbin) (entry pass : Nat) (word : BitVec 256) (rows : Vector (BitVec 16) 4) : Bobbin :=
  { b.discard with
    cursor := .some { entry := entry, item := word, pass := pass, gran := 0, rows := rows, count := 0, word := .none } }

/-- The fetch engine set on a default path that a CLR changed beyond the PLAY that comes next (R52, R59): what it holds and
has requested of that PLAY's first pass stays, `x` being the pass's descriptor; what lies beyond is discarded. -/
def Bobbin.retrack (b : Bobbin) (entry : Nat) (word : BitVec 256) (rows : Vector (BitVec 16) 4)
    (x : Nat × BitVec 256) : Bobbin :=
  let keep := b.playing + 1
  match b.cursor with
  | .none => b.startAt entry 1 word rows
  | .some c =>
    if b.ahead.head? = .some x then
      let stays (f : Fetched) : Bool := decide (f.pass ≤ keep)
      { b with
        present := b.present.filter stays
        flying := (b.flying.filter (fun f => stays f || f.issued)).map (fun f => if stays f then f else { f with pass := 0 })
        refetch := b.refetch.filter stays
        ahead := b.ahead.take 1
        crcs := b.crcs.filter (fun c => decide (c.pass ≤ keep))
        cursor := .some { entry := entry, item := word, pass := 1, gran := if c.count = keep then c.gran else 2 ^ 24
                          rows := rows, count := keep, word := .some x.2 } }
    else b.startAt entry 1 word rows

/-- A request of the fetch engine: the cursor after it, the descriptor that a newly entered stream pass has, the
granule requested. -/
structure Request where
  cursor : Cursor
  entered : Option (Nat × BitVec 256)
  item : Fetched
deriving DecidableEq, Repr

/-- The next granule on the default path (R52, R150), passing over what the cache holds, passes that do not suit the
port and slots without data: the passes of an entry that needs none are passed over together. `fuel` bounds the passes
looked at; the cursor then stands where the search ended (DESIGN CHOICE, log entry 10). -/
def State.nextFetch (s : State) (n : Nat) : Nat → Cursor → Except Cursor Request
  | 0, c => .error c
  | fuel + 1, c =>
    let t := Config.portType n
    let e := c.item
    let d := s.playedDesc n e
    let copy := s.copyFor n d
    let whole := match copy with | .some x => x.whole | .none => false
    let held := match copy with | .some x => x.data.length | .none => 0
    let w := c.word.getD (s.desc d)
    let len := min (descLen w) (s.passLen n e)
    let g := max c.gran held
    if whole = false ∧ descSuits t (s.port n).mode w = true ∧ g < len then
      let fresh := c.word.isNone
      let count := if fresh then c.count + 1 else c.count
      .ok { cursor := { c with gran := g + 1, word := .some w, count := count }
            entered := if fresh then .some (d, w) else .none
            item := { pass := count, gran := g, addr := s.memAddr (dataAddr t w g), data := .none
                      issued := false, train := 0 } }
    else if (c.word.isSome ∨ 0 < c.gran) ∧ c.pass < playRepeat e then s.nextFetch n fuel { c with pass := c.pass + 1, gran := 0, word := .none }
    else match s.defaultPlay (fuel + 1) (c.entry + 1) c.rows with
      | .some (e', x, rows) =>
        s.nextFetch n fuel { c with entry := e', item := x, pass := 1, gran := 0, rows := rows, word := .none }
      | .none => .error c

/-- Bytes present and in flight leave room for 64 more (R150). -/
def State.bobbinRoom (s : State) (n : Nat) : Bool :=
  let b := (s.port n).bobbin
  let used := b.present.length + (b.flying.filter (fun f => f.pass != 0)).length + b.refetch.length
  64 * (used + 1) ≤ 4096 * s.bobbinSize n

/-- The CRC of a stream pass that the fetch engine begins, the granules that the cache holds taken in (R42, R64). -/
def State.passCrc (s : State) (n pass d : Nat) (w : BitVec 256) : PassCrc :=
  let head := match s.copyFor n d with | .some x => x.data.map (fun (y : Option Granule) => y.getD 0) | .none => []
  { pass := pass, desc := d, word := w, next := head.length
    acc := crcStep 0xffffffff (head.flatMap granuleBytes), wait := [] }

/-! ### Reads, tags and trains (R19, R30, R31, R127-R129) -/

/-- The playhead that moves a port (R78). -/
def State.walking (s : State) (n : Nat) : Playhead :=
  match (s.port n).group with
  | .some g => (s.group g).play
  | .none => (s.port n).play

/-- The class of a port's reads: an admitted port reads in real time, another at the staging class (R150, R162). -/
def State.bestEffort (s : State) (n : Nat) : Bool := bit (s.reg (portReg n 0x114)) 0

/-- The reads requested and not complete, with their ports; true for a refetch. -/
def State.reads (s : State) : List (Nat × Bool × Fetched) :=
  s.ports.flatMap (fun e => e.2.bobbin.refetch.map (fun f => (e.1, true, f)) ++ e.2.bobbin.flying.map (fun f => (e.1, false, f)))

/-- The fetch tags of one pseudo-channel (R30, R31): 768 on each, 24,576 on a stack. -/
def tagsPerChannel : Nat := 768

/-- The tags that reads of the staging and service classes may hold of one pseudo-channel (R128). -/
def lowTagsPerChannel : Nat := 128

/-- The commands that a pseudo-channel has outstanding at the stack at most (R128). -/
def outstandingPerChannel : Nat := 64

/-- A tag is free for a port's read of an address (R31, R128). -/
def State.tagFree (s : State) (n a : Nat) : Bool :=
  let l := s.reads.filter (fun x => s.pseudo x.2.2.addr == s.pseudo a)
  decide (l.length < tagsPerChannel) &&
    (!s.bestEffort n || decide ((l.filter (fun x => s.bestEffort x.1)).length < lowTagsPerChannel))

/-- The place of a read in the controller's queues (R19, R142): a real-time refetch, a real-time read, a refetch of a
best-effort port, its read. -/
def State.readRank (s : State) (x : Nat × Bool × Fetched) : Nat :=
  (if s.bestEffort x.1 then 2 else 0) + (if x.2.1 then 0 else 1)

/-- The reads that wait for their issue, in the order of the queues (R19): within a class by port and age (DESIGN CHOICE,
log entry 105). -/
def State.waitingReads (s : State) : List (Nat × Bool × Fetched) :=
  let l := s.reads.filter (fun x => !x.2.2.issued)
  (List.range 4).flatMap (fun r => l.filter (fun x => s.readRank x == r))

/-- A read issued to its stack. -/
def State.issueRead (s : State) (x : Nat × Bool × Fetched) : State :=
  let mark (f : Fetched) : Fetched := if f = x.2.2 then { f with issued := true } else f
  s.modPort x.1 (fun p => { p with bobbin := if x.2.1 then { p.bobbin with refetch := p.bobbin.refetch.map mark }
                                             else { p.bobbin with flying := p.bobbin.flying.map mark } })

/-- Each pseudo-channel issues the first read that waits on it, with at most 64 commands outstanding (R19, R128); a stack
with a forced batch marked starts no new burst (R133). -/
def State.issueReads (s : State) : State :=
  (s.waitingReads.foldl (fun (acc : State × List Nat) x =>
    let c := s.pseudo x.2.2.addr
    if acc.2.contains c then acc
    else
      let out := s.reads.filter (fun y => y.2.2.issued && s.pseudo y.2.2.addr == c)
      (if out.length < outstandingPerChannel ∧ (s.stack (c / 32)).forced = false then acc.1.issueRead x else acc.1, acc.2 ++ [c])) (s, [])).1

/-- A real-time read waits on a stack: requested and not yet issued (R129). -/
def State.readWaits (s : State) (k : Nat) : Bool :=
  s.reads.any (fun x => !s.bestEffort x.1 && !x.2.2.issued && s.stackOf x.2.2.addr == k)

/-- A burst train is in progress on a stack (R129): a read of it has been issued to that stack, another not yet. -/
def State.trainRuns (s : State) (k : Nat) : Bool :=
  s.reads.any (fun x => x.2.2.issued && x.2.2.train != 0 && s.stackOf x.2.2.addr == k &&
    s.reads.any (fun y => y.1 == x.1 && y.2.2.train == x.2.2.train && !y.2.2.issued && s.stackOf y.2.2.addr == k))

/-- A read waits on the pseudo-channel of an address: a bulk write, the lowest class, goes after it (R19). -/
def State.channelBusy (s : State) (a : Nat) : Bool :=
  s.reads.any (fun x => !x.2.2.issued && s.pseudo x.2.2.addr == s.pseudo a)

/-- The longest burst train (R129). -/
def trainReads : Nat := 32

/-- A request taken into its bobbin: a real-time read of the granule that follows the last request joins that request's
burst train, up to 32 of them; another begins a train (R129, R150). Reads of the staging class form none. -/
def Bobbin.request (b : Bobbin) (realTime : Bool) (size : Nat) (f : Fetched) : Bobbin :=
  let joins := match b.flying.getLast? with
    | .some l => l.train != 0 && l.train == b.trains && (l.addr + 64) % size == f.addr && decide (b.trainLen < trainReads)
    | .none => false
  if realTime = false then { b with flying := b.flying ++ [f] }
  else if joins then { b with flying := b.flying ++ [{ f with train := b.trains }], trainLen := b.trainLen + 1 }
  else { b with flying := b.flying ++ [{ f with train := b.trains + 1 }], trains := b.trains + 1, trainLen := 1 }

/-- A pin, a staging or a verification reads the stacks. -/
def State.lowReading (s : State) : Bool :=
  bit (s.rd Page.cache 0x48) 31 || s.security.update == .verifying ||
    s.ports.any (fun e => e.2.state == .ready)

/-- The tags held on a pseudo-channel, in all and by reads of the staging and service classes: those of the bobbins' reads,
and while other reads of those classes run (`low`) as many more as they hold, within 128 and 768 (R31, R128; free, DESIGN
CHOICE, log entry 22). -/
def State.tagsOn (s : State) (low : Bool) (c : Nat) : Nat × Nat :=
  let l := s.reads.filter (fun x => s.pseudo x.2.2.addr == c)
  let be := (l.filter (fun x => s.bestEffort x.1)).length
  let more := if low then min (Config.freeTags s.free c) (min (lowTagsPerChannel - be) (tagsPerChannel - l.length)) else 0
  (l.length + more, be + more)

/-- The tags held on every pseudo-channel. -/
def State.tagCounts (s : State) (low : Bool) : List (Nat × Nat) := (List.range (Config.pseudoChannels s.part)).map (s.tagsOn low)

/-- TAGS_PEAK brought up to the tags held now (R168). -/
def State.notePeak (s : State) (low : Bool) : State :=
  let l := (s.tagCounts low).map (fun x => x.1)
  let w := s.rd Page.stream 0x44
  s.wr Page.stream 0x44 (word (max (bits w 0 16) (l.foldl (· + ·) 0) + max (bits w 16 10) (l.foldl max 0) * 2 ^ 16))

/-- Staging, pin, verification or service reads run now: their tags count toward TAGS_PEAK (R168). -/
def State.lowReads (s : State) : State := (s.notePeak true).spend

/-- The fetch engine sent to the pass that plays: what it read ahead is not what plays (DESIGN CHOICE, log entry 106). -/
def State.refetchPass (s : State) (n entry pass : Nat) (word : BitVec 256) (rows : Vector (BitVec 16) 4) : State :=
  s.modPort n (fun p => { p with bobbin := p.bobbin.startAt entry pass word rows })

/-- One granule requested, where the default path has one, the bobbin has room and a tag is free (R31, R128, R150);
otherwise the cursor goes on. A pass that the fetch engine enters while it plays is the one that plays. -/
def State.requestGranule (s : State) (n : Nat) : State :=
  let p := s.port n
  match p.bobbin.cursor with
  | .none => s
  | .some c =>
    if s.bobbinRoom n = false then s
    else match s.nextFetch n fetchReach c with
      | .error c' => s.setPort n { p with bobbin := { p.bobbin with cursor := .some c' } }
      | .ok r =>
        let stray := match r.entered with
          | .some x => r.cursor.count == p.bobbin.playing && p.seg.streamed && x != (p.seg.desc, p.seg.word)
          | .none => false
        let ph := s.walking n
        if stray then
          (s.refetchPass n ph.entry ph.pass ph.word ph.rows).modPort n
            (fun p => { p with bobbin := { p.bobbin with playing := 1 } })
        else if s.tagFree n r.item.addr = false then s
        else
          let ahead := match r.entered with
            | .some x => if p.bobbin.playing < r.cursor.count then p.bobbin.ahead ++ [x] else p.bobbin.ahead
            | .none => p.bobbin.ahead
          let crcs := match r.entered with
            | .some (d, w) => if descCrcEn w then p.bobbin.crcs ++ [s.passCrc n r.cursor.count d w] else p.bobbin.crcs
            | .none => p.bobbin.crcs
          (s.setPort n { p with bobbin := { p.bobbin.request (!s.bestEffort n) (Config.memoryBytes s.part) r.item with
            cursor := .some r.cursor, ahead := ahead, crcs := crcs } }).notePeak s.lowReading

/-! ### Data faults -/

/-- A data fault counted on a port's page (R41, R42, R76, R142): DATA_FAULT_CNT, DATA_FAULT_ADDR and, by its number,
the flag. -/
def State.dataFault (s : State) (n addr : Nat) (flagBit : Option Nat) : State :=
  let pg := Page.port n
  let s1 := ((s.count pg 0x108).wr pg 0x10c (lo32 addr)).wr pg 0x110 (word (addr / 2 ^ 32 % 256))
  match flagBit with
  | .some i => s1.flag pg i
  | .none => s1

/-- A granule that met a bridge error (R17): counted as a data fault, with its address where it is a segment's. -/
def State.bridgeFault (s : State) (n : Nat) : Option Nat → State
  | .some a => s.dataFault n a (.some 2)
  | .none => (s.count (Page.port n) 0x108).flag (Page.port n) 2

/-- A granule held for a data error (R142, R143): counted, and SAFE at the next slot where FAULT_SAFE_MAP says so. -/
def State.granuleFault (s : State) (n addr : Nat) : State :=
  let s1 := s.dataFault n addr (.some 2)
  if s1.mapGet Page.stream 0x70 n then
    s1.modPort n (fun p => { p with play := { p.play with
      latches := p.play.latches ++ [{ due := p.slot + 1, what := .safe, hop := 0 }] } })
  else s1

/-! ### The CRC of a stream pass (R42) -/

/-- Granules taken into the CRC in order, as far as they have arrived; one that could not be read leaves a free value in
the register. -/
def PassCrc.absorb (free : Nat) : Nat → PassCrc → PassCrc
  | 0, c => c
  | fuel + 1, c =>
    match c.wait.find? (fun f => f.gran == c.next) with
    | .none => c
    | .some f =>
      let acc := match f.data with
        | .some g => crcStep c.acc (granuleBytes g)
        | .none => (Config.freeTime free).toNat % 2 ^ 32
      PassCrc.absorb free fuel { c with next := c.next + 1, acc := acc, wait := c.wait.filter (fun f => f.gran != c.next) }

/-- A granule of a stream pass that arrived for good, taken into its CRC; after the pass's last granule the CRC is
compared. -/
def State.crcArrive (s : State) (n : Nat) (f : Fetched) : State :=
  let p := s.port n
  match p.bobbin.crcs.find? (fun c => c.pass == f.pass) with
  | .none => s
  | .some c =>
    let c1 := PassCrc.absorb s.free (c.wait.length + 1) { c with wait := c.wait ++ [f] }
    let s0 := if f.data.isNone then s.spend else s
    let others := p.bobbin.crcs.filter (fun x => x.pass != c.pass)
    if c1.next < descLen c1.word then
      s0.setPort n { p with bobbin := { p.bobbin with crcs := others ++ [c1] } }
    else
      let s1 := s0.setPort n { p with bobbin := { p.bobbin with crcs := others } }
      if word (c1.acc ^^^ 0xffffffff) = descCrc c1.word then s1 else s1.dataFault n (descAddr c1.word) (.some 5)

/-! ### Copies and reservations -/

/-- The copies without users that are not pinned freed (R156). -/
def freeCopies (l : List Copy) : List Copy := l.filter (fun c => c.pinned || !c.users.isEmpty)

/-- A port's use of cached copies and its reserved demand released (R156, R162). -/
def State.releaseData (s : State) (n : Nat) : State :=
  let copies := freeCopies (s.copies.map (fun c => { c with users := c.users.filter (· != n) }))
  { s with copies := copies }.modPort n (fun p => { p with demand := 0, shares := [], admitted := false })

end Machine
end Sys2Proof
end

