-- ==== Sys2Proof/Machine/Swatch.lean ====
section
/-! DEFINITION. What other units do to a running swatch: which unit a swatch holds, and its early end (R28, R302). -/

namespace Sys2Proof
namespace Machine

/-- KIND of an item code (R292). -/
def itemKind (item : Nat) : Nat := item / 2 ^ 13 % 8

/-- INDEX of an item code (R292). -/
def itemIndex (item : Nat) : Nat := item % 2 ^ 13

/-- The P-port of a kind-0 item, or the F- or D-port of a kind-2 item. -/
def itemPort (item : Nat) : Option Nat :=
  match itemKind item with
  | 0 => .some (itemIndex item / 3)
  | 2 => .some (itemIndex item)
  | _ => .none

/-- The spare of a kind-1 item. -/
def itemSpare (item : Nat) : Option Nat := if itemKind item = 1 then .some (itemIndex item / 48) else .none

/-- The monitor of a kind-3 item. -/
def itemMonitor (item : Nat) : Option Nat := if itemKind item = 3 then .some (itemIndex item / 2) else .none

/-- The swatch on a CALADC. -/
def State.adc (s : State) (k : Nat) : Option Swatch := if k = 0 then s.cal.adc0 else s.cal.adc1

/-- The swatch on a CALADC replaced. -/
def State.setAdc (s : State) (k : Nat) (x : Option Swatch) : State :=
  if k = 0 then { s with cal := { s.cal with adc0 := x } } else { s with cal := { s.cal with adc1 := x } }

/-- The P-port whose trips concern a swatch (R301): the port's own, or the port that the spare shadows. -/
def itemObeys (item : Nat) : Option Nat :=
  if itemKind item = 1 then .some (16 * (itemIndex item / 48) + itemIndex item % 48 / 3) else itemPort item

/-- A trim item by its code. -/
def State.calItem (s : State) (item : Nat) : CalItem := s.cal.items.get (fun _ => CalItem.fresh) item

/-- A trim item replaced. -/
def State.setCalItem (s : State) (item : Nat) (x : CalItem) : State :=
  { s with cal := { s.cal with items := s.cal.items.set item x } }

/-- CAL_LAST_RESULT loaded and PAGE_FLAGS.RESULT set (R300, R325); after PRECONDITION or ABORTED the item is due again
1 s later (R297). -/
def State.calResult (s : State) (result reason item : Nat) : State :=
  let s1 := (s.wr Page.cal 0x4c (word (result + reason * 16 + item * 2 ^ 16))).flag Page.cal 0
  if result = 2 ∨ result = 3 then
    s1.setCalItem item { s1.calItem item with retry := .some (s.ledger.elapsed + 1) }
  else s1

/-- The step of a group's spare rotation and its item. -/
def State.rotation (s : State) (g : Nat) : Rotation × Nat := s.cal.rotation.get (fun _ => (.idle, 0)) g

/-- A rotation's step replaced. -/
def State.setRotation (s : State) (g : Nat) (r : Rotation) (item : Nat) : State :=
  { s with cal := { s.cal with rotation := if r = .idle then s.cal.rotation.erase g else s.cal.rotation.set g (r, item) } }

/-- What a swatch holds is let go (R300 step 4): a port in SERVICE is PARKED again, a spare in SERVICE shadows and
starts settling again, a frozen output is released. -/
def State.releaseSwatch (s : State) (x : Swatch) : State :=
  let s1 := match itemPort x.item with
    | .some n => s.modPort n (fun p =>
        { p with state := if p.state = .service then .parked else p.state, stale := if x.legacy then false else p.stale })
    | .none => s
  match itemSpare x.item with
  | .some g => s1.modSpare g (fun y => { y with
      service := false, settled := if y.substituted || y.busy.isSome then y.settled else false })
  | .none => s1

/-- A LEGACY_HOLD pass whose ports are all done ends (R310, R311): its ledger entry, and the CAL_MODE written
meanwhile, MODE and SUSPEND. -/
def State.legacyOn (s : State) : State :=
  let busy (x : Option Swatch) : Bool := match x with | .some x => x.legacy | .none => false
  match s.cal.legacy with
  | .some l =>
    if l.queue0.isEmpty && l.queue1.isEmpty && !busy s.cal.adc0 && !busy s.cal.adc1 then
      { s with cal := { s.cal with
          legacy := .none, legacyMode := bit (s.rd Page.cal 0x40) 0, suspend := bit (s.rd Page.cal 0x40) 8 } }.ledgerNote 0x14
        (l.ports :: l.results)
    else s
  | .none => s

/-- A result of a LEGACY_HOLD pass noted for its ledger entry. -/
def State.legacyNote (s : State) (result : Nat) : State :=
  { s with cal := { s.cal with legacy := s.cal.legacy.map (fun l => { l with results := l.results ++ [result] }) } }

/-- A running swatch ends ABORTED with a reason (R302): the switches open, the result is discarded, every target
stays. A legacy swatch that has been judged is only released. -/
def State.abortSwatch (s : State) (k reason : Nat) : State :=
  match s.adc k with
  | .none => s
  | .some x =>
    let s1 := (s.setAdc k .none).releaseSwatch x
    if x.done then s1.legacyOn
    else if x.legacy then ((s1.calResult 3 reason x.item).legacyNote 3).legacyOn
    else s1.calResult 3 reason x.item

/-- The swatches that concern a unit, aborted. -/
def State.abortWhere (s : State) (f : Swatch → Bool) (reason : Nat) : State :=
  [0, 1].foldl (fun s k => match s.adc k with
    | .some x => if f x then s.abortSwatch k reason else s
    | .none => s) s

/-- The swatches of a port aborted. -/
def State.abortPort (s : State) (n reason : Nat) : State := s.abortWhere (fun x => itemPort x.item == .some n) reason

/-- The swatches of a spare aborted. -/
def State.abortSpare (s : State) (g reason : Nat) : State := s.abortWhere (fun x => itemSpare x.item == .some g) reason

/-- A REASON that R302 gives no code for: a free value. -/
def State.freeReason (s : State) : Nat := (Config.freeTime s.free).toNat % 16

/-- A port leaves PARKED, or its driver is enabled: a delay swatch of it has lost its opportunity and ends ABORTED (R296,
R301), with a REASON that R302 does not give. -/
def State.endDelaySwatch (s : State) (n : Nat) : State :=
  let is (x : Swatch) : Bool := itemPort x.item == .some n && x.kind == .delay
  if [s.cal.adc0, s.cal.adc1].any (fun x => match x with | .some x => is x | .none => false) then
    (s.abortWhere is s.freeReason).spend
  else s

/-- Every swatch aborted. -/
def State.abortAll (s : State) (reason : Nat) : State := s.abortWhere (fun _ => true) reason

end Machine
end Sys2Proof
end

