-- ==== Sys2Proof/Machine/Sequence.lean ====
section
/-! DEFINITION. What units that walk a sequence do at their slot boundaries: parking (R49, R193, R458), transfers and
held fields (R174, R452-R454), which moment comes next at a unit's boundary, and what each moment does to the
playhead and its players (R48-R76, R84, R87). -/

namespace Sys2Proof
namespace Machine

/-! ### Units -/

/-- The ports that a unit moves: itself, or a group's members (R78). -/
def State.players (s : State) : SeqUnit → List Nat
  | .port n => [n]
  | .group g => (s.group g).members

/-- The actual state of a unit. -/
def State.unitState (s : State) : SeqUnit → UState
  | .port n => (s.port n).state
  | .group g => (s.group g).state

/-- The slot that a unit is in. -/
def State.unitSlot (s : State) : SeqUnit → Nat
  | .port n => (s.port n).slot
  | .group g => (s.group g).slot

/-- The playhead of a unit. -/
def State.playhead (s : State) : SeqUnit → Playhead
  | .port n => (s.port n).play
  | .group g => (s.group g).play

/-- The playhead of a unit replaced. -/
def State.setPlayhead (s : State) (u : SeqUnit) (ph : Playhead) : State :=
  match u with
  | .port n => s.modPort n (fun p => { p with play := ph })
  | .group g => s.modGroup g (fun x => { x with play := ph })

/-- The playhead of a unit changed by a function. -/
def State.modPlayhead (s : State) (u : SeqUnit) (f : Playhead → Playhead) : State :=
  s.setPlayhead u (f (s.playhead u))

/-- The port that stands for a unit: itself, or the group's leader. -/
def State.unitPort (s : State) : SeqUnit → Nat
  | .port n => n
  | .group g => (s.group g).leader.getD 0

/-- The port type of a unit. -/
def State.unitType (s : State) (u : SeqUnit) : PType := Config.portType (s.unitPort u)

/-- The active divisor of a unit: of a group, the one its ARM took from the leader (R77, R174). -/
def State.unitDiv (s : State) : SeqUnit → Nat
  | .port n => (s.port n).div
  | .group g => (s.group g).div

/-- The action distance Ka of a unit (R33). -/
def State.unitKa (s : State) (u : SeqUnit) : Nat := Config.ka (s.unitType u)

/-- A command latched for a unit in its current slot, effective at t + Ka (R35, R36). -/
def State.latch (s : State) (u : SeqUnit) (what : Latched) (hop : Nat) : State :=
  let due := s.unitSlot u + s.unitKa u
  s.modPlayhead u (fun ph => { ph with latches := ph.latches ++ [{ due := due, what := what, hop := hop }] })

/-! ### Transfers (R174, R449-R456) -/

/-- A 48-bit shadow pair. -/
def State.pair48 (s : State) (n off : Nat) : Nat :=
  (s.reg (portReg n off)).toNat + 2 ^ 32 * bits (s.reg (portReg n (off + 4))) 0 16

/-- What the pending NCO fields carry (R106, R107). -/
def State.ncoItems (s : State) (n : Nat) : NcoItems :=
  let sh := (s.port n).shadow
  { freq := if bit sh 8 then .some (s.pair48 n 0x70, s.pair48 n 0x78) else .none
    phase := if bit sh 9 then .some (s.pair48 n 0x88) else .none
    amp := if bit sh 10 then .some (s.reg (portReg n 0x94)) else .none
    offset := if bit sh 11 then .some (s.reg (portReg n 0x98)) else .none }

/-- PORT_MODE.MODE, PULSE and RANGE, and PORT_DIV, taken from the shadow where the mask says so (R174): a changed
divisor moves the slot grid (DEDUCED, log entry 28), a changed ratio term is counted: once for MODE and DIV of one boundary,
and once more for the pending NCO group that it takes (R120; DEDUCED, log entry 128). -/
def State.takeHeld (s : State) (n : Nat) (mask : Word) : State :=
  let p := s.port n
  let t := Config.portType n
  let sh := s.reg (portReg n 0x44)
  let mode := if bit mask 0 then (sh &&& 0x0fff) ||| (p.mode &&& 0xf000) else p.mode
  let div := if bit mask 2 then (s.reg (portReg n 0x48)).toNat else p.div
  let slot := if div = p.div then p.slot
    else p.slot * Config.granuleCycles t p.div / Config.granuleCycles t div
  let shift (due : Nat) : Nat := slot + (due - p.slot)
  let p1 : Port := { p with
    mode := mode, div := div, slot := slot
    shadow := p.shadow &&& ~~~(mask &&& 5), held := p.held &&& ~~~(mask &&& 5)
    transfers := p.transfers.map (fun x => (shift x.1, x.2))
    play := { p.play with latches := p.play.latches.map (fun l => { l with due := shift l.due }) } }
  let changed := div != p.div || p1.osc.runN (p1.clockMode t) != p.osc.runN (p.clockMode t)
  s.setPort n { p1 with osc := { p1.osc with seq := if changed then (p.osc.seq + 1) % 65536 else p.osc.seq } }

/-- The fields that R174 held, taken at a boundary at which the port is PARKED or OFF. -/
def State.applyHeld (s : State) (n : Nat) : State :=
  if (s.port n).held = 0 then s else s.takeHeld n (s.port n).held

/-- The held fields taken at a slot boundary at which the port is PARKED or OFF (R174). -/
def State.takeHeldNow (s : State) (n : Nat) : State :=
  if (s.port n).state = .parked ∨ (s.port n).state = .off then s.applyHeld n else s

/-- A port that walks or is ARMED or PAUSED holds its output where it does not play (R87). -/
def State.holdsOutput (s : State) (n : Nat) : Bool :=
  match (s.port n).state with
  | .armed | .paused | .run => true
  | _ => false

/-- A transfer at its effect boundary (R452-R453): the pending NCO group; with every field, MARKER_ROUTE and
PORT_SEQ_START as well; MODE and DIV are held for the boundary at which the port is PARKED or OFF, this one or a later one
(R174). -/
def State.transfer (s : State) (n : Nat) (ncoOnly : Bool) : State :=
  let p := s.port n
  let t := Config.portType n
  let items := s.ncoItems n
  let nco := p.shadow &&& 0xf00
  let s1 :=
    if nco = 0 then s
    else
      let pre := match p.merge with | .some (o, _) => o | .none => p.osc
      let all := match p.merge with | .some (_, x) => x.over items | .none => items
      s.setPort n { p with
        osc := pre.apply (p.clockMode t) all, merge := .some (pre, all), shadow := p.shadow &&& ~~~(0xf00 : Word) }
  if ncoOnly then s1
  else
    let q := s1.port n
    let route := if bit q.shadow 1 then (q.mode &&& 0x0fff) ||| (s1.reg (portReg n 0x44) &&& 0xf000) else q.mode
    let start := if bit q.shadow 3 then bits (s1.reg (portReg n 0x4c)) 0 18 else q.seqStart
    let heldNow := q.shadow &&& 5
    s1.setPort n { q with
      mode := route, seqStart := start, shadow := q.shadow &&& ~~~(0xa : Word), held := q.held ||| heldNow }

/-- The latched transfers of a port carried out at once (R454, park at once). -/
def State.transferNow (s : State) (n : Nat) : State :=
  let l := (s.port n).transfers
  (l.foldl (fun s x => s.transfer n x.2) s).modPort n (fun p => { p with transfers := [], merge := .none })

/-! ### Parking -/

/-- The LEN of the whole copies that a port uses, by descriptor (R47). -/
def State.copyLens (s : State) (n : Nat) : Tab Nat :=
  (s.copies.filter (fun c => c.whole && c.users.contains n)).foldl (fun t c => t.set c.desc c.len) []

/-- A port leaves the stitch group that accepted it (R80); a group without members is parked. Of a leader that leaves
alone, the group keeps the lengths that its copies gave its passes (log entry 30). -/
def State.leaveGroup (s : State) (n : Nat) : State :=
  match (s.port n).group with
  | .none => s
  | .some g =>
    let lens := if (s.group g).leader = .some n then s.copyLens n else (s.group g).lens
    let s1 := (s.modPort n (fun p => { p with group := .none })).modGroup g
      (fun x => { x with members := x.members.filter (· != n), lens := lens })
    if (s1.group g).members.isEmpty then
      s1.modGroup g (fun x => { x with state := .parked, requested := .parked, deliver := .none
                                       play := { Playhead.idle with rows := x.play.rows } })
    else s1

/-- The latches that outlive a park: state commands and requests, judged at their effect slot (R61, R493). -/
def keptLatches (slot : Nat) (l : List Latch) : List Latch :=
  l.filter (fun x => match x.what with
    | .start | .stop | .pause | .trip | .safe => true
    | .request _ => decide (slot < x.due)
    | _ => false)

/-- The register request latched for a slot that has come, to be judged against the state the unit then has (R493). -/
def requestDue (slot : Nat) (l : List Latch) : Option UState :=
  (l.filterMap (fun x => match x.what with
    | .request st => if x.due ≤ slot then .some st else .none
    | _ => .none)).getLast?

/-- A port brought to PARKED or SAFE (R84, R193): its playhead idle, pending events and bobbin discarded (R56, R151),
cached copies and reservations released (R156, R162), MS cleared (R68). A request judged at this very slot is carried out
against the state that the port takes (R493). -/
def State.toParked (s : State) (n : Nat) (st : UState) : State :=
  let s1 := (s.leaveGroup n).releaseData n
  s1.modPort n (fun p =>
    let again := if st = .parked then requestDue p.slot p.play.latches else .none
    { p with
      state := st, requested := again.getD st, deliver := again, ms := 0, seg := Seg.none, bobbin := p.bobbin.discard
      underrun := false, pulse := .none, restart := false
      play := { Playhead.idle with
        rows := p.play.rows, hop := p.play.hop, latches := keptLatches p.slot p.play.latches } })

/-- How a park drives the output (R49, R192, R193). -/
inductive ParkKind where
  | ramped
  | stepped
  | held
deriving DecidableEq, Repr

/-- A port parks at a boundary, as a STOP, a HALT, an underrun or a trip orders it; the fields that R174 held apply. -/
def State.parkAt (s : State) (n : Nat) (kind : ParkKind) : State :=
  let t := Config.portType n
  let r := bits (s.port n).park 28 3
  ((s.toParked n .parked).modPort n (fun p => { p with
    holdPark := kind == .held
    ramp := if t == .p && r != 0 && kind == .ramped then .some (p.last.value, 0, 2 ^ (r - 1)) else .none })).applyHeld n

/-- The output stepped to the parked output at once (R193); a limited level begins a run (R178). -/
def State.stepOutput (s : State) (n : Nat) : State :=
  let p := { s.port n with holdPark := false, ramp := .none }
  let s1 := s.setPort n p
  let x : Sample := { value := (s1.parkValue n).1.headD 0, marks := 0, edges := [] }
  (s1.setPort n { p with out := [x], last := x }).settleOver n

/-! ### Late events and cut passes (R55, R58, R72) -/

/-- A late event counted on the page of the port that stands for the unit (R55, R79). -/
def State.countLate (s : State) (u : SeqUnit) : State :=
  let pg := Page.port (s.unitPort u)
  (s.count pg 0x104).flag pg 1

/-- The slot's acting jump event is settled: once no lower hook can take its place (R58), a late one is counted (R55,
DEDUCED, log entry 26). -/
def State.settleJudged (s : State) (u : SeqUnit) : State :=
  if (s.playhead u).lateNow then (s.countLate u).modPlayhead u (fun ph => { ph with judged := .none }) else s

/-- A latch of a unit that falls due at the coming boundary and is of a kind. -/
def Playhead.dueAt (ph : Playhead) (slot : Nat) (f : Latched → Bool) : Option Latch :=
  ph.latches.find? (fun l => l.due == slot && f l.what)

/-- A recovery is on its way: the port holds (R74). -/
def Playhead.recovering (ph : Playhead) : Bool := ph.latches.any (fun l => l.what == .recover)

/-- The granule played is the last of its pass (R72): its index is the last, or a STOP, or a jump that no PAUSE forestalls
(R61), takes effect at the next boundary. -/
def Playhead.lastGranule (ph : Playhead) (slot : Nat) : Bool :=
  ph.len ≤ ph.gran + 1 || (ph.dueAt (slot + 1) (· == .stop)).isSome ||
    ((ph.dueAt (slot + 1) (fun x => match x with | .jump .. => true | _ => false)).isSome &&
      (ph.dueAt (slot + 1) (· == .pause)).isNone)

/-- A port stands in a pass whose SEG_END has not fired (R72). -/
def State.openPass (s : State) (n : Nat) : Bool :=
  let ph := s.walking n
  ((s.port n).state == .run || (s.port n).state == .paused) && ph.activity == .segment && !ph.recovering &&
    !ph.lastGranule (s.port n).slot &&
    ((s.port n).play.dueAt ((s.port n).slot + 1) (fun x => x == .trip || x == .safe)).isNone

/-- A cut that the slot could not foresee (a trip, SAFE, a park at once) ends a port's pass: SEG_END fires at the cut, in the
slot of the last granule played (R72, DEDUCED, log entry 27). -/
def State.cutPass (s : State) (n : Nat) : State :=
  if s.openPass n then s.emit (portSource n 5) (s.walking n).hop else s

/-- A port parked at once, independent of the slot grid (R193, R454): latched transfers take effect at that moment,
the output steps, the marker outputs fall, a pulse is cut. A port that is OFF, absent or SAFE stays as it is. -/
def State.parkAtOnce (s : State) (n : Nat) : State :=
  match (s.port n).state with
  | .off | .absent | .safe => s
  | _ => ((((s.settleJudged (.port n)).cutPass n).transferNow n).toParked n .parked).stepOutput n

/-! ### The next moment at a unit's boundary -/

/-- What comes next at the boundary that a unit is about to meet. `blocked`: a member's own moment comes first, or the
unit has no boundary. -/
inductive Moment where
  | blocked
  | transfer
  | trip
  | safe
  | stop
  | pause
  | start
  | jump
  | recover
  | release
  | timeout
  | gapEnd
  | selvedgeEnd
  | commit
  | passEnd
  | missing
  | ordinary
deriving DecidableEq, Repr

/-- A player of the unit misses its granule i (R73). -/
def State.unitMisses (s : State) (u : SeqUnit) (i : Nat) : Bool := (s.players u).any (fun n => (s.port n).misses i)

/-- The moment at the boundary of a running playhead, the state commands aside. -/
def State.runMoment (s : State) (u : SeqUnit) : Moment :=
  let ph := s.playhead u
  match ph.activity with
  | .idle => .ordinary
  | .selvedge => if ph.gran + 1 < ph.len then .ordinary else .selvedgeEnd
  | .gap => if ph.gran + 1 < ph.len then .ordinary else .gapEnd
  | .wait => if ph.len ≠ 0 ∧ ph.len ≤ ph.gran + 1 then .timeout else .ordinary
  | .segment =>
    if ph.recovering then .ordinary
    else if ph.plan.isNone ∧ ph.gran + 1 = ph.len - s.unitKa u then .commit
    else if ph.len ≤ ph.gran + 1 then .passEnd
    else if s.unitMisses u (ph.gran + 1) then .missing
    else .ordinary

/-- A port's own moments, a stitch group apart: the transfers, trips and SAFE that concern it alone. -/
def State.ownMoment (s : State) (n : Nat) : Option Moment :=
  let p := s.port n
  let next := p.slot + 1
  if p.transfers.any (fun x => x.1 == next) then .some .transfer
  else if (p.play.dueAt next (· == .trip)).isSome then .some .trip
  else if (p.play.dueAt next (· == .safe)).isSome then .some .safe
  else .none

/-- The moment that comes next at a unit's boundary (R61): transfers first, then trips, then STOP, PAUSE, START,
jumps, then what the playhead's position dictates. -/
def State.moment (s : State) (u : SeqUnit) : Moment :=
  let st := s.unitState u
  let ph := s.playhead u
  let next := s.unitSlot u + 1
  let own : Option Moment := if s.clock.gated then .some .blocked else match u with
    | .port n => if st = .absent then .some .blocked else s.ownMoment n
    | .group g =>
      let x := s.group g
      if x.state = .ready ∨ x.state = .armed ∨ x.state = .run ∨ x.state = .paused then
        if x.members.any (fun n => (s.ownMoment n).isSome) then .some .blocked else .none
      else .some .blocked
  let member : Bool := match u with
    | .port n => (s.port n).group.isSome
    | .group _ => false
  match own with
  | .some m => m
  | .none =>
    if member then .blocked
    else if (ph.dueAt next (· == .stop)).isSome ∧ (st = .armed ∨ st = .run ∨ st = .paused) then .stop
    else if (ph.dueAt next (· == .pause)).isSome ∧ st = .run then .pause
    else if (ph.dueAt next (· == .start)).isSome ∧ (st = .armed ∨ st = .paused) then .start
    else if st ≠ .run then .ordinary
    else if (ph.dueAt next (fun x => match x with | .jump .. => true | _ => false)).isSome then .jump
    else if (ph.dueAt next (· == .recover)).isSome then .recover
    else if (ph.dueAt next (· == .release)).isSome ∧ ph.activity = .wait then .release
    else s.runMoment u

/-! ### Slots -/

/-- A state that START, PAUSE and STOP act on (R84). -/
def UState.walks (st : UState) : Bool := st == .armed || st == .run || st == .paused

/-- The requested state of a unit of which no request and no state command is on its way is the actual one (R85), and
so is that of its players. -/
def State.settleRequest (s : State) (u : SeqUnit) : State :=
  if (s.playhead u).latches.any (fun l => match l.what with
      | .start | .pause | .stop => true
      | .request _ => decide (s.unitSlot u < l.due)
      | _ => false) then s
  else
    let s1 := (s.players u).foldl (fun s n => s.modPort n (fun p =>
      if p.deliver.isSome || !p.state.walks then p else { p with requested := p.state })) s
    match u with
    | .port _ => s1
    | .group g => s1.modGroup g (fun x => if x.deliver.isSome || !x.state.walks then x else { x with requested := x.state })

/-- The latches that go on into a slot: those of later slots, and a request judged in this one, for which a park of the
same slot looks (R493). A recovery of a paused port waits (R87); a release that falls in its pause is dropped, as a jump is
(R61; DEDUCED, log entry 126). -/
def latchesInto (slot : Nat) (frozen : Bool) (l : List Latch) : List Latch :=
  (l.map (fun x => if frozen && x.what == .recover then { x with due := x.due + 1 } else x)).filter (fun x =>
    decide (slot < x.due) || (match x.what with | .request _ => decide (slot ≤ x.due) | _ => false))

/-- PORT_PARK and D_SWING taken up at a slot boundary (R186, R192): a LEVEL changed while the port is PARKED steps, and ends
a ramp or the hold of a HALT. -/
def Port.takeLevels (p : Port) (t : PType) (park swing : Word) : Port :=
  let moved := p.state == .parked && parkLevel t park != parkLevel t p.park
  { p with park := park, swing := bits swing 0 4, holdPark := p.holdPark && !moved
           ramp := if moved then .none else p.ramp }

/-- A hand-over or return completed (R200): counted on the spare, flagged on both pages. -/
def State.handedOver (s : State) (g n : Nat) : State :=
  ((s.flag (Page.port n) 12).count (Page.spare g) 0x4c).flag (Page.spare g) 1

/-- A port whose spare has failed goes back to its own stage at its slot boundary (R204); it is counted and flagged as a
return of R200 is (DEDUCED, log entry 130). -/
def State.spareReturns (s : State) (n : Nat) : State :=
  let x := s.spare (n / 16)
  let isP := match Config.portType n with | .p => true | _ => false
  if isP && x.returning && x.serves == .some n then
    (s.setSpare (n / 16) { x with substituted := false, serves := .none, busy := .none, returning := false }).handedOver
      (n / 16) n
  else s

/-- The unit and its players pass into their next slot: the slot's acting jump event is settled, what fell due at this
boundary is dropped once the moment has acted. `frozen`: the unit is paused. -/
def State.passSlot (s : State) (u : SeqUnit) (frozen : Bool) : State :=
  let s0 := s.settleJudged u
  let slot := s0.unitSlot u + 1
  let on (ph : Playhead) : Playhead := { ph with judged := .none, latches := latchesInto slot frozen ph.latches }
  let s1 := (s0.players u).foldl (fun s n => (s.modPort n (fun p =>
    { p with slot := slot, play := on p.play }.takeLevels (Config.portType n)
      (s.reg (portReg n 0x54)) (s.reg (portReg n 0xb8)))).spareReturns n) s0
  let s2 := match u with
    | .port _ => s1
    | .group g => s1.modGroup g (fun x => { x with slot := slot, play := on x.play })
  if (s0.playhead u).latches.any (fun l => decide (l.due ≤ slot)) then s2.settleRequest u else s2

/-- The boundary's transfers have been merged with what acts there: the next boundary begins anew (R109). -/
def State.endMerge (s : State) (u : SeqUnit) : State :=
  (s.players u).foldl (fun s n => s.modPort n (fun p => { p with merge := .none })) s

/-- The emissions of a unit's players in one slot: port event codes with the hop count of the unit's cause (R252). -/
def portEmissions (hop : Nat) (l : List (Nat × Nat)) : List Emission :=
  l.map (fun x => { code := portSource x.1 x.2, hop := hop })

/-- Nothing goes wrong at a boundary. -/
def SlotErrors.none : SlotErrors := { entries := [], desc := false, bridge := [], sram := [] }

/-- State and port events (port, event index 0-7) gathered over players. -/
abbrev Played := State × List (Nat × Nat)

/-- An event added, once (R72). -/
def addEvent (l : List (Nat × Nat)) (e : Nat × Nat) : List (Nat × Nat) := if l.contains e then l else l ++ [e]

/-- A content played by one port; `lost`: its granule met a bridge error (R17). -/
def Played.slot (r : Played) (n : Nat) (c : Content) (acts : Acts) (lost : Bool) : Played :=
  let x := r.1.playSlot n c acts lost
  (x.1, r.2 ++ x.2.map (fun k => (n, k)))

/-- A slot without segment data played by one port: a bridge error counts without an address (R17). -/
def Played.rest (r : Played) (n : Nat) (c : Content) (acts : Acts) (errs : SlotErrors) : Played :=
  let lost := errs.bridge.contains n
  Played.slot (if lost then (r.1.bridgeFault n .none, r.2) else r) n c acts lost

/-- A player whose slot is no missing one: its underrun episode is over (R73). -/
def State.episodeOver (s : State) (n : Nat) : State := s.modPort n (fun p => { p with underrun := false })

/-- An underrun at a port in granule i of its pass (R73, R74): the episode counted when it begins, then the policy; a pass
that it cuts ends (R72). True when the port parks. A frozen output counts none (R310), nor does a port held off by a rail
(R435). -/
def Played.underrun (r : Played) (n i : Nat) (member : Bool) : Played × Bool :=
  let s := r.1
  let pg := Page.port n
  let p := s.port n
  let policy := bits (s.reg (portReg n 0x58)) 0 2
  if p.stale || s.railHolds n then (r, false)
  else
    let r1 : Played := if p.underrun then r
      else (((s.count pg 0x100).flag pg 0).modPort n (fun p => { p with underrun := true }), r.2 ++ [(n, 7)])
    let cut := if i = 0 then r1.2 else addEvent r1.2 (n, 5)
    if policy = 1 then ((r1.1.parkAt n .ramped, cut), true)
    else if policy = 2 ∧ member = false ∧ p.play.recovering = false then
      ((r1.1.modPort n (fun p => { p with play := { p.play with
        begun := p.play.begun && i == 0 && p.play.pass == 1
        latches := p.play.latches ++ [{ due := p.slot + Config.ka (Config.portType n), what := .recover, hop := p.play.hop }] } }), cut), false)
    else (r1, false)

/-- The end actions of an entry that an underrun cuts in granule i, in the first missing slot (R70): under RECOVER, or as the
port parks. -/
def State.cutActions (s : State) (n i : Nat) (parks : Bool) (before : Playhead) : List MarkAction :=
  if before.begun && !(i == 0 && before.pass == 1) && (parks || ((s.walking n).recovering && !before.recovering)) then
    [endActions before.word]
  else []

/-- The marker records of a pass's granule i, by sample (R69). -/
def Seg.acts (g : Seg) (i : Nat) : List (Nat × MarkAction) :=
  (g.marks.filter (fun m => m.gran == i)).map
    (fun m => (m.sample, ({ set := m.set, clr := m.clr, pulse := m.pulse } : MarkAction)))

/-- Granule i of the pass played by one port (R38-R41, R73, R76, R142-R145): from the cache, from the bobbin, padding,
or a hold. Padding repeats the last sample of the data; where the data's last granule was itself held, that of the last
granule that played, or 0 (DESIGN CHOICE, log entry 107). -/
def Played.granule (r : Played) (n i : Nat) (acts : Acts) (errs : SlotErrors) (member : Bool) : Played :=
  let p := r.1.port n
  let t := Config.portType n
  let addr := r.1.memAddr (dataAddr t p.seg.word i)
  let lost := errs.bridge.contains n
  let s := if lost then r.1.bridgeFault n (.some addr) else r.1
  let a : Acts := { acts with here := acts.here ++ p.seg.acts i }
  let held (s : State) : Played := Played.slot (s.episodeOver n, r.2) n .hold a lost
  let play (s : State) (g : Granule) : Played :=
    if errs.sram.contains n then held ((s.granuleFault n addr).fault (Page.port n) 7)
    else
      let raw := rawSamples t g
      Played.slot ((s.episodeOver n).modPort n (fun p => { p with seg := { p.seg with tail := raw.getLast?.getD 0 } }), r.2) n
        (.raw raw) a lost
  if p.seg.mismatch then held (if i = 0 then s.dataFault n (descAddr p.seg.word) (.some 2) else s)
  else if p.seg.data ≤ i then
    Played.slot (s.episodeOver n, r.2) n (.raw (List.replicate (Config.samplesPerGranule t) p.seg.tail)) a lost
  else if h : i < p.seg.cached.length then
    match p.seg.cached[i] with
    | .some g => play s g
    | .none => held (s.granuleFault n addr)
  else match p.bobbin.has p.bobbin.playing i with
    | .some f =>
      let s1 := s.modPort n (fun p => { p with bobbin := { p.bobbin with
        present := p.bobbin.present.filter (fun f => !(f.pass == p.bobbin.playing && f.gran == i)) } })
      match f.data with
      | .some g => play s1 g
      | .none => held (s1.granuleFault n f.addr)
    | .none =>
      if p.bobbin.refetching p.bobbin.playing i then held (s.granuleFault n addr)
      else
        let before := s.walking n
        let x := Played.underrun (s, r.2) n i member
        let ends := x.1.1.cutActions n i x.2 before
        Played.slot x.1 n (if x.2 then .park else .hold)
          (if x.2 then { ends := ends, here := [] } else { a with ends := a.ends ++ ends }) lost

/-- A port's pass ends with the granule it has just played (R72): the last one, or SAFE takes the port at the next slot. -/
def State.endsPass (s : State) (n : Nat) (last : Bool) : Bool :=
  (s.port n).state == .run && (last || ((s.port n).play.dueAt ((s.port n).slot + 1) (· == .safe)).isSome)

/-- The granule that the playhead stands at played by every player of the unit, with SEG_START and SEG_END (R72). -/
def State.playGranule (s : State) (u : SeqUnit) (acts : Acts) (errs : SlotErrors) (evs : List (Nat × Nat)) : Played :=
  let ph := s.playhead u
  let member := match u with | .group _ => true | .port _ => false
  let last := ph.lastGranule (s.unitSlot u)
  let ns := s.players u
  let r := ns.foldl (fun (r : Played) n => r.granule n ph.gran acts errs member) (s, evs)
  ns.foldl (fun (q : Played) n =>
    let l := if ph.gran = 0 then q.2 ++ [(n, 4)] else q.2
    (q.1, if q.1.endsPass n last then addEvent l (n, 5) else l)) r

/-- One content played by every player of the unit: no slot is a missing one but those of a recovery's hold (R73). -/
def State.playAll (s : State) (u : SeqUnit) (c : Content) (acts : Acts) (errs : SlotErrors) (evs : List (Nat × Nat)) :
    Played :=
  (s.players u).foldl (fun (r : Played) n =>
    Played.rest (if (r.1.walking n).recovering then r else (r.1.episodeOver n, r.2)) n c acts errs) (s, evs)

/-- The events of a slot emitted together. -/
def Played.done (r : Played) (hop : Nat) : State := r.1.emitAll (portEmissions hop r.2)

/-! ### Entering what follows -/

/-- The request of a group judged at the slot in which it parks, or on its way then, is carried out against PARKED (R493). -/
def groupRequest (l : List Latch) : Option UState :=
  (l.filterMap (fun x => match x.what with | .request st => .some st | _ => .none)).getLast?

/-- A unit parks at the boundary it has reached: every player, and the group itself (R49, R84). -/
def State.parkUnit (s : State) (u : SeqUnit) (kind : Nat → ParkKind) : State :=
  let ns := s.players u
  let again := groupRequest (s.playhead u).latches
  let s1 := ns.foldl (fun s n => s.parkAt n (kind n)) s
  match u with
  | .port _ => s1
  | .group g => s1.modGroup g (fun x => { x with
      state := .parked, requested := again.getD .parked, deliver := again, members := []
      play := { Playhead.idle with rows := x.play.rows, hop := x.play.hop } })

/-- A pass begins at the slot the unit has reached (R47, R68, R70): every player takes up its segment, and granule 0
plays. `first`: the first pass of the entry, which applies the start actions. Candidates latched in the selvedge before
granule 0 stand (R54, R60). -/
def State.beginPass (s : State) (u : SeqUnit) (entry pass : Nat) (word : BitVec 256) (acts : Acts) (errs : SlotErrors)
    (evs : List (Nat × Nat)) : Played :=
  let ns := s.players u
  let rows := (s.playhead u).rows
  let len := s.passLen (s.unitPort u) word
  let s1 := ns.foldl (fun s n =>
    let seg := s.beginSeg n word errs.desc
    let s0 := if seg.streamed && !(s.port n).bobbin.fetchesNext seg.desc seg.word then s.refetchPass n entry pass word rows
      else s
    s0.modPort n (fun p => { p with
      seg := seg
      bobbin := if seg.streamed then { p.bobbin with
          playing := p.bobbin.playing + 1
          present := p.bobbin.present.filter (fun f => decide (p.bobbin.playing < f.pass))
          ahead := p.bobbin.ahead.drop 1 } else p.bobbin })) s
  let streamed := ns.any (fun n => (s1.port n).seg.streamed)
  let s2 := s1.modPlayhead u (fun ph => { ph with
    entry := entry, word := word, activity := .segment, pass := pass, gran := 0, len := len, plan := .none, begun := true
    trans := if streamed then .none else ph.trans })
  s2.playGranule u { acts with here := acts.here ++ (if pass = 1 then [(0, startActions word)] else []) } errs evs

/-- The number of slots of the selvedge that a PLAY needs before its first granule (R62, R63), 0 when none: S less the
slots since the transition, where any player streams its first granule. -/
def State.selvedgeNeeded (s : State) (u : SeqUnit) (word : BitVec 256) (bad : Bool) : Nat :=
  match (s.playhead u).trans with
  | .none => 0
  | .some t0 =>
    if (s.players u).any (fun n => (s.beginSeg n word bad).streams 0) then
      Config.selvedge (s.unitType u) (s.unitDiv u) - (s.unitSlot u - t0)
    else 0

/-- GAP length in slots (R67). -/
def gapSlots (t : PType) (e : BitVec 256) : Nat := max 1 (Config.ceilDiv (field e 32 32) (Config.samplesPerGranule t))

/-- What a GAP puts out (R67). -/
def gapContent (e : BitVec 256) : Content := if field e 5 1 = 1 then .level (field e 64 32) else .hold

/-- What a plan fixed begins at the slot that the unit has reached: a pass, a selvedge, a WAIT, a GAP, or a HALT. -/
def State.follow (s : State) (u : SeqUnit) (f : Follow) (acts : Acts) (errs : SlotErrors) (evs : List (Nat × Nat)) : Played :=
  let pgs := match u with | .port n => [(Page.port n, 4)] | .group g => [(Page.group g, 1)]
  match f with
  | .play entry pass word =>
    let need := s.selvedgeNeeded u word errs.desc
    if need = 0 then s.beginPass u entry pass word acts errs evs
    else
      let s1 := (s.players u).foldl (fun s n => (s.count (Page.port n) 0x118).flag (Page.port n) 3) s
      let s2 := s1.modPlayhead u (fun ph => { ph with
        entry := entry, word := word, activity := .selvedge, pass := pass, gran := 0, len := need, cand := 0, plan := .none
        begun := false, trans := .none })
      s2.playAll u .hold acts errs evs
  | .wait entry word =>
    (s.modPlayhead u (fun ph => { ph with
      entry := entry, word := word, activity := .wait, pass := 0, gran := 0, len := waitTimeout word, cand := 0
      pend := 0, plan := .none, begun := false })).playAll u .hold acts errs evs
  | .gap entry word =>
    (s.modPlayhead u (fun ph => { ph with
      entry := entry, word := word, activity := .gap, pass := 0, gran := 0, len := gapSlots (s.unitType u) word, cand := 0
      plan := .none, begun := false })).playAll u (gapContent word) acts errs evs
  | .halt =>
    let s1 := pgs.foldl (fun s x => s.flag x.1 x.2) s
    let kind (n : Nat) : ParkKind := if bit (s.port n).park 31 then .held else .ramped
    let ns := s.players u
    ns.foldl (fun (r : Played) n => r.rest n .park acts errs) (s1.parkUnit u kind, evs)

/-- The first PLAY that a resolution leads to on the default path: its entry, pass, words and row counters (R52). -/
def State.followPlay (s : State) (f : Follow) (rows : Vector (BitVec 16) 4) :
    Option (Nat × Nat × BitVec 256 × Vector (BitVec 16) 4) :=
  match f with
  | .play e p x => .some (e, p, x, rows)
  | .wait e _ | .gap e _ => (s.defaultPlay fetchReach (e + 1) rows).map (fun x => (x.1, 1, x.2.1, x.2.2))
  | .halt => .none

/-- The fetch engine sent to the target of a transition off the default path (R62, R151). -/
def State.redirect (s : State) (u : SeqUnit) (f : Follow) (rows : Vector (BitVec 16) 4) : State :=
  (s.players u).foldl (fun s n => s.modPort n (fun p => { p with
    bobbin := match s.followPlay f rows with
      | .some (e, k, x, r) => p.bobbin.startAt e k x r
      | .none => p.bobbin.discard })) s

/-- The fetch engine set on the default path that a CLR changed beyond the PLAY that comes next (R52, R59). -/
def State.retrack (s : State) (u : SeqUnit) (f : Follow) (rows : Vector (BitVec 16) 4) : State :=
  match s.followPlay f rows with
  | .none => s
  | .some (e, _, x, r) =>
    (s.players u).foldl (fun s n =>
      let d := s.playedDesc n x
      s.modPort n (fun p => { p with bobbin := p.bobbin.retrack e x r (d, s.playedWord n d) })) s

/-- The end actions of the entry that ends at this boundary (R70). -/
def State.endingActions (s : State) (u : SeqUnit) (ends : Bool) : Acts :=
  let ph := s.playhead u
  { ends := if ends && ph.begun && ph.activity == .segment then [endActions ph.word] else [], here := [] }

/-- A plan carried out at the boundary (R70, R106, R252): the slot passed, the chain's NCO_SETs merged, LOOP_END
raised, then what follows. `hop`: the emission hop count of a cause that takes effect here. A release that has not acted
ends with its WAIT (R65). -/
def State.carryOut (s : State) (u : SeqUnit) (pl : Plan) (rows : Vector (BitVec 16) 4) (hop : Option Nat)
    (errs : SlotErrors) : State :=
  let acts := s.endingActions u pl.entryEnds
  let s1 := s.passSlot u false
  let slot := s1.unitSlot u
  let s2 := s1.modPlayhead u (fun ph => { ph with
    rows := rows, hop := hop.getD ph.hop, trans := if pl.offPath then .some slot else ph.trans
    latches := ph.latches.filter (fun l => l.what != .release) })
  let s3 := if pl.offPath then s2.redirect u pl.follow rows
    else if pl.retrack then s2.retrack u pl.follow rows else s2
  let s4 := (s3.players u).foldl (fun s n => s.modPort n (fun p => p.applyLoads (Config.portType n) pl.loads)) s3
  let evs := if pl.loopEnd then (s4.players u).map (fun n => (n, 6)) else []
  (s4.follow u pl.follow acts errs evs).done (s2.playhead u).hop

/-- The chain limit recorded on the page of the port that walks (R48, R410). -/
def State.chainFault (s : State) (u : SeqUnit) (pl : Plan) : State :=
  if pl.chainLimit then s.fault (Page.port (s.unitPort u)) 6 else s

/-! ### The moments -/

/-- The commit point (R48): what follows the pass is fixed, the events that were candidates are spent, row counters are
changed. A LOOP_BACK that falls through fires LOOP_END in the slot that follows it; where an immediate jump overrides
what was fixed, it never comes to that slot and fires none (DESIGN CHOICE, log entry 108). -/
def State.commitNow (s : State) (u : SeqUnit) (bad : List Nat) : State :=
  let ph := s.playhead u
  let r := commitPlan s bad ph
  (s.setPlayhead u { ph with plan := .some r.1, rows := r.2, cand := 0, pend := 0 }).chainFault u r.1

/-- The end of a pass (R70): the fixed plan is carried out; a pass without one is resolved first. -/
def State.endPass (s : State) (u : SeqUnit) (errs : SlotErrors) : State :=
  let s0 := if (s.playhead u).plan.isNone then s.commitNow u errs.entries else s
  let ph := s0.playhead u
  match ph.plan with
  | .none => s0
  | .some pl => s0.carryOut u pl ph.rows pl.hop errs

/-- The default continuation from an entry (R52). -/
def State.continueAt (s : State) (u : SeqUnit) (e : Nat) (hop : Option Nat) (errs : SlotErrors) : State :=
  let r := resolveFrom s errs.entries e (s.playhead u).rows
  (s.chainFault u r.1).carryOut u r.1 r.2 hop errs

/-- A transition off the default path to an entry (R58, R62, R66, R74), with cleared row counters. -/
def State.jumpTo (s : State) (u : SeqUnit) (e : Nat) (rows : Vector (BitVec 16) 4) (hop : Option Nat)
    (errs : SlotErrors) : State :=
  let s1 := (s.settleJudged u).modPlayhead u (fun ph => { ph with
    cand := 0, pend := 0, latches := ph.latches.filter (fun l => l.what != .recover) })
  let r := resolveFrom s1 errs.entries e rows
  (s1.chainFault u r.1).carryOut u { r.1 with offPath := true } r.2 hop errs

/-- An underrun recovery takes effect (R74): the entry at RECOVERY begins, row counters cleared. -/
def State.recoverNow (s : State) (n : Nat) (errs : SlotErrors) : State :=
  s.jumpTo (.port n) (bits (s.reg (portReg n 0x58)) 10 18) rowsZero .none errs

/-- A slot of a running unit in which its position goes on: the next granule, or the next slot of a selvedge, GAP,
WAIT or recovery hold. -/
def State.goOn (s : State) (u : SeqUnit) (errs : SlotErrors) : State :=
  let s1 := s.passSlot u false
  let ph := s1.playhead u
  let s2 := (s1.modPlayhead u (fun ph => { ph with gran := ph.gran + 1 })).endMerge u
  let r := match ph.activity with
    | .segment => if ph.recovering then s2.playAll u .hold Acts.none errs [] else s2.playGranule u Acts.none errs []
    | .gap => s2.playAll u (gapContent ph.word) Acts.none errs []
    | .selvedge | .wait | .idle => s2.playAll u .hold Acts.none errs []
  r.done ph.hop

/-- The boundary of a running unit, whatever its position dictates (R87: a resume goes on exactly where it stopped). A
group's WAIT that times out sets the flag on its leader's page (DESIGN CHOICE, log entry 109). -/
def State.runBoundary (s : State) (u : SeqUnit) (errs : SlotErrors) : State :=
  let s0 := if s.runMoment u = .commit then s.commitNow u errs.entries else s
  let ph := s0.playhead u
  match s0.runMoment u with
  | .passEnd => s0.endPass u errs
  | .gapEnd => s0.continueAt u (ph.entry + 1) .none errs
  | .selvedgeEnd =>
    let s1 := (s0.passSlot u false).endMerge u
    (s1.beginPass u ph.entry ph.pass ph.word Acts.none errs []).done ph.hop
  | .timeout =>
    let s1 := s0.flag (Page.port (s0.unitPort u)) 6
    if field ph.word 82 1 = 1 then s1.jumpTo u (field ph.word 64 18) ph.rows .none errs
    else s1.continueAt u (ph.entry + 1) .none errs
  | _ => s0.goOn u errs

/-- A unit's actual state replaced: the group's, and every player's (R80). -/
def State.setUnitState (s : State) (u : SeqUnit) (st : UState) : State :=
  let s1 := (s.players u).foldl (fun s n => s.modPort n (fun p => { p with state := st })) s
  (match u with
  | .port _ => s1
  | .group g => s1.modGroup g (fun x => { x with state := st })).settleRequest u

/-- The point swatches of a unit's players, in a GAP or on a frozen output, aborted by what ends the hold (R302,
R311). -/
def State.abortUnit (s : State) (u : SeqUnit) : State :=
  (s.players u).foldl (fun s n => s.abortWhere (fun x => itemPort x.item == .some n && x.kind == .point) 10) s

/-- A boundary at which a unit that does not run stays as it is: parked output, or the output held. The fields that R174
held apply at it when the port is PARKED or OFF, and a changed divisor counts the slots anew (R34). -/
def State.idleBoundary (s : State) (u : SeqUnit) (errs : SlotErrors) : State :=
  let s1 := s.passSlot u (s.unitState u == .paused)
  ((s1.players u).foldl (fun (r : Played) n =>
    let s2 := ((r.1.episodeOver n).modPort n (fun p => { p with merge := .none })).takeHeldNow n
    Played.rest (s2, r.2) n (if s2.holdsOutput n then .hold else .park) Acts.none errs) (s1, [])).1

/-! ### SAFE (R405-R407) -/

/-- A port's state SAFE (R406 step 1): the output steps to its park output, the bobbin and pending events are
discarded, the requested state is SAFE; what it was is recorded (R407). No end actions apply: R70 names the jump, the
recovery and the stop (DESIGN CHOICE, log entry 110). -/
def State.safeAt (s : State) (n : Nat) (counted : Bool) : State :=
  let was := (s.port n).state
  let member := (s.port n).group.isSome
  if was = .absent ∨ was = .safe then s
  else
    let s1 := (s.abortPort n 12).toParked n .safe
    (s1.modPort n (fun p => { p with transfers := [], merge := .none
                                     safeRecord := .some { was := was, member := member, members := [], rewritten := false
                                                           counted := counted, held := false }
                                     })).stepOutput n

/-- A port enters SAFE at once, independent of the slot grid (R406 step 1). -/
def State.portSafe (s : State) (n : Nat) (counted : Bool) : State :=
  ((s.settleJudged (.port n)).cutPass n).safeAt n counted

/-- A data fault that sends the port to SAFE, at the slot after the hold (R143, R410 code 0x03): the slot's samples advance
the oscillator (R95). -/
def State.dataFaultSafe (s : State) (n : Nat) (errs : SlotErrors) : State :=
  let s1 := ((s.passSlot (.port n) false).safeAt n true).fault (Page.port n) 3
  (Played.rest (s1, []) n .park Acts.none errs).1

end Machine
end Sys2Proof
end

