-- ==== Sys2Proof/Machine/Boundary.lean ====
section
/-! DEFINITION. The moments at slot boundaries, one command each (R48-R76, R84, R95, R453): a command acts when it
names the moment that the unit's boundary has come to, and changes nothing otherwise (DEDUCED, log entry 11). -/

namespace Sys2Proof
namespace Machine

/-- The outcome of a command: every command answers a next state. -/
abbrev Result := Host.Outcome State Fault Refusal

/-- The state after a moment, if that moment has come. -/
def State.whenMoment (s : State) (u : SeqUnit) (m : Moment) (t : State) : State := if s.moment u = m then t else s

/-- COMMIT_POINT (R48). -/
def execCommitPoint (u : SeqUnit) (bad : List Nat) (s : State) : Result :=
  .next (s.whenMoment u .commit (s.commitNow u bad))

/-- PASS_END (R70). -/
def execPassEnd (u : SeqUnit) (errs : SlotErrors) (s : State) : Result :=
  .next (s.whenMoment u .passEnd (s.endPass u errs))

/-- A START takes effect (R84): an ARMED unit begins at the start entry that its ARM took, a PAUSED one goes on from where it
stopped; the line of an ARMED pulse unit goes to its idle level (R188). -/
def State.startNow (s : State) (u : SeqUnit) (hop : Nat) (errs : SlotErrors) : State :=
  let st := s.unitState u
  let s1 := (s.setUnitState u .run).modPlayhead u (fun ph => { ph with hop := hop })
  let s2 := (s1.players u).foldl (fun s n => s.modPort n (fun p => { p with holdPark := false, ramp := .none })) s1
  let recovers := ((s.playhead u).dueAt (s.unitSlot u + 1) (· == .recover)).isSome
  match u with
  | .port n =>
    if pulseUnit (Config.portType n) (s.port n).mode then
      (if st = .armed then s2.modPort n (fun p => p.line (bit (s.reg (portReg n 0x160)) 0)) else s2).goOn u errs
    else if st = .armed then s2.continueAt u (s2.playhead u).start (.some hop) errs
    else if recovers then s2.recoverNow n errs
    else s2.runBoundary u errs
  | .group _ =>
    if st = .armed then s2.continueAt u (s2.playhead u).start (.some hop) errs else s2.runBoundary u errs

/-- START_EFFECT (R84, R87). -/
def execStartEffect (u : SeqUnit) (errs : SlotErrors) (s : State) : Result :=
  let hop := match (s.playhead u).dueAt (s.unitSlot u + 1) (· == .start) with
    | .some l => l.hop
    | .none => 0
  .next (s.whenMoment u .start (s.startNow u hop errs))

/-- A PAUSE takes effect (R84, R87): the playhead is frozen, the output holds. -/
def State.pauseNow (s : State) (u : SeqUnit) (errs : SlotErrors) : State :=
  let s1 := (((s.abortUnit u).passSlot u true).setUnitState u .paused).endMerge u
  (s1.playAll u .hold Acts.none errs []).done (s1.playhead u).hop

/-- PAUSE_EFFECT (R84, R302). -/
def execPauseEffect (u : SeqUnit) (errs : SlotErrors) (s : State) : Result :=
  .next (s.whenMoment u .pause (s.pauseNow u errs))

/-- A STOP takes effect (R70, R84, R193): the unit parks, its park level drives or ramps, the end actions of the entry that it
cuts apply. The pass of a PAUSED unit ends here (R72, log entry 27). -/
def State.stopNow (s : State) (u : SeqUnit) (errs : SlotErrors) : State :=
  let hop := match (s.playhead u).dueAt (s.unitSlot u + 1) (· == .stop) with
    | .some l => l.hop
    | .none => (s.playhead u).hop
  let ns := s.players u
  let acts := s.endingActions u true
  let evs := if s.unitState u = .paused then (ns.filter s.openPass).map (fun n => (n, 5)) else []
  let s1 := (((s.abortUnit u).passSlot u false).modPlayhead u (fun ph => { ph with hop := hop })).endMerge u
  let s2 := s1.parkUnit u (fun _ => .ramped)
  (ns.foldl (fun (r : Played) n => r.rest n .park acts errs) (s2, evs)).done hop

/-- STOP_EFFECT (R56, R84, R193). -/
def execStopEffect (u : SeqUnit) (errs : SlotErrors) (s : State) : Result :=
  .next (s.whenMoment u .stop (s.stopNow u errs))

/-- An immediate jump takes effect (R58, R59). -/
def State.jumpNow (s : State) (u : SeqUnit) (errs : SlotErrors) : State :=
  let ph := s.playhead u
  match ph.dueAt (s.unitSlot u + 1) (fun x => match x with | .jump .. => true | _ => false) with
  | .some { what := .jump _ target clr, hop := hop, .. } =>
    (s.abortUnit u).jumpTo u target (clearRows ph.rows clr) (.some hop) errs
  | _ => s

/-- IMMEDIATE_JUMP_EFFECT (R58). -/
def execImmediateJumpEffect (u : SeqUnit) (errs : SlotErrors) (s : State) : Result :=
  .next (s.whenMoment u .jump (s.jumpNow u errs))

/-- WAIT_RELEASE (R65). -/
def execWaitRelease (u : SeqUnit) (errs : SlotErrors) (s : State) : Result :=
  let ph := s.playhead u
  let hop := (ph.dueAt (s.unitSlot u + 1) (· == .release)).map (·.hop)
  .next (s.whenMoment u .release (s.continueAt u (ph.entry + 1) hop errs))

/-- WAIT_TIMEOUT (R66). -/
def execWaitTimeout (u : SeqUnit) (errs : SlotErrors) (s : State) : Result :=
  .next (s.whenMoment u .timeout (s.runBoundary u errs))

/-- GAP_END (R67); a point swatch that still runs has lost its opportunity (R301). -/
def execGapEnd (u : SeqUnit) (errs : SlotErrors) (s : State) : Result :=
  .next (s.whenMoment u .gapEnd ((s.abortUnit u).runBoundary u errs))

/-- SELVEDGE_END (R63). -/
def execSelvedgeEnd (u : SeqUnit) (errs : SlotErrors) (s : State) : Result :=
  .next (s.whenMoment u .selvedgeEnd (s.runBoundary u errs))

/-- MISSING_SLOT (R73, R74). -/
def execMissingSlot (u : SeqUnit) (errs : SlotErrors) (s : State) : Result :=
  .next (s.whenMoment u .missing (s.goOn u errs))

/-- UNDERRUN_RECOVERY (R74): the entry at RECOVERY begins, row counters cleared. -/
def execUnderrunRecovery (n : Nat) (errs : SlotErrors) (s : State) : Result :=
  .next (s.whenMoment (.port n) .recover (s.recoverNow n errs))

/-- SLOT_BOUNDARY (R34, R71, R95): an ordinary boundary of a unit. -/
def execSlotBoundary (u : SeqUnit) (errs : SlotErrors) (s : State) : Result :=
  .next (match s.moment u, u with
    | .ordinary, _ => if s.unitState u = .run then s.goOn u errs else s.idleBoundary u errs
    | .safe, .port n => s.dataFaultSafe n errs
    | _, _ => s)

/-- TRANSFER_EFFECT (R452, R453, R456): the transfers latched for the coming boundary act as one. -/
def execTransferEffect (n : Nat) (s : State) : Result :=
  let p := s.port n
  let due := p.transfers.filter (fun x => x.1 == p.slot + 1)
  .next (if due.isEmpty then s
    else (s.modPort n (fun p => { p with transfers := p.transfers.filter (fun x => x.1 != p.slot + 1) })).transfer n
      (due.all (fun x => x.2)))

/-- A transfer latched in a port's current slot, effective at t + Ka (R452). -/
def State.latchTransfer (s : State) (n : Nat) (ncoOnly : Bool) : State :=
  s.modPort n (fun p => { p with transfers := p.transfers ++ [(p.slot + Config.ka (Config.portType n), ncoOnly)] })

end Machine
end Sys2Proof
end

