-- ==== Sys2Proof/Machine/Levels.lean ====
section
/-! DEFINITION. Levels and conditions read across the module: the comparators of the window monitors (R270-R276), the
level that each source presents to gates (R245, R278, R390), activity codes (R89), the lifecycle state that follows from
its causes (R427, R428) and the fabric's mode (R258). -/

namespace Sys2Proof
namespace Machine

/-! ### Monitors -/

/-- The hysteresis counted in threshold steps (R271). -/
def hysteresisSteps (h : Nat) : Nat := Config.ceilDiv (40 * h * 8192) 36000

/-- The upper threshold in use (R271). -/
def Monitor.upperUsed (x : Monitor) : Int := max x.upper (x.lower + hysteresisSteps x.hyst)

/-- A comparator after an evaluation (R272, R273): `hi` and `lo` bound its hysteresis band, `above` is its value beyond
`hi`. Without hysteresis the first evaluation determines it. -/
def compareBand (v hi lo : Int) (h : Nat) (above : Bool) (old : Option Bool) : Option Bool :=
  if hi < v then .some above
  else if v < lo then .some (!above)
  else if h = 0 then .some (old.getD false)
  else old

/-- The comparators evaluated at the present input and thresholds (R272); voltages in units of 1/24576 microvolt. -/
def Monitor.evaluate (x : Monitor) : Monitor :=
  let v := x.volts * 24576
  let h : Int := 327680000 * x.hyst
  let u := 36000000 * x.upperUsed
  let l := 36000000 * x.lower
  { x with cu := compareBand v u (u - h) x.hyst true x.cu, cl := compareBand v (l + h) l x.hyst false x.cl }

/-- The monitor's state (R272, R273). -/
def Monitor.state (x : Monitor) : MonState :=
  match x.cu, x.cl with
  | .some true, .some _ => .above
  | .some false, .some true => .below
  | .some false, .some false => .inside
  | _, _ => .indeterminate

/-- WM_STATE.STATE (R286). -/
def MonState.code : MonState → Nat
  | .indeterminate => 0
  | .below => 1
  | .inside => 2
  | .above => 3

/-- The state with a WM_STATE code. -/
def MonState.ofCode : Nat → MonState
  | 1 => .below
  | 2 => .inside
  | 3 => .above
  | _ => .indeterminate

/-- Whether a state meets a condition in the encoding of WM_TRIP.COND (R280); INDETERMINATE counts as `pu`. -/
def MonState.meets (x : MonState) (cond : Nat) (pu : Bool) : Bool :=
  match x with
  | .indeterminate => pu
  | .above => cond == 0 || cond == 2
  | .below => cond == 1 || cond == 2
  | .inside => cond == 3

/-- The gate level k of a monitor in a state (R245, R273). -/
def MonState.level (x : MonState) (k : Nat) (pu : Bool) : Bool :=
  match x with
  | .indeterminate => pu
  | .above => k == 0 || k == 3
  | .below => k == 1 || k == 3
  | .inside => k == 2

/-! ### Gate levels (R245) -/

/-- The level of TRIG0-3, PPS and SYNC as the fabric sees it: on a follower, from the lead's frames (R390). -/
def State.extLevel (s : State) (i : Nat) : Bool :=
  if s.twin.role = .follow then s.twin.ext.getLsbD i
  else if i < 4 then s.pins.trig.getLsbD i
  else if i = 4 then s.pins.pps
  else s.clock.syncIn

/-- The level of timer t's expire source (R264). -/
def State.timerLevel (s : State) (t : Nat) : Bool :=
  let x := s.timer t
  match x.mode with
  | 1 | 2 | 4 | 5 => x.state == .running
  | 3 => x.state == .windowOpen
  | _ => false

/-- PORT_POS.ACTIVITY of a port (R89). -/
def State.activityCode (s : State) (n : Nat) : Nat :=
  let p := s.port n
  let ph := match p.group with | .some g => (s.group g).play | .none => p.play
  match p.state with
  | .paused => 6
  | .run =>
    match ph.activity with
      | .idle => 0
      | .segment => if p.underrun then 5 else 1
      | .selvedge => 2
      | .gap => 3
      | .wait => 4
  | _ => 0

/-- The marker outputs of a port's current sample (R68, R245): whichever sample of the slot is the current one. -/
def State.markerNow (s : State) (n : Nat) : BitVec 4 :=
  let p := s.port n
  (p.out.getD (Config.samplePosition s.free s.cycle n % p.out.length) p.last).marks

/-- The level that a source code presents to gates and blanking (R245). -/
def State.gateLevel (s : State) (code : Nat) : Bool :=
  if 0x10 ≤ code ∧ code < 0x16 then s.extLevel (code - 0x10)
  else if 0x20 ≤ code ∧ code < 0x40 then bit (s.rd Page.event 0x54) (code - 0x20)
  else if 0x100 ≤ code ∧ code < 0x160 then
    let m := (code - 0x100) / 4
    let x := s.monitor m
    let cfg := s.reg (monReg m 0)
    m < Config.monitors s.part && x.running && bit cfg 8 && x.published.level (code % 4) (bit cfg 9)
  else if 0x200 ≤ code ∧ code < 0x240 then code % 2 == 0 && s.timerLevel ((code - 0x200) / 2)
  else if 0x400 ≤ code ∧ code < 0x880 then
    let n := (code - 0x400) / 8
    let k := code % 8
    if k < 4 then (s.markerNow n).getLsbD k else k == 7 && s.activityCode n == 5
  else false

/-- The monitor's blanking level is 1 (R278). -/
def State.blanked (s : State) (m : Nat) : Bool :=
  let w := s.reg (monReg m 12)
  bit w 15 && (s.gateLevel (bits w 0 12) != bit w 12)

/-! ### The lifecycle state and the fabric's mode -/

/-- A relock or an alignment is running (R244). -/
def State.clockService (s : State) : Bool := s.clock.relock.isSome || s.clock.sync == .aligning

/-- The housekeeping pause of a firmware switch (R377). -/
def State.paused (s : State) : Bool := s.security.update == .paused

/-- A firmware switch waits for its quiescent point or is under way: no swatch, pin or staging begins (R375 step 5). -/
def State.quieting (s : State) : Bool := s.security.update == .waitQuiet || s.paused

/-- The lifecycle state that its causes give (R427, R428). -/
def State.lifeNow (s : State) : Life :=
  let l := s.life
  if l.state = .halted ∨ l.ready = false then l.state
  else if s.rd Page.health 0x68 ≠ 0 then .degraded
  else if s.twin.role = .follow then .follow
  else if s.clockService || s.paused || bit (s.rd Page.event 0xa4) 0 || l.bindoff == .running then .service
  else .ready

/-- The mode of the fabric that its causes give (R258). -/
def State.fabricNow (s : State) : FabricMode :=
  match s.life.state with
  | .boot | .clocking | .memory => .castOn
  | _ =>
    if s.health.restarting then .restart
    else if bit (s.rd Page.event 0xa4) 0 then .test
    else .normal

/-- MODULE_STATE and FABRIC_MODE brought up to date with their causes, with STATE_CHANGED and MODE_CHANGED. -/
def State.settle (s : State) : State :=
  let s1 := if s.life.state = s.lifeNow then s
    else { s with life := { s.life with state := s.lifeNow } }.flag Page.global 0
  let m := s1.fabricNow
  if s1.fabric.mode = m then s1
  else
    let s2 := { s1 with fabric := { s1.fabric with mode := m } }
    if (s1.fabric.mode == .normal) = (m == .normal) then s2 else s2.flag Page.event 3

/-- A cause of DEGRADED set or cleared (R411, R416). -/
def State.setDegraded (s : State) (i : Nat) (v : Bool) : State :=
  let w := s.rd Page.health 0x68
  let s1 := s.wr Page.health 0x68 (setBits w i 1 (b2n v))
  (if w = 0 ∧ v then s1.flag Page.health 4 else s1).settle

end Machine
end Sys2Proof
end

