-- ==== Sys2Proof/Machine/Monitors.lean ====
section
/-! DEFINITION. The window monitors (R269-R279): enable and mode, comparator changes, moving thresholds, blanking, the
synchronous path. -/

namespace Sys2Proof
namespace Machine

/-- The monitor is fitted (R269). -/
def State.monitorFitted (s : State) (m : Nat) : Bool := m < Config.monitors s.part

/-- WM_CFG.SYNC_EN of a monitor. -/
def State.syncEn (s : State) (m : Nat) : Bool := bit (s.reg (monReg m 0)) 8


/-- The event indices of a change of state (R272). -/
def changeEvents (a b : MonState) : List Nat :=
  match a, b with
  | .inside, .above => [0, 3]
  | .inside, .below => [1, 3]
  | .above, .inside | .below, .inside => [2]
  | .below, .above => [0]
  | .above, .below => [1]
  | _, _ => []

/-- A state taken by the synchronous path (R272, R279, R287): the events of the change, the flag and the count; the
first determined state is taken quietly (R273). -/
def State.publish (s : State) (m : Nat) (b : MonState) : State :=
  let x := s.monitor m
  let s1 := s.setMonitor m { x with published := b }
  let ks := changeEvents x.published b
  if ks.isEmpty then s1
  else ((s1.countMod Page.wmon (0x40 + 32 * m + 24) 0 16 1).flag Page.wmon m).emitAll
    (ks.map (fun k => { code := 0x100 + 4 * m + k, hop := 0 }))

/-- A change of the synchronised state from `a` to `b` on the synchronous path (R278, R279): counted while blanked,
quiet without SYNC_EN. A blanking that has ended is settled first. -/
def State.syncPath (s : State) (m : Nat) (a b : MonState) : State :=
  if a = b then s
  else if s.syncEn m = false then s.setMonitor m { s.monitor m with published := b }
  else if s.blanked m then
    if a = .indeterminate then s else s.countMod Page.wmon (0x40 + 32 * m + 24) 16 16 1
  else (s.publish m a).publish m b

/-- A monitor's comparators evaluated, with what the synchronous path makes of the change; in standby, and on a
follower, whose monitors do not feed its fabric (R390), only the monitor's own state follows. -/
def State.evaluate (s : State) (m : Nat) : State :=
  let x := s.monitor m
  let y := x.evaluate
  let s1 := s.setMonitor m y
  if s.inStandby || s.twin.role == .follow then s1 else s1.syncPath m x.state y.state

/-- The mode in use for a WM_CFG.MODE value (R275). -/
def activeMode (v : Variant) (mode : Nat) : Nat :=
  match v with
  | .tg048 => 4
  | _ => if mode < 4 then mode else 0

/-- A monitor starts (R273, R274, R276): undetermined, with its stored mode and hysteresis; a state that is determined
at once is reached quietly. A SAMPLED monitor waits for its tick. -/
def State.startMonitor (s : State) (m : Nat) : State :=
  let w := s.reg (monReg m 0)
  let x : Monitor := { s.monitor m with
    running := true, mode := activeMode s.part (bits w 1 3), hyst := bits w 4 4, cu := .none, cl := .none
    published := .indeterminate }
  let y := if x.mode = 4 then x else x.evaluate
  s.setMonitor m { y with published := y.state }

/-- A monitor stops (R274). -/
def State.stopMonitor (s : State) (m : Nat) : State :=
  s.setMonitor m { s.monitor m with running := false, cu := .none, cl := .none, published := .indeterminate }

/-- VANA is in its window (R435). -/
def State.vanaGood (s : State) : Bool := !s.health.rails.contains .vana

/-- WM_CFG written (R274, R276, R279, R286). -/
def State.writeMonCfg (s : State) (m : Nat) (w : Word) : State :=
  if s.monitorFitted m = false then s
  else
    let old := s.reg (monReg m 0)
    let new := w &&& 0x37ff
    let s1 := s.setReg (monReg m 0) new
    if bit new 0 = false then s1.stopMonitor m
    else if bit old 0 = false then (if s.vanaGood then s1.startMonitor m else s1)
    else if bit new 8 && !bit old 8 then
      s1.setMonitor m { s1.monitor m with published := (s1.monitor m).state }
    else s1

/-- MONITOR_ENABLE (R274). -/
def execMonitorEnable (m : Nat) (s : State) : Result := .next (s.writeMonCfg m (s.reg (monReg m 0) ||| 1))

/-- MONITOR_DISABLE (R274). -/
def execMonitorDisable (m : Nat) (s : State) : Result := .next (s.writeMonCfg m (s.reg (monReg m 0) &&& ~~~1))

/-- SYNC_EN_WRITE (R279). -/
def execSyncEnWrite (m : Nat) (on : Bool) (s : State) : Result :=
  .next (s.writeMonCfg m (setBits (s.reg (monReg m 0)) 8 1 (b2n on)))

/-- COMPARATOR_CHANGE (R272): the input in microvolts; a SAMPLED monitor evaluates at its tick. -/
def execComparatorChange (m : Nat) (microvolts : Int) (s : State) : Result :=
  .next (if s.monitorFitted m = false then s
    else
      let s1 := s.setMonitor m { s.monitor m with volts := microvolts }
      let x := s1.monitor m
      if x.running && x.mode != 4 then s1.evaluate m else s1)

/-- SAMPLED_TICK (R277): CK_WTICK, which the monitors of a TG048 alone use. -/
def execSampledTick (m : Nat) (microvolts : Int) (s : State) : Result :=
  .next (if s.monitorFitted m = false ∨ activeMode s.part 0 ≠ 4 then s
    else
      let s1 := s.setMonitor m { s.monitor m with volts := microvolts }
      let x := s1.monitor m
      if x.running && x.mode == 4 then s1.evaluate m else s1)

/-- The code that a threshold moves toward (R270, R293): SET through the factory map, plus the trim. -/
def State.thresholdTarget (s : State) (m : Nat) (upper : Bool) : Int :=
  let set := signed 14 (bits (s.reg (monReg m (if upper then 4 else 8))) 0 14)
  let x := s.monitor m
  limit (-8192) 8191 (Config.thresholdMap m upper set + (if upper then x.trimUpper else x.trimLower))

/-- One step from a value toward another. -/
def stepToward (a b : Int) : Int := if a < b then a + 1 else if b < a then a - 1 else a

/-- THRESHOLD_STEP (R270); in standby no threshold moves (R284). -/
def execThresholdStep (m : Nat) (upper : Bool) (s : State) : Result :=
  .next (if s.monitorFitted m = false ∨ s.inStandby = true then s
    else
      let x := s.monitor m
      let t := s.thresholdTarget m upper
      let y := if upper then { x with upper := stepToward x.upper t } else { x with lower := stepToward x.lower t }
      let s1 := s.setMonitor m y
      if x.running && x.mode != 4 then s1.evaluate m else s1)

/-- A monitor's synchronised state: on a follower, what the lead's frames carry (R393). -/
def State.syncState (s : State) (m : Nat) : MonState :=
  if s.twin.role = .follow then MonState.ofCode (s.twin.mon.toNat / 4 ^ m % 4) else (s.monitor m).state

/-- BLANKING_END (R278): the single net change, once the blanking level is 0. -/
def execBlankingEnd (m : Nat) (s : State) : Result :=
  .next (if s.monitorFitted m && (s.monitor m).running && s.syncEn m && !s.blanked m then s.publish m (s.syncState m)
    else s)

end Machine
end Sys2Proof
end

