-- ==== Sys2Proof/Machine/Trips.lean ====
section
/-! DEFINITION. The trip network (R194-R197, R280-R282): conditions, latches in the front ends and on the sequencer die,
the forced outputs and the parking of obeying ports, clearing. -/

namespace Sys2Proof
namespace Machine

/-- TRIP_SEL.LINES of a port (R194). -/
def State.tripLines (s : State) (n : Nat) : BitVec 8 := BitVec.ofNat 8 (s.reg (portReg n 0xa4)).toNat

/-- A line latched on the sequencer die that the port obeys (R196). -/
def State.tripHeld (s : State) (n : Nat) : Bool := s.tripLines n &&& s.trips.die != 0

/-- A monitor's trip condition (R273, R278, R280). -/
def State.tripCondition (s : State) (m : Nat) : Bool :=
  let x := s.monitor m
  let w := s.reg (monReg m 20)
  x.running && bit w 3 && !(bit w 6 && s.blanked m) && x.state.meets (bits w 4 2) (bit (s.reg (monReg m 0)) 9)

/-- A line's condition: the monitors connected to it, and TRIP_FORCE (R280). -/
def State.lineCondition (s : State) (k : Nat) : Bool :=
  bit (s.rd Page.trip 0x48) k ||
    (List.range (Config.monitors s.part)).any (fun m => bits (s.reg (monReg m 20)) 0 3 == k && s.tripCondition m)

/-- Whether the lines latched at the converter force the port's output, brought up to date (R194, R195, R197): a force
that begins or ends steps the output and cuts a pulse; a frozen output is released (R311). -/
def State.refreshForce (s : State) (n : Nat) : State :=
  let p := s.port n
  let v := s.tripLines n &&& s.trips.front != 0
  if v = p.forced then s
  else
    let s1 := s.setPort n { p with forced := v, pulse := if v then .none else p.pulse }
    match p.state with
    | .off | .absent => s1
    | .parked | .safe | .service | .ready => s1.stepOutput n
    | _ =>
      if v then
        let s2 := if p.stale then s1.abortPort n 11 else s1
        (s2.modPort n (fun p =>
          let x : Sample := { p.last with value := s.tripLevel n, edges := [] }
          { p with out := [x], last := x })).settleOver n
      else s1

/-- A trip during steps 3 to 5 of a spare rotation (R309): the port stays on its spare, a return under way included, and is
returned once the trip is cleared. -/
def State.rotationTrip (s : State) (n : Nat) : State :=
  let g := n / 16
  let r := s.rotation g
  if (match Config.portType n with | .p => true | _ => false) && (s.spare g).serves == .some n &&
      (r.1 == .substitute || r.1 == .portSwatch || r.1 == .return_) then
    (s.modSpare g (fun x => { x with
      busy := match x.busy with | .some h => if h.toSpare then .some h else .none | .none => .none })).setRotation g .return_ r.2
  else s

/-- A latched line parks a port that obeys it at the next slot boundary (R196): TRIPPED, requested state PARKED, a
swatch aborted (R302). A port in OFF or SAFE stays there. The slot in which the trip is latched is the last of the pass
(R72). -/
def State.tripPort (s : State) (n : Nat) : State :=
  let s1 := ((s.abortWhere (fun x => itemObeys x.item == .some n) 11).rotationTrip n).cutPass n
  let p := s1.port n
  match p.state with
  | .absent => s
  | .off => s1.flag (Page.port n) 8
  | .safe => s1.flag (Page.port n) 8
  | .parked => (s1.setPort n { p with requested := .parked, deliver := .none }).flag (Page.port n) 8
  | _ => (s1.setPort n { p with
      requested := .parked, deliver := .none
      play := { p.play with latches := p.play.latches ++ [{ due := p.slot + 1, what := .trip, hop := p.play.hop }] } }).flag
        (Page.port n) 8

/-- TRIP_LINE_ASSERT (R280, R281, R195): a condition latches its line in the front ends; obeying outputs are forced. -/
def execTripLineAssert (k : Nat) (s : State) : Result :=
  .next (if k < 8 ∧ s.lineCondition k ∧ s.trips.front.getLsbD k = false then
      let s1 := { s with trips := { s.trips with front := s.trips.front ||| BitVec.ofNat 8 (2 ^ k) } }
      (fittedPorts s.part).foldl (fun s n => if (s.tripLines n).getLsbD k then s.refreshForce n else s) s1
    else s)

/-- The swatches of a line's monitors aborted (R301, R302). -/
def State.abortLine (s : State) (k : Nat) : State :=
  s.abortWhere (fun x => match itemMonitor x.item with
    | .some m => bits (s.reg (monReg m 20)) 0 4 == k + 8
    | .none => false) 11

/-- A latch of a line counted and recorded, in the housekeeping pause once it ends (R281, R377). -/
def State.recordTrip (s : State) (k : Nat) : State :=
  if s.paused then
    { s with security := { s.security with deferred := s.security.deferred ++ [(k, s.ledger.sec, s.nanos)] } }
  else (s.count Page.trip (0x50 + 4 * k)).ledgerNote 0x30 [k, 1]

/-- A trip latched during the pause counted and recorded with its latch time (R377). -/
def State.recordLate (s : State) (x : Nat × Nat × Nat) : State :=
  let q := s.ledger.nextSeq
  let s1 := (s.count Page.trip (0x50 + 4 * x.1)).ledgerNote 0x30 [x.1, 1]
  { s1 with ledger := { s1.ledger with
    buffer := s1.ledger.buffer.map (fun e => if e.seq = q ∧ e.kind = 0x30 then { e with sec := x.2.1, ns := x.2.2 } else e) } }

/-- TRIP_LATCH (R196, R281): the line latched on the sequencer die, counted and recorded; obeying ports are tripped, on
a follower by the lead alone (R392); in standby the sequencer die stands still (R284). -/
def execTripLatch (k : Nat) (s : State) : Result :=
  .next (if k < 8 ∧ s.inStandby = false ∧ s.trips.front.getLsbD k = true ∧ s.trips.die.getLsbD k = false then
      let s1 := { s with trips := { s.trips with die := s.trips.die ||| BitVec.ofNat 8 (2 ^ k) } }
      let s2 := ((s1.flag Page.trip k).recordTrip k).abortLine k
      if s.twin.role = .follow then s2
      else (fittedPorts s.part).foldl (fun s n => if (s.tripLines n).getLsbD k then s.tripPort n else s) s2
    else s)

/-- A port parks for a trip at the boundary it has reached: stepping, alone (R193, R196). No end actions apply: R70 names the
jump, the recovery and the stop (DESIGN CHOICE, log entry 110). -/
def State.tripParkNow (s : State) (n : Nat) (errs : SlotErrors) : State :=
  let s1 := (s.passSlot (.port n) false).modPort n (fun p => { p with merge := .none })
  (Played.rest (s1.parkAt n .stepped, []) n .park Acts.none errs).1

/-- TRIP_PARK (R196). -/
def execTripPark (n : Nat) (errs : SlotErrors) (s : State) : Result :=
  .next (s.whenMoment (.port n) .trip (s.tripParkNow n errs))

/-- One line cleared, or refused while a condition or force holds it (R282, R197). -/
def State.clearLine (s : State) (k : Nat) : State :=
  if s.lineCondition k then s.flag Page.trip 8
  else if s.trips.front.getLsbD k || s.trips.die.getLsbD k then
    let mask := ~~~(BitVec.ofNat 8 (2 ^ k))
    let s1 := { s with trips := { front := s.trips.front &&& mask, die := s.trips.die &&& mask } }
    (fittedPorts s.part).foldl (fun s n => if (s.tripLines n).getLsbD k then s.refreshForce n else s)
      (s1.ledgerNote 0x30 [k, 0])
  else s

/-- TRIP_CLEAR written. -/
def State.tripClear (s : State) (value : Word) : State :=
  ((List.range 8).filter (bit value)).foldl State.clearLine s

/-- TRIP_FORCE (R280): the bits held; TRIP_LINE_ASSERT latches what they assert. -/
def execTripForce (value : Word) (s : State) : Result := .next (s.wr Page.trip 0x48 (value &&& 0xff))

/-- TRIP_SEL written (R194): LINES judged against the lines latched now; TRIP_LEVEL on D-ports. -/
def State.writeTripSel (s : State) (n : Nat) (w : Word) : State :=
  if Config.portFitted s.part n = false then s
  else
    let allowed : Word := match Config.portType n with | .d => 0x1ff | _ => 0xff
    let old := s.tripLines n
    let s1 := (s.setReg (portReg n 0xa4) (w &&& allowed)).refreshForce n
    let new := s1.tripLines n &&& ~~~old
    if (new &&& s.trips.die != 0) && s.twin.role != .follow then s1.tripPort n else s1

/-- TRIP_SEL_WRITE (R194). -/
def execTripSelWrite (n : Nat) (mask value : Word) (s : State) : Result :=
  .next (s.writeTripSel n ((s.reg (portReg n 0xa4) &&& ~~~mask) ||| (value &&& mask)))

end Machine
end Sys2Proof
end

