-- ==== Sys2Proof/Machine/Fabric.lean ====
section
/-! DEFINITION. The event fabric (R245-R262): hook words and their subscriptions, one cycle of emissions taken through
the hop check, channels, groups, routing and hooks, pins and strobes, channel ownership, group control. -/

namespace Sys2Proof
namespace Machine

/-! ### Hook words (R249, R250, R259) -/

/-- The byte offsets of a port page's hooks. -/
def isPortHook (off : Nat) : Bool := 0xc0 ≤ off && off ≤ 0xe0 && off % 4 == 0

/-- The address is that of a hook word (R249). -/
def isHook (a : Nat) : Bool :=
  let off := offOf a
  match pageKind (pageOf a) with
  | .port _ => isPortHook off
  | .timer => 0x240 ≤ off && off < 0x3c0 && off % 4 == 0
  | .event => 0xc0 ≤ off && off < 0x100 && off % 8 == 0
  | _ => false

/-- The channel of a subscription: A at bit 0, B at bit 16. -/
def hookChan (w : Word) (sub : Nat) : Nat := bits w (16 * sub) 9

/-- A_EN or B_EN. -/
def hookEn (w : Word) (sub : Nat) : Bool := bit w (16 * sub + 9)

/-- MODE of a hook word, 3 as 0. -/
def hookMode (w : Word) : Nat := if bits w 26 2 = 3 then 0 else bits w 26 2

/-- A hook word written (R249, R250, R259): reserved bits drop, MODE 3 is stored as 0, COINCIDENCE is cleared by a 1, the
arm state clears; a subscription whose enable rises takes the next serial. -/
def State.writeHook (s : State) (a : Nat) (w : Word) (set : Word := w) : State :=
  let old := s.reg a
  let h := s.hook a
  let mode := hookMode w
  let base := setBits (w &&& 0x1fff03ff) 26 2 mode
  let new := setBits base 31 1 (b2n (bit old 31 && !bit set 31))
  let serial (sub : Nat) (have_ : Option Nat) (next : Nat) : Option Nat × Nat :=
    if hookEn new sub = false then (.none, next)
    else if hookEn old sub then (have_, next)
    else (.some (next + 1), next + 1)
  let ra := serial 0 h.serialA s.fabric.serial
  let rb := serial 1 h.serialB ra.2
  let s1 := s.setReg a new
  let hooks := if ra.1.isNone && rb.1.isNone then s.fabric.hooks.erase a
    else s.fabric.hooks.set a { armed := false, serialA := ra.1, serialB := rb.1 }
  { s1 with fabric := { s1.fabric with serial := rb.2, hooks := hooks } }

/-- Every subscription of a page withdrawn and its hook words reset (R250, R457). -/
def State.resetHooks (s : State) (page : Nat) : State :=
  { s with fabric := { s.fabric with hooks := s.fabric.hooks.filter (fun h => pageOf h.1 != page) } }

/-- The arm states of a page's hooks cleared (R250). -/
def State.disarmHooks (s : State) (page : Nat) : State :=
  { s with fabric := { s.fabric with hooks := s.fabric.hooks.map (fun h =>
      if pageOf h.1 = page then (h.1, { h.2 with armed := false }) else h) } }

/-- The subscriptions of a channel: serial, hook address, which one (0 A, 1 B). -/
def State.subscriptions (s : State) (c : Nat) : List (Nat × Nat × Nat) :=
  s.fabric.hooks.flatMap (fun h =>
    let w := s.reg h.1
    (if hookChan w 0 = c then h.2.serialA.toList.map (fun k => (k, h.1, 0)) else []) ++
    (if hookChan w 1 = c then h.2.serialB.toList.map (fun k => (k, h.1, 1)) else []))

/-- The first subscription of a channel: the one with the lowest serial (R259). -/
def State.firstSubscription (s : State) (c : Nat) : Option (Nat × Nat) :=
  ((s.subscriptions c).foldl (fun (best : Option (Nat × Nat × Nat)) x =>
    match best with
    | .some b => if b.1 ≤ x.1 then best else .some x
    | .none => .some x) .none).map (fun x => x.2)

/-- FIRST_QUERY written (R259, R265). -/
def State.firstQuery (s : State) (channel : Nat) : State :=
  let c := channel % 512
  let r := match s.firstSubscription c with
    | .some (a, sub) => a % 2 ^ 24 + sub * 2 ^ 24 + 2 ^ 31
    | .none => 0
  (s.wr Page.event 0x58 (word c)).wr Page.event 0x5c (word r)

/-- FIRST_QUERY (R259). -/
def execFirstQuery (channel : Nat) (s : State) : Result := .next (s.firstQuery channel)

/-! ### One cycle of the fabric (R247-R254) -/

/-- The events that channels carry in a cycle: channel and hop count. -/
abbrev Outputs := List (Nat × Nat)

/-- The hop check (R253): an emission that would carry 16 is dropped and counted. -/
def State.hopDrop (s : State) (e : Emission) : State :=
  ((s.count Page.event 0x48).wr Page.event 0xa0 (word (e.code % 4096))).flag Page.event 0

/-- The channels whose CH_SRC is enabled, in ascending order: only a channel that was written can be. -/
def State.enabledChannels (s : State) : List Nat :=
  s.regs.filterMap (fun r => match pageKind (pageOf r.1) with
    | .evchan k =>
      let off := offOf r.1
      if 0x40 ≤ off ∧ off < 0x240 ∧ off % 16 = 0 ∧ bit r.2 15 then .some (32 * k + (off - 0x40) / 16) else .none
    | _ => .none)

/-- The hop count of the event on a source in a cycle, the largest where several causes meet. -/
def sourceHop (es : List Emission) (code : Nat) : Option Nat :=
  (es.filter (fun e => e.code == code)).foldl (fun m e => match m with
    | .some h => .some (max h e.hop)
    | .none => .some e.hop) .none

/-- What a channel outputs in a cycle (R247, R256). -/
def State.channelOutput (s : State) (es : List Emission) (c : Nat) : Option (Nat × Nat) :=
  match sourceHop es (bits (s.reg (chanReg c 0)) 0 12) with
  | .none => .none
  | .some hop =>
    let gate := s.reg (chanReg c 4)
    let pass := !bit gate 15 || (s.gateLevel (bits gate 0 12) != bit gate 12)
    let group := bits (s.reg (chanReg c 8)) 4 4
    if pass && bit (s.rd Page.event 0x44) group then .some (c, hop) else .none

/-- CH_STAT after an output (R254). -/
def State.chanStat (s : State) (x : Nat × Nat) : State :=
  let w := s.reg (chanReg x.1 12)
  let lost := bit w 0 || bit w 1
  s.setChanStat x.1 (word (1 + b2n lost * 2 + x.2 % 16 * 2 ^ 8 + (bits w 16 16 + 1) % 2 ^ 16 * 2 ^ 16))

/-- The hop count that reaches a subscription of a hook, where its enable is on and single-consumer mode does not
suspend it (R250, R260). -/
def State.arrives (s : State) (outs : Outputs) (a : Nat) (sub : Nat) : Option Nat :=
  let w := s.reg a
  if hookEn w sub = false then .none
  else
    let c := hookChan w sub
    match outs.find? (fun x => x.1 == c) with
    | .none => .none
    | .some x =>
      if s.fabric.mode = .normal ∨ s.firstSubscription c = .some (a, sub) then .some x.2 else .none

/-- A hook's combination in one cycle (R250): the state after it and the activation it forms. -/
def State.combine (s : State) (outs : Outputs) (a : Nat) : State :=
  let w := s.reg a
  let ea := s.arrives outs a 0
  let eb := s.arrives outs a 1
  let onA := ea.isSome
  let onB := eb.isSome
  let h := s.hook a
  let hop := max (ea.getD 0) (eb.getD 0)
  let same := hookChan w 0 == hookChan w 1
  let coincide := onA && onB && !same
  let s1 := if coincide then
      ((s.setReg a (setBits w 31 1 1)).count Page.event 0x4c).flag Page.event 1
    else s
  let counts := if coincide && hookMode w == 0 && bit w 28 then 2 else 1
  let act (s : State) : State :=
    { s with fabric := { s.fabric with
      acts := s.fabric.acts ++ [{ hook := a, hop := hop, count := counts, cycle := s.fabric.cycles }] } }
  match hookMode w with
  | 1 =>
    let s2 := if onA && !onB then s1.setHook a { h with armed := true }
      else if onA && onB then s1.setHook a { h with armed := true }
      else if onB && h.armed then s1.setHook a { h with armed := false }
      else s1
    if onB && h.armed then act s2 else s2
  | 2 => if onA && onB then act s1 else s1
  | _ => if onA || onB then act s1 else s1

/-- One cycle of the fabric with everything emitted in it (R248). -/
def State.fabricCycle (s : State) (es : List Emission) : State :=
  let s0 := { s with fabric := { s.fabric with cycles := s.fabric.cycles + 1 } }
  let s1 := (es.filter (fun e => decide (16 ≤ e.hop))).foldl State.hopDrop s0
  let alive := es.filter (fun e => decide (e.hop < 16))
  let outs := s1.enabledChannels.filterMap (s1.channelOutput alive)
  let s2 := outs.foldl State.chanStat s1
  (s2.fabric.hooks.map (fun h => h.1)).foldl (fun s a => s.combine outs a) s2

/-- FABRIC_EVENT (R247): the oldest emissions and `more` further causes that met the fabric in the same cycle. -/
def execFabricEvent (more : Nat) (s : State) : Result :=
  let now := s.fabric.emitted.take (more + 1)
  .next ({ s with fabric := { s.fabric with emitted := s.fabric.emitted.drop (more + 1) } }.fabricCycle now.flatten)

/-! ### Pins and strobes -/

/-- An emission of a pin's source; a follower's own pins do not feed its fabric (R390). -/
def State.emitPin (s : State) (code : Nat) : State := if s.twin.role = .follow then s else s.emit code 0

/-- TRIG_EDGE (R246). -/
def execTrigEdge (i : Nat) (level : Bool) (s : State) : Result :=
  .next (if 4 ≤ i then s
    else
      let rise := level && !s.pins.trig.getLsbD i
      let t := setTrig s.pins.trig i level
      let s1 := { s with pins := { s.pins with trig := t } }
      if rise then s1.emitPin (0x10 + i) else s1)
where
  setTrig (t : BitVec 4) (i : Nat) (v : Bool) : BitVec 4 :=
    if v then t ||| BitVec.ofNat 4 (2 ^ i) else t &&& ~~~(BitVec.ofNat 4 (2 ^ i))

/-- A second of ledger time passes (R323): an armed TIME_SET takes effect, with its entry. -/
def State.secondBoundary (s : State) : State :=
  let l := s.ledger
  match l.timeSet with
  | .some t =>
    (({ s with ledger := { l with sec := t, timeSet := .none, elapsed := l.elapsed + 1, secAt := s.cycle } }).ledgerNote 0x80 [l.sec, t]).flag
      Page.ledger 2
  | .none => { s with ledger := { l with sec := l.sec + 1, elapsed := l.elapsed + 1, secAt := s.cycle } }

/-- PPS_EDGE (R246, R323). -/
def execPpsEdge (level : Bool) (s : State) : Result :=
  let rise := level && !s.pins.pps
  let s1 := { s with pins := { s.pins with pps := level } }
  .next (if rise then
      let s2 := s1.emitPin 0x14
      State.secondBoundary { s2 with ledger := { s2.ledger with pps := true } }
    else s1)

/-- SW_STROBE written (R245): the sources of the set bits emit in one cycle. -/
def State.strobe (s : State) (value : Word) : State :=
  s.emitAll (((List.range 32).filter (bit value)).map (fun k => { code := 0x20 + k, hop := 0 }))

/-- SW_STROBE (R245). -/
def execSwStrobe (value : Word) (s : State) : Result := .next (s.strobe value)

/-! ### Modes and ownership -/

/-- Every fitted port is PARKED or OFF. -/
def State.allParked (s : State) : Bool :=
  (fittedPorts s.part).all (fun n => (s.port n).state == .parked || (s.port n).state == .off)

/-- TEST_CTRL written (R258). -/
def State.testCtrl (s : State) (on : Bool) : State :=
  if on && !s.allParked then s else (s.wr Page.event 0xa4 (word (b2n on))).settle

/-- TEST_CTRL_SINGLE (R258). -/
def execTestCtrlSingle (on : Bool) (s : State) : Result := .next (s.testCtrl on)

/-- A channel register by address: channel and offset 0, 4 or 8 (CH_SRC, CH_GATE, CH_ATTR). -/
def chanOf (a : Nat) : Option (Nat × Nat) :=
  let off := offOf a
  match pageKind (pageOf a) with
  | .evchan k =>
    if 0x40 ≤ off ∧ off < 0x240 ∧ off % 4 = 0 ∧ off % 16 ≠ 12 then
      .some (32 * k + (off - 0x40) / 16, off % 16)
    else .none
  | _ => .none

/-- The writable bits of a channel register (R267). -/
def chanMask (off : Nat) : Word := if off = 0 then 0x8fff else if off = 4 then 0x9fff else 0xf7

/-- A writer may change a channel register (R261, R262). -/
def State.mayWriteChannel (s : State) (who : Writer) (c off : Nat) : Bool :=
  let attr := s.reg (chanReg c 8)
  let owner := bits attr 0 2
  let closed := bit attr 2 && !bit (s.rd (Page.evchan (c / 32)) 0x20) 0
  match who with
  | .owner => (owner == 0 || owner == 3) && !closed
  | .maintenance => owner == 3 && off != 8 && !closed
  | .module => owner == 1
  | .twin => s.twin.role == .follow && decide (c < 480)

/-- A channel register written (R261, R262, R388): refused writes set ATTR_REFUSED; the host owner sets OWNER only to 0
or 3. -/
def State.writeChannel (s : State) (who : Writer) (a : Nat) (mask value : Word) : State :=
  match chanOf a with
  | .none => s
  | .some (c, off) =>
    let old := s.reg a
    let new := ((old &&& ~~~mask) ||| (value &&& mask)) &&& chanMask off
    if s.mayWriteChannel who c off = false then s.flag Page.event 2
    else
      let owner := bits new 0 2
      let fixed :=
        if off = 8 ∧ who = .owner ∧ (owner = 1 ∨ owner = 2) then setBits new 0 2 (bits old 0 2)
        else if off = 8 ∧ who = .twin ∧ (owner = 0 ∨ owner = 3) then setBits new 0 2 2
        else new
      s.setReg a fixed

/-- CHANNEL_CONFIG_WRITE (R261). -/
def execChannelConfigWrite (who : Writer) (addr : Nat) (mask value : Word) (s : State) : Result :=
  .next (s.writeChannel who addr mask value)

/-! ### Activations -/

/-- The oldest activation of a hook taken: what it carries, and the state without it. -/
def State.takeAct (s : State) (a : Nat) : Option (Activation × State) :=
  match s.fabric.acts.find? (fun x => x.hook == a) with
  | .none => .none
  | .some x => .some (x, { s with fabric := { s.fabric with acts := s.fabric.acts.erase x } })

/-- What an activation of a hook does, if one is presented. -/
def State.onAct (s : State) (a : Nat) (f : Activation → State → State) : State :=
  match s.takeAct a with
  | .none => s
  | .some (x, s1) => f x s1

/-- GC_CFG.ACTION applied to GROUP_ENABLE (R257). -/
def groupControl (enable cfg : Word) : Word :=
  let mask := cfg &&& 0xffff
  match bits cfg 16 2 with
  | 1 => enable &&& ~~~mask
  | 2 => enable ^^^ mask
  | _ => enable ||| mask

/-- The byte address of GC_HOOK of a unit. -/
def gcHook (u : Nat) : Nat := regAddr Page.event (0xc0 + 8 * u)

/-- An activation of a group-control unit consumed (R257): its action acts only while the fabric is in NORMAL. -/
def State.gcConsume (s : State) (x : Activation) : State :=
  let s1 : State := { s with fabric := { s.fabric with acts := s.fabric.acts.erase x } }
  if s1.fabric.mode = .normal then
    s1.wr Page.event 0x44 (groupControl (s1.rd Page.event 0x44) (s1.reg (x.hook + 4)))
  else s1

/-- GC_HOOK (R257): the unit's activation acts, after those of earlier cycles and those of lower units in the same cycle, which
stand before it in the order of presentation; of two that touch one group the last decides. -/
def execGcHook (u : Nat) (s : State) : Result :=
  .next (match if u < 8 then s.fabric.acts.find? (fun x => x.hook == gcHook u) else .none with
    | .none => s
    | .some x =>
      let before := (s.fabric.acts.takeWhile (fun y => y != x)).filter (fun y => ((List.range 8).map gcHook).contains y.hook)
      (before ++ [x]).foldl State.gcConsume s)

end Machine
end Sys2Proof
end

