-- ==== Sys2Proof/Machine/Timers.lean ====
section
/-! DEFINITION. The timers (R263, R264, R268): starts, stops, captures and counts, by register and by hook, the window's
opening and the expiry. -/

namespace Sys2Proof
namespace Machine

/-- The timer is running (R263): counting, or with its window open. -/
def Timer.active (x : Timer) : Bool := x.state == .running || x.state == .windowOpen

/-- The count now (R263): CK_CORE cycles since the start; activations in COUNT mode. -/
def State.timerCount (s : State) (t : Nat) : Nat :=
  let x := s.timer t
  if x.active && x.mode != 5 then (x.count + (s.cycle - x.at_)) % 2 ^ 48 else x.count % 2 ^ 48

/-- MODE of a TM_CFG word, 6 and 7 as 0 (R264). -/
def timerMode (cfg : Word) : Nat := if bits cfg 0 3 < 6 then bits cfg 0 3 else 0

/-- A start of a timer with the hop count that its expiry emits with (R252, R263). -/
def State.timerStart (s : State) (hop t : Nat) : State :=
  let x := s.timer t
  let cfg := s.reg (timerReg t 0)
  let mode := timerMode cfg
  if (x.active && !x.retrig) || mode = 0 then s
  else s.setTimer t { x with
    state := .running, mode := mode, retrig := bit cfg 3
    period := max 1 ((s.reg (timerReg t 4)).toNat + 2 ^ 32 * bits cfg 16 16)
    width := max 1 (s.reg (timerReg t 8)).toNat, count := 0, at_ := s.cycle, hop := hop }

/-- A stop of a timer (R263). -/
def State.timerStop (s : State) (t : Nat) : State :=
  s.setTimer t { s.timer t with state := .idle, count := s.timerCount t }

/-- The timers that a register write selects, in one cycle. -/
def timersOf (value : Word) : List Nat := (List.range 32).filter (bit value)

/-- TIMER_START (R263). -/
def execTimerStart (value : Word) (s : State) : Result :=
  .next ((timersOf value).foldl (fun s t => s.timerStart 0 t) s)

/-- TIMER_STOP (R263). -/
def execTimerStop (value : Word) (s : State) : Result := .next ((timersOf value).foldl State.timerStop s)

/-- HOOK_TSTART (R263): a stop of the same cycle wins. -/
def execHookTstart (t : Nat) (s : State) : Result :=
  .next (if t < 32 then s.onAct (timerHook t 0) (fun a s =>
      if (s.timer t).stopped = .some a.cycle then s else s.timerStart (a.hop + 1) t)
    else s)

/-- HOOK_TSTOP (R263). -/
def execHookTstop (t : Nat) (s : State) : Result :=
  .next (if t < 32 then s.onAct (timerHook t 4) (fun a s =>
      let s1 := s.timerStop t
      s1.setTimer t { s1.timer t with stopped := .some a.cycle })
    else s)

/-- A timer's expiry (R264): its event, EXPIRE_COUNT and the page flag. -/
def State.timerExpire (s : State) (t hop : Nat) (completed : Nat) : State :=
  let x := s.timer t
  ((s.setTimer t { x with expires := (x.expires + completed) % 65536 }).flag Page.timer t).emit (0x200 + 2 * t) hop

/-- HOOK_TCAPT (R263, R264): a capture, or a count in COUNT mode, where an activation emits at most one event. -/
def execHookTcapt (t : Nat) (s : State) : Result :=
  .next (if t < 32 then s.onAct (timerHook t 8) (fun a s =>
      let x := s.timer t
      if x.active = false then s
      else if x.mode = 5 then
        let c := x.count + a.count
        let s1 := s.setTimer t { x with count := c % x.period }
        if x.period ≤ c then s1.timerExpire t (a.hop + 1) (c / x.period) else s1
      else
        (s.setTimer t { x with
          capture := s.timerCount t, captOverrun := x.captOverrun || x.captValid, captValid := true }).emit
            (0x201 + 2 * t) (a.hop + 1))
    else s)

/-- TIMER_WINDOW_OPEN (R264): a waiting WINDOW timer has reached PERIOD. -/
def execTimerWindowOpen (t : Nat) (s : State) : Result :=
  let x := s.timer t
  .next (if t < 32 ∧ x.mode = 3 ∧ x.state = .running then
      s.setTimer t { x with state := .windowOpen, count := x.period, at_ := s.cycle }
    else s)

/-- The multiple of the period that a PERIODIC timer has reached: the first one not yet expired, at or after its
count. -/
def Timer.nextMultiple (x : Timer) (count : Nat) : Nat :=
  max (Config.ceilDiv count x.period * x.period) ((x.count / x.period + 1) * x.period)

/-- TIMER_EXPIRE (R264): the moment a running timer reaches its expiry. -/
def execTimerExpire (t : Nat) (s : State) : Result :=
  let x := s.timer t
  .next (if 32 ≤ t then s
    else match x.mode, x.state with
      | 1, .running => (s.setTimer t { x with state := .done, count := x.period }).timerExpire t x.hop 1
      | 2, .running =>
        (s.setTimer t { x with count := x.nextMultiple (s.timerCount t), at_ := s.cycle }).timerExpire t x.hop 1
      | 3, .windowOpen =>
        (s.setTimer t { x with state := .done, count := x.period + x.width }).timerExpire t x.hop 1
      | 4, .running => (s.setTimer t { x with count := 0, at_ := s.cycle }).timerExpire t x.hop 1
      | _, _ => s)

/-- SNAP_SEL written (R268): count and last capture from one cycle; CAPT_VALID and CAPT_OVERRUN cleared. -/
def State.snapTimer (s : State) (t : Nat) : State :=
  let t := t % 32
  let x := s.timer t
  let c := s.timerCount t
  let s1 := (s.wr Page.timer 0x3c0 (word t)).setTimer t { x with captValid := false, captOverrun := false }
  (((s1.wr Page.timer 0x3c4 (lo32 c)).wr Page.timer 0x3c8 (hi32 c)).wr Page.timer 0x3cc (lo32 x.capture)).wr Page.timer
    0x3d0 (hi32 x.capture)

/-- SNAP_SEL (R268). -/
def execSnapSel (t : Nat) (s : State) : Result := .next (s.snapTimer t)

/-- TM_STAT (R268). -/
def State.timerStat (s : State) (t : Nat) : Word :=
  let x := s.timer t
  let st := match x.state with | .idle => 0 | .running => 1 | .windowOpen => 2 | .done => 3
  word (st + b2n x.captValid * 2 ^ 8 + b2n x.captOverrun * 2 ^ 9 + x.expires % 65536 * 2 ^ 16)

end Machine
end Sys2Proof
end

