-- ==== Sys2Proof/Machine/Hooks.lean ====
section
/-! DEFINITION. Activations at port hooks (R53, R60, R79, R106, R226) and the pulse unit (R188-R190). -/

namespace Sys2Proof
namespace Machine

/-- The unit that a port's sequencing hooks steer (R79): the port, its group when it leads one, none for the other
members. Once the leader has left its group alone, no port's hooks steer the group, and late events still count on the page
of the leader of its ARM (DESIGN CHOICE, log entry 111). -/
def State.steered (s : State) (n : Nat) : Option SeqUnit :=
  match (s.port n).group with
  | .none => .some (.port n)
  | .some g => if (s.group g).leader = .some n then .some (.group g) else .none

/-- Hooks of the port have effect: not in SAFE (R407), not during a relock (R226) or on a port that is absent. -/
def State.hooksAct (s : State) (n : Nat) : Bool :=
  (s.port n).state != .safe && (s.port n).state != .absent && s.clock.relock.isNone

/-- A jump event on hook j of a unit (R53-R60): only a running playhead judges it. -/
def State.jumpEvent (s : State) (u : SeqUnit) (j hop : Nat) : State :=
  if s.unitState u ≠ .run then s
  else s.setPlayhead u ((s.playhead u).jumpEvent (s.unitSlot u) (s.unitKa u) (s.unitKa u) j hop)

/-- HOOK_JUMP (R53). -/
def execHookJump (n j : Nat) (s : State) : Result :=
  .next (if n < 144 ∧ j < 4 then s.onAct (hookJ n j) (fun a s =>
      match s.steered n with
      | .some u => if s.hooksAct n then s.jumpEvent u j (a.hop + 1) else s
      | .none => s)
    else s)

/-- PULSE_MISSED counted (R190). -/
def State.pulseMissed (s : State) (n : Nat) : State := s.count (Page.port n) 0x170

/-- A fire of a pulse unit (R189, R190): a pulse with the register values of now; the first fire moves an ARMED port
to RUN. -/
def State.fire (s : State) (n hop : Nat) : State :=
  let p := s.port n
  if (p.state != .armed && p.state != .run) || s.tripHeld n then s.pulseMissed n
  else match p.pulse with
    | .none =>
      let idle := bit (s.reg (portReg n 0x160)) 0
      let first := p.state == .armed
      let q : Port := { p with
        state := .run, requested := if first then .run else p.requested
        play := { p.play with hop := if first then hop else p.play.hop }
        pulse := .some { lead := true, idle := idle, delay := (s.reg (portReg n 0x164)).toNat
                         width := max 1 (s.reg (portReg n 0x168)).toNat } }
      s.setPort n (q.line idle)
    | .some x => if x.lead && bit (s.reg (portReg n 0x160)) 1 then s else s.pulseMissed n

/-- The port is a pulse unit now (R83). -/
def State.isPulse (s : State) (n : Nat) : Bool :=
  Config.portFitted s.part n && pulseUnit (Config.portType n) (s.port n).mode

/-- PULSE_CTRL.FIRE written (R189, R190). -/
def State.fireByRegister (s : State) (n : Nat) : State :=
  if s.isPulse n = false then s
  else if (s.port n).state = .paused then s.pulseMissed n
  else s.fire n 0

/-- PULSE_FIRE (R189). -/
def execPulseFire (n : Nat) (s : State) : Result := .next (s.fireByRegister n)

/-- PULSE_LEADING_EDGE (R188): the line takes the opposite level. -/
def execPulseLeadingEdge (n : Nat) (s : State) : Result :=
  .next (match (s.port n).pulse with
    | .some x =>
      if x.lead then
        ((s.modPort n (fun p => { p with pulse := .some { x with lead := false } }.line (!x.idle))).count (Page.port n) 0x16c)
      else s
    | .none => s)

/-- PULSE_END (R188): the line returns to idle. -/
def execPulseEnd (n : Nat) (s : State) : Result :=
  .next (match (s.port n).pulse with
    | .some x => if x.lead then s else s.modPort n (fun p => { p with pulse := .none }.line x.idle)
    | .none => s)

/-- A command of a port's hook latched for the unit it steers (R35, R60). -/
def State.hookLatch (s : State) (n : Nat) (what : Latched) (hop : Nat) : State :=
  match s.steered n with
  | .some u => if s.hooksAct n then s.latch u what hop else s
  | .none => s

/-- HOOK_START (R60, R189, R190): a START; on a pulse unit that is not paused, a fire. -/
def execHookStart (n : Nat) (s : State) : Result :=
  .next (if n < 144 then s.onAct (portReg n 0xd0) (fun a s =>
      if s.isPulse n && (s.port n).state != .paused then s.fire n (a.hop + 1)
      else s.hookLatch n .start (a.hop + 1))
    else s)

/-- HOOK_STOP (R60). -/
def execHookStop (n : Nat) (s : State) : Result :=
  .next (if n < 144 then s.onAct (portReg n 0xd4) (fun a s => s.hookLatch n .stop (a.hop + 1)) else s)

/-- HOOK_PAUSE (R60). -/
def execHookPause (n : Nat) (s : State) : Result :=
  .next (if n < 144 then s.onAct (portReg n 0xd8) (fun a s => s.hookLatch n .pause (a.hop + 1)) else s)

/-- HOOK_NCO (R106): a transfer of the pending NCO group, latched. -/
def execHookNco (n : Nat) (s : State) : Result :=
  .next (if n < 144 then s.onAct (portReg n 0xdc) (fun _ s =>
      if s.hooksAct n then s.latchTransfer n true else s) else s)

/-- HOOK_COMMIT (R106, R452): a transfer of every pending shadow field, latched. -/
def execHookCommit (n : Nat) (s : State) : Result :=
  .next (if n < 144 then s.onAct (portReg n 0xe0) (fun _ s =>
      if s.hooksAct n then s.latchTransfer n false else s) else s)

end Machine
end Sys2Proof
end

