-- ==== Sys2Proof/Machine/Pair.lean ====
section
/-! DEFINITION. The module's place in its pair as other families use it: whether it permits output (R183, R385), the
switches and drivers that follow (R182, R184, R186), OUT_SEL (R206), readiness (R401), FAILOVER entries (R419),
the release of LEAD_ACT (R399), planned swaps requested and escalation (R403, R410). -/

namespace Sys2Proof
namespace Machine

/-! ### Permission and switches -/

/-- The module holds LEAD_ACT; a module without the twin link counts as holding it (R385, R206). -/
def State.holdsLead (s : State) : Bool := !Config.twinLink s.part || s.twin.driven

/-- The role permits output (R183, R385): in FOLLOW only during a swap's exchange (R403). -/
def State.permitsOutput (s : State) : Bool :=
  match s.twin.role with
  | .solo | .lead => s.holdsLead
  | .follow => s.twin.permit

/-- The role permits closed force switches: a new lead waits for the other's to open (R402 step 4, R403 step 3), and an
old lead's are open (R403 step 2). -/
def State.permitsForce (s : State) : Bool :=
  match s.twin.role with
  | .solo => s.holdsLead
  | .lead => s.holdsLead && s.twin.takeover != .some .sense && s.twin.swapStep != .some .exchanged
  | .follow => false

/-- OUT_SWITCH.CLOSE and the conditions of R183, the role apart; a port held off by a rail counts as powering up. -/
def State.portMayClose (s : State) (n : Nat) : Bool :=
  let p := s.port n
  bit (s.reg (portReg n 0xa0)) 0 && p.state != .off && p.state != .absent && p.power == .on && !s.railHolds n

/-- The switches of a P-port, or the driver of an F- or D-port, brought toward what R183 asks for (R182): the sense
switches close first and open last. While a unit is in SAFE its isolation switches do not change (R407), but for the role
and the rails; a driver follows its enable (R184, R186). -/
def State.settleSwitches (s : State) (n : Nat) : State :=
  let p := s.port n
  let role := s.permitsOutput
  let want := s.portMayClose n && role
  match Config.portType n with
    | .p =>
      let wantF := want && s.permitsForce
      let x := p.switches
      let y : Switches :=
        if want = false then
          if x.sense = false && x.force = false then { x with moving := .none }
          else { x with force := false, moving := if x.sense then .some false else .none }
        else if wantF = false then { sense := true, force := false, moving := .none }
        else if x.sense && x.force then { x with moving := .none }
        else { x with sense := true, moving := .some true }
      if p.state = .safe ∧ role ∧ s.railHolds n = false then s else s.setPort n { p with switches := y }
    | _ => s.setPort n { p with switches := { sense := false, force := want, moving := .none } }

/-- Every fitted port's switches and driver brought toward what the role permits. -/
def State.settleAllSwitches (s : State) : State := (fittedPorts s.part).foldl State.settleSwitches s

/-- OUT_SWITCH as read (R210). -/
def State.outSwitch (s : State) (n : Nat) : Word :=
  let p := s.port n
  let close := bit (s.reg (portReg n 0xa0)) 0
  let closed := match Config.portType n with
    | .p => p.switches.sense && p.switches.force
    | _ => p.switches.force
  word (b2n close + b2n closed * 2 ^ 8 + b2n (close && !(s.portMayClose n && s.permitsOutput)) * 2 ^ 9)

/-- The level of OUT_SEL, none while the pin is high impedance (R206). -/
def State.outSel (s : State) : Option Bool :=
  if s.life.reset || !s.life.supplies then .none
  else .some (s.life.ready && s.twin.role != .follow && s.holdsLead)

/-! ### The pair -/

/-- The loop has its reference, or coasts. -/
def State.loopRuns (s : State) : Bool := s.clock.loop == .locked || s.clock.loop == .refReturned || s.clock.loop == .coasting

/-- The units in SAFE: page numbers. -/
def State.safeUnits (s : State) : List Nat :=
  ((fittedPorts s.part).filter (fun n => (s.port n).state == .safe)).map Page.port ++
  ((List.range (Config.spares s.part)).filter (fun g => (s.spare g).fault || (s.spare g).safeRecord.isSome)).map Page.spare ++
  ((List.range 32).filter (fun g => (s.group g).state == .safe)).map Page.group

/-- The module's own readiness as a follower (R401). -/
def State.readyFollower (s : State) : Bool :=
  let pol := s.rd Page.twin 0x4c
  s.twin.role == .follow && s.twin.linkLocked && s.safeUnits.isEmpty &&
    (!bit pol 1 || s.twin.diverged.isEmpty) && (!bit pol 2 || s.clock.refPresent)

/-- TWIN_STATE.PARTNER_READY (R401, R404). -/
def State.partnerReady (s : State) : Bool :=
  s.twin.role == .lead && s.twin.linkUp && s.twin.heartbeat && (match s.twin.partner with
    | .some p => p.ready
    | .none => false)

/-- The follower is ready for a planned swap (R401, R403): every port IN_STEP. -/
def State.partnerInStep (s : State) : Bool :=
  s.partnerReady && (match s.twin.partner with
    | .some p => p.inStep
    | .none => false)

/-- TWIN_ROLE.ROLE. -/
def Role.code : Role → Nat
  | .solo => 0
  | .lead => 1
  | .follow => 2

/-- A FAILOVER entry (R419): event, fault code and page; the two times and the partner's serial number are free values
(DESIGN CHOICE, log entry 5). -/
def State.failover (s : State) (event : Nat) (fault : Nat := 0) (page : Nat := 0) : State :=
  let t := (Config.freeTime s.free).toNat
  let u := (Config.freeTime (s.free + 1)).toNat
  let partner := if s.twin.partner.isSome then (Config.freeTime (s.free + 2)).toNat else 0
  let bytes := leBytes 1 event ++ leBytes 1 s.twin.role.code ++ leBytes 2 fault ++ leBytes 2 page ++ leBytes 2 0 ++
    leBytes 4 t ++ leBytes 4 u ++ leBytes 4 ((s.twin.diverged.filter (fun e => decide (e < 144))).length) ++
    leBytes 8 partner
  s.spend.spend.spend.ledgerWrite 0x40 0 bytes []

/-- The role changed, with what follows from it: the lifecycle state, the switches and drivers. -/
def State.setRole (s : State) (r : Role) : State :=
  { s with twin := { s.twin with role := r } }.settle.settleAllSwitches

/-- LEAD_ACT released by its watchdog (R399): the drivers and switches open, OUT_SEL falls, ROLE becomes FOLLOW, or SOLO
when REQUEST changed to SOLO; a SOLO module stays SOLO. -/
def State.releaseLead (s : State) (byRequest : Option Role) : State :=
  if s.twin.driven = false then s
  else
    let was := s.twin.role
    let role : Role := match byRequest with
      | .some .solo => .solo
      | _ => if was = .lead then .follow else was
    let s1 : State := { s with twin := { s.twin with
      driven := false, barred := byRequest.isNone, permit := false, phase := .none, swapStep := .none
      swap := if s.twin.swap = .scheduled then .refused else s.twin.swap, takeover := .none } }
    ((s1.setRole role).fault Page.twin 0x15 |>.flag Page.twin 5).failover 4 0x15 Page.twin

/-- A planned swap requested on this module (R403): scheduled, or refused. -/
def State.requestSwap (s : State) : State :=
  let ok := s.twin.role == .lead && s.partnerInStep && s.twin.swapStep.isNone
  if ok then { s with twin := { s.twin with swap := .scheduled, swapStep := .some .announced, phase := .swapping } }
  else { s with twin := { s.twin with swap := .refused } }

/-- A fault escalated (R410): a planned swap, refused with EVENT 9; a fault of CK_ROOT or CK_CORE then releases
LEAD_ACT. -/
def State.escalate (s : State) (fault page : Nat) (timing : Bool := false) : State :=
  if s.twin.role = .lead ∧ bit (s.rd Page.twin 0x4c) 4 ∧ s.partnerReady then
    let accepted := s.partnerInStep && s.twin.swapStep.isNone
    let s1 := s.requestSwap
    if accepted then s1
    else
      let s2 := s1.failover 9 fault page
      if timing then s2.releaseLead .none else s2
  else s

end Machine
end Sys2Proof
end

