-- ==== Sys2Proof/Machine/Memory.lean ====
section
/-! DEFINITION. The memory stacks and their controllers (R124-R149): refresh, temperature and crossings, parity, training,
the reads of the fetch engine, and the posted-write buffer (R163). -/

namespace Sys2Proof
namespace Machine

/-- The stack is fitted (R1). -/
def State.stackFitted (s : State) (k : Nat) : Bool := k < Config.stackCount s.part

/-- A stack changed by a function. -/
def State.modStack (s : State) (k : Nat) (f : Stack → Stack) : State := s.setStack k (f (s.stack k))

/-! ### Refresh (R130-R137) -/

/-- A tick of the refresh timer (R132, R133). -/
def Stack.tick (x : Stack) : Stack :=
  let owed := min 8 (x.owed + 1)
  { x with owed := owed, peakOwed := max x.peakOwed owed, forced := x.forced || owed == 8 }

/-- REFRESH_TICK (R130, R132): a stack that has left training and is not in self-refresh. -/
def execRefreshTick (k : Nat) (s : State) : Result :=
  .next (if s.stackFitted k && (s.stack k).train == .tracking then s.modStack k Stack.tick else s)

/-- The lanes of a stack whose delays the controller tracks (R147): 32 DQ on each of its 32 pseudo-channels (R124; DEDUCED,
log entry 112). -/
def stackLanes : Nat := 32 * 32

/-- The tracking steps of a number of refreshes (R147): one for each lane and refresh at most, counted modulo 65,536. -/
def Stack.track (x : Stack) (refreshes steps : Nat) : Stack :=
  { x with taps := (x.taps + min steps (stackLanes * refreshes)) % 65536 }

/-- REFRESH_ISSUE (R132, R147): one all-bank refresh with its tracking steps, where one is owed and no real-time train is in
progress or waiting on the stack; a batch goes first. -/
def execRefreshIssue (k tapSteps : Nat) (s : State) : Result :=
  let x := s.stack k
  .next (if s.stackFitted k && x.train == .tracking && decide (0 < x.owed) && !x.forced && !x.up && !s.readWaits k &&
        !s.trainRuns k then
      s.modStack k (fun x => { x with owed := x.owed - 1 }.track 1 tapSteps)
    else s)

/-- FORCED_BATCH (R133, R147): all eight refreshes owed; a crossing's batch includes it. -/
def execForcedBatch (k tapSteps : Nat) (s : State) : Result :=
  let x := s.stack k
  .next (if s.stackFitted k && x.train == .tracking && x.forced && !x.up then
      ((s.modStack k (fun x => { x with owed := 0, forced := false }.track x.owed tapSteps)).count (Page.memctl k) 0x70).flag
        (Page.memctl k) 4
    else s)

/-- An upward crossing (R135, R137): its batch is due at the next burst boundary. -/
def State.crossUp (s : State) (k : Nat) : State :=
  if (s.stack k).up then s
  else ((s.modStack k (fun x => { x with up := true })).countField (Page.memctl k) 0x74 0 16 1).flag (Page.memctl k) 5

/-- A downward crossing (R136): the owed count carries over. -/
def State.crossDown (s : State) (k : Nat) : State :=
  ((s.modStack k (fun x => { x with doubled := false })).countField (Page.memctl k) 0x74 16 16 1).flag (Page.memctl k) 6

/-- STACK_TEMP_READING (R134, R137): the reading and what it crosses; the first reading places the mode. -/
def execStackTempReading (k : Nat) (celsius : Int) (s : State) : Result :=
  let x := s.stack k
  .next (if s.stackFitted k && x.train == .tracking then
      let s1 := s.setStack k { x with
        temp := .some celsius, peakTemp := max x.peakTemp (min 255 celsius.toNat), initial := false
        doubled := if x.initial then x.forceDouble || decide (80 ≤ celsius) else x.doubled }
      if x.initial || x.forceDouble then s1
      else if x.doubled = false ∧ 85 < celsius then s1.crossUp k
      else if x.doubled = true ∧ celsius < 80 then s1.crossDown k
      else s1
    else s)

/-- CROSSING_BATCH (R135, R147): every owed refresh as one batch, a forced batch included; the stack is in doubled mode. -/
def execCrossingBatch (k tapSteps : Nat) (s : State) : Result :=
  .next (if s.stackFitted k && (s.stack k).up then
      s.modStack k (fun x => { x with owed := 0, forced := false, up := false, doubled := true }.track x.owed tapSteps)
    else s)

/-- REFRESH_CFG.FORCE_DOUBLE written (R137). -/
def State.writeForceDouble (s : State) (k : Nat) (on : Bool) : State :=
  if s.stackFitted k = false then s
  else
    let x := s.stack k
    let s1 := (s.setStack k { x with forceDouble := on }).wr (Page.memctl k) 0x40 (word (b2n on))
    if on && !x.doubled then s1.crossUp k
    else
      let cool := match x.temp with
        | .some t => decide (t < 80)
        | .none => false
      if !on && x.doubled && !x.initial && cool then s1.crossDown k else s1

/-- FORCE_DOUBLE_WRITE (R137). -/
def execForceDoubleWrite (k : Nat) (on : Bool) (s : State) : Result := .next (s.writeForceDouble k on)

/-! ### Parity and training (R138-R140, R146) -/

/-- PARITY_ALERT (R138-R140): the error counted and replayed; the fourth failure of a command fails its
pseudo-channel, the seventeenth error within 1 ms is a storm. -/
def execParityAlert (k pc failures errorsInMs : Nat) (s : State) : Result :=
  let pg := Page.memctl k
  .next (if s.stackFitted k && decide (pc < 32) then
      let s1 := ((s.count pg 0x50).count pg 0x54).setFlags pg 3
      let s2 :=
        if 4 ≤ failures ∧ (s1.stack k).failed.contains pc = false then
          (((s1.modStack k (fun x => { x with failed := x.failed ++ [pc] })).fault pg 8).setDegraded 1 true).escalate 8 pg
        else s1
      if errorsInMs = 17 then (s2.fault pg 9).flag pg 8 else s2
    else s)

/-- TRAINING_COMPLETE (R146): tracking, or one retry, or FAILED with the page in SAFE. Before READY the fault and the
DEGRADED cause wait for step 7 (R426). -/
def execTrainingComplete (k : Nat) (ok : Bool) (s : State) : Result :=
  let x := s.stack k
  .next (if s.stackFitted k && x.train == .training then
      if ok then s.setStack k { x with train := .tracking, doubled := true, initial := true, owed := 0, forced := false, up := false }
      else if x.attempts < 2 then s.setStack k { x with attempts := x.attempts + 1 }
      else s.setStack k { x with train := .failed }
    else s)

/-! ### Reads (R139-R145, R148) -/

/-- Reads of an address are uncorrectable without refetch: a failed stack or pseudo-channel (R139, R146). -/
def State.unreadable (s : State) (a : Nat) : Bool :=
  let c := s.pseudo a
  let x := s.stack (c / 32)
  x.train == .failed || x.failed.contains (c % 32)

/-- An uncorrectable read recorded (R141). -/
def State.eccUncorr (s : State) (a : Nat) : State :=
  let pg := Page.memctl (s.stackOf a)
  (((s.count pg 0x5c).wr pg 0x60 (lo32 a)).wr pg 0x64 (word (a / 2 ^ 32 % 256))).flag pg 3

/-- A read that the stack corrected recorded (R141). -/
def State.eccCorr (s : State) (a : Nat) : State :=
  let pg := Page.memctl (s.stackOf a)
  (s.count pg 0x58).flag pg 2

/-- The latency of a read of an admitted port (R148): a free value on its side of 3,500 ns; one beyond the bound is
counted. -/
def State.fetchLatency (s : State) (n a : Nat) (overBound : Bool) : State :=
  if s.bestEffort n then s
  else
    let pg := Page.memctl (s.stackOf a)
    let v := (Config.freeTime s.free).toNat
    let ns := if overBound then min 0xffff (3501 + v) else v % 3501
    let w := s.rd pg 0x6c
    let s1 := s.spend.wr pg 0x6c (setBits w 0 16 (max (bits w 0 16) ns))
    if overBound then ((s1.countField pg 0x6c 16 16 1).flag pg 7).fault pg 0xb else s1

/-- The slot of a stream granule has begun (R73): it is not ahead of the playhead. -/
def State.slotBegun (s : State) (n : Nat) (f : Fetched) : Bool :=
  let p := s.port n
  let ph := s.walking n
  f.pass < p.bobbin.playing ||
    (f.pass == p.bobbin.playing && ph.activity == .segment && f.gran ≤ ph.gran && p.seg.streams f.gran)

/-- A stream granule that arrived for good (R42, R73): into the bobbin, unless its slot has begun. -/
def State.deliver (s : State) (n : Nat) (f : Fetched) : State :=
  let s1 := s.crcArrive n f
  if s1.slotBegun n f then s1
  else s1.modPort n (fun p => { p with bobbin := { p.bobbin with present := p.bobbin.present ++ [f] } })

/-- The read of a port's fetch engine that returns next: the oldest issued one, or the oldest, which is then issued. -/
def Bobbin.returning (b : Bobbin) : Option Fetched := (b.flying.find? (fun f => f.issued)) <|> b.flying.head?

/-- What the severity of one read leaves (R141): the read is uncorrectable, or its stack or pseudo-channel has failed. -/
def State.readSeverity (s : State) (a : Nat) (severity : Severity) : State × Bool :=
  if severity = .uncorrectable ∨ s.unreadable a then (s.eccUncorr a, true)
  else if severity = .corrected then (s.eccCorr a, false)
  else (s, false)

/-! ### Reads at the service class (R141, R369, R375) -/

/-- The address of the granule that a byte address lies in. -/
def State.granuleAt (s : State) (a : Nat) : Nat := s.memAddr a / 64 * 64

/-- A read of a granule at the service class is uncorrectable (R141): no rule refetches it. -/
def State.readFails (s : State) (reads : ReadErrors) (a : Nat) : Bool :=
  s.unreadable a || reads.bad.contains (s.granuleAt a) || reads.once.contains (s.granuleAt a)

/-- The severities of such reads' granules counted (R141). -/
def State.countService (s : State) (reads : ReadErrors) (gs : List Nat) : State :=
  gs.foldl (fun s b =>
    (s.readSeverity b (if s.readFails reads b then .uncorrectable
      else if reads.corrected.contains b then .corrected else .clean)).1) s

/-- READ_COMPLETE (R141, R142, R148, R151): a read of a port's fetch engine returns. -/
def execReadComplete (n : Nat) (severity : Severity) (overBound : Bool) (s : State) : Result :=
  let p := s.port n
  .next (match p.bobbin.returning with
    | .none => s
    | .some f =>
      let s1 := (s.setPort n { p with bobbin := { p.bobbin with flying := p.bobbin.flying.erase f } }).fetchLatency n f.addr overBound
      let r := s1.readSeverity f.addr severity
      if f.pass = 0 then r.1
      else if r.2 = false then r.1.deliver n { f with data := .some (r.1.readGranule f.addr) }
      else if r.1.unreadable f.addr then r.1.deliver n { f with data := .none }
      else r.1.modPort n (fun p => { p with bobbin := { p.bobbin with
        refetch := p.bobbin.refetch ++ [{ f with issued := false, train := 0 }] } }))

/-- REFETCH_COMPLETE (R141, R142): the oldest refetch returns; bad or late, its slot is a hold. -/
def execRefetchComplete (n : Nat) (severity : Severity) (late overBound : Bool) (s : State) : Result :=
  let p := s.port n
  .next (match p.bobbin.refetch with
    | [] => s
    | f :: rest =>
      let s1 := (s.setPort n { p with bobbin := { p.bobbin with refetch := rest } }).fetchLatency n f.addr overBound
      let r := s1.readSeverity f.addr severity
      if r.2 then r.1.deliver n { f with data := .none }
      else r.1.deliver n { f with data := if late && !r.1.slotBegun n f then .none else .some (r.1.readGranule f.addr) })

/-- FETCH_REQUEST (R150). -/
def execFetchRequest (n : Nat) (s : State) : Result := .next (s.requestGranule n)

/-! ### The posted-write buffer (R20, R144, R163) -/

/-- The granules of a copy's memory range include the granule at an address (R155). -/
def State.copyCovers (s : State) (c : Copy) (a : Nat) : Bool :=
  let size := Config.memoryBytes s.part
  let granules := c.marks.length + c.len
  (a + size - s.memAddr c.addr) % size < 64 * granules

/-- One granule written in part or whole: the bytes supplied from an offset in the granule on (R20). A granule of a
failed pseudo-channel keeps its content (R139); with the old content unreadable the other bytes become zero (R144). -/
def State.writeGranule (s : State) (a : Nat) (bytes : List Byte) (oldUnreadable : Bool) : State :=
  let base := s.memAddr a / 64 * 64
  let c := s.pseudo base
  if (s.stack (c / 32)).failed.contains (c % 32) then s
  else
    let partly := bytes.length < 64
    let s1 := if partly && (oldUnreadable || s.unreadable base) then
        (s.eccUncorr base).writeBytes base (List.replicate 64 0)
      else s
    let s2 := s1.writeBytes (s.memAddr a) bytes
    { s2 with copies := s2.copies.map (fun x => if s2.copyCovers x base then { x with touched := true } else x) }

/-- POSTED_WRITE_DRAIN (R19, R163): the next granule of the oldest buffered write is written, once no read waits on its
pseudo-channel: bulk writes are of the lowest class. -/
def execPostedWriteDrain (oldUnreadable : Bool) (s : State) : Result :=
  .next (match s.bulk.buffer with
    | [] => s
    | w :: rest =>
      if s.channelBusy w.addr then s
      else
        let k := 64 - w.addr % 64
        let left := w.bytes.drop k
        let buffer := if left.isEmpty then rest else { w with addr := w.addr + k, bytes := left } :: rest
        { s with bulk := { s.bulk with buffer := buffer } }.writeGranule w.addr (w.bytes.take k) oldUnreadable)

end Machine
end Sys2Proof
end

