-- ==== Sys2Proof/Machine/Staging.lean ====
section
/-! DEFINITION. Staging and the segment cache (R42, R64, R75, R86, R154-R158) and admission control (R159-R162). -/

namespace Sys2Proof
namespace Machine

/-! ### The reachable entries (R86) -/

/-- The entries that can follow an entry: next entries, LOOP_BACK targets, enabled jump targets, enabled WAIT timeout
targets. -/
def nextEntries (e : BitVec 256) (i : Nat) : List Nat :=
  match entryKind e with
  | .halt => []
  | .play =>
    (i + 1) :: ((List.range 4).filter (fun j => jumpEn (jumpWord e j))).map (fun j => jumpTarget (jumpWord e j))
  | .loopBack => [i + 1, field e 8 18]
  | .wait => (i + 1) :: (if field e 82 1 = 1 then [field e 64 18] else [])
  | .ncoSet | .gap => [i + 1]

/-- The first entry from an index on that has been written. An entry that was never written is zero: a PLAY of
descriptor 0 without jumps, which only leads to the next. -/
def State.writtenFrom (s : State) (i : Nat) : Option Nat :=
  (s.entries.map (fun e => e.1)).find? (fun j => decide (i ≤ j))

/-- The entries reachable from a list of entries, one standing for a run of entries never written; `fuel` bounds the
entries looked at. -/
def State.reach (s : State) : Nat → List Nat → List Nat → List Nat
  | 0, _, seen => seen
  | _, [], seen => seen
  | fuel + 1, i :: todo, seen =>
    if 2 ^ 18 ≤ i then s.reach fuel todo seen
    else match s.writtenFrom i with
      | .none => s.reach fuel todo (i :: seen)
      | .some j =>
        let seen1 := if i = j then seen else i :: seen
        if seen.contains j then s.reach fuel todo seen1
        else s.reach fuel (nextEntries (s.entryAt j) j ++ todo) (j :: seen1)

/-- More steps than a visit of every written entry and every edge takes. -/
def State.reachFuel (s : State) : Nat := 6 * s.entries.length + 8

/-- A list of naturals in ascending order, each once. -/
def sortedOnce (l : List Nat) : List Nat :=
  l.foldl (fun acc a => insertClass a acc) []

/-- The descriptor indexes that a port plays in a set of entries, ascending. -/
def State.reachedDescs (s : State) (n : Nat) (entries : List Nat) : List Nat :=
  sortedOnce (entries.filterMap (fun i =>
    let e := s.entryAt i
    if entryKind e = .play then .some (s.playedDesc n e) else .none))

/-! ### The cache (R154-R158) -/

/-- Blocks of 4 KiB in the cache. -/
def cacheBlocks : Nat := 9216

/-- Blocks that n granules take (R154). -/
def blocksOf (n : Nat) : Nat := Config.ceilDiv (n * 64) 4096

/-- Blocks that a copy takes: its data and its marker granules are placed apart. -/
def Copy.blocks (c : Copy) : Nat := blocksOf c.data.length + blocksOf c.marks.length

/-- Blocks in use (R170). -/
def State.cacheUsed (s : State) : Nat := (s.copies.map Copy.blocks).foldl (· + ·) 0

/-- Blocks pinned (R170). -/
def State.cachePinned (s : State) : Nat := ((s.copies.filter (·.pinned)).map Copy.blocks).foldl (· + ·) 0

/-- A copy serves a descriptor (R155, R158): same ADDR and LEN, and either pinned or untouched. -/
def Copy.serves (c : Copy) (d : Nat) (w : BitVec 256) : Bool :=
  c.desc == d && c.addr == descAddr w && c.len == descLen w && (c.pinned || !c.touched)

/-- A granule as a copy takes it: none when it is poisoned (R144). -/
def State.copied (s : State) (reads : ReadErrors) (a : Nat) : Option Granule :=
  let b := s.memAddr a
  if reads.bad.contains b || s.unreadable b then .none else .some (s.readGranule b)

/-- The severities of the reads of granules counted (R141, R144): of an uncorrectable one the read and its refetch, which
may be good, or the read alone where there is no refetch. -/
def State.countReads (s : State) (reads : ReadErrors) (addrs : List Nat) : State :=
  addrs.foldl (fun s a =>
    let b := s.memAddr a
    if s.unreadable b then s.eccUncorr b
    else if reads.bad.contains b then (s.eccUncorr b).eccUncorr b
    else if reads.once.contains b then s.eccUncorr b
    else if reads.corrected.contains b then s.eccCorr b
    else s) s

/-- Every read is clean. -/
def ReadErrors.none : ReadErrors := { corrected := [], once := [], bad := [] }

/-- The addresses of granules a segment's data takes from index i to j. -/
def dataAddrs (t : PType) (w : BitVec 256) (i j : Nat) : List Nat :=
  (List.range (j - i)).map (fun k => dataAddr t w (i + k))

/-- The addresses of the data granules that a copy takes from index i to j, after its marker granules. -/
def Copy.dataAddrs (c : Copy) (i j : Nat) : List Nat := (List.range (j - i)).map (fun k => c.addr + 64 * (c.marks.length + i + k))

/-- The addresses of a segment's marker granules (R69). -/
def markAddrs (t : PType) (w : BitVec 256) : List Nat := (List.range (descMarks t w)).map (fun k => descAddr w + 64 * k)

/-- The copy that a port uses or can share for a descriptor: pinned copies first. -/
def State.shareable (s : State) (n d : Nat) (w : BitVec 256) : Option Copy :=
  (s.copyFor n d) <|> (s.copies.find? (fun c => c.pinned && c.serves d w)) <|> (s.copies.find? (fun c => c.serves d w))

/-- An item placed for a port: a copy of a descriptor with at least `need` data granules, shared where one can be,
extended or made otherwise; none when no blocks remain (R154, R155). -/
def State.place (s : State) (t : PType) (n d : Nat) (w : BitVec 256) (need : Nat) (reads : ReadErrors) :
    Option State :=
  let free := cacheBlocks - s.cacheUsed
  match s.shareable n d w with
  | .some c =>
    let have_ := c.data.length
    let more := if need ≤ have_ then [] else c.dataAddrs have_ need
    let data := c.data ++ more.map (s.copied reads)
    let c1 := { c with data := data, whole := decide (c.len ≤ data.length)
                       users := if c.users.contains n then c.users else c.users ++ [n] }
    if c1.blocks - c.blocks ≤ free then
      .some ({ s with copies := s.copies.map (fun x => if x = c then c1 else x) }.countReads reads more)
    else .none
  | .none =>
    let addrs := dataAddrs t w 0 need
    let marks := markAddrs t w
    let c : Copy :=
      { desc := d, addr := descAddr w, len := descLen w, whole := decide (descLen w ≤ need)
        data := addrs.map (s.copied reads), marks := marks.map (fun a => (s.copied reads a).getD 0)
        users := [n], pinned := false, touched := false }
    if c.blocks ≤ free then .some ({ s with copies := s.copies ++ [c] }.countReads reads (marks ++ addrs)) else .none

/-- The CRC of a copied segment (R42); with a poisoned granule it is a free value. -/
def State.copyCrc (s : State) (data : List (Option Granule)) : Word :=
  if data.all Option.isSome then crc32c (data.flatMap (fun g => granuleBytes (g.getD 0)))
  else word (Config.freeTime s.free).toNat

/-- The copy that a port holds for a descriptor fails its CRC (R42). -/
def State.copyFails (s : State) (n d : Nat) (w : BitVec 256) : Bool :=
  descCrcEn w && (match s.copyFor n d with
    | .some c => s.copyCrc (c.data.take (descLen w)) != descCrc w
    | .none => false)

/-- A port's use of its copy of a descriptor dropped. -/
def State.dropCopy (s : State) (n d : Nat) : State :=
  { s with copies := freeCopies (s.copies.map (fun c =>
      if c.desc = d then { c with users := c.users.filter (· != n) } else c)) }

/-- A port's copy of a descriptor dropped for its data alone: its marker granules stay (R42, R69). -/
def State.dropData (s : State) (n d : Nat) : State :=
  match s.copyFor n d with
  | .none => s
  | .some c =>
    let s1 := s.dropCopy n d
    if c.marks.isEmpty then s1
    else { s1 with copies := s1.copies ++ [{ c with data := [], whole := false, users := [n], pinned := false }] }

/-! ### Staging one port (R86, R154) -/

/-- Staging under way: the state, and whether it has failed. -/
structure Staging where
  s : State
  failed : Bool

/-- A port's SHORT_MAP bit set (R154). -/
def State.setShort (s : State) (n : Nat) : State := (s.mapSet Page.cache 0x50 n true).flag Page.cache 1

/-- POLICY rewritten to 0 (R75). -/
def State.policyZero (s : State) (n : Nat) : State :=
  let a := portReg n 0x58
  s.setReg a (setBits (s.reg a) 0 2 0)

/-- A cache segment that fails its CRC ends the ARM (R42, R86). -/
def Staging.crcFail (x : Staging) (n : Nat) (w : BitVec 256) : Staging :=
  { s := x.s.dataFault n (descAddr w) (.some 5), failed := true }

/-- Orders 1, 3 and 4 of R154 for one descriptor of a port. -/
def Staging.item (x : Staging) (n : Nat) (order : Nat) (reads : ReadErrors) (d : Nat) : Staging :=
  if x.failed then x
  else
    let s := x.s
    let t := Config.portType n
    let w := s.desc d
    match order with
    | 1 =>
      if descMarks t w = 0 then x
      else match s.place t n d w 0 reads with
        | .some s1 => { x with s := s1 }
        | .none => { x with failed := true }
    | 3 =>
      if descRes w ≠ 0 then x
      else match s.place t n d w (descLen w) reads with
        | .some s1 => let y := { x with s := s1 }; if s1.copyFails n d w then y.crcFail n w else y
        | .none => { x with s := s.setShort n }
    | _ =>
      if descRes w ≠ 2 then x
      else match s.place t n d w (min (descLen w) (headLen t (s.port n).div w)) reads with
        | .some s1 => { x with s := s1 }
        | .none => { x with s := s.setShort n }

/-- Order 2 of R154: the recovery entry's segment under POLICY 2 (R42, R75). -/
def Staging.recovery (x : Staging) (n : Nat) (reads : ReadErrors) : Staging :=
  let s := x.s
  let t := Config.portType n
  let reg := s.reg (portReg n 0x58)
  if x.failed ∨ bits reg 0 2 ≠ 2 then x
  else
    let e := s.entryAt (bits reg 10 18)
    let d := s.playedDesc n e
    let w := s.desc d
    if entryKind e ≠ .play ∨ descSuits t (s.port n).mode w = false then { x with s := s.policyZero n }
    else match s.place t n d w (descLen w) reads with
      | .none => { x with s := (s.policyZero n).setShort n }
      | .some s1 =>
        if s1.copyFails n d w = false then { x with s := s1 }
        else if descRes w = 0 then ({ x with s := s1 } : Staging).crcFail n w
        else { x with s := (((s1.dropData n d).policyZero n).dataFault n (descAddr w) (.some 5)).setShort n }

/-- Descriptors that a pinned copy serves, taken up by the port (R158). -/
def State.takePinned (s : State) (n : Nat) (ds : List Nat) : State :=
  let t := Config.portType n
  ds.foldl (fun s d =>
    if s.copies.any (fun c => c.pinned && c.serves d (s.desc d)) then (s.place t n d (s.desc d) 0 ReadErrors.none).getD s
    else s) s

/-- The entry at which a unit starts: the one that its ARM took (R88, R449). -/
def State.startEntry (s : State) (u : SeqUnit) : Nat := (s.playhead u).start

/-- The descriptors of a port that staging reaches and that suit it (R41, R86), ascending. -/
def State.stagedDescs (s : State) (n start : Nat) : List Nat :=
  let reg := s.reg (portReg n 0x58)
  let starts := start :: (if bits reg 0 2 = 2 then [bits reg 10 18] else [])
  (s.reachedDescs n (s.reach s.reachFuel starts [])).filter
    (fun d => descSuits (Config.portType n) (s.port n).mode (s.desc d))

/-- The items of one port placed in the order of R154. -/
def Staging.port (x : Staging) (n : Nat) (ds : List Nat) (reads : ReadErrors) : Staging :=
  let x0 : Staging := { x with s := x.s.takePinned n ds }
  let x1 := ds.foldl (fun x d => Staging.item x n 1 reads d) x0
  let x2 := x1.recovery n reads
  let x3 := ds.foldl (fun x d => Staging.item x n 3 reads d) x2
  ds.foldl (fun x d => Staging.item x n 4 reads d) x3

/-! ### Admission (R159-R162) -/

/-- Granules of a descriptor's data that the cache holds for a port. -/
def State.heldGranules (s : State) (n d : Nat) : Nat :=
  match s.copyFor n d with
  | .some c => c.data.length
  | .none => 0

/-- A port's shares for one streamed segment (R160): pseudo-channel and share, rounded up. -/
def State.segmentShares (s : State) (t : PType) (demand held : Nat) (w : BitVec 256) : List (Nat × Nat) :=
  let n := descLen w - held
  let period := Config.pseudoChannels s.part
  (List.range (min n period)).map (fun r =>
    let k := n / period + (if r < n % period then 1 else 0)
    (s.pseudo (dataAddr t w (held + r)), Config.ceilDiv (demand * k) n))

/-- Shares with larger ones laid over (R160). -/
def maxShares (old : Tab Nat) (new : List (Nat × Nat)) : Tab Nat :=
  new.foldl (fun t x => t.set x.1 (max x.2 (t.get (fun _ => 0) x.1))) old

/-- The ports with admitted demand. -/
def State.admittedPorts (s : State) : List Nat := (fittedPorts s.part).filter (fun n => (s.port n).admitted)

/-- STREAM.BW_DEMAND (R168). -/
def State.demandTotal (s : State) : Nat := (s.admittedPorts.map (fun n => (s.port n).demand)).foldl (· + ·) 0

/-- The admitted demand on a pseudo-channel (R160). -/
def State.demandOn (s : State) (c : Nat) : Nat :=
  (s.admittedPorts.map (fun n => (s.port n).shares.get (fun _ => 0) c)).foldl (· + ·) 0

/-- Admission control of one port (R159-R162): the reserved demand, or best-effort with the reason. -/
def State.takeCommand (s : State) (n : Nat) (ds : List Nat) : State :=
  let t := Config.portType n
  let p := s.port n
  let streamed := if pulseUnit t p.mode then []
    else ds.filter (fun d => decide (s.heldGranules n d < descLen (s.desc d)))
  let d := if streamed.isEmpty then 0 else Config.ceilDiv (Config.fullRate t) p.div
  let shares := streamed.foldl (fun acc x => maxShares acc (s.segmentShares t d (s.heldGranules n x) (s.desc x))) []
  let reason :=
    if Config.guaranteed s.part < s.demandTotal + d then 1
    else if shares.any (fun x => decide (10000000 < s.demandOn x.1 + x.2)) then 2
    else if s.bobbinSize n * 4096 * 10000 < d * 35 + 40960000 then 3
    else 0
  let be := reason != 0
  let s1 := s.modPort n (fun p => { p with
    demand := if be then 0 else d, shares := if be then [] else shares, admitted := !be })
  let s2 := s1.setReg (portReg n 0x114) (word (b2n be + reason * 2 + d * 256))
  let s3 := (s2.mapSet Page.stream 0x54 n be).wr Page.stream 0x48 (word (n * 2 ^ 16 + reason * 2 ^ 24))
  if be then s3.flag Page.stream 0 else s3

/-! ### The end of staging -/

/-- The bobbin filled for the first segment (R86): granules of the port's first stream pass, as far as it has room. -/
def State.fillFirst (s : State) (n : Nat) (reads : ReadErrors) : Nat → State
  | 0 => s
  | k + 1 =>
    let s1 := s.requestGranule n
    let b := (s1.port n).bobbin
    match b.flying.getLast? with
    | .some f =>
      if f.pass = 1 ∧ (s.port n).bobbin.flying.length < b.flying.length then
        let s2 := (s1.modPort n (fun p => { p with bobbin := { p.bobbin with flying := p.bobbin.flying.dropLast } })).countReads
          reads [f.addr]
        (s2.deliver n { f with data := s2.copied reads f.addr }).fillFirst n reads k
      else s
    | .none => s

/-- A port becomes ARMED (R86, R189): row counters and MS are clear, the fetch engine begins at the first stream data of
the default path; the output stays as it was (R87), a pulse unit's line too. -/
def State.armPort (s : State) (n start : Nat) (reads : ReadErrors) : State :=
  let t := Config.portType n
  let pulse := pulseUnit t (s.port n).mode
  let s1 := s.modPort n (fun p => { p with state := .armed, ms := 0 })
  if pulse then s1
  else
    let bobbin := match s1.defaultPlay fetchReach start rowsZero with
      | .some (e, x, rows) => (s1.port n).bobbin.startAt e 1 x rows
      | .none => (s1.port n).bobbin.discard
    (s1.modPort n (fun p => { p with bobbin := bobbin })).fillFirst n reads (64 * s1.bobbinSize n)

/-- Staging that failed or is abandoned (R84): every player returns to PARKED. -/
def State.abandonStaging (s : State) (u : SeqUnit) : State := (s.players u).foldl (fun s n => s.toParked n .parked) s

/-- A unit that was in RUN before a SAFE is requested RUN again once it is ARMED (R407). -/
def State.restartUnit (s : State) (u : SeqUnit) : State :=
  match u with
  | .port n =>
    if (s.port n).restart then
      s.modPort n (fun p => { p with restart := false, requested := .run, deliver := .some .run, withCommit := false })
    else s
  | .group g =>
    if (s.group g).restart then s.modGroup g (fun x => { x with restart := false, requested := .run, deliver := .some .run })
    else s

/-- STAGING_COMPLETE (R84, R86, R154, R162): a unit in READY becomes ARMED, or PARKED when its staging fails. A pulse unit
has nothing to stage: its sequencing registers are without effect (R83). -/
def State.stagingComplete (s : State) (u : SeqUnit) (reads : ReadErrors) : State :=
  if s.unitState u ≠ .ready then s
  else
    let ns := s.players u
    let start := s.startEntry u
    let x := ns.foldl (fun (x : Staging) n => if x.failed then x else
      let pulse := pulseUnit (Config.portType n) (x.s.port n).mode
      let ds := if pulse then [] else x.s.stagedDescs n start
      let y := if pulse then x else Staging.port x n ds reads
      if y.failed then y else { y with s := y.s.takeCommand n ds }) { s := s, failed := false }
    if x.failed then x.s.abandonStaging u
    else
      let s1 := ns.foldl (fun s n => s.armPort n start reads) x.s
      ((s1.modPlayhead u (fun ph => { ph with rows := rowsZero })).setUnitState u .armed).restartUnit u

/-- The place of a unit among those that are staged: its index, or its leader's (R154). -/
def State.stagingPlace (s : State) (u : SeqUnit) : Nat := s.unitPort u

/-- The model cycle of a unit's ARM. -/
def State.armedAt (s : State) : SeqUnit → Nat
  | .port n => (s.port n).armedAt
  | .group g => (s.group g).armedAt

/-- The units that stage: the READY ports that no group moves, and the READY groups. -/
def State.stagingUnits (s : State) : List SeqUnit :=
  (s.ports.filter (fun e => e.2.state == .ready && e.2.group.isNone)).map (fun e => SeqUnit.port e.1) ++
    (s.groups.filter (fun e => e.2.state == .ready)).map (fun e => SeqUnit.group e.1)

/-- A unit armed in the same cycle has an earlier place (R154): its staging comes first. -/
def State.stagingWaits (s : State) (u : SeqUnit) : Bool :=
  s.stagingUnits.any (fun v => s.armedAt v == s.armedAt u && decide (s.stagingPlace v < s.stagingPlace u))

/-- STAGING_COMPLETE: units armed together are staged in ascending order, a group in its leader's place (R154). -/
def execStagingComplete (u : SeqUnit) (reads : ReadErrors) (s : State) : Result :=
  .next (if s.unitState u = .ready ∧ s.stagingWaits u = false then s.lowReads.stagingComplete u reads else s)

/-! ### Pinning (R157, R158) -/

/-- PIN_CTRL written with GO (R157): ignored while an operation runs; it waits while a firmware switch does (R375). -/
def State.pinStart (s : State) (desc : Nat) (unpin : Bool) : State :=
  if bit (s.rd Page.cache 0x48) 31 then s
  else
    let s1 := s.wr Page.cache 0x48 (word (desc % 2 ^ 18 + b2n unpin * 2 ^ 24 + 2 ^ 31))
    { s1 with security := { s1.security with pinHeld := s.quieting } }

/-- PIN (R157). -/
def execPin (desc : Nat) (s : State) : Result := .next (s.pinStart desc false)

/-- UNPIN (R157). -/
def execUnpin (desc : Nat) (s : State) : Result := .next (s.pinStart desc true)

/-- PIN_STATUS.RESULT loaded, GO cleared, PIN_DONE set. -/
def State.pinResult (s : State) (result : Nat) : State :=
  ((s.wr Page.cache 0x48 (setBits (s.rd Page.cache 0x48) 31 1 0)).wr Page.cache 0x4c (word result)).flag Page.cache 0

/-- The port type that a descriptor's PTYPE names; 0 matches none and reads as a type with marker granules. -/
def ptypeOf (w : BitVec 256) : PType := match field w 42 2 with | 1 => .p | 3 => .d | _ => .f

/-- A READY port stages with a pinned copy (R157): it reaches the copy's descriptor, which the copy serves. -/
def State.stagesWith (s : State) (c : Copy) : Bool :=
  c.serves c.desc (s.desc c.desc) && s.stagingUnits.any (fun u => (s.players u).any (fun n =>
    !pulseUnit (Config.portType n) (s.port n).mode && (s.stagedDescs n (s.startEntry u)).contains c.desc))

/-- PIN_COMPLETE (R144, R157): the operation of PIN_CTRL ends with its result. -/
def State.pinComplete (s : State) (reads : ReadErrors) : State :=
  let ctrl := s.rd Page.cache 0x48
  if bit ctrl 31 = false ∨ s.security.pinHeld then s
  else
    let d := bits ctrl 0 18
    let old := s.copies.find? (fun c => c.pinned && c.desc == d)
    let inUse := match old with | .some c => !c.users.isEmpty || s.stagesWith c | .none => false
    if inUse then s.pinResult 1
    else if bit ctrl 24 then
      match old with
      | .none => s.pinResult 3
      | .some c => { s with copies := s.copies.filter (· != c) }.pinResult 0
    else
      let w := s.desc d
      let t := ptypeOf w
      let rest := match old with | .some c => s.copies.filter (· != c) | .none => s.copies
      let addrs := dataAddrs t w 0 (descLen w)
      let marks := markAddrs t w
      let blocks := blocksOf (descLen w) + blocksOf (descMarks t w)
      if cacheBlocks < (rest.map Copy.blocks).foldl (· + ·) 0 + blocks then s.pinResult 2
      else
        let data := addrs.map (s.copied reads)
        let marked := marks.map (s.copied reads)
        let c : Copy :=
          { desc := d, addr := descAddr w, len := descLen w, whole := true, data := data
            marks := marked.map (fun g => g.getD 0), users := [], pinned := true, touched := false }
        let poisoned := (data ++ marked).any Option.isNone
        ({ s with copies := rest ++ [c] }.countReads reads (marks ++ addrs)).pinResult (if poisoned then 4 else 0)

/-- PIN_COMPLETE (R157). -/
def execPinComplete (reads : ReadErrors) (s : State) : Result :=
  .next (if bit (s.rd Page.cache 0x48) 31 = true ∧ s.security.pinHeld = false then s.lowReads.pinComplete reads else s)

end Machine
end Sys2Proof
end

