-- ==== Sys2Proof/Machine/Request.lean ====
section
/-! DEFINITION. Requested states and their delivery (R84-R86, R175, R226, R493), the ARM of a port and of a stitch group
(R77), and commits (R449-R456). -/

namespace Sys2Proof
namespace Machine

/-! ### Requested states -/

/-- The state that a PAGE_CTRL.REQUEST value names, where a unit can be asked for it (R84, R443). -/
def requestOf (v : Nat) : Option UState :=
  match v with
  | 1 => .some .off
  | 2 => .some .parked
  | 4 => .some .armed
  | 5 => .some .run
  | 6 => .some .paused
  | _ => .none

/-- PAGE_STATE codes (R443). -/
def UState.code : UState → Nat
  | .absent => 0
  | .off => 1
  | .parked => 2
  | .ready => 3
  | .armed => 4
  | .run => 5
  | .paused => 6
  | .safe => 7
  | .service => 8
  | .updating => 9

/-- The fitted ports that name a group (R77); the sequencing registers of a pulse unit, PORT_GROUP among them, are without
effect (R83). -/
def State.named (s : State) (g : Nat) : List Nat :=
  (fittedPorts s.part).filter (fun n =>
    let w := s.reg (portReg n 0x50)
    bit w 7 && bits w 0 5 == g && !pulseUnit (Config.portType n) (s.port n).mode)

/-- The group walks, or prepares to (R77). -/
def Group.active (x : Group) : Bool := x.state == .ready || x.state == .armed || x.state == .run || x.state == .paused

/-- The actual state of a group page (R77). -/
def State.groupActual (s : State) (g : Nat) : UState :=
  let x := s.group g
  if x.active || x.state == .safe then x.state
  else if (s.named g).isEmpty then .off else .parked

/-- A request equal to the one shown changes nothing while it is on its way or the unit stages or walks (R493). -/
def UState.sameRequest (shown now st : UState) (deliver : Option UState) : Bool :=
  decide (shown = st) &&
    (decide (deliver = .some st) ||
      (deliver.isNone && (now == .ready || now == .armed || now == .run || now == .paused)))

/-- A unit must stay PARKED or OFF: a relock or alignment (R226), bind-off (R432). -/
def State.mustStay (s : State) : Bool := s.clockService || s.life.bindoff == .running || s.life.bindoff == .done

/-- A request written to a unit's page (R85, R493): shown at once, delivered later; in SAFE (R407), and on
a PARKED unit that must stay so (R226, R239, R432), replaced by the actual state. -/
def State.request (s : State) (page : Nat) (st : UState) : State :=
  match pageKind page with
  | .port n =>
    let p := s.port n
    if p.state = .absent then s
    else if p.state = .safe then s.setPort n { p with requested := .safe, deliver := .none }
    else if s.mustStay && p.state == .parked && p.power == .on then s.setPort n { p with requested := .parked, deliver := .none }
    else if UState.sameRequest p.requested p.state st p.deliver then s
    else s.setPort n { p with requested := st, deliver := .some st, withCommit := false, restart := false }
  | .group g =>
    let x := s.group g
    if x.state = .safe then s.setGroup g { x with requested := .safe, deliver := .none }
    else if s.mustStay && s.groupActual g == .parked then s.setGroup g { x with requested := .parked, deliver := .none }
    else if UState.sameRequest x.requested x.state st x.deliver then s
    else s.setGroup g { x with requested := st, deliver := .some st, restart := false }
  | _ => s

/-- A REQUEST written with a value that names no state a unit can be asked for: the actual state takes its place (R85, R443),
the state already shown while the unit stages, powers up or powers down (R493). -/
def State.requestNone (s : State) (page : Nat) : State :=
  match pageKind page with
  | .port n =>
    let p := s.port n
    if p.state = .absent ∨ p.state = .ready ∨ p.power = .up ∨ p.power = .down then s
    else s.setPort n { p with requested := p.state, deliver := .none }
  | .group g =>
    if (s.group g).state = .ready then s
    else s.modGroup g (fun x => { x with requested := s.groupActual g, deliver := .none })
  | _ => s

/-- A REQUEST written (R85, R443, R493). -/
def State.requestValue (s : State) (page v : Nat) : State :=
  match requestOf v with
  | .some st => s.request page st
  | .none => s.requestNone page

/-- REQUEST_OFF (R85, R175). -/
def execRequestOff (page : Nat) (s : State) : Result := .next (s.request page .off)

/-- REQUEST_PARKED (R84, R85, R175). -/
def execRequestParked (page : Nat) (s : State) : Result := .next (s.request page .parked)

/-- REQUEST_ARMED (R84, R85). -/
def execRequestArmed (page : Nat) (s : State) : Result := .next (s.request page .armed)

/-- REQUEST_RUN (R84, R85). -/
def execRequestRun (page : Nat) (s : State) : Result := .next (s.request page .run)

/-- REQUEST_PAUSED (R84, R85). -/
def execRequestPaused (page : Nat) (s : State) : Result := .next (s.request page .paused)

/-! ### Arming (R77, R84, R86) -/

/-- BEST_EFFORT and SHORT_MAP of a port cleared at its ARM (R154, R162). -/
def State.clearAdmission (s : State) (n : Nat) : State :=
  ((s.setReg (portReg n 0x114) 0).mapSet Page.stream 0x54 n false).mapSet Page.cache 0x50 n false

/-- A port begins staging (R84, R86): READY, with row counters, MS, latched and pending events cleared; the ARM takes the
start entry (R88, R449). -/
def State.beginStaging (s : State) (n : Nat) : State :=
  ((s.clearAdmission n).endDelaySwatch n).modPort n (fun p => { p with
    state := .ready, requested := .armed, deliver := .none, ms := 0, armedAt := s.cycle
    play := { Playhead.idle with start := p.seqStart } })

/-- A 144-bit map in five words of a page. -/
def State.writeMap (s : State) (page off : Nat) (l : List Nat) : State :=
  (List.range 5).foldl (fun s i =>
    s.wr page (off + 4 * i) (word ((l.filter (fun n => n / 32 == i)).foldl (fun acc n => acc + 2 ^ (n % 32)) 0))) s

/-- The ports that a group's ARM accepts, with the leader first in ascending order (R77). -/
def State.acceptedPorts (s : State) (g : Nat) : List Nat :=
  let able := (s.named g).filter (fun n => (s.port n).state == .parked && !s.tripHeld n)
  match able with
  | [] => []
  | m :: _ => able.filter (fun n => Config.portType n == Config.portType m && (s.port n).div == (s.port m).div)

/-- PORT_GROUP.LANE of a list of ports (R78). -/
def State.lanesOf (s : State) (l : List Nat) : Tab Nat := l.map (fun n => (n, bits (s.reg (portReg n 0x50)) 8 8))

/-- The ARM of a stitch group (R77-R80, R88): membership, lanes, the leader's divisor and the start entry are taken, the
members begin staging. -/
def State.armGroup (s : State) (g : Nat) : State :=
  let accepted := s.acceptedPorts g
  let excluded := (s.named g).filter (fun n => !accepted.contains n)
  let pg := Page.group g
  let s1 := excluded.foldl (fun s n => s.flag (Page.port n) 7) s
  let s2 := if excluded.isEmpty then s1 else s1.flag pg 0
  match accepted with
  | [] =>
    s2.modGroup g (fun x => { x with
      state := .parked, requested := .parked, deliver := .none, leader := .none, members := [], accepted := []
      excluded := excluded })
  | m :: _ =>
    let s3 := accepted.foldl (fun s n =>
      let s1 := s.beginStaging n
      let s2 := if bits (s1.reg (portReg n 0x58)) 0 2 = 2 then s1.policyZero n else s1
      s2.modPort n (fun p => { p with group := .some g })) s2
    s3.modGroup g (fun x => { x with
      state := .ready, requested := .armed, deliver := .none, leader := .some m, members := accepted
      accepted := accepted, excluded := excluded, slot := (s.port m).slot, lanes := s.lanesOf accepted
      div := (s.port m).div, lens := [], armedAt := s.cycle, play := { Playhead.idle with start := x.seqStart } })

/-! ### Delivery (R85, R493) -/

/-- A port's requested state shown again as given. -/
def State.showRequest (s : State) (n : Nat) (st : UState) : State :=
  s.modPort n (fun p => { p with requested := st })

/-- A request delivered to a unit that walks (R61, R493): START, PAUSE or STOP latched, or another request, all of them to
be judged at their effect slot. -/
def State.deliverWalk (s : State) (u : SeqUnit) (st : UState) : State :=
  match st with
  | .run => s.latch u .start 0
  | .paused => s.latch u .pause 0
  | .parked => s.latch u .stop 0
  | _ => s.latch u (.request st) 0

/-- The port is substituted by its spare (R202). -/
def State.isSubstituted (s : State) (n : Nat) : Bool := s.spareDrives n

/-- A request that reaches a PARKED port (R84, R175, R196, R202, R226, R432). -/
def State.deliverParked (s : State) (n : Nat) (st : UState) : State :=
  if s.mustStay || s.tripHeld n then s.showRequest n .parked
  else match st with
    | .armed => s.beginStaging n
    | .off =>
      if s.isSubstituted n then s.showRequest n .parked
      else ((s.endDelaySwatch n).modPort n (fun p => { p with power := .down })).settleSwitches n
    | _ => s.showRequest n .parked

/-- A delivered request carried out on a port (R84, R85, R175, R302, R493). -/
def State.deliverPort (s : State) (n : Nat) (st : UState) : State :=
  let p := s.port n
  if p.group.isSome then s.showRequest n p.state
  else match p.power with
    | .up => s.showRequest n .parked
    | .down => s.showRequest n .off
    | _ =>
      match p.state with
      | .absent | .safe | .updating => s.showRequest n p.state
      | .off =>
        if st = .parked ∧ s.life.bindoff ≠ .running ∧ s.life.bindoff ≠ .done then
          s.modPort n (fun p => { p with power := .up })
        else s.showRequest n .off
      | .parked => if st = .parked then s else s.deliverParked n st
      | .service =>
        if st = .parked then s
        else (s.abortPort n 9).deliverParked n st
      | .ready =>
        if st = .parked then s.abandonStaging (.port n) else s.showRequest n .armed
      | .armed | .run | .paused => s.deliverWalk (.port n) st

/-- A delivered request carried out on a stitch group (R77, R80, R84). -/
def State.deliverGroup (s : State) (g : Nat) (st : UState) : State :=
  let show_ (v : UState) (s : State) : State := s.modGroup g (fun x => { x with requested := v })
  match s.groupActual g with
  | .parked => if st = .armed ∧ s.mustStay = false then s.armGroup g else show_ .parked s
  | .ready => if st = .parked then s.abandonStaging (.group g) else show_ .armed s
  | .armed | .run | .paused => s.deliverWalk (.group g) st
  | st' => show_ st' s

/-- REQUEST_DELIVERY (R85, R493): the latest requested state of a unit reaches the data path. -/
def State.deliverRequest (s : State) (page : Nat) : State :=
  match pageKind page with
  | .port n =>
    match (s.port n).deliver with
    | .some st => (s.modPort n (fun p => { p with deliver := .none })).deliverPort n st
    | .none => s
  | .group g =>
    match (s.group g).deliver with
    | .some st => (s.modGroup g (fun x => { x with deliver := .none })).deliverGroup g st
    | .none => s
  | _ => s

/-- REQUEST_DELIVERY; a request that came in one word with a COMMIT waits for the transfer's effect (R439), ARMED while a
firmware switch waits or runs (R375 step 5). -/
def execRequestDelivery (page : Nat) (s : State) : Result :=
  let waits : Bool := match pageKind page with
    | .port n =>
      ((s.port n).withCommit && ((s.port n).commit || !(s.port n).transfers.isEmpty)) ||
        ((s.port n).deliver == .some .armed && s.quieting)
    | .group g => (s.group g).deliver == .some .armed && s.quieting
    | _ => false
  .next (if waits then s else s.deliverRequest page)

/-! ### Commits (R449-R456) -/

/-- A GROUP transfer takes effect when it is delivered (R452). -/
def State.commitGroup (s : State) (g : Nat) : State :=
  s.modGroup g (fun x =>
    { x with seqStart := if x.shadow then bits (s.rd (Page.group g) 0x40) 0 18 else x.seqStart, shadow := false })

/-- A commit of one page ordered (R449): to a port or the CLOCK page it is on its way. -/
def State.orderCommit (s : State) (page : Nat) : State :=
  match pageKind page with
  | .port n => if (s.port n).state = .absent then s else s.modPort n (fun p => { p with commit := true })
  | .group g => s.commitGroup g
  | .clock => { s with clock := { s.clock with commit := true } }
  | _ => s

/-- PAGE_CTRL.COMMIT written (R10, R321, R449): on an absent page without effect. -/
def State.pageCommit (s : State) (page : Nat) : State :=
  if pagePresent s.part page = false then s
  else match pageKind page with
  | .port _ | .group _ | .clock => (s.orderCommit page).ledgerCommit [page]
  | _ => s

/-- Register writes are refused (R25): in the pause of a firmware switch, while the housekeeping core restarts, and on a
module that has halted. -/
def State.writesRefused (s : State) : Bool := s.paused || s.health.restarting || s.life.state == .halted

/-- PAGE_COMMIT (R25, R449): refused while register writes are. -/
def execPageCommit (page : Nat) (s : State) : Result := .next (if s.writesRefused then s else s.pageCommit page)

/-- GLOBAL.COMMIT_ALL.IN_PROGRESS. -/
def State.committing (s : State) : Bool := bit (s.rd Page.global 0x80) 8

/-- The pages whose PAGE_SHADOW is non-zero: ports, groups, CLOCK (R455). -/
def State.pendingPages (s : State) : List Nat :=
  ((fittedPorts s.part).filter (fun n => (s.port n).shadow != 0)).map Page.port ++
  ((List.range 32).filter (fun g => (s.group g).shadow)).map Page.group ++
  (if s.clock.pend then [Page.clock] else [])

/-- The deliveries of a global commit go on in their order: once no port waits the groups take theirs, and IN_PROGRESS
falls after the last (R455). -/
def State.commitOn (s : State) : State :=
  if s.committing = false ∨ (fittedPorts s.part).any (fun n => (s.port n).commit) then s
  else
    let s1 := (List.range 32).foldl (fun s g => if (s.group g).shadow then s.commitGroup g else s) s
    if s1.clock.commit then s1 else s1.wr Page.global 0x80 (setBits (s1.rd Page.global 0x80) 8 1 0)

/-- GLOBAL.COMMIT_ALL.COMMIT written (R321, R455). -/
def State.commitAll (s : State) : State :=
  let pages := s.pendingPages
  let s1 := (s.ledgerCommit pages).wr Page.global 0x80 (word (2 ^ 8 + pages.length % 256 * 2 ^ 16))
  (pages.foldl (fun s p => match pageKind p with
    | .group _ => s
    | _ => s.orderCommit p) s1).commitOn

/-- COMMIT_ALL (R25, R455): refused while register writes are. -/
def execCommitAll (s : State) : Result := .next (if s.writesRefused then s else s.commitAll)

/-- COMMIT_DELIVERY (R452, R455): a register commit reaches a port's playhead; those of a global commit in ascending
order. -/
def execCommitDelivery (n : Nat) (s : State) : Result :=
  let first := !(s.committing && (List.range n).any (fun m => (s.port m).commit))
  .next (if (s.port n).commit && first then
      ((s.modPort n (fun p => { p with commit := false })).latchTransfer n false).commitOn
    else s)

end Machine
end Sys2Proof
end

