-- ==== Sys2Proof/Machine/Stage.lean ====
section
/-! DEFINITION. Output stages (R175, R179-R184, R191, R203): power, switches and drivers, delay taps, sense, current and
stage faults; and the spare channels (R198-R205). -/

namespace Sys2Proof
namespace Machine

/-! ### Power (R175) -/

/-- POWER_DOWN_COMPLETE (R175): a port on its way to OFF is OFF; a P-port's isolation switches have opened first. -/
def execPowerDownComplete (n : Nat) (s : State) : Result :=
  let x := (s.port n).switches
  let isP := match Config.portType n with | .p => true | _ => false
  .next (if (s.port n).power = .down ∧ (isP && (x.sense || x.force || x.moving.isSome)) = false then
      s.modPort n (fun p => { p with power := .off, state := .off, requested := .off, deliver := .none })
    else s)

/-- A port that has powered up is PARKED with its park level settled (R175). -/
def State.poweredUp (s : State) (n : Nat) : State :=
  ((s.modPort n (fun p => { p with power := .on, state := .parked, requested := .parked, deliver := .none })).stepOutput
    n).settleSwitches n

/-- POWER_UP_COMPLETE (R175). -/
def execPowerUpComplete (n : Nat) (s : State) : Result :=
  .next (if (s.port n).power = .up ∧ (s.port n).state = .off then s.poweredUp n else s)

/-! ### Switches and drivers (R182-R184) -/

/-- OUT_SWITCH.CLOSE written (R183, R296, R302): closing on a port in SERVICE ends its swatch, a delay swatch too. -/
def State.writeOutSwitch (s : State) (n : Nat) (close : Bool) : State :=
  if Config.portFitted s.part n = false then s
  else
    let s1 := s.setReg (portReg n 0xa0) (word (b2n close))
    let s2 := if close && (s1.port n).state == .service then s1.abortPort n 9 else s1
    let s3 := if close then s2.endDelaySwatch n else s2
    s3.settleSwitches n

/-- OUT_SWITCH_WRITE (R183). -/
def execOutSwitchWrite (n : Nat) (close : Bool) (s : State) : Result := .next (s.writeOutSwitch n close)

/-- ISOLATION_SWITCH_STEP (R182): the second half of a sequence: the force switches close, or the sense switches open. -/
def execIsolationSwitchStep (n : Nat) (s : State) : Result :=
  let x := (s.port n).switches
  .next (match x.moving with
    | .some true => s.modPort n (fun p => { p with switches := { x with force := true, moving := .none } })
    | .some false => s.modPort n (fun p => { p with switches := { x with sense := false, moving := .none } })
    | .none => s)

/-! ### Delay taps (R191) -/

/-- The largest tap of a port's type. -/
def maxTap : PType → Nat
  | .d => 511
  | _ => 255

/-- The target of DELAY_TAP.ACTUAL (R191). -/
def State.delayTarget (s : State) (n : Nat) : Nat :=
  let top := maxTap (Config.portType n)
  (limit 0 top ((min top (bits (s.reg (portReg n 0xb0)) 0 9) : Nat) + (s.port n).delayTrim)).toNat

/-- The delay that a port's taps make at its terminals, in femtoseconds: what the tap weights of the factory model say
(R191, R290). -/
def State.tapDelay (s : State) (n : Nat) : Nat := Config.tapWeights n (s.port n).delayActual

/-- DELAY_TAP_MOVE (R191): one tap toward the target. -/
def execDelayTapMove (n : Nat) (s : State) : Result :=
  .next (match Config.portType n with
    | .p => s
    | _ =>
      if Config.portFitted s.part n then
        s.modPort n (fun p => { p with delayActual := (stepToward p.delayActual (s.delayTarget n)).toNat })
      else s)

/-! ### Reports of the stage -/

/-- The port is a fitted P-port with its stage on. -/
def State.stageOn (s : State) (n : Nat) : Bool :=
  (match Config.portType n with | .p => true | _ => false) && Config.portFitted s.part n && (s.port n).power == .on

/-- SENSE_OPEN (R179). -/
def execSenseOpen (n : Nat) (s : State) : Result := .next (if s.stageOn n then s.flag (Page.port n) 10 else s)

/-- CURRENT_LIMIT (R180). -/
def execCurrentLimit (n : Nat) (s : State) : Result := .next (if s.stageOn n then s.flag (Page.port n) 9 else s)

/-! ### Spares (R198-R205) -/

/-- The port that SPARE_TARGET names. -/
def State.spareTarget (s : State) (g : Nat) : Nat := 16 * g + bits (s.rd (Page.spare g) 0x40) 0 4

/-- The spare shadows a port (R199). -/
def State.shadowing (s : State) (g : Nat) : Bool := bit (s.rd (Page.spare g) 0x40) 7 && !(s.spare g).fault

/-- The actual state of a SPARE page (R205). -/
def State.spareActual (s : State) (g : Nat) : UState :=
  let x := s.spare g
  if x.fault || x.safeRecord.isSome then .safe
  else if x.service then .service
  else if x.substituted then .run
  else if s.shadowing g then .ready
  else .off

/-- Bit g of SPARE_ROTATION_CTRL.GROUP_EN (R307). -/
def State.rotates (s : State) (g : Nat) : Bool := bit (s.rd Page.cal 0x70) g

/-- The rotation of a group stopped and its bit cleared (R308). -/
def State.stopRotation (s : State) (g : Nat) : State :=
  if s.rotates g then
    let s1 := s.wr Page.cal 0x70 (setBits (s.rd Page.cal 0x70) g 1 0)
    { s1 with cal := { s1.cal with rotation := s1.cal.rotation.erase g } }
  else s

/-- A spare write refused: LAST_REFUSED and its flag. -/
def State.refuseSpare (s : State) (g : Nat) : State :=
  (s.modSpare g (fun x => { x with refused := true })).flag (Page.spare g) 2

/-- SPARE_TARGET replaced (R199, R205): a change of target restarts the settling; writing SHADOW = 0 leaves SAFE. -/
def State.setSpareTarget (s : State) (g : Nat) (w : Word) : State :=
  let pg := Page.spare g
  let new := w &&& 0x8f
  let x := s.spare g
  if x.busy.isSome || x.substituted then s
  else
    let s1 := (s.wr pg 0x40 new).modSpare g (fun x => { x with
      fault := x.fault && bit new 7, safeRecord := if bit new 7 then x.safeRecord else .none })
    if new = s.rd pg 0x40 then s1
    else
      let s2 := if x.service then (s1.abortSpare g s.freeReason).spend else s1
      s2.modSpare g (fun x => { x with settled := false })

/-- SPARE_TARGET written by software (R199, R308). -/
def State.writeSpareTarget (s : State) (g : Nat) (w : Word) : State :=
  if Config.spares s.part ≤ g then s
  else if s.rotates g then s.refuseSpare g
  else s.setSpareTarget g w

/-- SPARE_TARGET_WRITE (R199). -/
def execSpareTargetWrite (g : Nat) (value : Word) (s : State) : Result := .next (s.writeSpareTarget g value)

/-- A hand-over to the spare is accepted (R200): it has settled, the port is neither OFF nor powering up, no line that the
port obeys is latched, the spare is not substituted. -/
def State.mayHandOver (s : State) (g : Nat) : Bool :=
  let x := s.spare g
  let n := s.spareTarget g
  let p := s.port n
  x.settled && !x.substituted && !s.tripHeld n && p.state != .off && p.state != .absent

/-- A return is accepted (R200, R309). -/
def State.mayReturn (s : State) (g : Nat) : Bool :=
  let x := s.spare g
  x.substituted && (match x.serves with
    | .some n => !s.tripHeld n
    | .none => false)

/-- A hand-over or return begun: HANDOVER_BUSY (R200). One that already runs goes on (DESIGN CHOICE, log entry 113). -/
def State.beginHandover (s : State) (g : Nat) (toSpare : Bool) : State :=
  s.modSpare g (fun x => if x.busy.isSome then x else { x with
    busy := .some { toSpare := toSpare, connected := false }
    serves := if toSpare then .some (s.spareTarget g) else x.serves })

/-- A swatch of the spare ends where it begins to be substituted (R296, R301): ABORTED, with a REASON that R302 does not
give; what settled stays settled. -/
def State.endSpareSwatch (s : State) (g : Nat) : State :=
  if (s.spare g).service then (s.abortSpare g s.freeReason).spend else s

/-- A SUBSTITUTE or RETURN write was not ignored: LAST_REFUSED falls (R213). -/
def State.acceptSpare (s : State) (g : Nat) : State := s.modSpare g (fun x => { x with refused := false })

/-- SPARE_CTRL.SUBSTITUTE written by software (R200, R308). -/
def State.substitute (s : State) (g : Nat) : State :=
  if Config.spares s.part ≤ g then s
  else if s.rotates g || !s.mayHandOver g then s.refuseSpare g
  else ((s.acceptSpare g).beginHandover g true).endSpareSwatch g

/-- SUBSTITUTE (R200). -/
def execSubstitute (g : Nat) (s : State) : Result := .next (s.substitute g)

/-- SPARE_CTRL.RETURN written by software (R200, R308). -/
def State.returnSpare (s : State) (g : Nat) : State :=
  if Config.spares s.part ≤ g then s
  else if s.rotates g || !s.mayReturn g then s.refuseSpare g
  else (s.acceptSpare g).beginHandover g false

/-- RETURN (R200). -/
def execReturnPort (g : Nat) (s : State) : Result := .next (s.returnSpare g)

/-- A spare's registers at reset, its page OFF (R458). -/
def State.resetSpare (s : State) (g : Nat) : State :=
  let pg := Page.spare g
  let s1 := s.abortSpare g s.freeReason
  ((s1.resetPage pg [0x18, 0x1c, 0x20]).modSpare g (fun x => { Spare.fresh with trims := x.trims })).updateIbis s.classes

/-- SPARE_SETTLED (R199). -/
def execSpareSettled (g : Nat) (s : State) : Result :=
  .next (if g < Config.spares s.part ∧ s.shadowing g = true ∧ (s.spare g).settled = false then
      (s.modSpare g (fun x => { x with settled := true })).flag (Page.spare g) 0
    else s)

/-- HANDOVER_CONNECT (R200): both stages drive the node. -/
def execHandoverConnect (g : Nat) (s : State) : Result :=
  .next (match (s.spare g).busy with
    | .some h => if h.connected then s else s.modSpare g (fun x => { x with busy := .some { h with connected := true } })
    | .none => s)

/-- HANDOVER_COMPLETE (R200): the node changes hands; counted on the spare, flagged on both pages. -/
def execHandoverComplete (g : Nat) (s : State) : Result :=
  .next (match (s.spare g).busy, (s.spare g).serves with
    | .some h, .some n =>
      if h.connected = false then s
      else
        let s1 := s.modSpare g (fun x => { x with
          busy := .none, substituted := h.toSpare, serves := if h.toSpare then x.serves else .none })
        let s2 := s1.handedOver g n
        if (s2.spare g).resetDue = false then s2
        else if h.toSpare = false then s2.resetSpare g
        else if s2.mayReturn g then s2.beginHandover g false
        else s2
    | _, _ => s)

/-- A stage fault of the spare (R204, R302, R308): a substituted port goes back to its own stage at its next slot boundary; a
hand-over that only runs ends; the spare is SAFE. -/
def State.spareFault (s : State) (g : Nat) : State :=
  let x := s.spare g
  let s1 := ((s.abortSpare g 12).abortWhere (fun y => y.rotation && itemPort y.item == x.serves) 12).modSpare g (fun x => { x with
    fault := true, busy := .none, settled := false, returning := x.substituted
    serves := if x.substituted then x.serves else .none })
  let s2 := match x.serves with
    | .some n => if x.substituted then s1.flag (Page.port n) 13 else s1
    | .none => s1
  ((s2.flag (Page.spare g) 3).fault (Page.spare g) 5).stopRotation g

/-- SPARE_STAGE_FAULT (R204). -/
def execSpareStageFault (g : Nat) (s : State) : Result :=
  .next (if g < Config.spares s.part ∧ (s.shadowing g = true ∨ (s.spare g).substituted = true) then s.spareFault g else s)

/-- STAGE_FAULT (R203, R308, R410): a hand-over where the spare stands ready with AUTO, one that already runs going on;
nothing further where it already serves; SAFE otherwise. -/
def State.stageFault (s : State) (n : Nat) : State :=
  let g := n / 16
  let x := s.spare g
  let isP := match Config.portType n with | .p => true | _ => false
  let s1 := ((s.abortPort n 12).flag (Page.port n) 14).fault (Page.port n) 4
  if isP && x.substituted && x.serves == .some n then s1.stopRotation g
  else if isP && bit (s.rd (Page.spare g) 0x44) 4 && x.settled && s.shadowing g && s.spareTarget g == n then
    ((s1.stopRotation g).beginHandover g true).abortSpare g 12
  else s1.portSafe n true

/-- STAGE_FAULT. -/
def execStageFault (n : Nat) (s : State) : Result :=
  .next (if Config.portFitted s.part n && (s.life.ready || (s.port n).power == .on) then s.stageFault n else s)

end Machine
end Sys2Proof
end

