-- ==== Sys2Proof/Machine/Clock.lean ====
section
/-! DEFINITION. The root clock (R214-R239): detection, the feedback ratio and its clamp, relocks and the band table,
coasts and reference return, clock domains, SYNC and the alignment of epochs. -/

namespace Sys2Proof
namespace Machine

/-! ### The reference and the ratio (R214-R219) -/

/-- The clock changed by a function. -/
def State.modClock (s : State) (f : Clock → Clock) : State := { s with clock := f s.clock }

/-- REF_MEAS.KHZ. -/
def State.refKhz (s : State) : Nat := bits (s.rd Page.clock 0x54) 0 18

/-- The first lock has come: CASTON_STATUS.FIRST_LOCK (R437). -/
def State.firstLock (s : State) : Bool := bit (s.rd Page.global 0x74) 2

/-- The clamp of a transferred ratio (R218) at a measured frequency in kHz; without a measurement step 3 changes
nothing. -/
def clampRatio (khz : Nat) (x : Nat × Nat × Nat) : Nat × Nat × Nat :=
  let den := if x.2.2 = 0 then 1 else x.2.2
  let num := if den ≤ x.2.1 then den - 1 else x.2.1
  let root := khz * (x.1 * den + num)
  if khz = 0 then (x.1, num, den)
  else if root < 18000000 * den then (Config.ceilDiv 18000000 khz, 0, 1)
  else if 20400000 * den < root then (20400000 / khz, 0, 1)
  else (x.1, num, den)

/-- The active ratio. -/
def Clock.ratio (c : Clock) : Nat × Nat × Nat := (c.fbInt, c.fbNum, c.fbDen)

/-- FB_INT, FB_NUM and FB_DEN as written. -/
def State.shadowRatio (s : State) : Nat × Nat × Nat :=
  (bits (s.rd Page.clock 0x48) 0 16, (s.rd Page.clock 0x4c).toNat, (s.rd Page.clock 0x50).toNat)

/-- A ratio becomes the active one and the one that the registers read (R218); after the first lock a change of a term
is counted in every port's RATIO_STATUS.SEQ (R120). -/
def State.setRatio (s : State) (x : Nat × Nat × Nat) : State :=
  let s1 := ((s.wr Page.clock 0x48 (word x.1)).wr Page.clock 0x4c (word x.2.1)).wr Page.clock 0x50 (word x.2.2)
  let s2 := s1.modClock (fun c => { c with fbInt := x.1, fbNum := x.2.1, fbDen := x.2.2 })
  if s.clock.ratio = x ∨ s.firstLock = false then s2
  else (fittedPorts s.part).foldl (fun s n =>
    s.modPort n (fun p => { p with osc := { p.osc with seq := (p.osc.seq + 1) % 65536 } })) s2

/-- The target root frequency in kHz, rounded down: the key of the band table (R227). -/
def State.rootKhz (s : State) : Nat :=
  s.refKhz * (s.clock.fbInt * s.clock.fbDen + s.clock.fbNum) / s.clock.fbDen

/-! ### The band table (R227-R229) -/

/-- A word of the band table: entry × 2 + word. -/
def Clock.bandWord (c : Clock) (i : Nat) : Word := c.bands.get (fun _ => 0) i

/-- The distance of a valid entry's key from the target root, in units of 1 kHz over FB_DEN. -/
def State.bandDistance (s : State) (e : Nat) : Nat :=
  let c := s.clock
  let key := bits (c.bandWord (2 * e)) 0 25 * c.fbDen
  let target := s.refKhz * (c.fbInt * c.fbDen + c.fbNum)
  (key - target) + (target - key)

/-- The matching entry (R227): valid, within 4,000 kHz, the closest, of equally close ones the lowest. -/
def State.bandMatch (s : State) : Option Nat :=
  let ok := (List.range 16).filter (fun e =>
    bit (s.clock.bandWord (2 * e + 1)) 31 && s.bandDistance e ≤ 4000 * s.clock.fbDen)
  ok.foldl (fun best e => match best with
    | .none => .some e
    | .some b => if s.bandDistance e < s.bandDistance b then .some e else .some b) .none

/-- An entry is used: the most recent one. -/
def Clock.useBand (c : Clock) (e : Nat) : Clock := { c with use := c.use.filter (· != e) ++ [e] }

/-- The result of a full search stored (R227): over the matching entry, in the first invalid one, or in the one used
least recently. -/
def State.storeBand (s : State) : State :=
  let c := s.clock
  let free := (List.range 16).find? (fun e => !bit (c.bandWord (2 * e + 1)) 31)
  let e := (s.bandMatch.orElse (fun _ => free)).getD (c.use.headD 0)
  let bands := (c.bands.set (2 * e) (word (s.rootKhz % 2 ^ 25))).set (2 * e + 1)
    (word (c.band + c.fine * 2 ^ 8 + 2 ^ 31))
  (s.modClock (fun c => { c with bands := bands }.useBand e)).wr Page.clock 0x5c
    (setBits (s.rd Page.clock 0x5c) 8 4 e)

/-- BAND_TABLE_CTRL.CLEAR (R229). -/
def State.clearBands (s : State) : State :=
  s.modClock (fun c => { c with
    bands := (List.range 16).foldl (fun t e => t.set (2 * e + 1) (c.bandWord (2 * e + 1) &&& 0x7fffffff)) c.bands })

/-- BAND_TABLE_CLEAR. -/
def execBandTableClear (s : State) : Result := .next s.clearBands

/-! ### Domains (R235-R237) -/

/-- A domain is present on the variant (R235). -/
def domainPresent (v : Variant) (i : Nat) : Bool :=
  if i = 4 ∨ i = 5 then Config.stackCount v == 2
  else if 6 ≤ i ∧ i < 14 then Config.portFitted v (64 + 4 * (i - 6))
  else if 14 ≤ i ∧ i < 26 then Config.portFitted v (96 + 4 * (i - 14))
  else if 26 ≤ i ∧ i < 42 then Config.portFitted v (4 * (i - 26))
  else if i = 53 ∨ i = 54 then Config.twinLink v
  else i < 60

/-- The root divider of a synchronous domain (R235), 0 for the others; CK_WTICK divides CK_HK by WMON.WTICK_DIV. -/
def State.domainDivider (s : State) (i : Nat) : Nat :=
  if i = 0 then 1 else if i = 1 then 16
  else if i = 2 ∨ i = 4 then 6 else if i = 3 ∨ i = 5 then 12
  else if i < 14 then 4 else if i < 26 then 3 else if i < 42 then 250 else if i < 44 then 2000
  else match i with
    | 44 | 47 | 53 => 96
    | 46 => 96 * max 1 (s.rd Page.wmon 0x340).toNat
    | 48 => 96 * 200
    | 52 => 24
    | _ => 0

/-- The domain stops when the converter, serialiser and calibration clocks are gated (R222). -/
def domainGates (i : Nat) : Bool := (6 ≤ i && i < 44) || i == 53

/-- DOMAIN_i.GATED. -/
def State.domainGated (s : State) (i : Nat) : Bool := s.clock.gated && domainGates i

/-- DOMAIN_i.BOOT_SOURCE: the cartridge buses, and CK_HK, CK_SEC and what CK_HK feeds before the first lock (R216). -/
def State.domainBoot (s : State) (i : Nat) : Bool :=
  i == 55 || i == 56 || (!s.firstLock && (i == 44 || i == 46 || i == 47 || i == 48))

/-- DOMAIN_i.GUARDED: a clock divided from the root, while guard division is in force. -/
def State.domainGuarded (s : State) (i : Nat) : Bool :=
  s.clock.guard && i != 0 && s.domainDivider i != 0 && !s.domainBoot i

/-- A domain's status. -/
def State.domain (s : State) (i : Nat) : Domain :=
  s.clock.domains.get (fun _ => { active := false, mhz := 0, fault := false, faults := 0, tainted := false }) i

/-- CLOCKMON.DOMAIN_i (R237). -/
def State.domainWord (s : State) (i : Nat) : Word :=
  if domainPresent s.part i = false then 0
  else
    let d := s.domain i
    word (1 + b2n d.active * 2 + b2n (s.domainGated i) * 4 + b2n (s.domainGuarded i) * 8 + b2n (s.domainBoot i) * 16 +
      b2n d.fault * 32 + d.faults * 2 ^ 8 + d.mhz * 2 ^ 16)

/-- The window under way is marked for every domain that is guarded or gated now (R236). -/
def State.taint (s : State) : State :=
  (List.range 60).foldl (fun s i =>
    if s.domainGated i || s.domainGuarded i then
      s.modClock (fun c => { c with domains := c.domains.set i { s.domain i with tainted := true } })
    else s) s

/-- The window of a domain is checked (R236): synchronous domains once the root runs, CK_REFIN against a measurement,
CK_AON. -/
def State.domainChecked (s : State) (i : Nat) : Bool :=
  !(s.domain i).tainted &&
    (if i = 45 then true else if i = 58 then bit (s.rd Page.clock 0x54) 24 else s.domainDivider i != 0 && s.firstLock)

/-- A measured frequency in kHz is in tolerance (R236): ±1 % of the value at the committed ratio, or of REF_MEAS; ±5 %
of 32.768 kHz. -/
def State.inTolerance (s : State) (i khz : Nat) : Bool :=
  let within (a b tol : Nat) : Bool := ((a - b) + (b - a)) * 100 ≤ tol * b
  if i = 45 then within (khz * 1000) 32768 5
  else if i = 58 then within khz s.refKhz 1
  else
    let c := s.clock
    within (khz * s.domainDivider i * c.fbDen) (s.refKhz * (c.fbInt * c.fbDen + c.fbNum)) 1

/-- A domain's window ends with a measurement (R236, R410 code 0x0c). -/
def State.domainWindow (s : State) (r : DomainReading) : State :=
  let i := r.domain
  if domainPresent s.part i = false then s
  else
    let d := s.domain i
    let checked := s.domainChecked i
    let bad := checked && !s.inTolerance i r.khz
    let d1 : Domain :=
      { active := decide (1 ≤ r.khz), mhz := min 65535 (r.khz / 1000)
        fault := if checked then bad else d.fault
        faults := if bad then min 255 (d.faults + 1) else d.faults
        tainted := s.domainGated i || s.domainGuarded i }
    let s1 := s.modClock (fun c => { c with domains := c.domains.set i d1 })
    let any := (List.range 60).any (fun j => (s1.domain j).fault)
    let s2 := if bad then (s1.flag Page.clock 10).fault Page.clock 0x0c else s1
    let s3 := if bit (s2.rd Page.health 0x68) 2 = any then s2 else s2.setDegraded 2 any
    if bad ∧ i < 2 then s3.escalate 0x0c Page.clock true else s3

/-- CLOCKMON_WINDOW_END (R236). -/
def execClockmonWindowEnd (readings : List DomainReading) (s : State) : Result :=
  .next (readings.foldl State.domainWindow s)

/-! ### Relock (R219-R228) -/

/-- The length of the coast under way in ms (R231), which stops at 0xffffffff. -/
def State.coastMs (s : State) : Nat := min 0xffffffff (msOf (s.cycle - s.clock.coastAt))

/-- A coast ends (R231): COAST_TIME holds its length. -/
def State.endCoast (s : State) : State :=
  if s.clock.loop = .coasting then s.wr Page.clock 0x60 (word s.coastMs) else s

/-- A coast begins (R230, R231). -/
def State.beginCoast (s : State) : State :=
  s.modClock (fun c => { c with loop := .coasting, correction := .none, coastAt := s.cycle })

/-- An alignment under way ends FAILED (R239). -/
def State.failAlignment (s : State) : State :=
  if s.clock.sync = .aligning then
    ((s.modClock (fun c => { c with sync := .failed })).flag Page.clock 11).ledgerNote 0x04 [6]
  else s

/-- The loop step (R224 step 5): the band table is consulted, or a full search runs; without REF_IN the sequence
holds (R226). -/
def State.loopStep (s : State) : State :=
  let s1 := s.modClock (fun c => { c with loop := .searching, windowPass := false, run := 0 })
  if s.clock.refPresent = false then s1.modClock (fun c => { c with relock := .some .waiting })
  else
    let hit := if s.clock.fullSearch || !bit (s.rd Page.clock 0x58) 0 then .none else s.bandMatch
    match hit with
    | .some e =>
      let w := s.clock.bandWord (2 * e + 1)
      (s1.modClock (fun c => { c with
        relock := .some (.search false), band := bits w 0 6, fine := bits w 8 8, fromTable := true }.useBand e)).wr
          Page.clock 0x5c (setBits (s.rd Page.clock 0x5c) 8 4 e)
    | .none => s1.modClock (fun c => { c with relock := .some (.search true), fromTable := false })

/-- The module is the follower of a pair that forms or has formed. -/
def State.follows (s : State) : Bool := s.twin.role == .follow

/-- The Sarron link stops for a relock (R226). -/
def State.stopLink (s : State) : State :=
  { s with twin := { s.twin with linkUp := false, trained := false, realigning := s.twin.role != .solo } }

/-- A relock begins (R224 steps 1 to 4, R226): every fitted port is parked at once, clocks are gated, guard division
engages; from COASTING or REF_RETURNED, REF_IN is measured first (R219); a follower waits for the link (R395). The
Sarron link stops. -/
def State.startRelock (s : State) (full measure : Bool) : State :=
  let live := s.firstLock
  let s1 := (s.failAlignment.endCoast.modClock (fun c => { c with
    loop := .searching, correction := .none, fullSearch := full, windowPass := false, run := 0, peak := 0
    relock := .some .waiting, guard := live, gated := live }))
  let s2 := if live then (fittedPorts s.part).foldl State.parkAtOnce (s1.abortAll 8) else s1
  let s3 := if live then s2.stopLink else s2
  let s4 := s3.taint.settle
  if s.follows then s4
  else if measure then s4.modClock (fun c => { c with relock := .some .measuring })
  else s4.loopStep

/-- A transfer of the ratio carried out (R218, R219), in every state of the loop but those that hold it. -/
def State.takeRatio (s : State) : State :=
  let c := s.clock
  let raw := s.shadowRatio
  let x := clampRatio s.refKhz raw
  let same := x == c.ratio
  let s1 := (s.modClock (fun c => { c with pend := false, held := false, raw := raw })).setRatio x
  match c.relock with
  | .some r =>
    if same then s1
    else match r with
      | .measuring | .waiting => s1
      | _ => if s.follows then s1 else s1.loopStep
  | .none =>
    match c.loop with
    | .coasting | .refReturned => s1.startRelock false true
    | _ => if same then s1 else s1.startRelock false false

/-- A feedback-ratio transfer reaches the CLOCK page (R219, R455): held without a reference. -/
def State.clockTransfer (s : State) : State :=
  let s1 := s.modClock (fun c => { c with commit := false })
  let c := s.clock
  let s2 :=
    if c.pend = false then s1
    else if c.loop = .noRef ∨ (c.loop = .coasting ∧ c.refPresent = false) then
      s1.modClock (fun c => { c with held := true })
    else s1.takeRatio
  s2.commitOn

/-- CLOCK_TRANSFER; in a global commit the CLOCK page comes last (R455). -/
def execClockTransfer (s : State) : Result :=
  .next (if s.clock.commit && !(s.committing && (fittedPorts s.part).any (fun n => (s.port n).commit)) then s.clockTransfer
    else s)

/-- The first search starts (R216, R423 step 4): nothing is parked or gated. -/
def State.firstSearch (s : State) : State :=
  (s.modClock (fun c => { c with fullSearch := true, relock := .some .waiting })).loopStep

/-- The standard reference within 0.5 % of a measured frequency (R215). -/
def standardOf (khz : Nat) : Option Nat :=
  (List.range 10).find? (fun i =>
    let f := (Config.standardReferences.getD i (0, 0, 0, 1)).1
    ((khz - f) + (f - khz)) * 200 ≤ f)

/-- The active ratio clamped (R215); a ratio written and not yet transferred stays in the registers. -/
def State.clampActive (s : State) (x : Nat × Nat × Nat) : State :=
  if s.clock.pend then s.modClock (fun c => { c with fbInt := x.1, fbNum := x.2.1, fbDen := x.2.2 }) else s.setRatio x

/-- The first detection of REF_IN (R214, R215, R425). -/
def State.detect (s : State) (khz : Nat) : State :=
  let std := standardOf khz
  let meas := khz + 2 ^ 24 + (match std with | .some i => 2 ^ 25 + i * 2 ^ 28 | .none => 0)
  let s1 := (s.wr Page.clock 0x54 (word meas)).wr Page.global 0x74 (s.rd Page.global 0x74 ||| 2)
  let s2 := s1.modClock (fun c => { c with refPresent := true, loop := .searching, relock := .some .waiting })
  let s3 :=
    if s.clock.held then s2.takeRatio
    else match std with
      | .some i =>
        let x := (Config.standardReferences.getD i (0, 0, 0, 1)).2
        (s2.modClock (fun c => { c with raw := x })).setRatio x
      | .none => s2.clampActive (clampRatio khz s.clock.ratio)
  if s.life.state = .clocking then s3.firstSearch else s3

/-- REF_DETECTED (R214, R219): 1 ms of edges between 1 MHz and 250 MHz. The measurement is taken once; a transfer that
was held without REF_IN happens now, whether the coast that held it still runs or not. -/
def execRefDetected (khz : Nat) (s : State) : Result :=
  .next (if khz < 1000 ∨ 250000 < khz then s
    else if s.clock.loop = .noRef then s.detect khz
    else
      let s1 := s.modClock (fun c => { c with refPresent := true })
      if s.clock.held then s1.takeRatio else s1)

/-- REF_REMEASURE (R219): the new measurement, and the clamp applied again to the transferred ratio. -/
def execRefRemeasure (khz : Nat) (s : State) : Result :=
  .next (if s.clock.relock = .some .measuring ∧ s.clock.refPresent = true ∧ 1000 ≤ khz ∧ khz ≤ 250000 then
      let s1 := s.wr Page.clock 0x54 (setBits (s.rd Page.clock 0x54) 0 18 khz)
      (s1.setRatio (clampRatio khz s.clock.raw)).loopStep
    else s)

/-- LOCK_RUN_START (R224 step 6): PLL_STATE reads GUARD; a full search has found its band (DESIGN CHOICE, log entry 5). -/
def execLockRunStart (s : State) : Result :=
  .next (match s.clock.relock with
    | .some (.search full) =>
      let b := Config.freeBand s.free
      let s1 := if full then
          s.spend.modClock (fun c => { c with band := b.1.toNat, fine := b.2.toNat, fromTable := false })
        else s
      s1.modClock (fun c => { c with relock := .some .run, loop := .guard, run := 0 })
    | _ => s)

/-- BAND_FALLBACK (R228). -/
def execBandFallback (s : State) : Result :=
  .next (if s.clock.relock = .some (.search false) then
      ((s.modClock (fun c => { c with relock := .some (.search true), fromTable := false })).wr Page.clock 0x5c
        (setBits (s.rd Page.clock 0x5c) 1 1 1)).flag Page.clock 6
    else s)

/-- The frequency-window check (R225): the root cycles counted over 64 reference cycles lie within ±2 of 64 × FB. -/
def Clock.windowCheck (c : Clock) (rootCycles : Nat) : Bool :=
  let want := 64 * (c.fbInt * c.fbDen + c.fbNum)
  let got := rootCycles * c.fbDen
  decide ((got - want) + (want - got) ≤ 2 * c.fbDen)

/-- LOCK_RUN_COMPLETE (R225): 64 reference cycles; a failed window check restarts the run. -/
def execLockRunComplete (rootCycles : Nat) (s : State) : Result :=
  .next (if s.clock.relock = .some .run then
      if s.clock.windowCheck rootCycles then s.modClock (fun c => { c with relock := .some .passed, run := 64, windowPass := true })
      else s.modClock (fun c => { c with run := 0, windowPass := false })
    else s)

/-- A port at a new sample epoch (R34, R95, R96, R174): transfers on their way take effect, loaded phases are lost; slot 0
begins, whose first sample carries residue 0, with the fields held for a PARKED or OFF port. -/
def State.epochPort (s : State) (n : Nat) : State :=
  let s1 := (s.transferNow n).modPort n (fun p => { p with
    slot := 0, osc := { p.osc with u := 0 }
    play := { p.play with latches := p.play.latches.map (fun l => { l with due := l.due - p.slot }) } })
  let s2 := s1.takeHeldNow n
  (s2.playSlot n (if s2.holdsOutput n then .hold else .park) Acts.none false).1

/-- A new sample epoch (R34, R96, R116). -/
def State.epoch (s : State) : State :=
  let s1 := ((fittedPorts s.part).foldl State.epochPort s).modClock (fun c => { c with epochAt := s.cycle })
  (List.range 32).foldl (fun s g => if (s.group g).slot = 0 then s else s.modGroup g (fun x => { x with slot := 0 })) s1

/-- The loop is LOCKED with a new epoch (R224 step 8): guard and gating end, the band table's results are loaded, the
relock is counted and recorded. -/
def State.lockAgain (s : State) (peak : Nat) : State :=
  let hit := s.clock.fromTable
  let st := s.rd Page.clock 0x5c
  let s1 :=
    if hit then s.wr Page.clock 0x5c (word (1 + bits st 8 4 * 2 ^ 8 + min 0xffff (bits st 16 16 + 1) * 2 ^ 16))
    else
      let s0 := s.wr Page.clock 0x5c (setBits st 0 1 0)
      if bit (s.rd Page.clock 0x58) 1 then s0.storeBand else s0
  let s2 := s1.modClock (fun c => { c with
    loop := .locked, relock := .none, fullSearch := false, guard := false, gated := false, peak := min 255 peak })
  let s3 := ((s2.epoch.count Page.clock 0x74).flag Page.clock 2).ledgerNote 0x01
    [s.clock.fbInt, s.clock.fbNum, s.clock.fbDen, b2n hit]
  s3.settle

/-- GUARD_END (R224 step 8), with the largest overshoot in 0.1 %. -/
def execGuardEnd (overshoot : Nat) (s : State) : Result :=
  .next (if s.clock.relock = .some .passed ∧ s.firstLock = true then s.lockAgain overshoot else s)

/-- The window under way held time before the first lock: no domain's is checked. -/
def State.taintAll (s : State) : State :=
  (List.range 60).foldl (fun s i =>
    s.modClock (fun c => { c with domains := c.domains.set i { s.domain i with tainted := true } })) s

/-- The first search is under way. -/
def Clock.searches (c : Clock) : Bool :=
  match c.relock with
  | .some (.search _) | .some .run | .some .passed => true
  | _ => false

/-- FIRST_LOCK (R216, R423): the first search has ended in lock; the ratio words take their values, the stacks train. A
search still shown under way has found its band with this lock; PEAK_OVERSHOOT is as the module measured it (log
entry 5). -/
def State.lockFirst (s : State) : State :=
  let b := Config.freeBand s.free
  let s0 := match s.clock.relock with
    | .some (.search _) => s.modClock (fun c => { c with band := b.1.toNat, fine := b.2.toNat })
    | _ => s
  let s1 := (s0.spend.modClock (fun c => { c with run := 64, windowPass := true })).lockAgain
    ((Config.freeTime s.free).toNat % 256)
  let s2 := s1.wr Page.global 0x74 (s1.rd Page.global 0x74 ||| 4)
  let s3 := (List.range (Config.stackCount s.part)).foldl (fun s k =>
    State.modStack s k (fun x => { x with
      train := if x.train = .idle ∨ x.train = .selfRefresh then .training else x.train, attempts := 1 })) s2.taintAll
  let retained := (List.range (Config.stackCount s.part)).all (fun k => (s2.stack k).train == .selfRefresh)
  State.flag { s3 with life := { s3.life with state := .memory, retained := retained } } Page.global 0

/-- FIRST_LOCK. -/
def execFirstLock (s : State) : Result :=
  .next (if s.firstLock = false ∧ s.life.state = .clocking ∧ s.clock.searches = true then s.lockFirst else s)

/-- RELOCK_REF_LOSS (R226): REF_IN is lost during steps 5 to 7; guard and gating stay in force. -/
def execRelockRefLoss (s : State) : Result :=
  .next (match s.clock.relock with
    | .none => s
    | .some .measuring => s.modClock (fun c => { c with refPresent := false })
    | .some _ => s.modClock (fun c => { c with
        refPresent := false, relock := .some .waiting, loop := .searching, run := 0, windowPass := false }))

/-- RELOCK_REF_RESUME (R226): REF_IN has been present for 1,024 cycles. A follower waits for the link. -/
def execRelockRefResume (s : State) : Result :=
  .next (match s.clock.relock with
    | .some .waiting =>
      let s1 := s.modClock (fun c => { c with refPresent := true })
      if s.follows ∨ (s.firstLock = false ∧ s.life.state ≠ .clocking) then s1 else s1.loopStep
    | .some .measuring => s.modClock (fun c => { c with refPresent := true })
    | _ => s)

/-! ### Coasts and reference return (R230-R234) -/

/-- A loss of reference or of lock (R230, R234, R239): a coast, or the end of an alignment as a relock from step 4. A
follower's loop is on the link clock and does not coast. -/
def State.lose (s : State) (present : Bool) : State :=
  let s0 := s.modClock (fun c => { c with refPresent := present })
  if s.follows ∨ s.clock.relock.isSome then s0
  else if s.clock.sync = .aligning then
    ((s0.failAlignment.modClock (fun c => { c with
      loop := .searching, relock := .some .waiting, fullSearch := false, guard := true, gated := true
      windowPass := false, run := 0, peak := 0 })).abortAll 8).stopLink.taint.settle
  else if s.clock.loop = .locked ∨ s.clock.loop = .refReturned then
    ((s0.beginCoast.count Page.clock 0x78).flag Page.clock
      (if present then 1 else 0)).ledgerNote 0x02 [b2n present] |>.fault Page.clock 0x0d
  else s0

/-- LOSS_OF_REFERENCE (R230). -/
def execLossOfReference (s : State) : Result := .next (s.lose false)

/-- LOSS_OF_LOCK (R230): edges are present. -/
def execLossOfLock (s : State) : Result := .next (if s.clock.refPresent then s.lose true else s)

/-- REF_RETURN_POLICY in force (R233): 3 to 15 are used as 0. -/
def State.returnPolicy (s : State) : Nat :=
  let p := bits (s.rd Page.clock 0x68) 0 4
  if p < 3 then p else 0

/-- The frequency of a returning reference, measured against the coasting root as thousandths of root cycles over 1,024 of
its cycles, lies within ±10 ppm of REF_IN × FB (R232). -/
def Clock.returnWindow (c : Clock) (rootMilli : Nat) : Bool :=
  let want := 1024000 * (c.fbInt * c.fbDen + c.fbNum)
  let got := rootMilli * c.fbDen
  decide (100000 * ((got - want) + (want - got)) ≤ want)

/-- A phase offset in ps reduced modulo one reference period to the range −T_ref / 2 to +T_ref / 2 (R233): T_ref is
10^9 / KHZ ps. -/
def reducePhase (khz : Nat) (ps : Int) : Int :=
  if khz = 0 then ps else ((ps * khz + 500000000) % 1000000000 - 500000000) / khz

/-- RETURN_QUALIFIED (R232, R233): outside ±10 ppm the coast goes on; inside, the offset in ps is loaded and the policy
applied. -/
def execReturnQualified (rootMilli : Nat) (phasePs : Int) (s : State) : Result :=
  .next (if s.clock.loop = .coasting ∧ s.clock.relock.isNone = true ∧ s.follows = false then
      let s0 := s.modClock (fun c => { c with refPresent := true })
      if s.clock.returnWindow rootMilli = false then s0.flag Page.clock 9
      else
        let pol := s.returnPolicy
        let off := wordOfInt (reducePhase s.refKhz phasePs)
        let s1 := (s0.endCoast.wr Page.clock 0x64 off).flag Page.clock 3
        let s2 := s1.ledgerNote 0x03 [(s1.rd Page.clock 0x60).toNat, off.toNat, pol]
        if pol = 2 then (s2.modClock (fun c => { c with loop := .locked, correction := .none })).flag Page.clock 5
        else s2.modClock (fun c => { c with loop := .refReturned, correction := .some pol })
    else s)

/-- SLEW_END (R233). -/
def execSlewEnd (s : State) : Result :=
  .next (if s.clock.loop = .refReturned ∧ s.clock.correction = .some 0 then
      s.modClock (fun c => { c with loop := .locked, correction := .none })
    else s)

/-- STEP_CORRECTION_END (R233): PHASE_STEP. -/
def execStepCorrectionEnd (s : State) : Result :=
  .next (if s.clock.loop = .refReturned ∧ s.clock.correction = .some 1 then
      (s.modClock (fun c => { c with loop := .locked, correction := .none })).flag Page.clock 4
    else s)

/-! ### SYNC and alignment (R238, R239) -/

/-- SYNC_CFG.ROLE, 3 used as 0 (R242). -/
def State.syncRole (s : State) : Nat :=
  let r := bits (s.rd Page.clock 0x80) 0 2
  if r = 3 then 0 else r

/-- Every fitted port is PARKED or OFF, and the loop LOCKED (R239). -/
def State.mayAlign (s : State) : Bool :=
  s.clock.loop == .locked && s.clock.relock.isNone &&
    (fittedPorts s.part).all (fun n => (s.port n).state == .parked || (s.port n).state == .off)

/-- SYNC_CFG.DELAY raised to its least value, ceil(20 µs × REF_MEAS) + 64 (R239, R242). -/
def State.clampDelay (s : State) : State :=
  let w := s.rd Page.clock 0x80
  s.wr Page.clock 0x80 (setBits w 16 16 (max (bits w 16 16) (Config.ceilDiv s.refKhz 50 + 64)))

/-- SYNC_CTRL.ARM written (R239 step 1): during an alignment, and on a follower (R240), it does nothing. DELAY is clamped
with the measurement of now. -/
def State.syncArm (s : State) : State :=
  if s.follows ∨ s.clock.sync = .aligning then s
  else s.clampDelay.modClock (fun c => { c with sync := if s.syncRole != 0 && s.mayAlign then .armed else .refused })

/-- SYNC_ARM. -/
def execSyncArm (s : State) : Result := .next s.syncArm

/-- SYNC_CTRL.FIRE written (R238): acted on only on a source. -/
def State.syncFire (s : State) : State :=
  if s.syncRole = 2 then s.modClock (fun c => { c with syncFired := true }) else s

/-- SYNC_FIRE. -/
def execSyncFire (s : State) : Result := .next s.syncFire

/-- A rising SYNC edge E (R238, R239): source 0x015; an armed module begins its alignment or refuses. -/
def State.syncRise (s : State) : State :=
  let s1 := s.emitPin 0x15
  if s.clock.sync ≠ .armed ∨ s.follows then s1
  else if s.mayAlign then
    (s1.modClock (fun c => { c with sync := .aligning, gated := true })).taint.settle
  else s1.modClock (fun c => { c with sync := .refused })

/-- SYNC_EDGE (R238): SYNC_IN as a rising REF_IN edge samples it; after FIRE, SYNC_OUT is high from such an edge on for 4
periods. -/
def execSyncEdge (level : Bool) (s : State) : Result :=
  let s1 := s.modClock (fun c => { c with
    syncIn := level, syncFired := false, syncOut := if c.syncFired then 4 else c.syncOut - 1 })
  .next (if level && !s.clock.syncIn then s1.syncRise else s1)

/-- ALIGNMENT_EPOCH (R239 step 4): DONE, or LATE when the epoch waited for the loop to hold lock. -/
def execAlignmentEpoch (heldLock : Bool) (s : State) : Result :=
  .next (if s.clock.sync = .aligning then
      let w := s.rd Page.clock 0x88
      let s1 := (s.modClock (fun c => { c with sync := if heldLock then .done else .late, gated := false })).epoch
      let s2 := s1.wr Page.clock 0x88 (setBits w 16 16 (min 0xffff (bits w 16 16 + 1)))
      let s3 := s2.setFlags Page.clock (if heldLock then 0x80 else 0x180)
      (s3.ledgerNote 0x04 [if heldLock then 3 else 5]).settle
    else s)

/-- CLOCK.PAGE_CTRL.UNIT_RESET (R221, R244): counters, flags and GUARD_STATUS cleared, then a relock with the active
ratio and a full search. -/
def State.resetClock (s : State) : State :=
  let s1 := ((((s.wr Page.clock 0x60 0).wr Page.clock 0x74 0).wr Page.clock 0x78 0).clearFlags Page.clock 0xffffffff).wr
    Page.clock 0x88 0
  let s2 := s1.wr Page.clock 0x5c (setBits (s.rd Page.clock 0x5c) 16 16 0)
  let s3 := s2.modClock (fun c => { c with windowPass := false, run := 0, peak := 0, coastAt := s.cycle })
  if s.clock.loop = .noRef then s3
  else if s.firstLock = false ∧ s.life.state ≠ .clocking then s3
  else s3.startRelock true (s.clock.loop == .coasting || s.clock.loop == .refReturned)

end Machine
end Sys2Proof
end

