-- ==== Sys2Proof/Machine/Calibrate.lean ====
section
/-! DEFINITION. Calibration (R291-R314): trim items, their applied values and targets, opportunities and preconditions,
swatches and their judgement, spare rotation, LEGACY_HOLD passes, WARMING; with the prediction of a cartridge's taps
(R332). -/

namespace Sys2Proof
namespace Machine

/-! ### Items (R292) -/

/-- The code of an item. -/
def itemCode (kind index : Nat) : Nat := kind * 2 ^ 13 + index

/-- Every item of the variant, by rising code. -/
def itemCodes (v : Variant) : List Nat :=
  let ps := (List.range 64).filter (Config.portFitted v)
  (ps.map (fun n => (List.range 3).map (fun r => itemCode 0 (3 * n + r)))).flatten ++
  ((List.range (Config.spares v)).map (fun g => (List.range 48).map (fun i => itemCode 1 (48 * g + i)))).flatten ++
  (((List.range 80).map (· + 64)).filter (Config.portFitted v)).map (itemCode 2) ++
  (List.range (2 * Config.monitors v)).map (itemCode 3)

/-- The dies by number in the table of temperatures. -/
def dieNumber : Die → Nat
  | .precision k => k % 4
  | .fast k => 4 + k % 2
  | .pattern => 6
  | .sequencer => 7
  | .stack k => 8 + k % 2

/-- The die that an item sits on (R14, R198, R269). -/
def itemDie (item : Nat) : Nat :=
  let i := itemIndex item
  match itemKind item with
  | 0 => i / 48
  | 1 => i / 48
  | 2 => if i < 96 then 4 + (i - 64) / 16 else 6
  | _ => i / 12

/-- The CALADC that measures an item (R295). -/
def itemAdc (item : Nat) : Nat := if itemKind item = 2 then 0 else itemDie item % 2

/-- The die temperature of an item, as last read (DESIGN CHOICE, log entry 1 before the first reading). -/
def State.itemTemp (s : State) (item : Nat) : Int := s.cal.temps.get (fun _ => 2500) (itemDie item)

/-- A quotient of integers rounded to the nearest, ties away from zero. -/
def nearest (num den : Int) : Int := roundAway (if den < 0 then -num else num) den.natAbs

/-- A result carried from one die temperature to another (R294); without a factory model every coefficient is zero
(R291). -/
def State.carry (s : State) (item : Nat) (x : Taps) (t0 t : Int) : Taps :=
  if s.cal.factoryValid = false then x
  else
    let add (v : Int) (offset : Bool) : Int := v + nearest (Config.tempco item offset t0 t * (t - t0)) 100
    { gain := if itemKind item < 2 then add x.gain false else x.gain, offset := add x.offset true }

/-- The bounds of an item's gain and offset (R177, R191, R270). -/
def State.itemBounds (s : State) (item : Nat) : (Int × Int) × (Int × Int) :=
  let i := itemIndex item
  match itemKind item with
  | 0 | 1 => ((-200000, 200000), (-40000, 40000))
  | 2 =>
    let top := maxTap (Config.portType i)
    let set := min top (bits (s.reg (portReg i 0xb0)) 0 9)
    ((0, 0), (-(set : Int), (top : Int) - set))
  | _ =>
    let m := i / 2
    let code := Config.thresholdMap m (i % 2 == 0) (signed 14 (bits (s.reg (monReg m (if i % 2 = 0 then 4 else 8))) 0 14))
    ((0, 0), (-8192 - code, 8191 - code))

/-- A pair of trims within its item's bounds. -/
def State.boundTaps (s : State) (item : Nat) (x : Taps) : Taps :=
  let b := s.itemBounds item
  { gain := limit b.1.1 b.1.2 x.gain, offset := limit b.2.1 b.2.2 x.offset }

/-- The trim set of a spare for a port: one pair for each range. -/
def Spare.trimSet (x : Spare) (n : Nat) : Vector Trim 3 := x.trims.get (fun _ => .replicate 3 { gain := 0, offset := 0 }) n

/-- The value applied for an item (R292). -/
def State.applied (s : State) (item : Nat) : Taps :=
  let i := itemIndex item
  match itemKind item with
  | 0 =>
    let t := (s.port (i / 3)).trims.getD (i % 3) { gain := 0, offset := 0 }
    { gain := t.gain, offset := t.offset }
  | 1 =>
    let t := ((s.spare (i / 48)).trimSet (16 * (i / 48) + i % 48 / 3)).getD (i % 3) { gain := 0, offset := 0 }
    { gain := t.gain, offset := t.offset }
  | 2 => { gain := 0, offset := (s.port i).delayTrim }
  | _ => { gain := 0, offset := if i % 2 = 0 then (s.monitor (i / 2)).trimUpper else (s.monitor (i / 2)).trimLower }

/-- The value applied for an item, replaced. -/
def State.apply (s : State) (item : Nat) (x : Taps) : State :=
  let i := itemIndex item
  let t : Trim := { gain := x.gain, offset := x.offset }
  match itemKind item with
  | 0 => s.modPort (i / 3) (fun p => { p with trims := p.trims.setIfInBounds (i % 3) t })
  | 1 =>
    let n := 16 * (i / 48) + i % 48 / 3
    s.modSpare (i / 48) (fun y => { y with trims := y.trims.set n ((y.trimSet n).setIfInBounds (i % 3) t) })
  | 2 => s.modPort i (fun p => { p with delayTrim := x.offset })
  | _ =>
    let m := i / 2
    s.setMonitor m (if i % 2 = 0 then { s.monitor m with trimUpper := x.offset } else { s.monitor m with trimLower := x.offset })

/-- One item's applied value a tap nearer its target (R293), with TRIM_LIMIT where the target lies beyond the limit and
the value has come to it. -/
def State.tapItem (s : State) (item : Nat) : State :=
  let x := s.applied item
  let goal := (s.calItem item).target
  let t := s.boundTaps item goal
  let y : Taps := { gain := stepToward x.gain t.gain, offset := stepToward x.offset t.offset }
  let s1 := if y = x then s else s.apply item y
  let stopped := (goal.gain ≠ t.gain ∧ y.gain = t.gain) ∨ (goal.offset ≠ t.offset ∧ y.offset = t.offset)
  if stopped then s1.flag Page.cal 5 else s1

/-- TRIM_TAP (R293); no trim moves during the housekeeping pause (R377) or in standby (R284). -/
def execTrimTap (s : State) : Result :=
  .next (if s.paused || s.inStandby then s else (s.cal.items.map (·.1)).foldl State.tapItem s)

/-- A change of a target or an item state awaits a lifeline commit (R316). -/
def State.storeChange (s : State) : State :=
  { s with cal := { s.cal with
    storeDue := true, store := if s.cal.store = .idle then .waiting else s.cal.store } }

/-- TARGET_RECOMPUTE (R294): each item's target from its last result and the die temperatures now. -/
def execTargetRecompute (readings : List (Die × Int)) (s : State) : Result :=
  let s1 : State := { s with cal := { s.cal with
    temps := readings.foldl (fun t r => t.set (dieNumber r.1) r.2) s.cal.temps } }
  let items := s1.cal.items.map (fun e =>
    (e.1, if e.2.seeded then { e.2 with target := s1.carry e.1 e.2.result e.2.temp (s1.itemTemp e.1) } else e.2))
  .next (if items = s1.cal.items then s1
    else State.storeChange { s1 with cal := { s1.cal with items := items } })

/-! ### The cartridge's taps (R332-R336) -/

/-- A cartridge slot: 0 A, 1 B. -/
def State.slot (s : State) (k : Nat) : CartSlot := if k = 0 then s.cart.a else s.cart.b

/-- The slot has a cartridge with a valid seal (R331). -/
def CartSlot.sealValid (x : CartSlot) : Bool := (x.data.bind CartData.record).isSome

/-- The value predicted for a tap (R332) of a record with a continuity factor in units of 10^-15, at ledger second t: in
units of 10^-18 V, rounded down. Taps: 0 is 10 V, 1 is 1 V, 2 is 0.1 V. -/
def predictTap (r : Assignment) (cont : Int) (tap : Nat) (t : Nat) : Int :=
  let v := match tap with | 0 => r.tap10 | 1 => r.tap1 | _ => r.tap01
  let nominal : Int := match tap with | 0 => 10 ^ 19 | 1 => 10 ^ 18 | _ => 10 ^ 17
  let year : Int := 31557600
  nominal * (10 ^ 12 * year + v.v0 * year + v.drift * ((t : Int) - r.t0)) * (10 ^ 15 + cont) / (10 ^ 12 * year * 10 ^ 15)

/-- The active cartridge's predicted tap (R299, R312, R332), if a cartridge is active. -/
def State.predicted (s : State) (tap : Nat) : Option Int :=
  match s.cart.active with
  | .some k =>
    ((s.slot k).data.bind CartData.record).map (fun r => predictTap r s.cart.cont tap s.ledger.sec)
  | .none => .none

/-- The active cartridge reports its oven stable (R314). -/
def State.activeStable (s : State) : Bool :=
  match s.cart.active with
  | .some k => (s.slot k).ovenStable
  | .none => false

/-- The active cartridge's tap has been in its window for the last 10 s (R301, R333). -/
def State.activeSettled (s : State) : Bool :=
  match s.cart.active, s.cart.since with
  | .some k, .some t => (s.slot k).inWindow && t + 10 ≤ s.ledger.elapsed
  | _, _ => false

/-! ### WARMING (R314, R291) -/

/-- An item has warmed up: 16 accepted swatches since cast-on, a stable active cartridge, a factory model. -/
def State.warmed (s : State) (item : Nat) : Bool :=
  s.cal.factoryValid && 16 ≤ (s.calItem item).accepted && s.activeStable

/-- The item of a P-port's current range. -/
def State.portItem (s : State) (n : Nat) : Nat := itemCode 0 (3 * n + (s.port n).range)

/-- The item of a spare's current target and range. -/
def State.spareItem (s : State) (g : Nat) : Nat :=
  let n := s.spareTarget g
  itemCode 1 (48 * g + 3 * (n % 16) + (s.port n).range)

/-- PAGE_STATE.WARMING of a P-port. -/
def State.portWarming (s : State) (n : Nat) : Bool := n < 64 && Config.portFitted s.part n && !s.warmed (s.portItem n)

/-- PAGE_STATE.WARMING of a spare. -/
def State.spareWarming (s : State) (g : Nat) : Bool := decide (g < Config.spares s.part) && !s.warmed (s.spareItem g)

/-- SPARE_STATUS.TRIMS_VALID (R201): both trim sets are valid and neither is WARMING. -/
def State.trimsValid (s : State) (g : Nat) : Bool :=
  let n := s.spareTarget g
  (s.calItem (s.portItem n)).seeded && (s.calItem (s.spareItem g)).seeded && !s.portWarming n && !s.spareWarming g

/-! ### When items are due (R297) -/

/-- CAL_SCHEDULE.INTERVAL, WARM_INTERVAL, in seconds, and INTEG (R326). -/
def State.interval (s : State) : Nat := max 10 (bits (s.rd Page.cal 0x44) 0 10)
def State.warmInterval (s : State) : Nat := max 10 (bits (s.rd Page.cal 0x44) 10 6)
def State.integ (s : State) : Nat := max 1 (min 50 (bits (s.rd Page.cal 0x44) 16 8))

/-- The second since reset at which an item falls due; at once when it was not swatched. -/
def State.itemDue (s : State) (item : Nat) : Nat :=
  let x := s.calItem item
  match x.retry with
  | .some t => t
  | .none =>
    match x.swatched with
    | .none => 0
    | .some t =>
      let warming := match itemKind item with
        | 0 => s.portWarming (itemIndex item / 3)
        | 1 => s.spareWarming (itemIndex item / 48)
        | _ => false
      t + (if warming then s.warmInterval else s.interval)

/-! ### Opportunities and preconditions (R296, R298, R301) -/

/-- OUT_SWITCH.CLOSED of a port. -/
def State.switchClosed (s : State) (n : Nat) : Bool := bit (s.outSwitch n) 8

/-- A P-, F- or D-port is idle: PARKED, not CLOSED, no request or transition in progress. -/
def State.idle (s : State) (n : Nat) : Bool :=
  let p := s.port n
  p.state == .parked && !s.switchClosed n && p.deliver.isNone && p.power == .on && p.switches.moving.isNone

/-- The output of a port holds a GAP with CAL_OK that is long enough for a point swatch (R298), at the committed
ratio. -/
def State.gapServes (s : State) (n : Nat) : Bool :=
  let p := s.port n
  let ph := s.walking n
  let e := ph.word
  let cycles := ph.len * Config.granuleCycles (Config.portType n) p.div
  p.state == .run && ph.activity == .gap && field e 4 1 == 1 &&
    (3 + 20 * s.integ) * s.rootKhz ≤ cycles * 16

/-- The opportunity that an item has (R296), a LEGACY_HOLD pass apart: the swatch's type, and whether the spare
rotation runs it. -/
def State.opportunity (s : State) (item : Nat) : Option (SwatchKind × Bool) :=
  let i := itemIndex item
  match itemKind item with
  | 0 =>
    let n := i / 3
    let g := n / 16
    let cur := (s.port n).range == i % 3
    let x := s.spare g
    if Config.portFitted s.part n = false then .none
    else if (s.rotation g).1 == .portSwatch && x.substituted && x.serves == .some n && x.busy.isNone then
      if cur && (s.rotation g).2 == item then .some (.full, true) else .none
    else if s.idle n then .some (.full, false)
    else if cur && s.gapServes n then .some (.point, false)
    else .none
  | 1 =>
    let g := i / 48
    let x := s.spare g
    let rot := (s.rotation g).1
    if decide (g < Config.spares s.part) && s.shadowing g && !x.substituted && x.busy.isNone && s.spareItem g == item &&
      (rot == .idle || rot == .spareSwatch) then .some (.spare, rot == .spareSwatch) else .none
  | 2 => if Config.portFitted s.part i && s.idle i then .some (.delay, false) else .none
  | 3 => if s.monitorFitted (i / 2) then .some (.threshold, false) else .none
  | _ => .none

/-- A trip line that bears on an item is latched (R301). -/
def State.itemTripped (s : State) (item : Nat) : Bool :=
  match itemObeys item with
  | .some n => s.tripHeld n
  | .none =>
    match itemMonitor item with
    | .some m =>
      let w := s.reg (monReg m 20)
      bit w 3 && s.trips.die.getLsbD (bits w 0 3)
    | .none => false

/-- The precondition that fails (R301, R302), the lowest REASON first. -/
def State.precondition (s : State) (item : Nat) (readback : Bool) : Option Nat :=
  if readback = false then .some 1
  else if s.activeSettled = false then .some 2
  else if s.itemTripped item then .some 4
  else if s.clock.gated || s.clock.loop == .searching || s.clock.loop == .guard then .some 5
  else .none

/-- Swatches may run: a factory model (R291) and the active cartridge's predictions (R312, R336). -/
def State.mayCalibrate (s : State) : Bool := s.cal.factoryValid && (s.predicted 0).isSome && s.life.ready && !s.quieting

/-- Among equally overdue items the lower code, but of one port the current range first (R296, R297). -/
def State.itemOrder (s : State) (item : Nat) : Nat :=
  if itemKind item = 0 then
    let n := itemIndex item / 3
    itemCode 0 (3 * n + (itemIndex item % 3 + 3 - (s.port n).range) % 3)
  else item

/-- The item that a CALADC selects (R297): the most overdue whose opportunity is present and that is not HELD. -/
def State.nextItem (s : State) (adc : Nat) : Option Nat :=
  let able := (itemCodes s.part).filter (fun i =>
    itemAdc i == adc && !(s.calItem i).held && decide (s.itemDue i ≤ s.ledger.elapsed) && (s.opportunity i).isSome)
  able.foldl (fun best i => match best with
    | .none => .some i
    | .some b =>
      if s.itemDue i < s.itemDue b ∨ (s.itemDue i = s.itemDue b ∧ s.itemOrder i < s.itemOrder b) then .some i
      else .some b) .none

/-- The nominal level in force at a P-port's terminals (R299), in units of 10^-18 V. -/
def State.nominalLevel (s : State) (n : Nat) : Int :=
  let p := s.port n
  fullScale p.range * 10 ^ 10 * p.last.value / 2 ^ 27

/-! ### The swatch (R298-R306) -/

/-- A swatch begins on a CALADC (R300 steps 1 and 2). -/
def State.beginSwatch (s : State) (adc item : Nat) (kind : SwatchKind) (legacy rotation readback : Bool) : State :=
  match s.precondition item readback with
  | .some reason => s.calResult 2 reason item
  | .none =>
    let n := (itemPort item).getD 0
    let x : Swatch := { item := item, kind := kind, legacy := legacy, rotation := rotation
                        level := s.nominalLevel n, values := [], noisy := false, done := false }
    let s1 := s.setAdc adc (.some x)
    match kind with
    | .full => if rotation then s1 else s1.modPort n (fun p => { p with state := .service })
    | .spare => s1.modSpare (itemIndex item / 48) (fun y => { y with service := true })
    | .point => if legacy then s1.modPort n (fun p => { p with stale := true }) else s1
    | _ => s1

/-- A port takes part in a LEGACY_HOLD pass or a spare rotation: it is not idle (R307, R310). -/
def State.notIdle (s : State) (n : Nat) : Bool :=
  match (s.port n).state with
  | .ready | .armed | .run | .paused => true
  | .parked => s.switchClosed n
  | _ => false

/-- The next port of a LEGACY_HOLD pass on a CALADC (R310): frozen, and swatched at its last sample; one that has become
idle is left to the idle opportunity (R311), and a HELD item takes no further swatch (R305). -/
def State.legacyNext (s : State) (adc : Nat) (readback : Bool) : State :=
  match s.cal.legacy with
  | .none => s
  | .some l =>
    match (if adc = 0 then l.queue0 else l.queue1) with
    | [] => s
    | n :: rest =>
      let l1 := if adc = 0 then { l with queue0 := rest } else { l with queue1 := rest }
      let s1 : State := { s with cal := { s.cal with legacy := .some l1 } }
      if s1.notIdle n = false ∨ (s1.calItem (s1.portItem n)).held = true then s1.legacyOn
      else
        let s2 : State := { s1 with cal := { s1.cal with legacy := .some { l1 with ports := l1.ports + 1 } } }
        let s3 := s2.beginSwatch adc (s2.portItem n) .point true false readback
        if (s3.adc adc).isSome then s3 else (s3.legacyNote 2).legacyOn

/-- The ports that a LEGACY_HOLD pass has yet to take on a CALADC. -/
def State.legacyWaits (s : State) (adc : Nat) : Bool :=
  match s.cal.legacy with
  | .some l => !(if adc = 0 then l.queue0 else l.queue1).isEmpty
  | .none => false

/-- SWATCH_START (R297, R300): the CALADC takes its item; `readback`: the calibration switches read back as commanded. -/
def execSwatchStart (adc : Nat) (readback : Bool) (s : State) : Result :=
  .next (if 2 ≤ adc ∨ (s.adc adc).isSome ∨ s.mayCalibrate = false ∨ s.cal.suspend = true ∨ s.inStandby = true then s
    else if s.legacyWaits adc then s.legacyNext adc readback
    else match s.nextItem adc with
      | .some item =>
        match s.opportunity item with
        | .some (kind, rotation) => s.beginSwatch adc item kind false rotation readback
        | .none => s
      | .none => s)

/-- The points of a swatch type (R298). -/
def SwatchKind.points : SwatchKind → Nat
  | .full | .spare => 3
  | _ => 1

/-- The calibration switches of a running swatch read back otherwise than commanded (R300, R301): it ends with PRECONDITION,
REASON 1 (DEDUCED, log entry 115). -/
def State.failReadback (s : State) (adc : Nat) (x : Swatch) : State :=
  let s1 := ((s.setAdc adc .none).releaseSwatch x).calResult 2 1 x.item
  if x.legacy then (s1.legacyNote 2).legacyOn else s1

/-- SWATCH_POINT (R298, R301, R303): the calibration switches read back as commanded or not; a point's ratio to the tap in
units of 10^-15 (a delay error in femtoseconds), and the standard deviation of its sub-readings in 0.01 ppm of the tap. -/
def execSwatchPoint (adc : Nat) (readback : Bool) (value : Int) (noise : Nat) (s : State) : Result :=
  .next (match s.adc adc with
    | .some x =>
      if adc < 2 ∧ x.values.length < x.kind.points ∧ readback = false then s.failReadback adc x
      else if adc < 2 ∧ x.values.length < x.kind.points then
        let y := { x with
          values := x.values ++ [value], noisy := x.noisy || decide (max 1 (bits (s.rd Page.cal 0x68) 0 16) < noise) }
        s.setAdc adc (.some y)
      else s
    | .none => s)

/-- The tap that a swatch uses (R298). -/
def swatchTap (x : Swatch) : Nat :=
  match itemKind x.item with
  | 0 | 1 => itemIndex x.item % 3
  | _ => 0

/-- The code nearest the tap's nominal voltage in its range (R298), and that code's nominal voltage in 10^-18 V. -/
def tapCode (range : Nat) : Int :=
  let tap : Int := match range with | 0 => 1000000000 | 1 => 100000000 | _ => 10000000
  nearest (tap * 2 ^ 27) (fullScale range)

/-- The nominal voltage of a code in 10^-18 V, rounded down. -/
def nominalVolts (range : Nat) (c : Int) : Int := fullScale range * 10 ^ 10 * c / 2 ^ 27

/-- The measured error of a swatch (R290, R299), in taps: gain and offset. -/
def State.swatchError (s : State) (x : Swatch) : Taps :=
  let i := itemIndex x.item
  let tap := swatchTap x
  let p := (s.predicted tap).getD 0
  let volts (r : Int) : Int :=
    Config.slotConstants (s.cart.active.getD 0) tap (Config.adcLinearity (itemAdc x.item) r * p / 10 ^ 15) -
      Config.busOffset x.item
  let v (k : Nat) : Int := volts (x.values.getD k 0)
  let gainTaps (err base : Int) : Int := nearest (err * 10 ^ 8) base
  let offsetTaps (err : Int) : Int := nearest err (5 * 10 ^ 10)
  match x.kind with
  | .full | .spare =>
    let c := tapCode tap
    let span := nominalVolts tap c - nominalVolts tap (-c)
    { gain := gainTaps (v 1 - v 2 - span) span, offset := offsetTaps (v 0) }
  | .point =>
    let fs : Int := fullScale tap * 10 ^ 10
    if fs ≤ 10 * (x.level.natAbs : Int) then
      { gain := gainTaps (v 0 - Config.offsetEstimate s.free - x.level) x.level, offset := 0 }
    else { gain := 0, offset := offsetTaps (v 0 - x.level) }
  | .delay =>
    let fs : Int := match Config.portType i with | .f => 500 | _ => 1000
    { gain := 0, offset := nearest (x.values.getD 0 0) fs }
  | .threshold =>
    let m := i / 2
    let set := signed 14 (bits (s.reg (monReg m (if i % 2 = 0 then 4 else 8))) 0 14)
    { gain := 0, offset := nearest (v 0 * 8192 - 12 * 10 ^ 18 * set) (12 * 10 ^ 18) }

/-- The new result (R299): the last accepted result less the measured error. -/
def State.swatchResult (s : State) (x : Swatch) : Taps :=
  let old := (s.calItem x.item).result
  let e := s.swatchError x
  { gain := old.gain - e.gain, offset := old.offset - e.offset }

/-- A result lies within the limits of R304, `k` times over, of the carried last result. -/
def State.plausible (s : State) (item : Nat) (k : Nat) (old new : Taps) : Bool :=
  let g := (new.gain - old.gain).natAbs
  let o := (new.offset - old.offset).natAbs
  match itemKind item with
  | 0 | 1 =>
    g * 10 ≤ k * max 10 (bits (s.rd Page.cal 0x50) 0 24) && o * 50 ≤ k * max 50 (bits (s.rd Page.cal 0x54) 0 24)
  | 2 => o ≤ 8 * k
  | _ => o ≤ 4 * k

/-- The swatch is accepted (R303, R304, R306, R313). -/
def State.accepts (s : State) (x : Swatch) : Bool :=
  let it := s.calItem x.item
  let new := s.swatchResult x
  let old := s.carry x.item it.result it.temp (s.itemTemp x.item)
  !x.noisy && (match it.judging with
    | .ordinary => s.plausible x.item 1 old new
    | .tenfold => s.plausible x.item 10 old new
    | .open_ | .released => s.boundTaps x.item new == new)

/-- Taps as ledger content: two's-complement words. -/
def Taps.content (x : Taps) : List Nat := [(wordOfInt x.gain).toNat, (wordOfInt x.offset).toNat]

/-- An accepted result (R297, R300 step 5, R305, R306). -/
def State.acceptSwatch (s : State) (x : Swatch) : State :=
  let it := s.calItem x.item
  let new := s.swatchResult x
  let y : CalItem := { it with
    result := new, temp := s.itemTemp x.item, target := new, accepted := it.accepted + 1, total := it.total + 1
    rejected := 0, held := false, judging := .ordinary, swatched := .some s.ledger.elapsed, retry := .none
    at_ := s.ledger.sec, seeded := true }
  let s1 := (((s.setCalItem x.item y).countMod Page.cal 0x6c 0 16 1).calResult 0 0 x.item).storeChange
  if it.judging = .released then s1.ledgerNote 0x12 (x.item :: (it.result.content ++ new.content)) else s1

/-- An IMPLAUSIBLE result (R305): nothing changes but the counts; the third in a row makes the item HELD. -/
def State.rejectSwatch (s : State) (x : Swatch) : State :=
  let it := s.calItem x.item
  let held := decide (2 ≤ it.rejected)
  let y : CalItem := { it with
    rejected := min 3 (it.rejected + 1), held := held, judging := .ordinary
    retry := .some (s.ledger.elapsed + s.warmInterval) }
  let s1 := (((s.setCalItem x.item y).countMod Page.cal 0x6c 16 16 1).calResult 1 0 x.item).storeChange
  let s2 := (s1.flag Page.cal 1).ledgerNote 0x10 (x.item :: ((s.swatchResult x).content ++ it.result.content))
  if held && !it.held then (s2.flag Page.cal 2).ledgerNote 0x11 [x.item] else s2

/-- SWATCH_END (R300 steps 4 and 5): the switches open and the result is judged. A legacy swatch keeps its output frozen
until LEGACY_RELEASE. -/
def execSwatchEnd (adc : Nat) (s : State) : Result :=
  .next (match s.adc adc with
    | .some x =>
      if adc < 2 ∧ x.done = false ∧ x.values.length = x.kind.points then
        let free := x.kind == .point
        let s1 := if x.legacy then s.setAdc adc (.some { x with done := true }) else (s.setAdc adc .none).releaseSwatch x
        let s2 := if s.accepts x then s1.acceptSwatch x else s1.rejectSwatch x
        let s3 := if x.legacy then s2.legacyNote (if s.accepts x then 0 else 1) else s2
        if free then s3.spend else s3
      else s
    | .none => s)

/-- CAL_REBASE.GO written (R306): held items are released; 0xffff names every one. -/
def State.calRebase (s : State) (item : Nat) : State :=
  let free (x : CalItem) : CalItem := if x.held then { x with held := false, judging := .released, retry := .none } else x
  let items := s.cal.items.map (fun e => (e.1, if item = 0xffff ∨ e.1 = item then free e.2 else e.2))
  if items = s.cal.items then s else State.storeChange { s with cal := { s.cal with items := items } }

/-- CAL_REBASE. -/
def execCalRebase (item : Nat) (s : State) : Result :=
  .next ((s.wr Page.cal 0x74 (word (item % 2 ^ 16))).calRebase (item % 2 ^ 16))

/-- The first swatch of every item after an unmeasured change is judged as under R313 (R336, R338). -/
def State.judgeTenfold (s : State) : State :=
  { s with cal := { s.cal with items := (itemCodes s.part).map (fun i =>
    let x := s.calItem i
    (i, if x.judging = .ordinary then { x with judging := .tenfold } else x)) } }

/-! ### Spare rotation (R307-R309) -/

/-- SPARE_ROTATION_CTRL written (R307, R308): bits of spares that are not fitted read as zero. -/
def State.writeRotation (s : State) (w : Word) : State :=
  s.wr Page.cal 0x70 (w &&& word (2 ^ Config.spares s.part - 1 + 2 ^ 4))

/-- GROUP_EN_WRITE. -/
def execGroupEnWrite (value : Word) (s : State) : Result := .next (s.writeRotation value)

/-- The item that the rotation of a group picks (R307). -/
def State.rotationItem (s : State) (g : Nat) : Option Nat :=
  let able := (((List.range 16).map (fun i => 16 * g + i)).filter (fun n => Config.portFitted s.part n && s.notIdle n)).map
    s.portItem |>.filter (fun i => !(s.calItem i).held && decide (s.itemDue i ≤ s.ledger.elapsed))
  able.foldl (fun best i => match best with
    | .none => .some i
    | .some b => if s.itemDue i < s.itemDue b then .some i else .some b) .none

/-- An item has no swatch under way on either CALADC. -/
def State.swatchIdle (s : State) (item : Nat) : Bool :=
  let is (x : Option Swatch) : Bool := match x with | .some x => x.item == item | .none => false
  !is s.cal.adc0 && !is s.cal.adc1

/-- A hand-over or return of the rotation may run (R307). -/
def State.rotationMayMove (s : State) (g : Nat) : Bool := s.trimsValid g || bit (s.rd Page.cal 0x70) 4

/-- The rotation's return (R307 step 5, R309). -/
def State.rotationReturn (s : State) (g item : Nat) : State :=
  if s.mayReturn g then (s.beginHandover g false).setRotation g .return_ item else s

/-- The present step of a group's rotation is complete (R307). -/
def State.rotationStepDone (s : State) (g : Nat) (r : Rotation × Nat) : Bool :=
  let x := s.spare g
  match r.1 with
  | .idle => true
  | .shadow => x.settled
  | .spareSwatch => x.settled && s.swatchIdle (s.spareItem g)
  | .substitute | .return_ => x.busy.isNone
  | .portSwatch => s.swatchIdle r.2

/-- The rotation ends at its next step boundary once its bit was cleared (R308): a substituted port is first returned, if
that is accepted. -/
def State.rotationEnd (s : State) (g : Nat) (r : Rotation × Nat) : State :=
  if r.1 = .idle ∨ s.rotationStepDone g r = false then s
  else if s.mayReturn g then s.rotationReturn g r.2
  else s.setRotation g .idle 0

/-- The hand-over of the rotation (R307 step 3), once the spare has settled. -/
def State.rotationSubstitute (s : State) (g item : Nat) : State :=
  if s.rotationMayMove g = false then (s.calResult 2 3 item).setRotation g .idle 0
  else if s.mayHandOver g then (s.beginHandover g true).setRotation g .substitute item
  else s

/-- ROTATION_STEP (R307): the rotation of a group goes on when its present step is complete; LEGACY_HOLD suspends it. -/
def State.rotationStep (s : State) (g : Nat) : State :=
  let r := s.rotation g
  let x := s.spare g
  if s.cal.legacyMode then s
  else if s.rotates g = false then s.rotationEnd g r
  else match r.1 with
    | .idle =>
      if x.substituted || x.busy.isSome || x.service || x.fault || !s.mayCalibrate then s
      else match s.rotationItem g with
        | .some item => (s.setSpareTarget g (word (itemIndex item / 3 % 16 + 2 ^ 7))).setRotation g .shadow item
        | .none => s
    | .shadow =>
      if x.settled = false then s
      else
        let it := s.spareItem g
        if decide (s.itemDue it ≤ s.ledger.elapsed) && !(s.calItem it).held then s.setRotation g .spareSwatch r.2
        else s.rotationSubstitute g r.2
    | .spareSwatch =>
      let it := s.spareItem g
      if x.settled && s.swatchIdle it && decide (s.ledger.elapsed < s.itemDue it) then s.rotationSubstitute g r.2 else s
    | .substitute => if x.substituted && x.busy.isNone then s.setRotation g .portSwatch r.2 else s
    | .portSwatch =>
      if s.swatchIdle r.2 && (decide (s.ledger.elapsed < s.itemDue r.2) || (s.calItem r.2).held) then
        if s.rotationMayMove g then s.rotationReturn g r.2 else s.calResult 2 3 r.2
      else s
    | .return_ =>
      if x.busy.isSome then s
      else if x.substituted then (if s.rotationMayMove g then s.rotationReturn g r.2 else s)
      else s.setRotation g .idle 0

/-- ROTATION_STEP. -/
def execRotationStep (g : Nat) (s : State) : Result :=
  .next (if g < Config.spares s.part then s.rotationStep g else s)

/-! ### LEGACY_HOLD passes (R310, R311) -/

/-- A pass begins: every fitted P-port that is not idle, in ascending order, by CALADC. With SUSPEND no new swatch starts,
and no pass begins (R297, R310; DEDUCED, log entry 116). -/
def State.legacyStart (s : State) : State :=
  if s.cal.legacyMode = false ∨ s.cal.suspend = true ∨ s.cal.legacy.isSome then s
  else
    let ports := ((List.range 64).filter (Config.portFitted s.part)).filter s.notIdle
    let of (k : Nat) : List Nat := ports.filter (fun n => n / 16 % 2 == k)
    State.legacyOn { s with cal := { s.cal with
      legacy := .some { queue0 := of 0, queue1 := of 1, ports := 0, results := [] } } }

/-- LEGACY_PASS (R310): every INTERVAL. -/
def execLegacyPass (s : State) : Result := .next s.legacyStart

/-- LEGACY_CTRL_GO (R310). -/
def execLegacyCtrlGo (s : State) : Result := .next s.legacyStart

/-- LEGACY_RELEASE (R310): the frozen output plays on, trims stepped at once to their targets. -/
def execLegacyRelease (adc : Nat) (s : State) : Result :=
  .next (match s.adc adc with
    | .some x =>
      if adc < 2 ∧ x.legacy = true ∧ x.done = true then
        let s1 := (s.setAdc adc .none).releaseSwatch x
        (s1.apply x.item (s1.boundTaps x.item (s1.calItem x.item).target)).legacyOn
      else s
    | .none => s)

/-- CAL_MODE written (R310, R311): MODE and SUSPEND take effect at once, or at the end of the pass under way. -/
def State.writeCalMode (s : State) (w : Word) : State :=
  let s1 := s.wr Page.cal 0x40 (w &&& 0x101)
  if s.cal.legacy.isSome then s1 else { s1 with cal := { s1.cal with legacyMode := bit w 0, suspend := bit w 8 } }

/-- CAL_STATUS (R326). -/
def State.calStatus (s : State) : Word :=
  let kind (x : Option Swatch) : Nat := match x with
    | .some x => (match x.kind with | .full => 1 | .point => 2 | .spare => 3 | .delay => 4 | .threshold => 5)
    | .none => 0
  let held := (s.cal.items.filter (fun e => e.2.held)).length
  word (kind s.cal.adc0 + kind s.cal.adc1 * 8 + b2n s.cal.legacy.isSome * 2 ^ 8 + b2n s.cal.factoryValid * 2 ^ 9 +
    b2n s.cal.recordValid * 2 ^ 10 + b2n s.cal.seedMismatch * 2 ^ 11 + held * 2 ^ 16)

/-- WARMING_MAPk (R314, R325). -/
def State.warmingMap (s : State) (k : Nat) : Word :=
  word ((List.range 32).foldl (fun acc i => acc + b2n (s.portWarming (32 * k + i)) * 2 ^ i) 0)

end Machine
end Sys2Proof
end

