-- ==== Sys2Proof/Machine/Lifeline.lean ====
section
/-! DEFINITION. The ledger ring and its time (R320-R324, R327) and the lifeline record (R315-R319), with the seeding of
the trims at cast-on (R312, R313). -/

namespace Sys2Proof
namespace Machine

/-! ### The ledger ring (R320-R322) -/

/-- A list of bytes at an exact length: cut, or filled with zeros. -/
def padTo (n : Nat) (l : List Byte) : List Byte := (l ++ List.replicate n 0).take n

/-- The payload of an entry: as laid out, or as the module lays out its contents (DESIGN CHOICE, log entry 9). -/
def LedgerEntry.body (e : LedgerEntry) : List Byte :=
  if e.payload.isEmpty && !e.content.isEmpty then Config.ledgerPayload e.kind e.content else e.payload

/-- The first 20 bytes of an entry (R320). -/
def LedgerEntry.head (e : LedgerEntry) : List Byte :=
  leBytes 8 e.seq ++ leBytes 4 e.sec ++ leBytes 4 e.ns ++ leBytes 2 e.kind ++ leBytes 2 e.flags

/-- An entry's bytes, given the hash of the entry before it (R320). -/
def State.entryBytes (s : State) (e : LedgerEntry) : List Byte :=
  let prev := beBytes 48 s.nv.lastHash.toNat
  if e.kind = 0xf0 then
    let start := e.head ++ leBytes 8 (e.content.headD 0) ++ leBytes 8 s.nv.serial.toNat ++ List.replicate 12 0
    let sig := beBytes 96 (Config.sign (Config.sha384 (start ++ prev))).toNat
    start ++ sig ++ List.replicate 64 0 ++ prev
  else e.head ++ padTo 60 (if e.kind = 0xff then [] else e.body) ++ prev

/-- LEDGER.EXPORT_MARK. -/
def State.exportMark (s : State) : Nat := (s.rd Page.ledger 0x60).toNat + 2 ^ 32 * (s.rd Page.ledger 0x64).toNat

/-- The sector at an offset erased (R322): its entries above EXPORT_MARK count as lost. EXPORT_MARK resets to 0, which
names no exported entry but SEQ 0. -/
def State.eraseSector (s : State) (offset : Nat) : State :=
  let inside (r : RingEntry) : Bool := r.offset / 65536 == offset / 65536
  let gone := s.nv.ring.filter inside
  let lost := (gone.filter (fun r => decide (s.exportMark < r.seq))).length
  let s1 : State := { s with nv := { s.nv with ring := s.nv.ring.filter (fun r => !inside r) } }
  if lost = 0 then s1
  else State.flag ({ s1 with ledger := { s1.ledger with lost := true } }.countField Page.ledger 0x68 0 32 lost) Page.ledger 1

/-- The oldest buffered entry programmed into the ring (R322). -/
def State.programEntry (s : State) : State :=
  match s.ledger.buffer with
  | [] => s
  | e :: rest =>
    let o := s.nv.ringOffset
    let s1 := if o % 65536 = 0 then s.eraseSector o else s
    let bytes := s1.entryBytes e
    let s2 : State := { s1 with
      ledger := { s1.ledger with buffer := rest }
      nv := { s1.nv with
        ring := s1.nv.ring ++ [{ offset := o, seq := e.seq, kind := e.kind, bytes := bytes }]
        ringOffset := (o + entrySize e.kind) % 2 ^ 24, lastSeq := .some e.seq, lastHash := Config.sha384 bytes
        checkpoint := if e.kind = 0xf0 then .some e.seq else s1.nv.checkpoint } }
    if e.kind = 0xf0 then s2.flag Page.ledger 0 else s2

/-- LEDGER_ENTRY_PROGRAM (R322). -/
def execLedgerEntryProgram (s : State) : Result := .next s.programEntry

/-- Every buffered entry programmed (R432). -/
def State.programAll (s : State) : State := (List.range s.ledger.buffer.length).foldl (fun s _ => s.programEntry) s

/-- LEDGER_SECOND (R323): without PPS. -/
def execLedgerSecond (s : State) : Result := .next (if s.ledger.pps then s else s.secondBoundary)

/-- PPS_LOST (R323). -/
def execPpsLost (s : State) : Result := .next { s with ledger := { s.ledger with pps := false } }

/-- TIME_SET written (R323): arms one set. -/
def State.timeSet (s : State) (seconds : Word) : State :=
  { (s.wr Page.ledger 0x54 seconds) with ledger := { s.ledger with timeSet := .some seconds.toNat } }

/-- TIME_SET. -/
def execTimeSet (seconds : Word) (s : State) : Result := .next (s.timeSet seconds)

/-- LEDGER_STATUS (R327). -/
def State.ledgerStatus (s : State) : Word :=
  let l := s.ledger
  word (b2n l.pps + b2n l.lost * 2 + b2n l.chainOk * 4 + l.buffer.length * 16)

/-- SEQ of the last entry, 0 before the first. -/
def State.headSeq (s : State) : Nat := s.ledger.nextSeq - 1

/-- SEQ of the oldest entry in the ring, 0 for an empty ring. -/
def State.oldestSeq (s : State) : Nat :=
  match s.nv.ring with
  | [] => 0
  | r :: rs => rs.foldl (fun m x => min m x.seq) r.seq

/-- A word of the ring (R324), erased flash reading as ones (DESIGN CHOICE, log entry 1). -/
def State.ringWord (s : State) (i : Nat) : Word :=
  match s.nv.ring.find? (fun r => r.offset ≤ 4 * i && 4 * i < r.offset + r.bytes.length) with
  | .some r => wordAt r.bytes ((4 * i - r.offset) / 4)
  | .none => 0xffffffff

/-- LEDGER.PAGE_CTRL.UNIT_RESET (R327): recorded, LOST_COUNT and LOST cleared. -/
def State.resetLedger (s : State) : State :=
  let s1 := (s.wr Page.ledger 0x68 0).ledgerCommit [Page.ledger]
  { s1 with ledger := { s1.ledger with lost := false } }

/-! ### The lifeline (R315-R319) -/

/-- SECURITY.FW_VERSION: the running image's. -/
def State.fwVersion (s : State) : Word :=
  match (if s.nv.activeB then s.nv.imageB else s.nv.imageA) with
  | .some i => i.version
  | .none => 0

/-- The record in force (R318): of two valid ones, the one with the higher SEQ; true for slot B. -/
def State.inForce (s : State) : Option (Bool × LifeRecord) :=
  match s.nv.lifeA, s.nv.lifeB with
  | .some a, .some b => if a.seq < b.seq then .some (true, b) else .some (false, a)
  | .some a, .none => .some (false, a)
  | .none, .some b => .some (true, b)
  | .none, .none => .none

/-- STORE_SEQ. -/
def State.storeSeq (s : State) : Nat := (s.rd Page.cal 0x58).toNat

/-- The live record, as it would be committed now (R315): applied values in taps (R292). -/
def State.liveRecord (s : State) : LifeRecord :=
  let codes := itemCodes s.part
  let ofKind (k : Nat) : List Nat := codes.filter (fun i => itemKind i == k)
  { seq := s.storeSeq + 1, sec := s.ledger.sec, ns := s.nanos, ledgerSeq := s.ledger.nextSeq
    cartId := match s.cart.active with
      | .some k => (match (s.slot k).data with | .some d => d.identity | .none => 0)
      | .none => 0
    activeSlot := s.cart.active.getD 3, fwVersion := s.fwVersion
    trims := (ofKind 0 ++ ofKind 1).map (fun i => (i, s.applied i))
    delays := (ofKind 2).map (fun i => (itemIndex i, (s.applied i).offset, (s.calItem i).temp))
    thresholds := (ofKind 3).map (fun i => (itemIndex i, (s.applied i).offset))
    items := (ofKind 0 ++ ofKind 1).map (fun i =>
      let x := s.calItem i
      (i, min 0xffff x.total, x.held, x.rejected, x.at_)) }

/-- Words of a 32-bit layout as bytes. -/
def wordBytes (l : List Nat) : List Byte := (l.map (leBytes 4)).flatten

/-- Bytes 0x0000-0x19ff of a record (R315). -/
def LifeRecord.bytes (r : LifeRecord) : List Byte :=
  let i32 (v : Int) : Nat := (wordOfInt v).toNat
  let taps (kind : Nat) : List Byte :=
    ((List.range 192).map (fun i =>
      let t := r.trims.get (fun _ => { gain := 0, offset := 0 }) (itemCode kind i)
      wordBytes [i32 t.gain, i32 t.offset])).flatten
  let state (kind : Nat) : List Byte :=
    ((List.range 192).map (fun i =>
      let x := r.items.get (fun _ => (0, false, 0, 0)) (itemCode kind i)
      wordBytes [x.1 + b2n x.2.1 * 2 ^ 16 + x.2.2.1 * 2 ^ 17, x.2.2.2])).flatten
  let delay (i : Nat) : List Byte :=
    let d := r.delays.get (fun _ => (0, 0)) (64 + i)
    leBytes 2 (i32 d.1) ++ leBytes 2 (i32 d.2)
  let factory := (beBytes 48 Config.factoryDigest.toNat).take 4
  wordBytes [0x52434754, 1, r.seq, 0x1a00, r.sec, r.ns] ++ leBytes 8 r.ledgerSeq ++ leBytes 16 r.cartId.toNat ++
    wordBytes [r.activeSlot] ++ factory ++ wordBytes [r.fwVersion.toNat, 0] ++ taps 0 ++ taps 1 ++ state 0 ++ state 1 ++
    ((List.range 80).map delay).flatten ++
    ((List.range 48).map (fun i => leBytes 2 (i32 (r.thresholds.get (fun _ => 0) i)))).flatten ++ List.replicate 32 0

/-- The first 32 bytes of the SHA-384 of a record (R315, R372): the bytes before its signature, with their CRC. -/
def LifeRecord.digest (r : LifeRecord) : List Byte :=
  (beBytes 48 (Config.sha384 (r.bytes ++ leBytes 4 (crc32c r.bytes).toNat)).toNat).take 32

/-- A word of the live record (TBL_SEL 5, R315): CRC, SIGNATURE and COMMIT read as zero. -/
def State.liveWord (s : State) (i : Nat) : Word := if i < 0x680 then wordAt s.liveRecord.bytes i else 0

/-- A lifeline commit runs. -/
def State.commitRuns (s : State) : Bool :=
  s.cal.store == .erasing || s.cal.store == .programming || s.cal.store == .verifying

/-- 60 min have passed since the last commit started, or since it failed (R316, R317; DEDUCED, log entry 117). -/
def State.commitHour (s : State) : Bool :=
  match s.cal.storeAt with
  | .some t => decide (t + 3600 ≤ s.ledger.elapsed)
  | .none => true

/-- The slot that a commit goes to (R316): the one that does not hold the record in force; slot A where none does. -/
def State.commitToB (s : State) : Bool := match s.inForce with | .some (b, _) => !b | .none => false

/-- A commit begins (R316, R317): its slot's first sector is erased, and the slot holds no valid record until COMMIT is
programmed. -/
def State.commitBegin (s : State) : State :=
  { s with
    nv := if s.commitToB then { s.nv with lifeB := .none } else { s.nv with lifeA := .none }
    cal := { s.cal with store := .erasing, storeDue := false, storeRetry := false, storeAt := .some s.ledger.elapsed } }

/-- LIFELINE_COMMIT_START (R316): a change is pending, 60 min have passed. -/
def State.commitStart (s : State) : State :=
  if s.cal.storeDue && !s.commitRuns && s.commitHour && !s.paused && !s.inStandby then s.commitBegin else s

/-- LIFELINE_COMMIT_START. -/
def execLifelineCommitStart (s : State) : Result := .next s.commitStart

/-- Bind-off starts a commit whenever anything has changed (R316), once one that runs has completed (R432 step 6). -/
def State.commitBindoff (s : State) : State :=
  if s.life.bindoff == .running && s.cal.storeDue && !s.commitRuns && s.cal.store != .failed then s.commitBegin else s

/-- A commit that has been read back (R316): its record is in force. -/
def State.commitDone (s : State) : State :=
  let r := s.liveRecord
  let toB := s.commitToB
  let s1 : State := { s with nv := if toB then { s.nv with lifeB := .some r } else { s.nv with lifeA := .some r } }
  let s2 := s1.ledgerWrite 0x13 0 [] (r.seq :: r.digest.map BitVec.toNat)
  let s3 : State := { (s2.wr Page.cal 0x58 (word (s.storeSeq + 1))) with
    cal := { s2.cal with store := if s.cal.storeDue then .waiting else .idle, slotB := toB } }
  (s3.flag Page.cal 3).commitBindoff

/-- A read-back that failed (R317): retried once in the same slot, then STORE_FAILED; the change still waits, another
60 min. -/
def State.commitFailed (s : State) : State :=
  if s.cal.storeRetry = false then { s with cal := { s.cal with store := .erasing, storeRetry := true } }
  else (State.flag { s with cal := { s.cal with
    store := .failed, storeDue := true, storeAt := .some s.ledger.elapsed } } Page.cal 4).fault Page.cal 0x17

/-- LIFELINE_COMMIT_COMPLETE (R316, R317). -/
def execLifelineCommitComplete (ok : Bool) (s : State) : Result :=
  .next (if s.commitRuns then (if ok then s.commitDone else s.commitFailed) else s)

/-- A running commit goes on from erasing to programming and to its read-back, in that order, each at a moment that is free
(R316; DESIGN CHOICE, log entry 5). -/
def State.commitAdvances (s : State) : State :=
  let go := (Config.freeTime s.free).toNat % 2 = 1
  match s.cal.store with
  | .erasing => { s.spend with cal := { s.cal with store := if go then .programming else .erasing } }
  | .programming => { s.spend with cal := { s.cal with store := if go then .verifying else .programming } }
  | _ => s

/-- STORE_STATE (R326), with WAIT_MIN. -/
def State.storeState (s : State) : Word :=
  let st := match s.cal.store with
    | .idle => 0
    | .waiting => 1
    | .erasing => 2
    | .programming => 3
    | .verifying => 4
    | .failed => 5
  let wait := match s.cal.storeAt with
    | .some t => Config.ceilDiv (t + 3600 - s.ledger.elapsed) 60
    | .none => 0
  word (st + b2n s.cal.slotB * 8 + min 255 wait * 2 ^ 8)

/-- The value of an item in a record. -/
def LifeRecord.value (r : LifeRecord) (item : Nat) : Taps :=
  match itemKind item with
  | 0 | 1 => r.trims.get (fun _ => { gain := 0, offset := 0 }) item
  | 2 => { gain := 0, offset := (r.delays.get (fun _ => (0, 0)) (itemIndex item)).1 }
  | _ => { gain := 0, offset := r.thresholds.get (fun _ => 0) (itemIndex item) }

/-- An item as a record seeds it (R312, R313, R315). -/
def State.seedItem (s : State) (r : LifeRecord) (item : Nat) : CalItem :=
  let v := r.value item
  let now := s.itemTemp item
  let t0 := if itemKind item = 2 then (r.delays.get (fun _ => (0, 0)) (itemIndex item)).2 else now
  let st := r.items.get (fun _ => (0, false, 0, 0)) item
  { CalItem.fresh with
    result := v, temp := t0, target := s.carry item v t0 now, total := st.1, held := st.2.1, rejected := st.2.2.1
    at_ := st.2.2.2, seeded := true, judging := if s.cal.seedMismatch then .tenfold else .ordinary }

/-- The trims seeded at cast-on (R312, R313, R318, R319): from the record in force, or from 0 without one. -/
def State.seed (s : State) : State :=
  let codes := itemCodes s.part
  match s.inForce with
  | .some (b, r) =>
    let s0 : State := { (s.wr Page.cal 0x58 (word r.seq)) with cal := { s.cal with recordValid := true, slotB := b } }
    let s1 : State := { s0 with cal := { s0.cal with items := codes.map (fun i => (i, s0.seedItem r i)) } }
    codes.foldl (fun s i => s.apply i (s.boundTaps i (s.calItem i).result)) s1
  | .none =>
    { s with cal := { s.cal with items := codes.map (fun i => (i, { CalItem.fresh with judging := .open_ })) } }

end Machine
end Sys2Proof
end

