-- ==== Sys2Proof/Machine/Cartridge.lean ====
section
/-! DEFINITION. The reference cartridges (R328-R343): slots, authentication, oven, life log, the active slot, transfers,
the information block. -/

namespace Sys2Proof
namespace Machine

/-- A cartridge slot replaced. -/
def State.setSlot (s : State) (k : Nat) (x : CartSlot) : State :=
  { s with cart := if k = 0 then { s.cart with a := x } else { s.cart with b := x } }

/-- The cartridge page changed by a function. -/
def State.modCart (s : State) (f : Cart → Cart) : State := { s with cart := f s.cart }

/-- The identity of a slot's cartridge. -/
def CartSlot.identity (x : CartSlot) : BitVec 128 := match x.data with | .some d => d.identity | .none => 0

/-- A CARTRIDGE ledger entry (R339). -/
def State.cartNote (s : State) (event k : Nat) (reason : Nat := 0) (ratio cont : Int := 0) (points : Nat := 0) : State :=
  let x := s.slot k
  let i64 (v : Int) : Nat := (BitVec.ofInt 64 v).toNat
  s.ledgerWrite 0x20 0 (leBytes 1 event ++ leBytes 1 k ++ leBytes 1 reason ++ leBytes 1 0 ++ leBytes 16 x.identity.toNat ++
    leBytes 4 x.life.hours ++ leBytes 2 x.life.cycles ++ leBytes 2 x.life.shocks ++ leBytes 8 (i64 ratio) ++
    leBytes 8 (i64 cont) ++ leBytes 4 points) []

/-! ### Windows and life (R333, R334) -/

/-- The slot's tap is within its settling window (R333). -/
def CartSlot.windowNow (x : CartSlot) (elapsed : Nat) : Bool :=
  x.ovenStable && x.auth && decide (-5 ≤ x.milliK ∧ x.milliK ≤ 5) && (x.state == .warming || x.state == .stable) &&
    decide (elapsed ≤ x.readAt + 2)

/-- A slot's IN_WINDOW brought up to date; the active tap leaving its window ends the swatches (R302), its time in the
window starts anew when it comes back. -/
def State.updateWindow (s : State) (k : Nat) (x : CartSlot) : State :=
  let v := x.windowNow s.ledger.elapsed
  let was := (s.slot k).inWindow
  let s1 := s.setSlot k { x with inWindow := v }
  if s.cart.active = .some k ∧ v ≠ was then
    if v then s1.modCart (fun c => { c with since := .some s.ledger.elapsed })
    else (s1.modCart (fun c => { c with since := .none })).abortAll 13
  else s1

/-- A reading missing for more than 2 s counts as outside the window (R333): both slots brought up to date. -/
def State.windowsNow (s : State) : State :=
  [0, 1].foldl (fun s k =>
    let x := s.slot k
    if x.inWindow && !x.windowNow s.ledger.elapsed then s.updateWindow k x else s) s

/-- The life log with what the module adds to it (R334): the powered time since the last update and the oven cycles of
the power-ups since then. -/
def CartSlot.logged (x : CartSlot) (elapsed : Nat) : LifeLog :=
  { x.life with seconds := x.life.seconds + (elapsed - x.lifeAt), cycles := x.life.cycles + x.owed }

/-- The life log read back (R334): each condition newly met sets its bit and the flag, with its entry; each new shock
has one. -/
def State.lifeLog (s : State) (k : Nat) (log : LifeLog) : State :=
  let x := s.slot k
  let warn := decide (45000 ≤ log.hours) || decide (450 ≤ log.cycles)
  let ended := decide (50000 ≤ log.hours) || decide (500 ≤ log.cycles)
  let hot := decide (70000 < log.peakMilliC)
  let shocks := log.shocks - x.life.shocks
  let y := { x with
    life := log, warn := x.warn || warn, ended := x.ended || ended, shock := x.shock || decide (0 < shocks)
    overTemp := x.overTemp || hot }
  let events := (if warn && !x.warn then [5] else []) ++ (if ended && !x.ended then [6] else []) ++
    List.replicate shocks 7 ++ (if hot && !x.overTemp then [8] else [])
  let s1 := events.foldl (fun s e => s.cartNote e k) (s.setSlot k y)
  if events.isEmpty then s1 else s1.flag Page.cart 3

/-- LIFE_LOG_UPDATE (R334): the shock events and the peak temperature are the cartridge's own. -/
def execLifeLogUpdate (slot : Nat) (shocks : Nat) (peakMilliC : Int) (s : State) : Result :=
  let x := s.slot slot
  .next (if slot < 2 ∧ x.powered = true ∧ x.data.isSome = true then
      (s.setSlot slot { x with lifeAt := s.ledger.elapsed, owed := 0 }).lifeLog slot
        { x.logged s.ledger.elapsed with shocks := shocks, peakMilliC := peakMilliC }
    else s)

/-! ### Transfers (R337, R338) -/

/-- A transfer fails (R337). -/
def State.transferFails (s : State) (reason : Nat) : State :=
  if s.cart.transfer = .running then
    ((s.modCart (fun c => { c with transfer := .failed, reason := reason, accepted := .none })).flag Page.cart 6).cartNote 10
      (1 - s.cart.active.getD 0) reason
  else s

/-- REJECT_REASON of a failure (R341). -/
def rejectReason : AuthFailure → Nat
  | .certificate => 1
  | .signature => 2
  | .bus => 3
  | .model => 4

/-- An authentication fails (R330): REJECTED, AUTH_FAIL; the active cartridge stays active, outside its window. -/
def State.authFails (s : State) (k : Nat) (why : AuthFailure) : State :=
  let c := rejectReason why
  let x := s.slot k
  let s1 :=
    if s.cart.active = .some k then s.updateWindow k { x with auth := false, reject := c }
    else
      let s1 := s.updateWindow k { x with auth := false, reject := c, state := .rejected }
      s1.transferFails 2
  (s1.flag Page.cart 2).cartNote 4 k c

/-- TRANSFER_CTRL.GO written (R337): a transfer starts, or is refused; one that runs goes on. The target authenticates
first. -/
def State.transferStart (s : State) (failure : Option AuthFailure) : State :=
  if s.cart.transfer = .running then s
  else
    let refuse (s : State) : State := s.modCart (fun c => { c with transfer := .refused, reason := 0 })
    let able (k : Nat) : Bool := (s.slot k).state == .stable && (s.slot k).sealValid
    match s.cart.active with
    | .none => refuse s
    | .some k =>
      if able 0 && able 1 then
        match failure with
        | .some why => refuse (s.authFails (1 - k) why)
        | .none =>
          (s.updateWindow (1 - k) { s.slot (1 - k) with auth := true }).modCart (fun c => { c with
            transfer := .running, reason := 0, points := [], count := 0, accepted := .none })
      else refuse s

/-- TRANSFER_GO. -/
def execTransferGo (failure : Option AuthFailure) (s : State) : Result := .next (s.transferStart failure)

/-- TRANSFER_ABORT (R337). -/
def execTransferAbort (s : State) : Result := .next (s.transferFails 4)

/-- TRANSFER_TIMEOUT (R337). -/
def execTransferTimeout (s : State) : Result := .next (if s.cart.accepted.isNone then s.transferFails 3 else s)

/-- The standard error of the mean of some points, in units of 10^-15, is at most a limit: the sample standard deviation
(n - 1) over the root of n, compared in squares (DEDUCED, log entry 119). -/
def errorWithin (pts : List Int) (limit : Nat) : Bool :=
  let n : Int := pts.length
  let sum := pts.foldl (· + ·) 0
  decide (n * pts.foldl (fun a x => a + x * x) 0 - sum * sum ≤ n * n * (n - 1) * ((limit : Int) * limit))

/-- TRANSFER_POINT (R337): the ratio less 1 in units of 10^-15, and whether both taps were in their window throughout. -/
def execTransferPoint (ratioE15 : Int) (inWindow : Bool) (s : State) : Result :=
  .next (if s.cart.transfer = .running ∧ inWindow = true ∧ s.cart.accepted.isNone = true ∧ s.clock.relock.isNone = true ∧
      (s.slot 0).inWindow = true ∧ (s.slot 1).inWindow = true then
      let pts := (s.cart.points ++ [ratioE15])
      let pts := pts.drop (pts.length - 180)
      let mean := nearest (pts.foldl (· + ·) 0) 180
      let noise := max 1000 (bits (s.rd Page.cart 0x60) 8 24)
      let ok := decide (pts.length = 180) && errorWithin pts (1000 * noise)
      s.modCart (fun c => { c with
        points := pts, count := min 0xffff (c.count + 1), accepted := if ok then .some mean else .none
        ratio := if ok then mean else c.ratio })
    else s)

/-- The continuity factor in units of 10^-15 (R338). -/
def continuity (ratio vOld vNew : Int) : Int := nearest ((10 ^ 15 + ratio) * vOld) vNew - 10 ^ 15

/-- TRANSFER_SWITCH (R338): the active slot changes while neither CALADC is inside a swatch. -/
def State.transferSwitch (s : State) : State :=
  match s.cart.transfer, s.cart.accepted, s.cart.active with
  | .running, .some r, .some k =>
    let t := 1 - k
    match s.predicted 0, (s.slot t).data.bind CartData.record with
    | .some vOld, .some rec =>
      let c := continuity r vOld (predictTap rec 0 0 s.ledger.sec)
      let s1 := s.modCart (fun x => { x with
        active := .some t, cont := c, transfer := .done, accepted := .none
        since := if (s.slot t).inWindow then .some s.ledger.elapsed else .none })
      (s1.flag Page.cart 5).cartNote 9 t 0 r c s.cart.count
    | _, _ => s
  | _, _, _ => s

/-- TRANSFER_SWITCH. -/
def execTransferSwitch (s : State) : Result :=
  .next (if s.cal.adc0.isNone ∧ s.cal.adc1.isNone then s.transferSwitch else s)

/-! ### The active slot (R336, R338) -/

/-- A slot becomes active. -/
def State.activate (s : State) (k : Nat) : State :=
  s.modCart (fun c => { c with
    active := .some k, cont := 0, since := if (s.slot k).inWindow then .some s.ledger.elapsed else .none })

/-- ACTIVE_SLOT.SELECT written (R336). -/
def State.selectSlot (s : State) (k : Nat) : State :=
  let x := s.slot k
  if k < 2 ∧ s.cart.active.isNone = true ∧ x.state = .stable ∧ x.sealValid = true then
    ((s.activate k).judgeTenfold).cartNote 12 k
  else s

/-- SELECT. -/
def execSelect (slot : Nat) (s : State) : Result := .next (s.selectSlot slot)

/-- ACTIVE_SLOT.CONT_CLEAR written (R338). -/
def State.contClear (s : State) : State :=
  match s.cart.active with
  | .some k => ((s.modCart (fun c => { c with cont := 0 })).judgeTenfold).cartNote 13 k
  | .none => s

/-- CONT_CLEAR. -/
def execContClear (s : State) : Result := .next s.contClear

/-- At cast-on the slot that the record names becomes active when it holds a cartridge with a valid seal (R336); a
cartridge other than the record's is a seed mismatch (R313). -/
def State.castOnSlot (s : State) (k : Nat) : State :=
  if s.cart.castOn ≠ .some k then s
  else
    let s1 := s.modCart (fun c => { c with castOn := .none })
    let x := s.slot k
    match s.inForce with
    | .some (_, r) =>
      if x.sealValid && s.cart.active.isNone then
        let s2 := s1.activate k
        if r.cartId = x.identity then s2
        else State.judgeTenfold { s2 with cal := { s2.cal with seedMismatch := true } }
      else s1
    | .none => s1

/-! ### Slots (R329, R330, R335) -/

/-- A slot is powered: AUTHENTICATING (R329, R335). -/
def State.powerSlot (s : State) (k : Nat) : State :=
  ((s.setSlot k { CartSlot.reset with
    state := .authenticating, present := true, powered := true, lifeAt := s.ledger.elapsed, owed := 1 }).flag Page.cart 0).cartNote
    1 k

/-- V3A is lost: a slot has no power, and what its oven held is gone (R329, R435). -/
def State.unpowerSlot (s : State) (k : Nat) : State :=
  let x := s.slot k
  if x.powered then
    s.updateWindow k { x with
      powered := false, state := .authenticating, auth := false, ovenStable := false, nearSince := .none }
  else s

/-- V3A is back: an occupied slot is powered and authenticated again (R435). -/
def State.repowerSlot (s : State) (k : Nat) : State :=
  let x := s.slot k
  if x.present && !x.powered && s.life.ready then
    s.setSlot k { x with powered := true, state := .authenticating, lifeAt := s.ledger.elapsed, owed := x.owed + 1 }
  else s

/-- CARTRIDGE_INSERT (R329): a contact closed for 50 ms; slots are powered from the end of cast-on (R423 step 8). -/
def execCartridgeInsert (slot : Nat) (s : State) : Result :=
  .next (if 2 ≤ slot ∨ (s.slot slot).present = true then s
    else if s.life.ready ∧ s.health.rails.contains .v3a = false then s.powerSlot slot
    else s.setSlot slot { s.slot slot with present := true })

/-- CARTRIDGE_REMOVE (R329, R336, R337); a slot that was never powered did not become occupied. -/
def State.removeCart (s : State) (k : Nat) : State :=
  if (s.slot k).powered = false ∧ (s.slot k).state = .empty ∧ s.cart.active ≠ .some k then s.setSlot k CartSlot.reset
  else
    let s1 := ((s.transferFails 1).flag Page.cart 1).cartNote 2 k
    if s.cart.active = .some k then
      let s2 := (((s1.modCart (fun c => { c with active := .none, cont := 0, since := .none })).flag Page.cart 4).cartNote 11
        k).abortAll 13
      s2.setSlot k CartSlot.reset
    else s1.setSlot k CartSlot.reset

/-- CARTRIDGE_REMOVE. -/
def execCartridgeRemove (slot : Nat) (s : State) : Result :=
  .next (if slot < 2 ∧ (s.slot slot).present = true then (s.removeCart slot).modCart (fun c => { c with
      castOn := if c.castOn = .some slot then .none else c.castOn }) else s)

/-- The life log that an authentication reads, with the powered seconds of a standby added (R334, R433). -/
def CartSlot.lifeRead (x : CartSlot) (log : LifeLog) : LifeLog := { log with seconds := log.seconds + x.owedSec }

/-- AUTHENTICATION_COMPLETE (R330, R331, R335, R336); the powered time of a standby goes to the life log (R433). -/
def execAuthenticationComplete (slot : Nat) (result : Except AuthFailure CartData) (s : State) : Result :=
  .next (if slot < 2 ∧ (s.slot slot).state = .authenticating then
      match result with
      | .error why => (s.authFails slot why).modCart (fun c => { c with
          castOn := if c.castOn = .some slot then .none else c.castOn })
      | .ok d =>
        let x := s.slot slot
        let s1 := s.updateWindow slot { x with
          state := if x.ovenStable then .stable else .warming, data := .some d, auth := true, reject := 0, owedSec := 0
          life := x.lifeRead d.life }
        let s2 := (s1.cartNote 3 slot).lifeLog slot (x.lifeRead d.life)
        let s3 := if (s2.slot slot).sealValid then s2 else s2.cartNote 14 slot
        s3.castOnSlot slot
    else s)

/-- REAUTHENTICATION (R330): every 60 min. -/
def execReauthentication (slot : Nat) (failure : Option AuthFailure) (s : State) : Result :=
  .next (if slot < 2 ∧ ((s.slot slot).state = .warming ∨ (s.slot slot).state = .stable) then
      match failure with
      | .some why => s.authFails slot why
      | .none => (s.updateWindow slot { s.slot slot with auth := true, reject := 0 }).cartNote 3 slot
    else s)

/-- OVEN_READING (R333, R335): the temperature less 50 °C in mK; OVEN_STABLE once the readings have stayed within ±10 mK
for 10 min. -/
def execOvenReading (slot : Nat) (milliK : Int) (s : State) : Result :=
  .next (if slot < 2 ∧ (s.slot slot).powered = true ∧ (s.slot slot).state ≠ .fault then
      let x := s.slot slot
      let near := decide (-10 ≤ milliK ∧ milliK ≤ 10)
      let now := s.ledger.elapsed
      let since := x.nearSince.getD now
      let stable := near && (x.ovenStable || decide (since + 600 ≤ now))
      s.updateWindow slot { x with
        milliK := milliK, ovenStable := stable, readAt := now, nearSince := if near then .some since else .none
        state := match x.state with
          | .warming | .stable => if stable then .stable else .warming
          | st => st }
    else s)

/-- OVEN_READING_TIMEOUT (R333, R335): FAULT; the cartridge reports nothing. -/
def execOvenReadingTimeout (slot : Nat) (s : State) : Result :=
  .next (if slot < 2 ∧ (s.slot slot).powered = true ∧ (s.slot slot).state ≠ .fault ∧ (s.slot slot).state ≠ .rejected then
      let x := s.slot slot
      (s.updateWindow slot { x with state := .fault, ovenStable := false }).transferFails 2
    else s)

/-! ### Registers (R340-R343) -/

/-- The actual state of the CART page (R343). -/
def State.cartActual (s : State) : UState :=
  if s.cart.transfer = .running then .service
  else match s.cart.active with
    | .some k => if (s.slot k).inWindow then .ready else .off
    | .none => .off

/-- SLOT_x_STATE (R341). -/
def State.slotState (s : State) (k : Nat) : Word :=
  let x := s.slot k
  let st := match x.state with
    | .empty => 0 | .authenticating => 1 | .rejected => 2 | .warming => 3 | .stable => 4 | .fault => 5
  word (st + b2n x.sealValid * 2 ^ 4 + b2n x.inWindow * 2 ^ 5 + b2n x.ovenStable * 2 ^ 6 + b2n x.warn * 2 ^ 7 +
    b2n x.ended * 2 ^ 8 + b2n x.shock * 2 ^ 9 + b2n x.overTemp * 2 ^ 10 + x.reject % 16 * 2 ^ 12 +
    (BitVec.ofInt 16 x.milliK).toNat * 2 ^ 16)

/-- SLOT_x_LIFE (R341). -/
def State.slotLife (s : State) (k : Nat) : Word :=
  let l := (s.slot k).life
  word (min 0xffff l.hours + min 511 l.cycles * 2 ^ 16 + min 127 l.shocks * 2 ^ 25)

/-- TRANSFER_STATUS (R341). -/
def State.transferStatus (s : State) : Word :=
  let st := match s.cart.transfer with | .idle => 0 | .running => 1 | .done => 2 | .failed => 3 | .refused => 4
  word (st + s.cart.reason % 16 * 2 ^ 4 + s.cart.count % 65536 * 2 ^ 16)

/-- TRANSFER_RATIO and CONT_FACTOR (R341), rounded from units of 10^-15. -/
def pico (v : Int) : Word := wordOfInt (nearest v 1000)

/-- A word of a slot's information block (R342). -/
def State.infoWordOf (s : State) (k i : Nat) : Word :=
  match (s.slot k).data with
  | .none => 0
  | .some d =>
    let rec_ (f : Assignment → Word) : Word := match d.record with | .some r => f r | .none => 0
    let tap (r : Assignment) (j : Nat) : TapValue := match j with | 0 => r.tap10 | 1 => r.tap1 | _ => r.tap01
    if i < 4 then word (d.identity.toNat / 2 ^ (32 * i))
    else if i < 16 then rec_ (fun r =>
      let t := tap r ((i - 4) / 4)
      match i % 4 with
      | 0 => wordOfInt t.v0
      | 1 => wordOfInt t.drift
      | 2 => wordOfInt t.uncertainty
      | _ => word t.coverage)
    else if i = 16 then rec_ (fun r => word r.t0)
    else if i < 25 then rec_ (fun r => word (r.labDigest.toNat / 2 ^ (32 * (i - 17))))
    else if i = 25 then wordOfInt ((s.slot k).life.peakMilliC + 273150)
    else if i = 26 then word d.records.length
    else 0

/-- INFO_SEL written (R340). -/
def State.infoSelect (s : State) (w : Word) : State :=
  (s.wr Page.cart 0x70 (w &&& 1)).modCart (fun c => { c with infoWord := 0 })

/-- INFO_SEL_WRITE. -/
def execInfoSelWrite (value : Word) (s : State) : Result := .next (s.infoSelect value)

/-- The word that INFO_DATA reads next (R342). -/
def State.infoData (s : State) : Word := s.infoWordOf (bits (s.rd Page.cart 0x70) 0 1) s.cart.infoWord

/-- The side effect of a read of INFO_DATA: the next word comes next. -/
def State.infoRead (s : State) : State := s.modCart (fun c => { c with infoWord := c.infoWord + 1 })

/-- CART.PAGE_CTRL.UNIT_RESET (R343). -/
def State.resetCart (s : State) : State :=
  (s.modCart (fun c => { c with
    transfer := .idle, reason := 0, count := 0, points := [], accepted := .none, ratio := 0 })).clearFlags Page.cart
      0xffffffff

/-- The active slot and its continuity factor as registers (R341). -/
def State.activeSlot (s : State) : Word := word (s.cart.active.getD 3 + bits (s.rd Page.cart 0x48) 5 1 * 2 ^ 5)

end Machine
end Sys2Proof
end

