-- ==== Sys2Proof/Machine/Owner.lean ====
section
/-! DEFINITION. Ownership (R344-R347, R360-R366): who may do what, the state machine of R363, its ledger entries, lapse and
expiry. -/

namespace Sys2Proof
namespace Machine

/-! ### Authority -/

/-- An I3C port as a number (R364). -/
def portCode : I3cPort → Nat
  | .a => 0
  | .b => 1

/-- The port is owner-capable (R344, R345). -/
def State.ownerCapable (s : State) : I3cPort → Bool
  | .a => true
  | .b => s.nv.portBOwner

/-- The module is owned (R361). -/
def State.owned (s : State) : Bool := s.owner.state == .owned || s.owner.state == .handover

/-- An envelope with a token on a port comes from the owner (R360, R361). -/
def State.isOwner (s : State) (p : I3cPort) (token : BitVec 64) : Bool :=
  s.owned && s.owner.port == p && s.owner.token == token

/-- An I3C port's state. -/
def State.i3c (s : State) : I3cPort → I3c
  | .a => s.i3cA
  | .b => s.i3cB

/-- An I3C port's state replaced. -/
def State.setI3c (s : State) (p : I3cPort) (x : I3c) : State :=
  match p with
  | .a => { s with i3cA := x }
  | .b => { s with i3cB := x }

/-- An I3C port's state changed by a function. -/
def State.modI3c (s : State) (p : I3cPort) (f : I3c → I3c) : State := s.setI3c p (f (s.i3c p))

/-! ### Transitions (R363, R364) -/

/-- An OWNERSHIP entry (R364): PREV_TOKEN is that of the owner before the event, 0 when there was none. -/
def State.ownNote (s : State) (event : Nat) (port : I3cPort) (token prev : BitVec 64) : State :=
  s.ledgerWrite 0x60 0 (leBytes 1 event ++ leBytes 1 (portCode port) ++ leBytes 2 0 ++ leBytes 8 token.toNat ++
    leBytes 8 prev.toNat ++ leBytes 4 (s.rd Page.owner 0x60).toNat) []

/-- PAGE_LOCK.OPEN returned to 0 on every page (R262, R363). -/
def State.closeLocks (s : State) : State := { s with regs := s.regs.filter (fun e => offOf e.1 != 0x20) }

/-- Every bulk window closed (R370). -/
def State.closeWindows (s : State) : State :=
  (List.range 8).foldl (fun s w => s.wr Page.host (0x6c + 16 * w) (setBits (s.rd Page.host (0x6c + 16 * w)) 0 1 0)) s

/-- A new owner: counted, the locks closed, the words staged by either port discarded (R363, R465). -/
def State.takeOwnership (s : State) (p : I3cPort) (token : BitVec 64) (event flag : Nat) : State :=
  let prev : BitVec 64 := if s.owned then s.owner.token else 0
  let s1 : State := { s with owner := { state := .owned, token := token, port := p, target := 0, heard := 0, offered := 0 } }
  let s2 := (s1.count Page.owner 0x60).closeLocks
  let s3 := (s2.modI3c .a (fun x => { x with staged := .none })).modI3c .b (fun x => { x with staged := .none })
  (s3.ownNote event p token prev).flag Page.owner flag

/-- CLAIM with authority (R363): from NONE or LAPSED the sender becomes owner; the owner's own CLAIM changes nothing. -/
def State.claim (s : State) (p : I3cPort) (token : BitVec 64) : State :=
  if s.owned then s else s.takeOwnership p token 1 0

/-- RELEASE by the owner (R363). -/
def State.releaseOwner (s : State) : State :=
  let o := s.owner
  let s1 : State := { s with owner := { o with state := .none, token := 0, target := 0 } }
  ((s1.closeLocks.closeWindows).ownNote 2 o.port 0 o.token).flag Page.owner 1

/-- HANDOVER by the owner (R363): naming 0 or the owner's own token cancels a pending handover. -/
def State.handover (s : State) (target : BitVec 64) : State :=
  let o := s.owner
  if target = 0 ∨ target = o.token then
    if o.state = .handover then
      State.ownNote { s with owner := { o with state := .owned, target := 0 } } 6 o.port o.target o.token
    else s
  else
    (State.ownNote { s with owner := { o with state := .handover, target := target, offered := 0 } } 3 o.port target o.token).flag
      Page.owner 2

/-- ACCEPT by the handover target (R363): bulk windows stay. -/
def State.accept (s : State) (p : I3cPort) (token : BitVec 64) : State := s.takeOwnership p token 4 3

/-- The heartbeat and handover timers run (R377, R409). -/
def State.ownerTimersRun (s : State) : Bool := !s.paused && !s.health.restarting

/-- CK_CORE cycles in a number of milliseconds. -/
def cyclesOfMs (ms : Nat) : Nat := ms * 1200000

/-- A cycle of CK_CORE on the timers that run. -/
def State.ownerTick (s : State) : State :=
  if s.owned && s.ownerTimersRun then
    { s with owner := { s.owner with heard := s.owner.heard + 1, offered := s.owner.offered + 1 } }
  else s

/-- HEARTBEAT_TIMEOUT and a margin have elapsed since the last envelope of the owner (R365). -/
def State.silentFor (s : State) (margin : Nat) : Bool :=
  s.owned && s.ownerTimersRun && decide (cyclesOfMs ((s.rd Page.owner 0x50).toNat + margin) ≤ s.owner.heard)

/-- 100 ms have elapsed without ACCEPT (R363). -/
def State.handoverDue (s : State) : Bool :=
  s.owner.state == .handover && s.ownerTimersRun && decide (cyclesOfMs 100 ≤ s.owner.offered)

/-- A lapse (R363, R365): a pending handover is cancelled, locks and windows close. -/
def State.lapse (s : State) : State :=
  let o := s.owner
  let s1 : State := { s with owner := { o with state := .lapsed, token := 0, target := 0 } }
  (((s1.count Page.owner 0x68).closeLocks.closeWindows).ownNote 7 o.port o.token o.token).flag Page.owner 5

/-- A pending handover expires (R363). -/
def State.handoverExpires (s : State) : State :=
  let o := s.owner
  (State.ownNote { s with owner := { o with state := .owned, target := 0 } } 5 o.port o.target o.token).flag Page.owner 4

/-- LAPSE (R365): no earlier than HEARTBEAT_TIMEOUT after the owner's last envelope. -/
def execLapse (s : State) : Result := .next (if s.silentFor 0 then s.lapse else s)

/-- HANDOVER_EXPIRY (R363). -/
def execHandoverExpiry (s : State) : Result := .next (if s.handoverDue then s.handoverExpires else s)

/-- What is due before an envelope is decided (R362): a handover whose 100 ms are over, a lapse that is 1 ms late (R365). -/
def State.ownerDue (s : State) : State :=
  let s1 := if s.handoverDue then s.handoverExpires else s
  if s1.silentFor 1 then s1.lapse else s1

/-! ### Registers (R379) -/

/-- OWNER_STATE. -/
def OwnerState.code : OwnerState → Nat
  | .none => 0
  | .owned => 1
  | .handover => 2
  | .lapsed => 3

/-- A register of OWNER as the master of a port with a token reads it (R366, R379). -/
def State.ownerWord (s : State) (owner : Bool) (off : Nat) : Word :=
  let o := s.owner
  if off = 0x40 then word o.state.code
  else if off = 0x44 then word (portCode o.port + b2n s.owned * 2 ^ 8)
  else if off = 0x48 then (if owner then lo32 o.token.toNat else 0)
  else if off = 0x4c then (if owner then hi32 o.token.toNat else 0)
  else if off = 0x54 then (if owner then lo32 o.target.toNat else 0)
  else if off = 0x58 then (if owner then hi32 o.target.toNat else 0)
  else if off = 0x5c then word (b2n s.nv.portBOwner)
  else if off = 0x64 then (if o.state = .handover then word (Config.ceilDiv (cyclesOfMs 100 - o.offered) 1200000) else 0)
  else s.rd Page.owner off

/-- HEARTBEAT_TIMEOUT written: clamped (R365). -/
def State.writeTimeout (s : State) (w : Word) : State := s.wr Page.owner 0x50 (word (max 50 (min 600000 w.toNat)))

end Machine
end Sys2Proof
end

