-- ==== Sys2Proof/Machine/Security.lean ====
section
/-! DEFINITION. The security unit: attestation reports (R372), firmware images and updates (R373-R378), its registers
(R381). -/

namespace Sys2Proof
namespace Machine

/-- The security unit changed by a function. -/
def State.modSecurity (s : State) (f : Security → Security) : State := { s with security := f s.security }

/-! ### Images (R373, R374) -/

/-- The image in a slot: false A, true B. -/
def State.image (s : State) (b : Bool) : Option Image := if b then s.nv.imageB else s.nv.imageA

/-- No image. -/
def Image.none : Image := { version := 0, rollback := 0, bytes := .none }

/-- SHA-384 of an image (R372, R378). -/
def Image.digest (i : Image) : BitVec 384 :=
  match i.bytes with
  | .some l => Config.sha384 l
  | .none => Config.imageDigest i.version

/-- An image is valid against the rollback counter (R373, R374). -/
def State.imageValid (s : State) (b : Bool) : Bool :=
  match s.image b with
  | .some i => decide (s.nv.rollback ≤ i.rollback)
  | .none => false

/-- The image in a slot replaced. -/
def State.setImage (s : State) (b : Bool) (i : Option Image) : State :=
  { s with nv := if b then { s.nv with imageB := i } else { s.nv with imageA := i } }

/-- FW_ACTIVE (R381). -/
def State.fwActive (s : State) : Word :=
  word (b2n s.nv.activeB + b2n (s.imageValid false) * 2 ^ 4 + b2n (s.imageValid true) * 2 ^ 5)

/-- A FIRMWARE entry (R378). -/
def State.fwNote (s : State) (event : Nat) (slot : Bool) (reason : Nat) (i : Image) : State :=
  s.ledgerWrite 0x70 0 (leBytes 1 event ++ leBytes 1 (b2n slot) ++ leBytes 1 reason ++ leBytes 1 s.nv.rollback ++
    leBytes 4 i.version.toNat ++ leBytes 4 i.rollback ++ (beBytes 48 i.digest.toNat).take 32) []

/-! ### Attestation (R372) -/

/-- A report started with a nonce (R372); REPORT_SEQ counts it. -/
def State.startReport (s : State) (nonce : List Byte) : State :=
  if s.security.attest = .busy then s
  else s.modSecurity (fun x => { x with attest := .busy, nonce := nonce, reportSeq := x.reportSeq + 1 })

/-- ATTEST_START (R372): 32 zero bytes; ignored while BUSY. -/
def execAttestStart (s : State) : Result := .next (s.startReport (List.replicate 32 0))

/-- LOCK_FUSES. -/
def State.lockFuses (s : State) : Word := word s.nv.lockFuses.toNat

/-- GLOBAL.PART_ID (R6). -/
def State.partId (s : State) : Word := word (Config.partNumber s.part + s.nv.stepping % 256 * 2 ^ 16)

/-- The CONFIG_LOCK word (R372). -/
def State.configLock (s : State) : Nat :=
  let locked := s.regs.any (fun e => offOf e.1 == 0x20 && bit e.2 0)
  let window := (List.range 8).any (fun w => bit (s.rd Page.host (0x6c + 16 * w)) 0)
  s.owner.state.code + b2n s.nv.portBOwner * 2 ^ 4 + b2n locked * 2 ^ 5 + b2n window * 2 ^ 6

/-- A digest of 48 bytes in byte order. -/
def digest48 (d : BitVec 384) : List Byte := beBytes 48 d.toNat

/-- The certificate chain: at most 4,096 bytes (R372). -/
def certChain : List Byte := Config.certificates.take 4096

/-- The padding of the certificate chain to 4 bytes. -/
def certPad : List Byte := List.replicate ((4 - certChain.length % 4) % 4) 0

/-- Bytes 0x010 to the signature of a report (R372). -/
def State.reportBody (s : State) : List Byte :=
  let image (b : Bool) : List Byte := match s.image b with
    | .some i => digest48 i.digest
    | .none => List.replicate 48 0
  let lab (k : Nat) : List Byte := match (s.slot k).data.bind CartData.record with
    | .some r => beBytes 32 r.labDigest.toNat
    | .none => List.replicate 32 0
  let record := match s.inForce with | .some (_, r) => r.digest | .none => List.replicate 32 0
  padTo 32 s.security.nonce ++ leBytes 8 s.nv.serial.toNat ++
    wordBytes [s.partId.toNat, s.lockFuses.toNat, s.fwActive.toNat, s.fwVersion.toNat, s.nv.rollback, s.configLock] ++
    image false ++ image true ++ digest48 Config.romDigest ++
    (if s.cal.factoryValid then digest48 Config.factoryDigest else List.replicate 48 0) ++
    wordBytes [s.storeSeq, b2n s.cal.slotB] ++ record ++
    leBytes 16 (s.slot 0).identity.toNat ++ leBytes 16 (s.slot 1).identity.toNat ++ lab 0 ++ lab 1 ++
    wordBytes [bits s.activeSlot 0 2, (pico s.cart.cont).toNat] ++ leBytes 8 (s.nv.lastSeq.getD 0) ++
    digest48 s.nv.lastHash ++ leBytes 8 (s.nv.checkpoint.getD 0) ++ wordBytes [s.ledger.sec, s.nanos] ++
    wordBytes [certChain.length, 0] ++ certChain ++ certPad

/-- A report (R372). -/
def State.makeReport (s : State) : List Byte :=
  let body := s.reportBody
  let all := wordBytes [0x52545441, 1, 16 + body.length + 96, s.security.reportSeq] ++ body
  all ++ beBytes 96 (Config.sign (Config.sha384 all)).toNat

/-- ATTEST_REPORT_READY (R372). -/
def execAttestReportReady (s : State) : Result :=
  .next (if s.security.attest = .busy then
      (s.spend.modSecurity (fun x => { x with attest := .ready, report := s.makeReport })).flag Page.security 0
    else s)

/-- ATTEST_STATUS. -/
def State.attestStatus (s : State) : Word :=
  let st := match s.security.attest with | .none => 0 | .busy => 1 | .ready => 2 | .failed => 3
  word (st + s.security.reportSeq % 2 ^ 16 * 2 ^ 16)

/-! ### Updates (R375-R378) -/

/-- FW_UPDATE_STATUS.STATE replaced; FW_STAGE shows a change (R446). -/
def State.setUpdate (s : State) (st : FwState) (reason : Nat := 0) : State :=
  let s1 := s.modSecurity (fun x => { x with
    update := st, reason := reason, pinHeld := x.pinHeld && (st == .waitQuiet || st == .paused) })
  if s.security.update = st then s1 else s1.flag Page.security 1

/-- An update ends FAILED (R375, R378). -/
def State.failUpdate (s : State) (reason : Nat) (i : Image) : State :=
  ((s.setUpdate .failed reason).fwNote 5 (!s.nv.activeB) reason i).flag Page.security 2

/-- The byte address of the source image. -/
def State.fwSource (s : State) : Nat :=
  (s.rd Page.security 0x60).toNat / 64 * 64 + bits (s.rd Page.security 0x64) 0 8 * 2 ^ 32

/-- A word of the source image's header (R373). -/
def State.sourceWord (s : State) (off : Nat) : Nat := leValue (s.readBytes (s.fwSource + off) 4)

/-- The bytes of the whole source image, by its header (R373). -/
def State.sourceSize (s : State) : Nat := 32 + (s.sourceWord 0x18 + 3) / 4 * 4 + s.sourceWord 0x10 + 96

/-- FW_SRC_SIZE. -/
def State.fwSize (s : State) : Nat := (s.rd Page.security 0x68).toNat

/-- The source image, with VERSION and ROLLBACK_INDEX as its header holds them (R373). -/
def State.sourceImage (s : State) : Image :=
  { version := word (s.sourceWord 0x08), rollback := s.sourceWord 0x0c, bytes := .some (s.readBytes s.fwSource s.sourceSize) }

/-- The bit of VARIANTS that stands for a part (R373). -/
def variantBit : Variant → Nat
  | .tg144 => 0
  | .tg096 => 1
  | .tg048 => 2

/-- The granules that LOAD reads (R375). -/
def State.fwGranules (s : State) : List Nat := (List.range ((s.fwSize + 63) / 64)).map (fun i => s.granuleAt (s.fwSource + 64 * i))

/-- The first check of R373 and R375 that the source image fails, as a REASON; none of a valid image. Where several fail, the
order is that of the reads, the layout, the signature, the rollback index, the variant (DESIGN CHOICE, log entry 120). -/
def State.imageFault (s : State) (signed : Bool) (reads : ReadErrors) : Option Nat :=
  if s.fwGranules.any (s.readFails reads) then .some 8
  else if s.sourceWord 0 ≠ 0x574d4654 ∨ s.sourceWord 4 ≠ 1 ∨ 0x400000 < s.sourceSize ∨ s.fwSize < s.sourceSize then .some 1
  else if signed = false then .some 2
  else if s.sourceWord 0x0c < s.nv.rollback then .some 3
  else if (s.sourceWord 0x14).testBit (variantBit s.part) = false then .some 4
  else .none

/-- The image staged, or an empty one. -/
def State.stagedImage (s : State) : Image := s.security.staging.getD Image.none

/-- FW_UPDATE_CTRL.LOAD written: accepted in IDLE, LOADED or FAILED. -/
def State.fwLoad (s : State) : State :=
  if s.security.update = .idle ∨ s.security.update = .loaded ∨ s.security.update = .failed then s.setUpdate .verifying
  else s

/-- LOAD (R375). -/
def execLoad (s : State) : Result := .next s.fwLoad

/-- FW_VERIFY_COMPLETE (R373, R375): the source is read at the service class and checked; a valid image is programmed into
the inactive slot. `signed`: the chain and the signature verify. -/
def execFwVerifyComplete (signed : Bool) (reads : ReadErrors) (s : State) : Result :=
  .next (if s.security.update = .verifying then
      let s1 := (s.countService reads s.fwGranules).lowReads
      match s.imageFault signed reads with
      | .none => ((s1.modSecurity (fun x => { x with staging := .some s.sourceImage })).setImage (!s.nv.activeB) .none).setUpdate
          .programming
      | .some reason => s1.failUpdate reason s.sourceImage
    else s)

/-- FW_PROGRAM_COMPLETE (R375): read back, the image is LOADED. -/
def execFwProgramComplete (ok : Bool) (s : State) : Result :=
  .next (if s.security.update = .programming then
      let i := s.stagedImage
      if ok then
        let s1 := (s.setImage (!s.nv.activeB) (.some i)).setUpdate .loaded
        ((s1.wr Page.security 0x6c i.version).wr Page.security 0x70 (word (i.rollback % 128))).fwNote 1 (!s.nv.activeB) 0 i
      else s.failUpdate 5 i
    else s)

/-- FW_UPDATE_CTRL.SWITCH written: accepted in LOADED. -/
def State.fwSwitch (s : State) : State := if s.security.update = .loaded then s.setUpdate .waitQuiet else s

/-- SWITCH (R375). -/
def execSwitch (s : State) : Result := .next s.fwSwitch

/-- FW_UPDATE_CTRL.CANCEL written: accepted in LOADED or WAIT_QUIET. -/
def State.fwCancel (s : State) : State :=
  if s.security.update = .loaded ∨ s.security.update = .waitQuiet then s.setUpdate .idle else s

/-- CANCEL (R375). -/
def execCancel (s : State) : Result := .next s.fwCancel

/-- FW_UPDATE_CTRL.CONFIRM written: accepted in RUNNING_NEW; the rollback counter advances (R374, R376). -/
def State.fwConfirm (s : State) : State :=
  if s.security.update = .runningNew then
    let i := (s.image s.nv.activeB).getD Image.none
    let s1 : State := { s with nv := { s.nv with rollback := max s.nv.rollback (min 64 i.rollback), unconfirmed := false } }
    (s1.setUpdate .idle).fwNote 3 s.nv.activeB 0 i
  else s

/-- CONFIRM (R375). -/
def execConfirm (s : State) : Result := .next s.fwConfirm

/-- The housekeeping pause begins (R377). -/
def State.beginPause (s : State) (reverting : Bool) : State :=
  ((s.modSecurity (fun x => { x with reverting := reverting })).setUpdate .paused).settle

/-- The housekeeping pause ends: the trips it met are counted and recorded with their latch times (R377). -/
def State.endPause (s : State) : State :=
  let late := s.security.deferred
  late.foldl State.recordLate (s.modSecurity (fun x => { x with deferred := [], reverting := false })).settle

/-- FW_UPDATE_CTRL.REVERT written: accepted in RUNNING_NEW. -/
def State.fwRevert (s : State) : State := if s.security.update = .runningNew then s.beginPause true else s

/-- REVERT (R375). -/
def execRevert (s : State) : Result := .next s.fwRevert

/-- The quiescent point (R376): no lifeline commit step, no swatch before its judgement, no pin operation or staging. -/
def State.quiescent (s : State) : Bool :=
  let runs (x : Option Swatch) : Bool := match x with | .some x => !x.done | .none => false
  s.cal.store != .erasing && s.cal.store != .programming && s.cal.store != .verifying &&
    !runs s.cal.adc0 && !runs s.cal.adc1 && (!bit (s.rd Page.cache 0x48) 31 || s.security.pinHeld) &&
    (fittedPorts s.part).all (fun n => (s.port n).state != .ready)

/-- QUIESCENT_POINT (R376, R377). -/
def execQuiescentPoint (s : State) : Result :=
  .next (if s.security.update = .waitQuiet ∧ s.quiescent = true then s.beginPause false else s)

/-- QUIET_TIMEOUT (R375): 5 s without a quiescent point. -/
def execQuietTimeout (s : State) : Result :=
  .next (if s.security.update = .waitQuiet then s.failUpdate 6 s.stagedImage else s)

/-- NEW_IMAGE_START (R375, R377): the pause ends with the other image running, or with the previous one again. -/
def execNewImageStart (ok : Bool) (s : State) : Result :=
  .next (if s.security.update = .paused then
      let next := !s.nv.activeB
      let i := (s.image next).getD Image.none
      let back := s.security.reverting
      if ok then
        let s1 : State := { s with nv := { s.nv with activeB := next, unconfirmed := !back } }
        ((s1.setUpdate (if back then .idle else .runningNew)).endPause).fwNote (if back then 4 else 2) next 0 i
      else (s.failUpdate 7 i).endPause
    else s)

/-- FW_UPDATE_STATUS.STATE. -/
def FwState.code : FwState → Nat
  | .idle => 0
  | .verifying => 1
  | .programming => 2
  | .loaded => 3
  | .waitQuiet => 4
  | .paused => 5
  | .runningNew => 6
  | .failed => 8

/-- FW_UPDATE_STATUS (R381); the progress is a reading of time (DESIGN CHOICE, log entry 5) but in IDLE. -/
def State.updateStatus (s : State) : Word :=
  let progress := if s.security.update = .idle then 0 else (Config.freeTime s.free).toNat % 101
  word (s.security.update.code + s.security.reason % 16 * 2 ^ 8 + progress * 2 ^ 16)

/-- SECURITY.PAGE_STATE reads UPDATING (R375). -/
def State.updating (s : State) : Bool :=
  match s.security.update with
  | .idle | .failed => false
  | _ => true

/-- The update commands of a word written to FW_UPDATE_CTRL, in the order of their bits. -/
def State.writeUpdate (s : State) (w : Word) : State :=
  let s1 := if bit w 0 then s.fwLoad else s
  let s2 := if bit w 1 then s1.fwSwitch else s1
  let s3 := if bit w 2 then s2.fwConfirm else s2
  let s4 := if bit w 3 then s3.fwRevert else s3
  if bit w 4 then s4.fwCancel else s4

/-- A register of SECURITY (R381). -/
def State.securityWord (s : State) (off : Nat) : Word :=
  if off = 0x40 then s.fwActive
  else if off = 0x44 then s.fwVersion
  else if off = 0x48 then word s.nv.rollback
  else if off = 0x4c then s.lockFuses
  else if off = 0x54 then s.attestStatus
  else if off = 0x5c then s.updateStatus
  else s.rd Page.security off

/-- A register of SECURITY written (R381). -/
def State.writeSecurity (s : State) (off : Nat) (w : Word) : State :=
  if off = 0x50 then (if bit w 0 then s.startReport (List.replicate 32 0) else s)
  else if off = 0x58 then s.writeUpdate w
  else if off = 0x60 then s.wr Page.security 0x60 (setBits w 0 6 0)
  else if off = 0x64 then s.wr Page.security 0x64 (w &&& 0xff)
  else if off = 0x68 then s.wr Page.security 0x68 (word (min 0x400000 w.toNat))
  else s

end Machine
end Sys2Proof
end

