-- ==== Sys2Proof/Machine/Attach.lean ====
section
/-! DEFINITION. The attachments apart from envelopes: the I3C ports' common command codes (R350, R351), IBIs (R353), the
bulk port (R163, R367-R370, R490), JTAG (R348), and the HOST registers (R380). -/

namespace Sys2Proof
namespace Machine

/-! ### GLOBAL.MODULE_STATE (R437) -/

/-- MODULE_STATE.STATE. -/
def Life.code : Life → Nat
  | .boot => 1
  | .clocking => 2
  | .memory => 3
  | .ready => 4
  | .service => 5
  | .degraded => 6
  | .follow => 7
  | .halted => 8

/-- MODULE_STATE. -/
def State.moduleState (s : State) : Word :=
  word (s.life.state.code + b2n (s.life.state == .clocking && !s.clock.refPresent) * 2 ^ 4 + s.life.halt * 2 ^ 8)

/-! ### The I3C ports (R349-R353) -/

/-- The I3C ports answer (R423 step 3, R429, R433). -/
def State.i3cAnswers (s : State) : Bool :=
  !s.life.reset && s.life.supplies && !s.life.standby && s.life.state != .boot

/-- A private transfer on a port is answered (R350, R409). -/
def State.takesPrivate (s : State) (p : I3cPort) : Bool :=
  s.i3cAnswers && (s.i3c p).address.isSome && !s.health.restarting

/-- The static address (R350). -/
def State.staticAddress (s : State) (p : I3cPort) : Nat :=
  (match p with | .a => 0x30 | .b => 0x34) + 2 * b2n s.nv.addr1 + b2n s.nv.addr0

/-- A common command code acts on a port that answers; it ends HDR-DDR (DEDUCED, log entry 13). -/
def State.ccc (s : State) (p : I3cPort) (f : I3c → I3c) : State :=
  if s.i3cAnswers then s.modI3c p (fun x => { f x with hdr := false }) else s

/-- A direct GET code: a port with a dynamic address returns a value. -/
def State.cccGet (s : State) (p : I3cPort) (v : Nat) : State :=
  s.ccc p (fun x => if x.address.isSome then { x with cccValue := v } else x)

/-- ENEC (R351). -/
def execEnec (p : I3cPort) (s : State) : Result := .next (s.ccc p (fun x => { x with enint := true, enhj := true }))

/-- DISEC (R351). -/
def execDisec (p : I3cPort) (s : State) : Result := .next (s.ccc p (fun x => { x with enint := false, enhj := false }))

/-- RSTDAA (R351): the static address remains. -/
def execRstdaa (p : I3cPort) (s : State) : Result := .next (s.ccc p (fun x => { x with address := .none }))

/-- A port takes a dynamic address (R350); a Hot-Join request is answered by it. -/
def I3c.assign (x : I3c) (a : BitVec 7) : I3c := { x with address := .some a, hotJoin := false }

/-- ENTDAA (R351): a port without a dynamic address takes part. -/
def execEntdaa (p : I3cPort) (a : BitVec 7) (s : State) : Result :=
  .next (s.ccc p (fun x => if x.address.isNone then x.assign a else x))

/-- SETDASA (R351): addressed to the port's static address. -/
def execSetdasa (p : I3cPort) (static a : BitVec 7) (s : State) : Result :=
  .next (s.ccc p (fun x => if static.toNat = s.staticAddress p then x.assign a else x))

/-- SETNEWDA (R351): addressed to the port's dynamic address. -/
def execSetnewda (p : I3cPort) (a : BitVec 7) (s : State) : Result :=
  .next (s.ccc p (fun x => if x.address.isSome then x.assign a else x))

/-- The provisioned ID (R351). -/
def State.pid (s : State) (p : I3cPort) : Nat :=
  0x05d3 * 2 ^ 33 + Config.partNumber s.part * 2 ^ 16 + portCode p * 2 ^ 12 + s.nv.serial.toNat % 2 ^ 12

/-- GETPID (R351). -/
def execGetpid (p : I3cPort) (s : State) : Result := .next (s.cccGet p (s.pid p))

/-- GETBCR (R351). -/
def execGetbcr (p : I3cPort) (s : State) : Result := .next (s.cccGet p 0x06)

/-- GETDCR (R351). -/
def execGetdcr (p : I3cPort) (s : State) : Result := .next (s.cccGet p 0x00)

/-- GETCAPS (R351): HDR-DDR is bit 0 (DEDUCED, log entry 13). -/
def execGetcaps (p : I3cPort) (s : State) : Result := .next (s.cccGet p 0x01)

/-- ENTHDR0 (R351). -/
def execEnthdr0 (p : I3cPort) (s : State) : Result :=
  .next (if s.i3cAnswers then s.modI3c p (fun x => { x with hdr := true }) else s)

/-- What GETSTATUS returns (R351). -/
def State.getStatus (s : State) (p : I3cPort) : Nat :=
  bits s.moduleState 0 8 * 2 ^ 8 + b2n (s.i3c p).protocolError * 2 ^ 5 + s.lowestClass

/-- GETSTATUS (R351): the protocol error counts from one GETSTATUS to the next. -/
def execGetstatus (p : I3cPort) (s : State) : Result :=
  .next (s.ccc p (fun x =>
    if x.address.isSome then { x with cccValue := s.getStatus p, protocolError := false } else x))

/-- GETMWL (R351). -/
def execGetmwl (p : I3cPort) (s : State) : Result := .next (s.cccGet p (s.i3c p).mwl)

/-- GETMRL (R351). -/
def execGetmrl (p : I3cPort) (s : State) : Result := .next (s.cccGet p (s.i3c p).mrl)

/-- SETMWL (R351). -/
def execSetmwl (p : I3cPort) (v : Nat) (s : State) : Result := .next (s.ccc p (fun x => { x with mwl := min 278 v }))

/-- SETMRL (R351). -/
def execSetmrl (p : I3cPort) (v : Nat) (s : State) : Result := .next (s.ccc p (fun x => { x with mrl := min 264 v }))

/-- RSTACT (R351): a defining byte above 0x02 is not supported; the direct GET form returns 1 ms. -/
def execRstact (p : I3cPort) (defining : Byte) (get : Bool) (s : State) : Result :=
  .next (if get then s.cccGet p 1
    else s.ccc p (fun x =>
      if defining.toNat = 0 then { x with rstact := 0 }
      else if defining.toNat ≤ 2 then { x with rstact := 1 }
      else x))

/-- A port's I3C logic after a reset of the port (R350, R351): what its master has stored elsewhere stays, and a
Hot-Join request follows. -/
def I3c.portReset (x : I3c) : I3c :=
  { x with
    address := .none, enint := true, enhj := true, hdr := false, hdrEnvelope := false, mwl := 278, mrl := 264, rstact := 1
    hotJoin := true, protocolError := false, ibis := [] }

/-- TARGET_RESET_PATTERN (R351). -/
def execTargetResetPattern (p : I3cPort) (s : State) : Result :=
  .next (s.ccc p (fun x => if x.rstact = 0 then x else x.portReset))

/-- IBI_DELIVERY (R353): the lowest class first, one IBI per class; a NACKed one is requested again. -/
def execIbiDelivery (p : I3cPort) (acked : Bool) (s : State) : Result :=
  .next (if s.takesPrivate p && (s.i3c p).enint && acked && !s.paused then
      s.modI3c p (fun x => match x.ibis with
        | c :: rest => { x with ibis := rest, lastIbi := c }
        | [] => x)
    else s)

/-! ### The bulk port (R163, R367-R370) -/

/-- The base and the size in bytes of a window (R368, R380). -/
def State.window (s : State) (w : Nat) : Nat × Nat :=
  let a := 0x60 + 16 * w
  let size := max 1 (bits (s.rd Page.host (a + 8)) 0 24)
  ((s.rd Page.host a).toNat / 4096 * 4096 + bits (s.rd Page.host (a + 4)) 0 8 * 2 ^ 32,
   min (Config.memoryBytes s.part) (size * 4096))

/-- A byte address lies in a window with write rights, or with read rights (R368). -/
def State.windowGrants (s : State) (w : Nat) (read : Bool) (a : Nat) : Bool :=
  let ctrl := s.rd Page.host (0x6c + 16 * w)
  let x := s.window w
  let m := Config.memoryBytes s.part
  bit ctrl 0 && (!read || bit ctrl 1) && decide ((s.memAddr a + m - s.memAddr x.1) % m < x.2)

/-- Every byte of a TLP is granted (R369). -/
def State.tlpGranted (s : State) (read : Bool) (a n : Nat) : Bool :=
  (List.range n).all (fun i => (List.range 8).any (fun w => s.windowGrants w read (a + i)))

/-- Bytes in the posted-write buffer. -/
def Bulk.held (x : Bulk) : Nat := (x.buffer.map (fun w => w.bytes.length)).foldl (· + ·) 0

/-- BULK_WRITE_TLP (R163, R369): accepted whole or discarded whole; with a full buffer the bus waits. -/
def execBulkWriteTlp (a : Nat) (bytes : List Byte) (s : State) : Result :=
  .next (if s.bulk.linkUp = false ∨ bytes = [] then s
    else if s.tlpGranted false a bytes.length then
      if 262144 < s.bulk.held + bytes.length then s
      else
        let ws := (List.range 8).filter (fun w => (List.range bytes.length).any (fun i => s.windowGrants w false (a + i)))
        { s with bulk := { s.bulk with buffer := s.bulk.buffer ++ [{ addr := s.memAddr a, bytes := bytes, windows := ws }] } }
    else
      State.flag { s.countField Page.host 0x54 0 16 1 with bulk := { s.bulk with unsupported := s.bulk.unsupported + 1 } }
        Page.host 2)

/-- A byte address has a write in the posted-write buffer. -/
def State.posted (s : State) (a : Nat) : Bool :=
  let m := Config.memoryBytes s.part
  s.bulk.buffer.any (fun w => decide ((s.memAddr a + m - s.memAddr w.addr) % m < w.bytes.length))

/-- A byte that a bulk read returns: free where it cannot be read, or where a write is still in the buffer (DESIGN CHOICE, log entry
5). -/
def State.bulkByte (s : State) (reads : ReadErrors) (a i : Nat) : Byte :=
  if s.readFails reads (a + i) || s.posted (a + i) then Config.freeByte (s.free + i) else s.readByte (a + i)

/-- The granules that a TLP reads, each once. -/
def State.tlpGranules (s : State) (a n : Nat) : List Nat := sortedOnce ((List.range n).map (fun i => s.granuleAt (a + i)))

/-- BULK_READ_TLP (R141, R369): a completion with data, or with Unsupported Request. -/
def execBulkReadTlp (a n : Nat) (reads : ReadErrors) (s : State) : Result :=
  .next (if s.bulk.linkUp = false then s
    else if s.tlpGranted true a n then
      let data := (List.range n).map (s.bulkByte reads a)
      ({ s with free := s.free + n, bulk := { s.bulk with completion := .some data } }.countService reads
        (s.tlpGranules a n)).lowReads
    else
      State.flag { s.countField Page.host 0x54 16 16 1 with bulk := { s.bulk with completion := .none } } Page.host 2)

/-- LINK_UP falls (R410 code 0x19). -/
def State.bulkDown (s : State) : State :=
  if s.bulk.linkUp then
    (State.flag { s with bulk := { s.bulk with linkUp := false } } Page.host 3).fault Page.host 0x19
  else s

/-- BULK_LINK_DOWN. -/
def execBulkLinkDown (s : State) : Result := .next s.bulkDown

/-- BULK_LINK_UP (R380): not while PE_PERST_N is low. -/
def execBulkLinkUp (generation lanes : Nat) (s : State) : Result :=
  .next (if s.bulk.linkUp = false ∧ s.pins.perst = true ∧ 1 ≤ generation ∧ generation ≤ 4 ∧
      (lanes = 1 ∨ lanes = 2 ∨ lanes = 4) then
      State.flag { s with bulk := { s.bulk with
        linkUp := true, generation := generation, lanes := lanes, trained := true
        retrains := if s.bulk.trained then min 0xffff (s.bulk.retrains + 1) else s.bulk.retrains } } Page.host 3
    else s)

/-- PE_PERST (R490): low drops the link. -/
def execPePerst (level : Bool) (s : State) : Result :=
  let s1 : State := { s with pins := { s.pins with perst := level } }
  .next (if level then s1 else s1.bulkDown)

/-! ### JTAG (R348) -/

/-- An instruction executed by the JTAG port; what the port shows is free (DESIGN CHOICE, log entry 5). -/
def State.jtag (s : State) (i : Jtag) : State :=
  { s.spend with pins := { s.pins with jtag := i, jtagData := Config.jtagData s.free } }

/-- JTAG_IDCODE. -/
def execJtagIdcode (s : State) : Result := .next (s.jtag .idcode)

/-- JTAG_BYPASS: also what every instruction executes as that R348 does not name. -/
def execJtagBypass (s : State) : Result := .next (s.jtag .bypass)

/-- JTAG_SAMPLE_PRELOAD. -/
def execJtagSamplePreload (s : State) : Result := .next (s.jtag .samplePreload)

/-- JTAG_EXTEST: only while RST_N is low. -/
def execJtagExtest (s : State) : Result := .next (s.jtag (if s.pins.rstN then .bypass else .extest))

/-! ### Registers (R380) -/

/-- I3C_x_STATUS. -/
def State.i3cStatus (s : State) (p : I3cPort) : Word :=
  let x := s.i3c p
  let a := match x.address with | .some a => a.toNat + 2 ^ 7 | .none => 0
  word (a + s.staticAddress p * 2 ^ 8 + b2n x.enint * 2 ^ 16 + b2n x.enhj * 2 ^ 17 + b2n x.hdrEnvelope * 2 ^ 18 +
    b2n x.reply.isSome * 2 ^ 19)

/-- A register of HOST (R380). -/
def State.hostWord (s : State) (off : Nat) : Word :=
  if off = 0x40 then s.i3cStatus .a
  else if off = 0x44 then s.i3cStatus .b
  else if off = 0x50 then
    word (b2n s.bulk.linkUp + s.bulk.generation * 2 + s.bulk.lanes * 2 ^ 4 + s.bulk.retrains * 2 ^ 16)
  else if off = 0x58 then word (0x1f6e + Config.partNumber s.part * 2 ^ 16)
  else if 0x60 ≤ off ∧ off < 0xe0 ∧ off % 16 = 12 then
    s.rd Page.host off ||| word (b2n (s.bulk.buffer.any (fun w => w.windows.contains ((off - 0x60) / 16))) * 2 ^ 8)
  else s.rd Page.host off

/-- A register of HOST written (R380). -/
def State.writeHost (s : State) (off : Nat) (w : Word) : State :=
  if 0x60 ≤ off ∧ off < 0xe0 then
    let mask : Word := match off % 16 with | 0 => 0xfffff000 | 4 => 0xff | 8 => 0xffffff | _ => 0x3
    s.wr Page.host off (w &&& mask)
  else s

end Machine
end Sys2Proof
end

