-- ==== Sys2Proof/Machine/Twin.lean ====
section
/-! DEFINITION. The twin (R382-R404, R417-R419): roles and LEAD_ACT, formation, frames, divergence, joins, takeover and
planned swaps, the TWIN registers. Messages that write registers stand in Mirror.lean. -/

namespace Sys2Proof

/-! ### The layout of a frame (R383) and the times of a join (R398) -/

/-- A field of a frame: n bits from a bit on. -/
def LinkFrame.field (f : LinkFrame) (lo n : Nat) : Nat := f.bits.toNat / 2 ^ lo % 2 ^ n

/-- CRC-16 with polynomial 0x1021 and initial value 0xffff over k bits of a number, bit k - 1 first (DESIGN CHOICE, log entry
122). -/
def crc16 (v : Nat) : Nat → Nat → Nat
  | 0, c => c
  | k + 1, c => crc16 v k (if c.testBit 15 == v.testBit k then c * 2 % 2 ^ 16 else (c * 2 % 2 ^ 16) ^^^ 0x1021)

/-- The frame's CRC matches its bits [239:0] (R383). -/
def LinkFrame.crcOk (f : LinkFrame) : Bool := f.field 240 16 == crc16 (f.field 0 240) 240 0xffff

/-- EXT at a cycle of the frame: bit s is the level of source s (R383). -/
def LinkFrame.extAt (f : LinkFrame) (c : Nat) : BitVec 6 := BitVec.ofNat 6 (f.field (8 + 6 * c) 6)

/-- MON: the monitors' states at the frame's last cycle (R383). -/
def LinkFrame.mon (f : LinkFrame) : BitVec 48 := BitVec.ofNat 48 (f.field 44 48)

/-- MIRROR: the channel emissions of the frame, in the order of its cycles (R383). -/
def LinkFrame.mirror (f : LinkFrame) : List MirrorEvent :=
  (List.range 6).flatMap (fun c => ((List.range 2).filter (fun j => f.bits.getLsbD (92 + 30 * j + 5 * c))).map (fun j =>
    { slot := j, hop := f.field (93 + 30 * j + 5 * c) 4 }))

/-- The join boundary b of a snapshot (R398 step 3): the first common edge, one in 750 CK_CORE cycles (R223), at least 5 ms
after c. -/
def JoinBatch.boundary (b : JoinBatch) : Nat := (b.captured + 6000000 + 749) / 750 * 750

namespace Machine

/-- The twin logic changed by a function. -/
def State.modTwin (s : State) (f : Twin → Twin) : State := { s with twin := f s.twin }

/-- TWIN_ROLE.REQUEST in force: 3 is used as 0 (R418). -/
def State.roleRequest (s : State) : Nat := let r := bits (s.rd Page.twin 0x40) 0 2; if r = 3 then 0 else r

/-- TWIN_STATE.VARIANT_MISMATCH (R387). -/
def State.variantMismatch (s : State) : Bool :=
  match s.twin.partner with
  | .some p => p.partId.toNat != Config.partNumber s.part
  | .none => false

/-- A failed pseudo-channel or stack bars the module from LEAD and FOLLOW (R426). -/
def State.memoryCause (s : State) : Bool := bit (s.rd Page.health 0x68) 1

/-- The link clock is lost: the loop coasts (R402 step 7, R404). -/
def State.linkCoast (s : State) : State :=
  let s1 := s.modTwin (fun t => { t with linkLocked := false })
  if s.clock.loop = .locked ∨ s.clock.loop = .refReturned then
    ((s1.beginCoast.count Page.clock 0x78).flag Page.clock
      0).ledgerNote 0x02 [0] |>.fault Page.clock 0x0d
  else s1

/-- A fitted port is PARKED or OFF. -/
def State.atRest (s : State) (n : Nat) : Bool := (s.port n).state == .parked || (s.port n).state == .off

/-! ### The link (R382, R404) -/

/-- LINK_TRAINED (R382): both modules have a running root. -/
def execLinkTrained (s : State) : Result :=
  .next (if Config.twinLink s.part && !s.twin.linkUp && s.firstLock && !s.health.rails.contains .vd then
      (s.modTwin (fun t => { t with linkUp := true, trained := true, lanes := 0xff, badFrames := 0 })).countField Page.twin 0x64 8 8 1
    else s)

/-- LINK_LOSS (R404): the lead plays on; the follower parks every port and coasts. -/
def State.linkLost (s : State) : State :=
  if s.twin.linkUp then
    let s1 := s.modTwin (fun t => { t with linkUp := false, lanes := 0, phase := .none })
    let s2 := if s.twin.role = .follow then ((fittedPorts s.part).foldl State.parkAtOnce s1).linkCoast else s1
    ((s2.flag Page.twin 0).fault Page.twin 0x11).failover 13 0x11 Page.twin
  else s

/-- LINK_LOSS. -/
def execLinkLoss (s : State) : Result := .next s.linkLost

/-! ### Frames (R383, R384, R390-R394) -/

/-- The pair's link carries events and state (R251, R387). -/
def State.carriesPair (s : State) : Bool := s.twin.phase != .none && !s.variantMismatch

/-- The lead's levels at a cycle: a follower emits their rising edges (R390). -/
def State.frameLevels (s : State) (ext : BitVec 6) : State :=
  let old := s.twin.ext
  let risen := (List.range 6).filter (fun i => ext.getLsbD i && !old.getLsbD i)
  risen.foldl (fun s i => s.emit (0x10 + i) 0) (s.modTwin (fun t => { t with ext := ext }))

/-- The lead's levels in a frame, cycle by cycle (R383, R390). -/
def State.frameExt (s : State) (f : LinkFrame) : State := (List.range 6).foldl (fun s c => s.frameLevels (f.extAt c)) s

/-- The lead's monitor states in a frame: a follower's synchronised states (R390, R393). -/
def State.frameMon (s : State) (mon : BitVec 48) : State :=
  let old := s.twin.mon
  let s1 := s.modTwin (fun t => { t with mon := mon })
  (List.range (Config.monitors s.part)).foldl (fun s m =>
    if (s.monitor m).running then
      s.syncPath m (MonState.ofCode (old.toNat / 4 ^ m % 4)) (MonState.ofCode (mon.toNat / 4 ^ m % 4))
    else s) s1

/-- A mirrored channel emission (R251, R394). -/
def State.frameMirror (s : State) (e : MirrorEvent) : State :=
  let sel := s.rd Page.twin 0x60
  if e.slot < 2 ∧ bit sel (16 * e.slot + 15) = true then s.emit (0x300 + bits sel (16 * e.slot) 8) (e.hop + 1) else s

/-- A frame whose CRC fails is counted; the sixteenth in a row is a link loss (R382). -/
def State.badFrame (s : State) : State :=
  let s1 := (s.countMod Page.twin 0x64 16 16 1).modTwin (fun t => { t with badFrames := t.badFrames + 1 })
  if 16 ≤ s1.twin.badFrames then s1.linkLost else s1

/-- A frame received: a bad one carries nothing (R382); `heartbeat` messages alone act while no pair can
form (R387). -/
def State.frame (s : State) (f : LinkFrame) (heartbeat : Bool) (message : State → State) : State :=
  if s.twin.linkUp = false then s
  else if f.crcOk = false then s.badFrame
  else
    let s0 := if s.twin.badFrames = 0 then s else s.modTwin (fun t => { t with badFrames := 0 })
    let s1 :=
      if s.carriesPair then f.mirror.foldl State.frameMirror (if s.twin.role = .follow then (s0.frameExt f).frameMon f.mon else s0)
      else s0
    if heartbeat || !s.variantMismatch then message s1 else s1

/-- TWIN_HEARTBEAT (R384, R387): role, state, part and readiness of the twin. -/
def execTwinHeartbeat (f : LinkFrame) (c : HeartbeatContent) (s : State) : Result :=
  .next (s.frame f true (fun s => s.modTwin (fun t => { t with
    heartbeat := true
    otherLow := if c.role = 1 then true else if c.role = 2 && t.swapStep.isNone then false else t.otherLow
    partner := .some { role := c.role, moduleState := c.moduleState, partId := c.partId, ref := c.refPresent
                       ready := c.ready, inStep := c.inStep, inSafe := c.unitsInSafe } })))

/-- FAULT_MESSAGE (R390, R400): the lead's fault sources, and LEAD_RELEASE. -/
def execFaultMessage (f : LinkFrame) (sources : List Nat) (leadRelease : Bool) (s : State) : Result :=
  .next (s.frame f false (fun s =>
    let es := (sources.filter (fun c => decide (0x40 ≤ c ∧ c < 0x60))).map (fun c => ({ code := c, hop := 0 } : Emission))
    let s1 := if s.twin.role = .follow && s.carriesPair then s.emitAll es else s
    if leadRelease then s1.modTwin (fun t => { t with leadRelease := true, otherLow := false }) else s1))

/-- IDLE_MESSAGE (R384). -/
def execIdleMessage (f : LinkFrame) (s : State) : Result := .next (s.frame f false id)

/-- SWAP_MESSAGE (R403): the follower's part of a planned swap is scheduled. -/
def execSwapMessage (f : LinkFrame) (s : State) : Result :=
  .next (s.frame f false (fun s =>
    if s.twin.role = .follow ∧ s.twin.phase = .paired ∧ s.twin.swapStep = .none then
      s.modTwin (fun t => { t with swap := .scheduled, swapStep := .some .announced, phase := .swapping })
    else s))

/-- HEARTBEAT_LOSS (R410): 3 µs without a heartbeat. -/
def execHeartbeatLoss (s : State) : Result :=
  .next (if s.twin.heartbeat then
      ((s.modTwin (fun t => { t with heartbeat := false })).flag Page.twin 1).fault Page.twin 0x12
    else s)

/-! ### Roles (R385-R387, R399) -/

/-- LEAD_ACT_ACQUIRE (R386, R399): a SOLO module asserts LEAD_ACT after the line has read high; one released for a fault
does not until a cast-on. -/
def execLeadActAcquire (s : State) : Result :=
  .next (if Config.twinLink s.part && s.life.ready && s.twin.role == .solo && !s.twin.driven && !s.twin.otherLow &&
      !s.twin.barred && s.life.state != .halted && s.life.bindoff != .running then
      (s.modTwin (fun t => { t with driven := true })).settleAllSwitches
    else s)

/-- WATCHDOG_RELEASE (R399). -/
def execWatchdogRelease (s : State) : Result := .next (s.releaseLead .none)

/-- The pair is dissolved on this module, which becomes SOLO (R399, R419). -/
def State.dissolve (s : State) : State :=
  ((s.modTwin (fun t => { t with phase := .none, permit := false, epoch := false })).setRole .solo).failover 2

/-- A role that a write requests (R385, R399): a lead whose REQUEST changes away from LEAD releases LEAD_ACT; a follower
asked for SOLO leaves its pair and loses the link clock. -/
def State.requestRole (s : State) (r : Nat) : State :=
  match s.twin.role with
  | .lead =>
    if r = 1 then s
    else if r = 2 then s.releaseLead (.some .follow)
    else if s.twin.driven then (s.releaseLead (.some .solo)).dissolve else s.dissolve
  | .follow => if r = 0 then s.dissolve.linkCoast else s
  | .solo => s

/-- TWIN_ROLE written (R418). -/
def State.writeTwinRole (s : State) (w : Word) : State :=
  if Config.twinLink s.part then
    let s1 := s.wr Page.twin 0x40 (w &&& 0x13)
    s1.requestRole s1.roleRequest
  else s

/-- TWIN_ROLE_WRITE. -/
def execTwinRoleWrite (value : Word) (s : State) : Result := .next (s.writeTwinRole value)

/-- The role that a formation gives this module (R387): the one it has, where a takeover, a swap or a release gave it one
already (R399, R404; DEDUCED, log entry 121), otherwise the one it requests. -/
def State.formingRole (s : State) : Role :=
  match s.twin.role with
  | .solo => match s.roleRequest with | 1 => .lead | 2 => .follow | _ => .solo
  | r => r

/-- This module can enter the pair (R387, R399, R426). -/
def State.mayForm (s : State) : Bool :=
  s.twin.linkUp && s.twin.partner.isSome && !s.variantMismatch && !s.memoryCause && s.life.ready && s.twin.phase == .none &&
    !s.clockService &&
    (match s.formingRole with
      | .lead => s.twin.driven
      | .follow => !s.twin.driven && (fittedPorts s.part).all s.atRest && (!s.twin.barred || s.rd Page.health 0x68 == 0)
      | .solo => false)

/-- PAIR_FORMATION (R387 steps 1 and 2): roles are set; the follower's loop seeks the link clock. -/
def execPairFormation (s : State) : Result :=
  .next (if s.mayForm then
      if s.formingRole = .lead then (s.modTwin (fun t => { t with phase := .forming, leadRelease := false })).setRole .lead
      else
        ((s.modTwin (fun t => { t with
          phase := .forming, leadRelease := false, otherLow := true, linkLocked := false, epoch := false })).modClock
            (fun c => { c with loop := .searching, correction := .none })).setRole .follow
    else s)

/-- FOLLOWER_LOCK (R387 step 2, R395): the follower's loop locks to the link clock. -/
def execFollowerLock (s : State) : Result :=
  .next (if s.twin.role = .follow ∧ s.twin.linkUp = true ∧ s.twin.linkLocked = false then
      (s.modTwin (fun t => { t with linkLocked := true })).modClock (fun c => { c with loop := .locked })
    else s)

/-! ### Joins (R398) -/

/-- The fitted ports marked DIVERGED; all of them when entry 144 is. -/
def State.divergedPorts (s : State) : List Nat :=
  if s.twin.diverged.contains 144 then fittedPorts s.part else s.twin.diverged.filter (fun n => decide (n < 144))

/-- A join begins on the follower (R398 step 1): the ports park and stage. -/
def State.beginJoin (s : State) (ports : List Nat) : State :=
  let s1 := ports.foldl (fun s n =>
    let s1 := s.parkAtOnce n
    if (s1.port n).state = .parked ∧ s1.quieting = false then s1.beginStaging n else s1) s
  s1.modTwin (fun t => { t with join := .staging, joinSet := ports, joinAttempts := 0, snapshot := [], batches := [] })

/-- A join is running. -/
def State.joining (s : State) : Bool :=
  s.twin.join == .staging || s.twin.join == .capturing || s.twin.join == .computing

/-- TWIN_CTRL.JOIN written (R397): the follower joins its DIVERGED ports. -/
def State.twinJoin (s : State) : State :=
  if s.twin.role == .follow && s.twin.phase == .paired && !s.joining && s.divergedPorts != [] then
    s.beginJoin s.divergedPorts
  else s

/-- JOIN. -/
def execJoin (s : State) : Result := .next s.twinJoin

/-- TWIN_CTRL.ABORT_JOIN written (R417): a running join ends. -/
def State.abortJoin (s : State) : State := if s.joining then s.modTwin (fun t => { t with join := .failed }) else s

/-- ABORT_JOIN. -/
def execAbortJoin (s : State) : Result := .next s.abortJoin

/-- EPOCH_MESSAGE (R387 steps 3 to 5, R395): the follower, locked to the link, begins its epoch; during formation every
playhead is then joined, after a relock the relock ends. -/
def execEpochMessage (f : LinkFrame) (s : State) : Result :=
  .next (s.frame f false (fun s =>
    if s.twin.role = .follow ∧ s.twin.linkLocked = true then
      let s1 := (if s.clock.relock.isSome then s.lockAgain 0 else s.epoch).modTwin (fun t =>
        { t with epoch := true, realigning := false })
      if s.twin.phase = .forming then
        s1.modTwin (fun t => { t with join := .staging, joinSet := fittedPorts s.part, joinAttempts := 0, snapshot := [], batches := [] })
      else s1
    else s))

/-- An activity from its code (R89). -/
def Activity.ofCode : Nat → Activity
  | 1 => .segment
  | 2 => .selvedge
  | 3 => .gap
  | 4 => .wait
  | _ => .idle

/-- An actual state from its code (R443). -/
def UState.ofCode : Nat → UState
  | 1 => .off
  | 3 => .ready
  | 4 => .armed
  | 5 => .run
  | 6 => .paused
  | 7 => .safe
  | _ => .parked

/-- A latched command as a record carries it. -/
def Latch.record (l : Latch) : JoinLatch :=
  let x : JoinLatch := { due := l.due, kind := 0, hook := 0, target := 0, clr := 0, hop := l.hop }
  match l.what with
  | .start => x
  | .pause => { x with kind := 1 }
  | .stop => { x with kind := 2 }
  | .jump h t c => { x with kind := 3, hook := h, target := t, clr := c }
  | .release => { x with kind := 4 }
  | .recover => { x with kind := 5 }
  | .trip => { x with kind := 6 }
  | .safe => { x with kind := 7 }
  | .request st => { x with kind := 8, hook := st.code }

/-- A latched command from a record. -/
def JoinLatch.latch (x : JoinLatch) : Latch :=
  { due := x.due, hop := x.hop
    what := match x.kind with
      | 0 => .start
      | 1 => .pause
      | 2 => .stop
      | 3 => .jump x.hook x.target x.clr
      | 4 => .release
      | 5 => .recover
      | 6 => .trip
      | 7 => .safe
      | _ => .request (UState.ofCode x.hook) }

/-- The full state of a port as the lead captures it (R398 step 2). -/
def State.capture (s : State) (n : Nat) : JoinRecord :=
  let p := s.port n
  let ph := s.walking n
  { port := n, actual := p.state.code, entry := ph.entry, activity := ph.activity.code, pass := ph.pass, gran := ph.gran
    rows := ph.rows.toList.map BitVec.toNat, ms := p.ms, cause := ph.hop, residue := p.osc.u, n := p.osc.n, m := p.osc.m
    amp := p.osc.amp, offset := p.osc.offset, cand := ph.cand, pend := ph.pend, latches := ph.latches.map Latch.record }

/-- TM_STAT.STATE. -/
def TimerState.code : TimerState → Nat
  | .idle => 0
  | .running => 1
  | .windowOpen => 2
  | .done => 3

/-- TM_STAT.STATE from its code. -/
def TimerState.ofCode : Nat → TimerState
  | 1 => .running
  | 2 => .windowOpen
  | 3 => .done
  | _ => .idle

/-- A timer as the lead captures it (R398). -/
def State.captureTimer (s : State) (t : Nat) : JoinTimer :=
  let x := s.timer t
  { index := t, state := x.state.code, mode := x.mode, retrig := x.retrig, period := x.period, width := x.width
    count := s.timerCount t, capture := x.capture, captValid := x.captValid, captOverrun := x.captOverrun
    expires := x.expires, hop := x.hop }

/-- The pages whose hook arm states a batch carries: those of its ports, of the timers and of the group-control units. -/
def State.batchPages (s : State) : List Nat := s.twin.joinSet.map Page.port ++ [Page.timer, Page.event]

/-- CK_CORE cycles since the epoch. -/
def State.sinceEpoch (s : State) : Nat := s.cycle - s.clock.epochAt

/-- A record that comes too late (R398 step 4): within 200 µs of b or after it, with an effect before b. -/
def State.lateRecord (s : State) (b : JoinBatch) : Bool :=
  decide (b.boundary < s.sinceEpoch + 240000) && decide (b.effect < b.boundary)

/-- The join boundary has come (R398 step 5). -/
def State.joinDue (s : State) : Bool := s.twin.batches.all (fun b => decide (b.boundary ≤ s.sinceEpoch))

/-- What a join's batch carries beside its ports, as the lead captures it (R398): at the next common edge c. -/
def State.captureBatch (s : State) : JoinBatch :=
  let now := s.sinceEpoch
  { captured := (now + 749) / 750 * 750, effect := now, timers := (List.range 32).map s.captureTimer
    hooks := (s.fabric.hooks.filter (fun h => s.batchPages.contains (pageOf h.1))).map (fun h => (h.1, h.2.armed))
    groupEnable := .some (s.rd Page.event 0x44) }

/-- JOIN_CAPTURE (R398 step 2): the lead captures; on the follower the state is on its way. -/
def execJoinCapture (s : State) : Result :=
  .next (if s.twin.join = .staging then
      s.modTwin (fun t => { t with
        join := .capturing, snapshot := if t.role = .lead then t.joinSet.map s.capture else t.snapshot
        batches := if t.role = .lead then [s.captureBatch] else t.batches })
    else s)

/-- A timer loaded from a batch (R398 step 5): it has counted since c. -/
def State.joinTimer (c : Nat) (s : State) (x : JoinTimer) : State :=
  if 32 ≤ x.index then s
  else s.setTimer x.index { s.timer x.index with
    state := TimerState.ofCode x.state, mode := x.mode, retrig := x.retrig, period := max 1 x.period, width := max 1 x.width
    count := x.count, at_ := min s.cycle (s.clock.epochAt + c), capture := x.capture, captValid := x.captValid, captOverrun := x.captOverrun
    expires := x.expires, hop := x.hop }

/-- A batch's timers, hook arm states and GROUP_ENABLE loaded (R398 step 5). -/
def State.joinBatch (s : State) (b : JoinBatch) : State :=
  let s1 := b.timers.foldl (State.joinTimer b.captured) s
  let s2 := b.hooks.foldl (fun s h => s.setHook h.1 { s.hook h.1 with armed := h.2 }) s1
  match b.groupEnable with
  | .some w => s2.wr Page.event 0x44 w
  | .none => s2

/-- An attempt ended by a late record (R398 step 4); the sixteenth fails the join. -/
def State.lateJoin (s : State) : State :=
  let k := s.twin.joinAttempts + 1
  let s1 := s.modTwin (fun t => { t with joinAttempts := k, snapshot := [], batches := [], join := .staging })
  if k < 16 then s1
  else (((s1.modTwin (fun t => { t with join := .failed })).flag Page.twin 7).fault Page.twin 0x16).failover 12 0x16 Page.twin

/-- JOIN_MESSAGE (R398): to the lead, the set to be joined; to the follower, snapshot and log records with what they carry
of timers, hooks and GROUP_ENABLE. -/
def execJoinMessage (f : LinkFrame) (records : List JoinRecord) (batch : JoinBatch) (s : State) : Result :=
  .next (s.frame f false (fun s =>
    if s.twin.role = .lead then
      s.modTwin (fun t => { t with join := .staging, joinSet := records.map (·.port), joinAttempts := 0, snapshot := [], batches := [] })
    else if s.twin.role = .follow && s.joining then
      if s.lateRecord batch then s.lateJoin
      else
        let kept := s.twin.snapshot.filter (fun r => !records.any (fun q => q.port == r.port))
        s.modTwin (fun t => { t with join := .computing, snapshot := kept ++ records, batches := t.batches ++ [batch] })
    else s))

/-- The length that an activity of an entry has on a port, in slots or granules. -/
def State.activityLen (s : State) (n : Nat) (a : Activity) (e : BitVec 256) : Nat :=
  let t := Config.portType n
  match a with
  | .segment => s.passLen n e
  | .selvedge => Config.selvedge t (s.port n).div
  | .gap => gapSlots t e
  | .wait => waitTimeout e
  | .idle => 0

/-- The playhead of a record. -/
def State.recordPlay (s : State) (r : JoinRecord) : Playhead :=
  let a := Activity.ofCode r.activity
  { Playhead.idle with
    entry := r.entry, word := s.entryAt r.entry, activity := a, pass := r.pass, gran := r.gran
    len := s.activityLen r.port a (s.entryAt r.entry)
    rows := Vector.ofFn (fun i => BitVec.ofNat 16 (r.rows.getD i.val 0)), cand := r.cand, pend := r.pend
    latches := r.latches.map JoinLatch.latch, begun := a != .idle, hop := r.cause }

/-- The bobbin of a joined port: it is filled from the position on (R398 step 5). -/
def State.joinBobbin (s : State) (r : JoinRecord) : State :=
  let n := r.port
  let seg := (s.port n).seg
  let rows := (s.recordPlay r).rows
  let b := (s.port n).bobbin.startAt r.entry r.pass (s.entryAt r.entry) rows
  let cursor : Cursor :=
    { entry := r.entry, item := s.entryAt r.entry, pass := r.pass, gran := r.gran, rows := rows, count := if seg.streamed then 1 else 0
      word := if seg.streamed then .some seg.word else .none }
  (s.modPort n (fun p => { p with
    bobbin := { b with cursor := .some cursor, playing := if seg.streamed then 1 else 0 } })).fillFirst n ReadErrors.none
      (64 * s.bobbinSize n)

/-- A joined port that has not staged on its own takes its cached copies now (R86, R389). -/
def State.joinStage (s : State) (r : JoinRecord) : State :=
  let n := r.port
  if (s.port n).state = .armed then s
  else
    let ds := if pulseUnit (Config.portType n) (s.port n).mode then [] else s.stagedDescs n r.entry
    ((Staging.port { s := s, failed := false } n ds ReadErrors.none).s).takeCommand n ds

/-- An oscillator that takes the lead's NCO group and residue (R115, R398): SEQ counts a change of a reported term (R120). -/
def Osc.join (o : Osc) (clock : Bool) (r : JoinRecord) : Osc :=
  let x := { o with u := r.residue, n := r.n, m := r.m, amp := r.amp, offset := r.offset }
  if x.m = o.m ∧ x.runN clock = o.runN clock then x else { x with seq := (o.seq + 1) % 65536 }

/-- One port's state loaded (R398 step 5); a port that the lead holds PARKED, OFF or SAFE stays PARKED or OFF. -/
def State.joinPort (s : State) (r : JoinRecord) : State :=
  let n := r.port
  let st := UState.ofCode r.actual
  let osc (p : Port) : Osc := p.osc.join (p.clockMode (Config.portType n)) r
  if Config.portFitted s.part n = false ∨ (s.port n).power ≠ .on ∨ s.tripHeld n then s
  else if st = .armed ∨ st = .run ∨ st = .paused then
    let s1 := (s.endDelaySwatch n).joinStage r
    let play := s1.recordPlay r
    let named := s1.reg (portReg n 0x50)
    let g := bits named 0 5
    let s2 := s1.modPort n (fun p => { p with
      state := st, requested := st, deliver := .none, ms := r.ms, osc := osc p
      play := if bit named 7 then p.play else play
      group := if bit named 7 then .some g else .none })
    let s3 := if bit named 7 then s2.modGroup g (fun x => { x with
        state := st, requested := st, deliver := .none, play := play, slot := (s2.port n).slot
        leader := .some (match x.leader with | .some l => min l n | .none => n)
        members := insertClass n x.members, accepted := insertClass n x.accepted
        lanes := x.lanes.set n (bits named 8 8), div := (s2.port n).div }) else s2
    let s4 := if play.activity = .segment then s3.modPort n (fun p => { p with seg := s3.beginSeg n play.word false })
      else s3
    s4.joinBobbin r
  else (s.parkAtOnce n).modPort n (fun p => { p with osc := osc p })

/-- JOIN_LOAD (R398 step 5, R387 step 6): at b the follower loads the state and its playheads run; the join is done on
both modules, and a formation with it. -/
def execJoinLoad (s : State) : Result :=
  .next (if ((s.twin.role = .follow ∧ s.twin.join = .computing) ∨ (s.twin.role = .lead ∧ s.twin.join = .capturing)) ∧
      s.joinDue = true then
      let s1 := if s.twin.role = .follow then s.twin.batches.foldl State.joinBatch (s.twin.snapshot.foldl State.joinPort s) else s
      let s2 := ((s1.modTwin (fun t => { t with join := .done, snapshot := [], batches := [] })).flag Page.twin 3).failover 11
      if s.twin.phase = .forming then (s2.modTwin (fun t => { t with phase := .paired })).failover 1 else s2
    else s)

/-! ### The lockstep digest (R396, R397) -/

/-- The fabric's contribution (R396 step 2). -/
def State.fabricContribution (s : State) : Word :=
  Config.contribution ((List.range 32).flatMap (fun t =>
      let x := s.timer t
      [s.timerCount t, x.state.code]) ++
    s.fabric.hooks.map (fun h => 2 * h.1 + b2n h.2.armed) ++ [(s.rd Page.event 0x44).toNat])

/-- Entry e of a window (R396 step 3). -/
def digestValue (l : List Word) : BitVec 16 :=
  BitVec.ofNat 16 (crc32c (l.flatMap (fun w => leBytes 4 w.toNat))).toNat

/-- DIGEST_WINDOW (R396): the window's entries are formed. -/
def execDigestWindow (s : State) : Result :=
  .next (if s.twin.phase = .none then s
    else
      let entries := s.twin.digest.map (fun e => (e.1, digestValue e.2))
      s.modTwin (fun t => { t with
        digest := [], counted := false, window := Tab.set entries 144 (digestValue [s.fabricContribution]) }))

/-- A unit's page is in the lead's SAFE map (R391, R396). -/
def State.leadSafe (s : State) (e : Nat) : Bool :=
  s.twin.safePages.contains (Page.port e) ||
    (match (s.port e).group with | .some g => s.twin.safePages.contains (Page.group g) | .none => false)

/-- An entry marked DIVERGED (R396 step 5). -/
def Twin.diverge (t : Twin) (e : Nat) : Twin :=
  { t with diverged := insertClass e t.diverged, matching := t.matching.erase e }

/-- A window with a difference is counted once, and its fault raised at most once per second (R396, R410). -/
def State.countDivergence (s : State) : State :=
  let s1 := if s.twin.counted then s
    else (s.modTwin (fun t => { t with counted := true })).count Page.twin 0x58
  let s2 := s1.flag Page.twin 2
  let recent := match s.twin.divergedAt with | .some c => decide (s.cycle < c + 1200000000) | .none => false
  if recent then s2 else (s2.modTwin (fun t => { t with divergedAt := .some s.cycle })).fault Page.twin 0x13

/-- One entry compared (R396, R397): sixteen matching windows with a contribution end a divergence. -/
def State.compareEntry (s : State) (d : DigestEntry) : State :=
  let e := d.entry
  if 144 < e ∨ (e < 144 ∧ s.leadSafe e) then s
  else if d.value = s.twin.window.get (fun _ => 0) e then
    let holds := s.twin.window.any (fun x => x.1 == e)
    if holds && s.twin.diverged.contains e then
      let k := s.twin.matching.get (fun _ => 0) e + 1
      if 16 ≤ k then s.modTwin (fun t => { t with diverged := t.diverged.filter (· != e), matching := t.matching.erase e })
      else s.modTwin (fun t => { t with matching := t.matching.set e k })
    else s
  else
    let es := if e = 144 then 144 :: fittedPorts s.part else [e]
    (s.modTwin (fun t => es.foldl Twin.diverge t)).countDivergence

/-- DIGEST_MESSAGE (R396 step 4): the follower compares. -/
def execDigestMessage (f : LinkFrame) (entries : List DigestEntry) (s : State) : Result :=
  .next (s.frame f false (fun s =>
    if s.twin.role = .follow ∧ s.twin.phase ≠ .none ∧ s.twin.phase ≠ .forming then entries.foldl State.compareEntry s
    else s))

/-! ### Takeover and planned swaps (R400-R403) -/

/-- The P-port force switches close where R183 lets them, the sense switches being closed (R402 step 4, R403 step 3). -/
def State.closeForce (s : State) : State :=
  s.settleAllSwitches.ports.foldl (fun s e =>
    s.modPort e.1 (fun p => match p.switches.moving with
      | .some true => { p with switches := { p.switches with force := true, moving := .none } }
      | _ => p)) s.settleAllSwitches

/-- A takeover or swap taken is counted with its time (R417). -/
def State.countFailover (s : State) : State := (s.count Page.twin 0x50).wr Page.twin 0x54 (word s.ledger.sec)

/-- TAKEOVER (R400-R402): the follower becomes LEAD and drives LEAD_ACT; its loop coasts from the loss of the link
clock. -/
def execTakeover (s : State) : Result :=
  .next (if s.twin.role = .follow && bit (s.rd Page.twin 0x4c) 0 && s.readyFollower && !s.twin.realigning &&
      (!s.twin.heartbeat || s.twin.leadRelease) then
      let s1 := (s.modTwin (fun t => { t with
        driven := true, barred := false, otherLow := false, leadRelease := false, permit := false, swapStep := .none
        swap := if t.swap = .scheduled then .refused else t.swap
        phase := .takingOver, takeover := .some .sense })).setRole .lead
      (((s1.linkCoast.flag Page.twin 4).countFailover).fault Page.twin 0x14).failover 3 0x14 Page.twin
    else s)

/-- TAKEOVER_FORCE_CLOSE (R402 step 4). -/
def execTakeoverForceClose (s : State) : Result :=
  .next (if s.twin.takeover = .some .sense ∧ s.twin.role = .lead then
      (s.modTwin (fun t => { t with takeover := .none, phase := .none })).closeForce
    else s)

/-- TWIN_CTRL.SWAP written (R403); the page is ABSENT where the part has no twin link (R10). -/
def execSwap (s : State) : Result := .next (if Config.twinLink s.part then s.requestSwap else s)

/-- SWAP_PREPARE (R403 step 1): the follower's drivers and sense switches. -/
def execSwapPrepare (s : State) : Result :=
  .next (if s.twin.swapStep = .some .announced then
      (s.modTwin (fun t => { t with swapStep := .some .prepared, permit := t.role == .follow })).settleAllSwitches
    else s)

/-- SWAP_INSTANT (R403 step 2): the roles and OUT_SEL exchange; the old lead's force switches open, its LEAD_ACT driver
stays on until SWAP_RELEASE. -/
def execSwapInstant (s : State) : Result :=
  .next (if s.twin.swapStep = .some .prepared then
      if s.twin.role = .follow then
        (s.modTwin (fun t => { t with
          swapStep := .some .exchanged, driven := true, barred := false, otherLow := true, permit := false
          linkLocked := false })).setRole .lead
      else
        (s.modTwin (fun t => { t with
          swapStep := .some .exchanged, otherLow := true, permit := true, linkLocked := true })).setRole .follow
    else s)

/-- SWAP_FORCE_CLOSE (R403 step 3). -/
def execSwapForceClose (s : State) : Result :=
  .next (if s.twin.swapStep = .some .exchanged then
      (s.modTwin (fun t => { t with swapStep := .some .closed })).closeForce
    else s)

/-- SWAP_RELEASE (R403 steps 4 and 5): the old lead's outputs are off; the swap is DONE. -/
def execSwapRelease (s : State) : Result :=
  .next (if s.twin.swapStep = .some .closed then
      let lead := s.twin.role == .lead
      let s1 := (s.modTwin (fun t => { t with
        swapStep := .none, swap := .done, phase := .paired, permit := false
        driven := lead, otherLow := !lead })).settleAllSwitches
      let s2 := (if lead then s1.countFailover else s1.wr Page.twin 0x54 (word s.ledger.sec)).flag Page.twin 6
      s2.failover (if lead then 6 else 5)
    else s)

/-! ### Registers (R417, R418) -/

/-- TWIN_STATE.STATE. -/
def State.twinPhase (s : State) : Nat :=
  match s.twin.phase with
  | .takingOver => 7
  | .swapping => 6
  | ph =>
    if s.twin.linkUp = false then (if s.twin.trained && s.firstLock then 1 else 0)
    else match ph with
      | .forming => 3
      | .paired => if s.twin.diverged.isEmpty then 4 else 5
      | _ => 2

/-- TWIN_STATE. -/
def State.twinState (s : State) : Word :=
  let t := s.twin
  let ref := match t.partner with | .some p => p.ref | .none => false
  word (s.twinPhase + b2n (t.driven || t.otherLow) * 2 ^ 8 + b2n t.driven * 2 ^ 9 + b2n s.partnerReady * 2 ^ 10 +
    b2n t.heartbeat * 2 ^ 11 + b2n t.linkUp * 2 ^ 12 + b2n ref * 2 ^ 13 + b2n s.variantMismatch * 2 ^ 14)

/-- JOIN_STATUS. -/
def State.joinStatus (s : State) : Word :=
  let t := s.twin
  let st := match t.join with
    | .idle => 0 | .staging => 1 | .capturing => 2 | .computing => 3 | .done => 4 | .failed => 5
  word (st + min 15 t.joinAttempts * 2 ^ 8 + t.joinSet.length * 2 ^ 16)

/-- SWAP_STATUS. -/
def State.swapStatus (s : State) : Word :=
  match s.twin.swap with
  | .idle => 0
  | .scheduled => 1
  | .done => 2
  | .refused => 3

/-- TWIN.PAGE_STATE's actual state. -/
def State.twinActual (s : State) : UState :=
  if s.twin.phase == .forming || s.twin.phase == .swapping || s.joining then .service
  else if s.twin.role = .solo then .off
  else .ready

/-- A register of TWIN. -/
def State.twinWord (s : State) (off : Nat) : Word :=
  if off = 0x40 then s.rd Page.twin 0x40 ||| word (s.twin.role.code * 2 ^ 8)
  else if off = 0x44 then s.twinState
  else if off = 0x48 then 1000
  else if off = 0x64 then setBits (s.rd Page.twin 0x64) 0 8 s.twin.lanes
  else if 0x68 ≤ off ∧ off ≤ 0x78 then
    let k := (off - 0x68) / 4
    word ((s.twin.diverged.filter (fun e => e / 32 == k)).foldl (fun acc e => acc + 2 ^ (e % 32)) 0)
  else if off = 0x7c then 192
  else if off = 0x80 then s.joinStatus
  else if off = 0x84 then s.swapStatus
  else s.rd Page.twin off

/-- A register of TWIN written. -/
def State.writeTwin (s : State) (off : Nat) (w : Word) : State :=
  if off = 0x40 then s.writeTwinRole w
  else if off = 0x4c then s.wr Page.twin 0x4c (w &&& 0x17)
  else if off = 0x5c then
    let s1 := if bit w 0 then s.requestSwap else s
    let s2 := if bit w 1 then s1.twinJoin else s1
    if bit w 2 then s2.abortJoin else s2
  else if off = 0x60 then s.wr Page.twin 0x60 (w &&& 0x80ff80ff)
  else s

end Machine
end Sys2Proof
end

