-- ==== Sys2Proof/Machine/Health.lean ====
section
/-! DEFINITION. Health (R405-R412, R435, R482): the checks, unit recovery and SAFE, the housekeeping restart, temperature
and rail limits, the HEALTH registers. -/

namespace Sys2Proof
namespace Machine

/-- The health unit changed by a function. -/
def State.modHealth (s : State) (f : Health → Health) : State := { s with health := f s.health }

/-! ### A unit's health record -/

/-- The units that are checked (R405): fitted ports, fitted spares, groups; by page. -/
def State.healthUnits (s : State) : List Nat :=
  (fittedPorts s.part).map Page.port ++ (List.range (Config.spares s.part)).map Page.spare ++ (List.range 32).map Page.group

/-- A unit is in SAFE. -/
def State.isSafe (s : State) (page : Nat) : Bool :=
  match pageKind page with
  | .port n => (s.port n).state == .safe
  | .spare g => s.spareActual g == .safe
  | .group g => (s.group g).state == .safe
  | _ => false

/-- The checks since the one that first saw a disagreement of a unit. -/
def State.seen (s : State) (page : Nat) : Option Nat :=
  match pageKind page with
  | .port n => (s.port n).seenAt
  | .spare g => (s.spare g).seenAt
  | .group g => (s.group g).seenAt
  | _ => .none

/-- That count replaced. -/
def State.setSeen (s : State) (page : Nat) (v : Option Nat) : State :=
  if s.seen page = v then s
  else match pageKind page with
  | .port n => s.modPort n (fun p => { p with seenAt := v })
  | .spare g => s.modSpare g (fun x => { x with seenAt := v })
  | .group g => s.modGroup g (fun x => { x with seenAt := v })
  | _ => s

/-- PAGE_STATE.MISMATCH of a unit. -/
def State.mismatched (s : State) (page : Nat) : Bool :=
  match pageKind page with
  | .port n => (s.port n).mismatch
  | .spare g => (s.spare g).mismatch
  | .group g => (s.group g).mismatch
  | _ => false

/-- PAGE_STATE.MISMATCH replaced. -/
def State.setMismatch (s : State) (page : Nat) (v : Bool) : State :=
  match pageKind page with
  | .port n => s.modPort n (fun p => { p with mismatch := v })
  | .spare g => s.modSpare g (fun x => { x with mismatch := v })
  | .group g => s.modGroup g (fun x => { x with mismatch := v })
  | _ => s

/-- What a unit held when it entered SAFE. -/
def State.safeRecordOf (s : State) (page : Nat) : Option SafeRecord :=
  match pageKind page with
  | .port n => (s.port n).safeRecord
  | .spare g => (s.spare g).safeRecord
  | .group g => (s.group g).safeRecord
  | _ => .none

/-- That record replaced. -/
def State.setSafeRecord (s : State) (page : Nat) (r : Option SafeRecord) : State :=
  match pageKind page with
  | .port n => s.modPort n (fun p => { p with safeRecord := r })
  | .spare g => s.modSpare g (fun x => { x with safeRecord := r })
  | .group g => s.modGroup g (fun x => { x with safeRecord := r })
  | _ => s

/-! ### Entering SAFE (R406 step 1) -/

/-- A group enters SAFE with every member. -/
def State.groupSafe (s : State) (g : Nat) : State :=
  let x := s.group g
  let was := s.groupActual g
  let s1 := x.members.foldl (fun s n => s.portSafe n false) s
  s1.modGroup g (fun y => { y with
    state := .safe, requested := .safe, deliver := .none, play := Playhead.idle, members := []
    safeRecord := .some { was := was, member := false, members := x.members, rewritten := false, counted := true
                          held := false } })

/-- A spare enters SAFE: a port that it serves goes back to its own stage. -/
def State.spareSafe (s : State) (g : Nat) : State :=
  let x := s.spare g
  let was := s.spareActual g
  let s1 := (s.abortSpare g 12).modSpare g (fun x => { x with
    substituted := false, busy := .none, serves := .none, settled := false
    safeRecord := .some { was := was, member := false, members := [], rewritten := false, counted := true, held := false } })
  match x.serves with
  | .some n => if x.substituted then s1.flag (Page.port n) 13 else s1
  | .none => s1

/-- A unit enters SAFE for a recovery. -/
def State.enterSafe (s : State) (page : Nat) : State :=
  match pageKind page with
  | .port n => s.portSafe n true
  | .spare g => s.spareSafe g
  | .group g => s.groupSafe g
  | _ => s

/-! ### The checks (R405) -/

/-- MISMATCH_WINDOW in µs (R415). -/
def State.mismatchWindow (s : State) : Nat := bits (s.rd Page.health 0x48) 0 16

/-- The checks run: not during a relock, the housekeeping pause or a restart (R405). -/
def State.healthChecks (s : State) : Bool :=
  s.life.ready && s.clock.relock.isNone && !s.paused && !s.health.restarting && s.life.state != .halted

/-- One unit checked: a disagreement that every check has seen to the end of the window is a MISMATCH, fault 0x01 and a
recovery (R405, R412). -/
def State.checkUnit (s : State) (seen : List Disagreement) (page : Nat) : State :=
  if s.isSafe page then s.setSeen page .none
  else match seen.find? (fun d => d.page == page) with
  | .none => s.setSeen page .none
  | .some d =>
    let k := match s.seen page with | .none => 0 | .some k => k + 1
    if s.mismatchWindow ≤ 50 * k then
      let detail := word (d.kind % 4 + d.offset % 4096 / 4 * 4)
      ((((s.setSeen page .none).setMismatch page true).flag Page.health 1).fault page 1 detail).enterSafe page
    else s.setSeen page (.some k)

/-- HEALTH_CHECK (R405). -/
def execHealthCheck (seen : List Disagreement) (s : State) : Result :=
  .next (if s.healthChecks then s.healthUnits.foldl (fun s p => s.checkUnit seen p) s else s)

/-! ### Recovery (R406-R408) -/

/-- A recovery noted for R408: the model cycles of the unit's recoveries within the last 10 s, this one included. -/
def State.noteRecovery (s : State) (page : Nat) : State :=
  let old := (s.health.recoveries.get (fun _ => []) page).filter (fun c => decide (s.cycle < c + 12000000000))
  s.modHealth (fun h => { h with recoveries := h.recoveries.set page (old ++ [s.cycle]) })

/-- The recoveries of a unit within the last 10 s. -/
def State.recentRecoveries (s : State) (page : Nat) : Nat := (s.health.recoveries.get (fun _ => []) page).length

/-- The unit stays in SAFE after its third recovery within 10 s (R408): fault 0x02, DEGRADED, escalation. -/
def State.holdUnit (s : State) (page : Nat) (r : SafeRecord) : State :=
  let s1 := (s.setSafeRecord page (.some { r with held := true })).modHealth (fun h => { h with held := insertClass page h.held })
  ((((s1.flag Page.health 3).fault page 2).setDegraded 0 true).failover 8 2 page).escalate 2 page

/-- A member that its group's recovery took into SAFE: the group's steps are its steps (R406). -/
def SafeRecord.withGroup (r : SafeRecord) (page : Nat) : Bool :=
  !r.counted && (match pageKind page with | .port _ => true | _ => false)

/-- RECOVERY_REWRITE (R406 step 2, R408): the registers are rewritten from the copy, the playhead is clear; a spare
stops shadowing. -/
def State.rewriteUnit (s : State) (page : Nat) : State :=
  match s.safeRecordOf page with
  | .none => s
  | .some r =>
    if r.rewritten || r.held || r.withGroup page then s
    else
      let r1 := { r with rewritten := true }
      let s1 := s.setSafeRecord page (.some r1)
      let s2 := match pageKind page with
        | .port n => s1.modPort n (fun p => { p with play := { Playhead.idle with latches := p.play.latches }, ms := 0 })
        | .group _ => r.members.foldl (fun s n => match (s.port n).safeRecord with
            | .some q => s.setSafeRecord (Page.port n) (.some { q with rewritten := true })
            | .none => s) s1
        | .spare g => s1.wr page 0x40 (setBits (s1.rd page 0x40) 7 1 0) |>.stopRotation g
        | _ => s1
      if r.counted then
        let s3 := s2.noteRecovery page
        if 3 ≤ s3.recentRecoveries page then s3.holdUnit page r1 else s3
      else s2

/-- RECOVERY_REWRITE. -/
def execRecoveryRewrite (page : Nat) (s : State) : Result := .next (s.rewriteUnit page)

/-- SAFE_POLICY.RESUME in force: 3 is used as 1 (R415). -/
def State.resumePolicy (s : State) : Nat := let r := bits (s.rd Page.health 0x50) 0 2; if r = 3 then 1 else r

/-- The state that RESTORE requests again, and whether it is then started (R407). -/
def restoreOf : UState → Option Bool
  | .armed | .paused | .ready => .some false
  | .run => .some true
  | _ => .none

/-- A port leaves SAFE (R407): PARKED, powered up first where it was OFF; under RESTORE its state is requested again, but
an OFF port stays OFF and a group's member waits for the group's next ARM. -/
def State.portLeaves (s : State) (n : Nat) (restore : Bool) (r : SafeRecord) : State :=
  if r.was = .off ∨ (s.port n).power ≠ .on then
    s.modPort n (fun p => { p with
      state := .off, requested := if restore then .off else .parked, safeRecord := .none
      power := if restore then p.power else .up })
  else
    let again := if restore && !r.member then restoreOf r.was else .none
    let s1 := (s.modPort n (fun p => { p with
      state := .parked, requested := .parked, deliver := .none, safeRecord := .none }))
    let s2 := match again with
      | .some run => s1.modPort n (fun p => { p with
          requested := .armed, deliver := .some .armed, withCommit := false, restart := run })
      | .none => s1
    s2.settleSwitches n

/-- A group leaves SAFE with its members. -/
def State.groupLeaves (s : State) (g : Nat) (restore : Bool) (r : SafeRecord) : State :=
  let s1 := r.members.foldl (fun s n => match (s.port n).safeRecord with
    | .some q => if (s.port n).state = .safe then s.portLeaves n restore q else s
    | .none => s) s
  let again := if restore then restoreOf r.was else .none
  s1.modGroup g (fun x => { x with
    state := .parked, safeRecord := .none, restart := again == .some true
    requested := if again.isSome then .armed else .parked
    deliver := if again.isSome then .some .armed else .none })

/-- A recovered unit of a follower is DIVERGED (R397). -/
def State.divergeUnit (s : State) (page : Nat) (members : List Nat) : State :=
  if s.twin.role = .follow ∧ s.twin.phase ≠ .none then
    match pageKind page with
    | .port n => s.modTwin (fun t => t.diverge n)
    | .group _ => s.modTwin (fun t => members.foldl Twin.diverge t)
    | _ => s
  else s

/-- RECOVERY_RESUME (R406 step 3, R407): counted, MISMATCH clear, with its entry; the unit leaves SAFE but under STAY. -/
def State.resumeUnit (s : State) (page : Nat) : State :=
  match s.safeRecordOf page with
  | .none => s
  | .some r =>
    if r.rewritten && !r.held && !r.withGroup page then
      let s1 := (((s.count Page.health 0x4c).setMismatch page false).flag Page.health 2).failover 7 0 page
      let s2 := s1.divergeUnit page r.members
      let policy := s.resumePolicy
      if policy = 0 then s2.setSafeRecord page (.some { r with held := true })
      else match pageKind page with
        | .port n => s2.portLeaves n (policy == 2) r
        | .group g => s2.groupLeaves g (policy == 2) r
        | _ => s2.setSafeRecord page .none
    else s

/-- RECOVERY_RESUME. -/
def execRecoveryResume (page : Nat) (s : State) : Result := .next (s.resumeUnit page)

/-- A UNIT_RESET of a unit in SAFE (R407, R408): steps 2 and 3 to PARKED, uncounted; a unit held is released. -/
def State.releaseUnit (s : State) (page : Nat) : State :=
  let r := (s.safeRecordOf page).getD
    { was := .parked, member := false, members := [], rewritten := true, counted := false, held := false }
  let s1 := (s.setMismatch page false).modHealth (fun h => { h with held := h.held.filter (· != page) })
  let s2 := match pageKind page with
    | .port n => s1.portLeaves n false r
    | .group g => s1.groupLeaves g false r
    | _ => s1.setSafeRecord page .none
  if s2.health.held.isEmpty && bit (s2.rd Page.health 0x68) 0 then s2.setDegraded 0 false else s2

/-! ### The housekeeping restart (R409) -/

/-- HK_WATCHDOG_EXPIRY (R409). -/
def execHkWatchdogExpiry (s : State) : Result :=
  .next (if s.health.restarting then s
    else ((((s.modHealth (fun h => { h with restarting := true })).count Page.health 0x6c).flag Page.health 5).fault Page.health
      0x0e).settle)

/-- HK_RESTART_COMPLETE (R409, R419). -/
def execHkRestartComplete (s : State) : Result :=
  .next (if s.health.restarting then
      ((s.modHealth (fun h => { h with restarting := false })).settle).failover 10 0x0e Page.health
    else s)

/-! ### Temperatures (R482) -/

/-- The warning and critical limits of a die in degrees C. -/
def dieLimits : Die → Int × Int
  | .sequencer => (100, 110)
  | .stack _ => (90, 95)
  | .precision _ => (90, 100)
  | .fast _ => (95, 105)
  | .pattern => (95, 105)

/-- A limit's list with a reading: entered above the limit, left 5 K below it. -/
def limitList (l : List Die) (d : Die) (limit t : Int) : List Die :=
  if l.contains d then (if t ≤ limit - 5 then l.filter (· != d) else l)
  else if limit < t then l ++ [d] else l

/-- One reading in degrees C (R410 code 0x0f, R482): a warning is a fault and DEGRADED, a critical temperature releases
LEAD_ACT. -/
def State.dieReading (s : State) (x : Die × Int) : State :=
  let lim := dieLimits x.1
  let warm := limitList s.health.warning x.1 lim.1 x.2
  let hot := limitList s.health.critical x.1 lim.2 x.2
  let newWarm := !s.health.warning.contains x.1 && warm.contains x.1
  let newHot := !s.health.critical.contains x.1 && hot.contains x.1
  let s1 := s.modHealth (fun h => { h with warning := warm, critical := hot })
  let s2 := if newWarm || newHot then s1.fault Page.health 0x0f else s1
  let s3 := if bit (s2.rd Page.health 0x68) 5 = warm.isEmpty then s2.setDegraded 5 (!warm.isEmpty) else s2
  if newHot then s3.releaseLead .none else s3

/-- THERMAL_CHECK (R482). -/
def execThermalCheck (readings : List (Die × Int)) (s : State) : Result := .next (readings.foldl State.dieReading s)

/-! ### Rails (R435, R474) -/

/-- The rail is one of the variant's (R471). -/
def railFitted (v : Variant) (r : Rail) : Bool := match r, v with | .vf, .tg144 => true | .vf, _ => false | _, _ => true

/-- ANALOG_RAIL_LOW (R410 code 0x10, R435). -/
def State.railLow (s : State) (r : Rail) : State :=
  if s.health.rails.contains r || !railFitted s.part r then s
  else
    let s1 := (((s.modHealth (fun h => { h with rails := h.rails ++ [r] })).fault Page.health 0x10).setDegraded 4
      true).releaseLead .none
    let s2 := match r with
      | .v3a => (s1.unpowerSlot 0).unpowerSlot 1
      | .vd => s1.linkLost
      | .vana => (List.range (Config.monitors s.part)).foldl State.stopMonitor s1
      | _ => s1
    s2.settleAllSwitches

/-- ANALOG_RAIL_LOW. -/
def execAnalogRailLow (r : Rail) (s : State) : Result := .next (s.railLow r)

/-- ANALOG_RAIL_RESTORED (R435): the delay after the rail's return has passed. -/
def State.railBack (s : State) (r : Rail) : State :=
  if s.health.rails.contains r then
    let s1 := s.modHealth (fun h => { h with rails := h.rails.filter (· != r) })
    let s2 := if s1.health.rails.isEmpty then s1.setDegraded 4 false else s1
    let s3 := match r with
      | .v3a => (s2.repowerSlot 0).repowerSlot 1
      | .vana => (List.range (Config.monitors s.part)).foldl (fun s m =>
          if bit (s.reg (monReg m 0)) 0 then s.startMonitor m else s) s2
      | _ => s2
    s3.settleAllSwitches
  else s

/-- ANALOG_RAIL_RESTORED. -/
def execAnalogRailRestored (r : Rail) (s : State) : Result := .next (s.railBack r)

/-! ### Registers (R415) -/

/-- A register of HEALTH. -/
def State.healthWord (s : State) (off : Nat) : Word :=
  if 0x54 ≤ off ∧ off ≤ 0x64 then
    let k := (off - 0x54) / 4
    word ((((fittedPorts s.part).filter (fun n => (s.port n).state == .safe && n / 32 == k))).foldl
      (fun acc n => acc + 2 ^ (n % 32)) 0)
  else s.rd Page.health off

/-- A register of HEALTH written: MISMATCH_WINDOW clamped, SAFE_POLICY. -/
def State.writeHealth (s : State) (off : Nat) (w : Word) : State :=
  if off = 0x48 then s.wr Page.health 0x48 (word (max 50 (min 10000 (bits w 0 16))))
  else if off = 0x50 then s.wr Page.health 0x50 (w &&& 3)
  else s

end Machine
end Sys2Proof
end

