-- ==== Sys2Proof/Machine/Lifecycle.lean ====
section
/-! DEFINITION. Reset, cast-on, bind-off and standby (R420-R437). -/

namespace Sys2Proof
namespace Machine

/-- The lifecycle changed by a function. -/
def State.modLife (s : State) (f : Lifecycle → Lifecycle) : State := { s with life := f s.life }

/-- The stacks fitted. -/
def State.stacks_ (s : State) : List Nat := List.range (Config.stackCount s.part)

/-! ### Reset (R421, R422, R434) -/

/-- The digital rails that a brown-out comes from (R434). -/
def isDigital : Rail → Bool
  | .vcore | .vsram | .vhbm | .vpp | .vioh => true
  | _ => false

/-- A cartridge slot through a reset: its contact stays; kept powered in standby, so does its oven, and its powered time is
owed to its life log (R433). -/
def CartSlot.throughReset (x : CartSlot) (keep : Bool) (seconds : Nat) : CartSlot :=
  if keep && x.powered then
    { CartSlot.reset with
      present := x.present, powered := true, state := .authenticating, milliK := x.milliK, ovenStable := x.ovenStable
      owed := x.owed, owedSec := x.owedSec + seconds }
  else { CartSlot.reset with present := x.present }

/-- The module as a reset leaves it (R422): every register and on-die store at its reset value; the contents of stacks
that keep their self-refresh stay, the others' are lost; what lies outside the module stays. -/
def State.afterReset (s : State) (cause : Nat) (inForce refreshLost : Bool) : State :=
  let v := s.part
  let r := State.resetOf v
  let keeps (k : Nat) : Bool := (s.stack k).train == .selfRefresh && !refreshLost
  let oven := s.life.standby && bit (s.rd Page.global 0x84) 5
  let slept (x : CartSlot) : Nat := s.ledger.elapsed - x.lifeAt + nsOf (s.cycle - s.life.standbyAt) / 1000000000
  { r with
    cycle := s.cycle, free := s.free, pending := s.pending, nv := s.nv, pins := s.pins
    wave := s.wave.filter (fun c => keeps (s.stackOf c.1))
    memctl := (s.stacks_.filter keeps).map (fun k => (k, { Stack.fresh with train := .selfRefresh }))
    monitors := s.monitors.map (fun m => (m.1, { Monitor.fresh with volts := m.2.volts }))
    cart := { Cart.reset with a := s.cart.a.throughReset oven (slept s.cart.a), b := s.cart.b.throughReset oven (slept s.cart.b) }
    twin := { Twin.reset with otherLow := s.twin.otherLow }
    health := { r.health with rails := s.health.rails }
    life := { r.life with reset := inForce, supplies := s.life.supplies, cause := cause } }

/-- RST_N_LOW (R421, R422). -/
def execRstNLow (s : State) : Result :=
  let s1 := if s.life.reset then s else s.afterReset 1 true false
  .next { s1 with pins := { s1.pins with rstN := false } }

/-- BROWN_OUT (R434): a digital rail; a stack in self-refresh keeps its contents while VHBM and VPP stay valid. -/
def execBrownOut (r : Rail) (s : State) : Result :=
  .next (if isDigital r then
      (s.afterReset 4 true (r == .vhbm || r == .vpp)).modLife (fun l => { l with supplies := false })
    else s)

/-- SUPPLIES_VALID (R420): every fitted rail has stayed in its window for 1 ms. -/
def execSuppliesValid (s : State) : Result :=
  .next (if s.life.supplies then s
    else (s.modLife (fun l => { l with supplies := true })).modHealth (fun h => { h with rails := [] }))

/-- The boot ROM runs (R423 step 1): RESET_CAUSE.PREV_BINDOFF tells of the shutdown before this reset. -/
def State.boot (s : State) : State :=
  let prev := s.nv.bindoffDone
  { s with
    nv := { s.nv with bindoffDone := false }, pins := { s.pins with rstN := true }
    life := { s.life with reset := false, state := .boot, prevBindoff := prev, upAt := s.cycle }
    ledger := { s.ledger with secAt := s.cycle } }

/-- RESET_END (R421, R423): the supplies are valid and RST_N is released. -/
def execResetEnd (s : State) : Result := .next (if s.life.reset && s.life.supplies then s.boot else s)

/-- A reset that UNIT_RESET of GLOBAL starts (R436). -/
def State.resetModule (s : State) : State := s.afterReset 2 true false

/-! ### Cast-on (R423-R426) -/

/-- The module halts (R427): LEAD_ACT is released (R399). -/
def State.haltNow (s : State) (reason : Nat) : State :=
  ((s.releaseLead .none).modLife (fun l => { l with state := .halted, halt := reason })).flag Page.global 0

/-- Both ports begin to answer; a Hot-Join request follows where it is enabled (R350). -/
def State.portsAnswer (s : State) : State :=
  (s.modI3c .a (fun x => { x with hotJoin := x.enhj && x.address.isNone })).modI3c .b (fun x =>
    { x with hotJoin := x.enhj && x.address.isNone })

/-- The hash that an entry as programmed carries of the one before it (R320). -/
def RingEntry.prevHash (r : RingEntry) : List Byte := (r.bytes.drop (if r.kind = 0xf0 then 0xd0 else 0x50)).take 48

/-- Each entry carries the hash of the one before it. -/
def chained : List RingEntry → Bool
  | a :: b :: l => b.prevHash == beBytes 48 (Config.sha384 a.bytes).toNat && chained (b :: l)
  | _ => true

/-- The ring scanned at cast-on (R323, R423 step 5): SEQ and seconds go on from the last entry, the last 256 entries are
checked, CAST_ON is written. -/
def State.scanLedger (s : State) : State :=
  let ring := s.nv.ring
  let sec := match ring.getLast? with | .some r => (wordAt r.bytes 2).toNat + 1 | .none => 0
  let since := (ring.reverse.takeWhile (fun r => r.kind != 0xf0)).filter (fun r => r.kind != 0xff)
  let s1 : State := { s with ledger := { s.ledger with
    nextSeq := match s.nv.lastSeq with | .some q => q + 1 | .none => 0
    sec := sec, ordinary := since.length, chainOk := chained (ring.drop (ring.length - 256)) } }
  s1.ledgerNote 0x90 [s.nv.lastSeq.getD 0]

/-- A firmware image runs (R373, R423 steps 2 to 5): the ports answer, CLOCKING; step 5 is taken with it (DEDUCED, log entry 14).
FACTORY_INVALID is set where no factory copy verifies (R291, R326). A first search starts where REF_IN was detected. -/
def State.firmwareRuns (s : State) (b : Bool) : State :=
  let other := b != s.nv.activeB
  let s1 : State := { s with nv := { s.nv with activeB := b, unconfirmed := s.nv.unconfirmed && !other } }
  let s2 := (s1.modLife (fun l => { l with state := .clocking, fwOk := true, step5 := true })).portsAnswer.flag Page.global 0
  let s3 : State := { s2 with
    cal := { s2.cal with factoryValid := s.nv.factory0 || s.nv.factory1 }
    security := { s2.security with update := if s1.nv.unconfirmed then .runningNew else .idle } }
  let s4 := (if s3.cal.factoryValid then s3 else s3.flag Page.cal 6).scanLedger
  let s5 := if other then s4.fwNote 6 b 0 ((s4.image b).getD Image.none) else s4
  let s6 := s5.seed
  if s6.clock.refPresent then s6.firstSearch else s6

/-- FIRMWARE_START (R373, R426): the fuses are read; the image in FW_ACTIVE.SLOT starts if it is valid, otherwise the
other. -/
def execFirmwareStart (s : State) : Result :=
  .next (if s.life.state = .boot ∧ s.life.reset = false ∧ s.life.supplies = true then
      if s.nv.lockFuses.toNat / 2 ≠ 3 then (s.haltNow 2).portsAnswer
      else if s.imageValid s.nv.activeB then s.firmwareRuns s.nv.activeB
      else if s.imageValid (!s.nv.activeB) then s.firmwareRuns (!s.nv.activeB)
      else (s.haltNow 1).portsAnswer
    else s)

/-- Training has ended on every fitted stack. -/
def State.trainingEnded (s : State) : Bool :=
  s.stacks_.all (fun k => (s.stack k).train == .tracking || (s.stack k).train == .failed)

/-- The failures of cast-on raised at step 7 (R426). -/
def State.castOnFaults (s : State) : State :=
  let s1 := s.stacks_.foldl (fun s k =>
    if (s.stack k).train = .failed then (s.fault (Page.memctl k) 0x0a).setDegraded 1 true else s) s
  if s1.cal.factoryValid then s1 else (s1.fault Page.cal 0x18).setDegraded 3 true

/-- The slots are powered (R423 step 8); the slot that the record names becomes active once its cartridge has
authenticated (R336). -/
def State.castOnCartridges (s : State) : State :=
  let power (s : State) (k : Nat) : State :=
    if (s.slot k).present && !(s.slot k).powered && !s.health.rails.contains .v3a then s.powerSlot k else s
  let s1 := power (power s 0) 1
  match s.inForce with
  | .some (_, r) =>
    if r.activeSlot < 2 ∧ (s.slot r.activeSlot).present = true then s1.modCart (fun c => { c with castOn := .some r.activeSlot })
    else s1
  | .none => s1

/-- CAST_ON_READY (R423 steps 7 and 8): every fitted port is PARKED, the fabric enters NORMAL, READY. -/
def execCastOnReady (s : State) : Result :=
  .next (if s.life.state = .memory ∧ s.life.ready = false ∧ s.trainingEnded = true then
      let s1 := (fittedPorts s.part).foldl State.poweredUp s
      let ms := min 0xffff (msOf (s.cycle - s.life.upAt))
      let s2 := (s1.modLife (fun l => { l with ready := true, state := .ready, readyMs := ms })).flag Page.global 0
      (s2.settle.castOnFaults.castOnCartridges).settleAllSwitches
    else s)

/-! ### Bind-off (R431-R433) -/

/-- BINDOFF_STATUS.REASON when bind-off is refused, 0 when it may start (R431). -/
def State.bindoffRefusal (s : State) : Nat :=
  if s.security.update = .verifying ∨ s.security.update = .programming ∨ s.security.update = .paused then 1
  else if s.twin.swap = .scheduled then 2
  else 0

/-- A LEGACY_HOLD pass ends before its last port (R432 step 2): its ledger entry (R321), and the CAL_MODE written
meanwhile (R311). -/
def State.endLegacy (s : State) : State :=
  match s.cal.legacy with
  | .some l => State.legacyOn { s with cal := { s.cal with legacy := .some { l with queue0 := [], queue1 := [] } } }
  | .none => s

/-- The stacks in self-refresh (R164, R432 step 5): every owed refresh issued, a held crossing gone; the fetch engine has
stopped with its ports. -/
def State.selfRefresh (s : State) : State :=
  s.stacks_.foldl (fun s k => s.modStack k (fun x => { x with
    owed := 0, forced := false, up := false, train := if x.train = .tracking then .selfRefresh else x.train })) s

/-- Every port parks and goes to OFF; rotation, swatches, a transfer and a join end (R432 steps 2 to 4). -/
def State.bindoffPark (s : State) : State :=
  let s1 := (s.abortAll 9).wr Page.cal 0x70 (setBits (s.rd Page.cal 0x70) 0 4 0)
  let s2 : State := { s1.endLegacy with cal := { s1.endLegacy.cal with rotation := [] } }
  let s3 := s2.transferFails 4 |>.abortJoin
  let s4 := (fittedPorts s.part).foldl (fun s n =>
    let s1 := s.parkAtOnce n
    match (s1.port n).state with
    | .parked => s1.modPort n (fun p => { p with power := .down, requested := .off, deliver := .none })
    | _ => s1) s3
  (List.range (Config.spares s.part)).foldl (fun s g =>
    (s.wr (Page.spare g) 0x40 (setBits (s.rd (Page.spare g) 0x40) 7 1 0)).modSpare g (fun x =>
      { x with settled := false, substituted := false, busy := .none, serves := .none, service := false })) s4

/-- BINDOFF_CTRL.GO written (R431, R432 steps 1 to 6): the ports park and go to OFF, the stacks to self-refresh, a lifeline
commit starts where anything has changed. -/
def State.bindoffStart (s : State) : State :=
  if s.life.bindoff = .running ∨ s.life.ready = false ∨ s.life.state = .halted ∨ s.life.standby = true then s
  else if s.bindoffRefusal ≠ 0 then
    s.modLife (fun l => { l with bindoff := .refused, bindoffReason := s.bindoffRefusal })
  else
    let s1 := s.fwCancel.modLife (fun l => { l with bindoff := .running, bindoffReason := 0 })
    let s2 := (s1.settle.ledgerNote 0x91 []).releaseLead .none
    let s3 := if s2.twin.role = .follow ∧ s2.twin.phase ≠ .none then
        (s2.modTwin (fun t => { t with phase := .none })).failover 2
      else s2
    (s3.bindoffPark.settleAllSwitches.selfRefresh).commitBindoff

/-- BINDOFF_GO. -/
def execBindoffGo (s : State) : Result := .next s.bindoffStart

/-- A port at the end of bind-off: OFF, its switches open (R432 steps 3 and 4). -/
def Port.off (p : Port) : Port :=
  { p with
    state := if p.state = .absent ∨ p.state = .safe then p.state else .off, requested := if p.state = .absent then .absent else .off
    power := .off, switches := { sense := false, force := false, moving := .none } }

/-- A monitor that runs on in standby (R284). -/
def State.wakes (s : State) (m : Nat) : Bool :=
  let x := s.monitor m
  x.running && bit (s.reg (monReg m 0)) 10 && (x.mode == 3 || x.mode == 4)

/-- Standby (R284, R433): the other monitors stop, slots lose their power unless KEEP_OVEN is set. -/
def State.enterStandby (s : State) : State :=
  let s1 := (List.range (Config.monitors s.part)).foldl (fun s m => if s.wakes m then s else s.stopMonitor m) s
  let s2 := if bit (s.rd Page.global 0x84) 5 then s1 else (s1.unpowerSlot 0).unpowerSlot 1
  s2.modLife (fun l => { l with standby := true, standbyAt := s.cycle })

/-- BINDOFF_DONE (R432 steps 4, 7 and 8): every port is OFF, the ledger is programmed with a CHECKPOINT as its last entry;
then HALTED or standby. -/
def State.bindoffEnd (s : State) : State :=
  let s1 := (fittedPorts s.part).foldl (fun s n => s.modPort n Port.off) s
  let s4 := (s1.programAll.ledgerCheckpoint).programAll
  let s5 : State := { s4 with nv := { s4.nv with bindoffDone := true } }
  let s6 := (s5.modLife (fun l => { l with bindoff := .done, bindoffStep := 8 })).flag Page.global 1
  if bit (s.rd Page.global 0x84) 4 then s6.enterStandby else s6.haltNow 3

/-- BINDOFF_DONE; it comes when the lifeline commit of step 6 has ended (R432). -/
def execBindoffDone (s : State) : Result :=
  .next (if s.life.bindoff = .running ∧ s.commitRuns = false then s.bindoffEnd else s)

/-- WAKE_REQUEST (R284, R433): a wake monitor meets its condition in standby; the module casts on. -/
def execWakeRequest (m : Nat) (s : State) : Result :=
  let cfg := s.reg (monReg m 0)
  .next (if s.life.standby && s.monitorFitted m && s.wakes m && (s.monitor m).state.meets (bits cfg 12 2) (bit cfg 9) then
      (s.afterReset 3 false false).boot.wr Page.wmon 0x344 (word (m + 2 ^ 31))
    else s)

/-! ### A cycle without a command -/

/-- One cycle of CK_CORE in which no command comes (DESIGN CHOICE, log entry 12): reads that wait are issued (R19), a running
lifeline commit may go on (R316), a missing oven reading takes its slot out of its window (R333), the heartbeat and handover
timers run (R365), the cycle count rises. -/
def State.idleCycle (s : State) : State := { s.issueReads.commitAdvances.windowsNow.ownerTick with cycle := s.cycle + 1 }

/-! ### Registers (R437) -/

/-- CASTON_STATUS. -/
def State.castOnStatus (s : State) : Word :=
  let trained := s.stacks_.all (fun k => (s.stack k).train == .tracking)
  let held := s.rd Page.global 0x74
  word (b2n s.life.fwOk + bits held 1 2 * 2 + b2n trained * 2 ^ 3 + b2n s.life.retained * 2 ^ 4 + b2n s.life.step5 * 2 ^ 5 +
    s.life.readyMs * 2 ^ 16)

/-- RESET_CAUSE. -/
def State.resetCause (s : State) : Word := word (s.life.cause + b2n s.life.prevBindoff * 2 ^ 8)

/-- BINDOFF_STATUS; while bind-off waits, it is in step 6 or 7 of R432, since steps 1 to 5 are taken with GO (DESIGN CHOICE,
log entry 124). -/
def State.bindoffStatus (s : State) : Word :=
  let st := match s.life.bindoff with | .idle => 0 | .running => 1 | .done => 2 | .refused => 3
  let step := if s.life.bindoff = .running then (if s.commitRuns then 6 else 7) else s.life.bindoffStep
  word (st + step * 2 ^ 4 + s.life.bindoffReason * 2 ^ 8)

/-- A register of GLOBAL but for COMMIT_ALL (R460); UPTIME counts model cycles since the end of reset (log entry 12). -/
def State.globalWord (s : State) (off : Nat) : Word :=
  if off = 0x40 then s.partId
  else if off = 0x44 then word (Config.caps0 s.part)
  else if 0x48 ≤ off ∧ off ≤ 0x58 then
    let k := (off - 0x48) / 4
    word (((fittedPorts s.part).filter (fun n => n / 32 == k)).foldl (fun acc n => acc + 2 ^ (n % 32)) 0)
  else if off = 0x60 then s.moduleState
  else if off = 0x64 then lo32 (msOf (s.cycle - s.life.upAt))
  else if off = 0x68 then hi32 (msOf (s.cycle - s.life.upAt))
  else if off = 0x70 then s.alertSummary
  else if off = 0x74 then s.castOnStatus
  else if off = 0x78 then s.resetCause
  else if off = 0x88 then s.bindoffStatus
  else if off = 0x8c then lo32 s.nv.serial.toNat
  else if off = 0x90 then hi32 s.nv.serial.toNat
  else s.rd Page.global off

/-- A register of GLOBAL written: COMMIT_ALL, BINDOFF_CTRL. -/
def State.writeGlobal (s : State) (off : Nat) (w : Word) : State :=
  if off = 0x80 then (if bit w 0 then s.commitAll else s)
  else if off = 0x84 then
    let s1 := s.wr Page.global 0x84 (w &&& 0x30)
    if bit w 0 then s1.bindoffStart else s1
  else s

end Machine
end Sys2Proof
end

