-- ==== Sys2Proof/Machine/Readout.lean ====
section
/-! DEFINITION. What registers read as (R9, R438-R446, R459, R467): the common page header, then the block registers
of every page, live. -/

namespace Sys2Proof
namespace Machine

/-- Word k of a 144-bit map with the listed bits (R8). -/
def mapWord (k : Nat) (l : List Nat) : Word :=
  word ((l.filter (fun n => n / 32 == k)).foldl (fun acc n => acc + 2 ^ (n % 32)) 0)

/-! ### The page header (R441-R446) -/

/-- PAGE_ID by block type and instance (R442). -/
def pageId (p : Nat) : Nat × Nat :=
  match pageKind p with
  | .global => (1, 0)
  | .owner => (2, 0)
  | .security => (3, 0)
  | .health => (4, 0)
  | .clock => (5, 0)
  | .clockmon => (6, 0)
  | .ledger => (7, 0)
  | .tables => (8, 0)
  | .memctl k => (9, k)
  | .stream => (0xa, 0)
  | .cache => (0xb, 0)
  | .host => (0xc, 0)
  | .twin => (0xd, 0)
  | .cal => (0xe, 0)
  | .cart => (0xf, 0)
  | .event => (0x10, 0)
  | .evchan k => (0x11, k)
  | .timer => (0x12, 0)
  | .wmon => (0x13, 0)
  | .trip => (0x14, 0)
  | .port n => (match Config.portType n with | .p => 0x20 | .f => 0x21 | .d => 0x22, n)
  | .spare g => (0x23, g)
  | .group g => (0x24, g)
  | .none => (0, 0)

/-- PAGE_CAPS (R444). -/
def pageCaps (v : Variant) (p : Nat) : Nat :=
  match pageKind p with
  | .global => Config.caps0 v
  | .port n => (match Config.portType n with | .p => 0x15 | .f => 0x2 | .d => 0xb)
  | .spare _ => 16
  | .memctl _ | .evchan _ | .timer => 32
  | .wmon => Config.monitors v + 2 ^ 5 * (Config.caps0 v / 2 ^ 4 % 2)
  | .trip | .host => 8
  | .twin => 4
  | _ => 0

/-- The actual state of a MEMCTL page (R167). -/
def State.stackActual (s : State) (k : Nat) : UState :=
  match (s.stack k).train with
  | .tracking => .ready
  | .failed => .safe
  | _ => .off

/-- The actual state of the CLOCK page (R244, R239). -/
def State.clockActual (s : State) : UState :=
  if s.firstLock = false then .off else if s.clockService then .service else .ready

/-- PAGE_STATE.ACTUAL (R443): the unit's own state; a page of a fixed state takes it when BOOT ends, and a page that no
rule gives a state keeps OFF, its reset state (DEDUCED, log entry 20). -/
def State.pageActual (s : State) (p : Nat) : UState :=
  let fixed (st : UState) : UState := if s.life.state = .boot then .off else st
  match pageKind p with
  | .port n => (s.port n).state
  | .group g => s.groupActual g
  | .spare g => s.spareActual g
  | .memctl k => s.stackActual k
  | .clock => s.clockActual
  | .twin => s.twinActual
  | .cart => s.cartActual
  | .cal => fixed (if s.cal.legacy.isSome then .service else .ready)
  | .security => fixed (if s.updating then .updating else .ready)
  | .event | .evchan _ | .timer | .wmon | .trip | .stream | .cache => .off
  | _ => fixed .ready

/-- PAGE_CTRL.REQUEST and PAGE_STATE.REQUESTED (R443): a unit's requested state; the actual state on a page whose
requests are replaced by it. -/
def State.pageRequested (s : State) (p : Nat) : UState :=
  match pageKind p with
  | .port n => (s.port n).requested
  | .group g =>
    let x := s.group g
    if x.active || x.deliver.isSome || x.state == .safe then x.requested else s.groupActual g
  | _ => s.pageActual p

/-- PAGE_STATE.MISMATCH (R405). -/
def State.pageMismatch (s : State) (p : Nat) : Bool :=
  match pageKind p with
  | .port n => (s.port n).mismatch
  | .spare g => (s.spare g).mismatch
  | .group g => (s.group g).mismatch
  | _ => false

/-- PAGE_STATE.WARMING (R314). -/
def State.pageWarming (s : State) (p : Nat) : Bool :=
  match pageKind p with
  | .port n => s.portWarming n
  | .spare g => s.spareWarming g
  | _ => false

/-- The page shows LOCKED and COASTING (R244). -/
def showsClock (p : Nat) : Bool := match pageKind p with | .clock | .port _ => true | _ => false

/-- PAGE_STATE (R443). -/
def State.pageState (s : State) (p : Nat) : Word :=
  let clk := showsClock p
  let locked := s.clock.relock.isNone && (s.clock.loop == .locked || s.clock.loop == .refReturned)
  let stale : Bool := match pageKind p with | .port n => (s.port n).stale | _ => false
  let be : Bool := match pageKind p with | .port n => s.bestEffort n | _ => false
  word ((s.pageActual p).code + (s.pageRequested p).code * 2 ^ 4 + b2n (s.pageMismatch p) * 2 ^ 8 + b2n stale * 2 ^ 9 +
    b2n (s.pageWarming p) * 2 ^ 10 + b2n (clk && s.clock.loop == .coasting) * 2 ^ 11 + b2n (clk && locked) * 2 ^ 12 +
    b2n be * 2 ^ 13)

/-- PAGE_SHADOW (R449). -/
def State.pageShadow (s : State) (p : Nat) : Word :=
  match pageKind p with
  | .port n => (s.port n).shadow
  | .group g => word (b2n (s.group g).shadow)
  | .clock => word (b2n s.clock.pend)
  | _ => 0

/-- A register of the header of a present page (R441). -/
def State.headerWord (s : State) (p off : Nat) : Word :=
  if off = 0 then word ((pageId p).1 * 2 ^ 16 + (pageId p).2)
  else if off = 0x4 then 0x100
  else if off = 0x8 then word (pageCaps s.part p)
  else if off = 0xc then s.pageState p
  else if off = 0x10 then word (s.pageRequested p).code
  else if off = 0x14 then s.pageFlags p
  else if off = 0x24 then s.pageShadow p
  else s.rd p off

/-! ### Port pages (R88-R90, R119-R122, R209-R210) -/

/-- PORT_POS (R89). -/
def State.portPos (s : State) (n : Nat) : Word := word ((s.walking n).entry % 2 ^ 18 + s.activityCode n * 2 ^ 18)

/-- RATIO_STATUS.EXACT (R120, R122). -/
def State.exact (s : State) : Bool := s.firstLock && s.clock.relock.isNone && s.clock.loop == .locked

/-- RATIO_STATUS (R122). -/
def State.ratioStatus (s : State) (n : Nat) : Word :=
  let p := s.port n
  let t := Config.portType n
  word (p.osc.seq % 65536 + b2n s.exact * 2 ^ 16 + b2n (usesOsc p.mode && !pulseUnit t p.mode) * 2 ^ 17)

/-- A ratio word (R119, R121): 0 to 15 from SR_NUM0 on; 0 before the first lock. -/
def State.ratioWord (s : State) (n i : Nat) : Word :=
  if s.firstLock = false then 0
  else
    let r := (s.port n).ratio (Config.portType n) s.clock.fbInt s.clock.fbNum s.clock.fbDen
    let x := match i / 4 with | 0 => r.1 | 1 => r.2.1 | 2 => r.2.2.1 | _ => r.2.2.2
    word (x / 2 ^ (32 * (i % 4)))

/-- A CALADC is connected to a port's stage (R28): a swatch of one of its ranges runs. -/
def State.calConnected (s : State) (n : Nat) : Bool :=
  let on (x : Option Swatch) : Bool := match x with
    | .some x => !x.done && itemKind x.item == 0 && itemIndex x.item / 3 == n
    | .none => false
  on s.cal.adc0 || on s.cal.adc1

/-- SUBST (R210). -/
def State.subst (s : State) (n : Nat) : Word :=
  let g := n / 16
  word (b2n (s.shadowing g && s.spareTarget g == n) + b2n ((s.spare g).substituted && (s.spare g).serves == .some n) * 2 +
    b2n (s.calConnected n) * 4)

/-- The offset is one that the port's type has (R467, R468). -/
def portHas (t : PType) (off : Nat) : Bool :=
  match t with
  | .p => off != 0xb0 && off != 0xb8 && off < 0x160
  | .f => off != 0xa8 && off != 0xac && off != 0xb4 && off != 0xb8 && off < 0x160
  | .d => off != 0xa8 && off != 0xac && off != 0xb4

/-- A block register of a port page, live. NCO_PHASE gives the residue after the last sample of the slot being played (R108;
DESIGN CHOICE, log entry 129). -/
def State.portWord (s : State) (n off : Nat) : Word :=
  let t := Config.portType n
  let p := s.port n
  let ph := s.walking n
  if portHas t off = false then 0
  else if off = 0x40 then word (ptypeCode t)
  else if off = 0x5c then s.portPos n
  else if off = 0x60 then word (ph.gran % 2 ^ 24)
  else if off = 0x64 then word ((getRow ph.rows 0).toNat + (getRow ph.rows 1).toNat * 2 ^ 16)
  else if off = 0x68 then word ((getRow ph.rows 2).toNat + (getRow ph.rows 3).toNat * 2 ^ 16)
  else if off = 0x80 then lo32 p.osc.u
  else if off = 0x84 then hi32 p.osc.u
  else if off = 0x90 then lo32 p.osc.rho
  else if off = 0x9c then word (p.osc.rho / 2 ^ 32 % 2 ^ 16 + p.osc.conv % 256 * 2 ^ 16)
  else if off = 0xa0 then s.outSwitch n
  else if off = 0xa4 then s.rd (Page.port n) 0xa4 ||| word (b2n (s.tripHeld n) * 2 ^ 16)
  else if off = 0xa8 then wordOfInt (p.trims.getD p.range { gain := 0, offset := 0 }).gain
  else if off = 0xac then wordOfInt (p.trims.getD p.range { gain := 0, offset := 0 }).offset
  else if off = 0xb0 then s.rd (Page.port n) 0xb0 ||| word (p.delayActual % 512 * 2 ^ 16)
  else if off = 0xb4 then s.subst n
  else if off = 0x11c then s.ratioStatus n
  else if 0x120 ≤ off ∧ off < 0x160 then s.ratioWord n ((off - 0x120) / 4)
  else if off = 0x174 then 0
  else s.rd (Page.port n) off

/-! ### Spares and groups (R81, R212, R213) -/

/-- SPARE_STATUS (R213). -/
def State.spareStatus (s : State) (g : Nat) : Word :=
  let x := s.spare g
  let port := match x.serves with
    | .some n => n % 16
    | .none => if s.shadowing g then s.spareTarget g % 16 else 0
  word (port + b2n (s.shadowing g) * 2 ^ 4 + b2n x.settled * 2 ^ 5 + b2n x.substituted * 2 ^ 6 + b2n x.busy.isSome * 2 ^ 7 +
    b2n (s.trimsValid g) * 2 ^ 8 + b2n x.refused * 2 ^ 9)

/-- A block register of a SPARE page. -/
def State.spareWord (s : State) (g off : Nat) : Word :=
  if off = 0x48 then s.spareStatus g else s.rd (Page.spare g) off

/-- A block register of a GROUP page. -/
def State.groupWord (s : State) (g off : Nat) : Word :=
  let x := s.group g
  if off = 0x44 then word (x.leader.getD 0xff)
  else if 0x48 ≤ off ∧ off ≤ 0x58 then mapWord ((off - 0x48) / 4) x.accepted
  else if 0x5c ≤ off ∧ off ≤ 0x6c then mapWord ((off - 0x5c) / 4) x.excluded
  else s.rd (Page.group g) off

/-! ### The clock (R241, R242, R462) -/

/-- PLL_STATE.STATE; during a measurement of REF_IN the loop is in its search (DEDUCED, log entry 21). -/
def State.pllCode (s : State) : Nat :=
  match s.clock.loop with
  | .noRef => 0
  | .searching => 1
  | .guard => 2
  | .locked => 3
  | .coasting => 4
  | .refReturned => 5

/-- PLL_STATE. -/
def State.pllState (s : State) : Word :=
  word (s.pllCode + b2n s.clock.refPresent * 2 ^ 8 + b2n s.clock.fromTable * 2 ^ 9 + s.clock.band % 64 * 2 ^ 16)

/-- BAND_TABLE_CTRL.ENTRIES. -/
def State.bandEntries (s : State) : Nat :=
  ((List.range 16).filter (fun e => bit (s.clock.bandWord (2 * e + 1)) 31)).length

/-- GUARD_STATUS; while a lock run is under way LOCK_RUN is a reading of time (DESIGN CHOICE, log entry 5). -/
def State.guardStatus (s : State) : Word :=
  let c := s.clock
  let run := if c.relock = .some .run then (Config.freeTime s.free).toNat % 65 else c.run
  word (b2n c.guard + b2n c.gated * 2 + b2n c.windowPass * 4 + run % 128 * 2 ^ 8 + c.peak % 256 * 2 ^ 24)

/-- SYNC_STATUS. -/
def State.syncStatus (s : State) : Word :=
  let st := match s.clock.sync with
    | .idle => 0 | .armed => 1 | .aligning => 2 | .done => 3 | .refused => 4 | .late => 5 | .failed => 6
  setBits (s.rd Page.clock 0x88) 0 3 st

/-- A block register of CLOCK; COAST_TIME counts the coast under way (R231). -/
def State.clockWord (s : State) (off : Nat) : Word :=
  if off = 0x44 then s.pllState
  else if off = 0x58 then s.rd Page.clock 0x58 ||| word (s.bandEntries * 2 ^ 16)
  else if off = 0x60 ∧ s.clock.loop = .coasting then word s.coastMs
  else if off = 0x70 then s.guardStatus
  else if off = 0x84 then 0
  else if off = 0x88 then s.syncStatus
  else s.rd Page.clock off

/-! ### Memory, streaming and the cache (R165-R170) -/

/-- A block register of a MEMCTL page. -/
def State.memctlWord (s : State) (k off : Nat) : Word :=
  let x := s.stack k
  if off = 0x44 then word (x.owed % 16 + x.peakOwed % 16 * 2 ^ 4)
  else if off = 0x48 then
    word ((match x.temp with | .some t => t.toNat % 256 | .none => 0) + x.peakTemp % 256 * 2 ^ 8 + b2n x.temp.isSome * 2 ^ 16)
  else if off = 0x4c then
    word (b2n x.doubled + b2n x.forceDouble * 2 + b2n x.initial * 4 + b2n (x.train == .selfRefresh) * 8)
  else if off = 0x68 then
    let st := match x.train with | .idle => 0 | .training => 1 | .tracking => 2 | .failed => 3 | .selfRefresh => 4
    word (st + x.attempts % 16 * 2 ^ 4 + x.taps % 65536 * 2 ^ 16)
  else s.rd (Page.memctl k) off

/-- TAGS_IN_FLIGHT (R168): the tags held, and those of the staging and service classes. -/
def State.tagsInFlight (s : State) : Word :=
  let l := s.tagCounts s.lowReading
  let total := (l.map (fun x => x.1)).foldl (· + ·) 0
  let low := (l.map (fun x => x.2)).foldl (· + ·) 0
  word (min 0xffff total + min 0xffff low * 2 ^ 16)

/-- ADMIT_STATUS (R169). -/
def State.admitStatus (s : State) : Word :=
  let admitted := (s.admittedPorts.filter (fun n => decide (0 < (s.port n).demand))).length
  let be := ((fittedPorts s.part).filter s.bestEffort).length
  (s.rd Page.stream 0x48 &&& 0x07ff0000) ||| word (admitted % 256 + be % 256 * 2 ^ 8)

/-- PC_DEMAND_MAX (R168). -/
def State.pcDemandMax (s : State) : Word :=
  let best := (List.range (Config.pseudoChannels s.part)).foldl (fun (b : Nat × Nat) c =>
    let d := s.demandOn c
    if b.1 < d then (d, c) else b) (0, 0)
  word (best.1 % 2 ^ 24 + best.2 % 64 * 2 ^ 24)

/-- A block register of STREAM. -/
def State.streamWord (s : State) (off : Nat) : Word :=
  if off = 0x40 then s.tagsInFlight
  else if off = 0x48 then s.admitStatus
  else if off = 0x4c then word (Config.guaranteed s.part)
  else if off = 0x50 then word s.demandTotal
  else if off = 0x68 then s.pcDemandMax
  else s.rd Page.stream off

/-- A block register of CACHE. -/
def State.cacheWord (s : State) (off : Nat) : Word :=
  if off = 0x40 then word cacheBlocks
  else if off = 0x44 then word (s.cacheUsed % 65536 + s.cachePinned % 65536 * 2 ^ 16)
  else if off = 0x4c then
    (s.rd Page.cache 0x4c &&& 0xf) ||| word ((s.copies.filter (·.pinned)).length % 65536 * 2 ^ 16)
  else s.rd Page.cache off

/-! ### Calibration, ledger, cartridge (R325-R327, R340-R341) -/

/-- A block register of CAL. -/
def State.calWord (s : State) (off : Nat) : Word :=
  if off = 0x48 then s.calStatus
  else if off = 0x5c then s.storeState
  else if off = 0x60 then s.warmingMap 0
  else if off = 0x64 then s.warmingMap 1
  else if off = 0x78 then 0
  else s.rd Page.cal off

/-- A block register of LEDGER. -/
def State.ledgerWord (s : State) (off : Nat) : Word :=
  if off = 0x40 then lo32 s.headSeq
  else if off = 0x44 then hi32 s.headSeq
  else if off = 0x48 then s.ledgerStatus
  else if off = 0x4c then word s.ledger.sec
  else if off = 0x50 then word s.nanos
  else if off = 0x58 then lo32 (s.nv.checkpoint.getD 0)
  else if off = 0x5c then hi32 (s.nv.checkpoint.getD 0)
  else if off = 0x6c then word s.nv.ringOffset
  else if off = 0x70 then lo32 s.oldestSeq
  else if off = 0x74 then hi32 s.oldestSeq
  else s.rd Page.ledger off

/-- A block register of CART. -/
def State.cartWord (s : State) (off : Nat) : Word :=
  if off = 0x40 then s.slotState 0
  else if off = 0x44 then s.slotState 1
  else if off = 0x48 then s.activeSlot
  else if off = 0x50 then word (s.slot 0).identity.toNat
  else if off = 0x54 then s.slotLife 0
  else if off = 0x58 then word (s.slot 1).identity.toNat
  else if off = 0x5c then s.slotLife 1
  else if off = 0x64 then s.transferStatus
  else if off = 0x68 then pico s.cart.ratio
  else if off = 0x6c then pico s.cart.cont
  else if off = 0x74 then s.infoData
  else s.rd Page.cart off

/-! ### Fabric, timers, monitors, trips (R265-R268, R285-R288) -/

/-- FABRIC_MODE. -/
def State.fabricMode (s : State) : Word :=
  match s.fabric.mode with
  | .normal => 0
  | .castOn => 3
  | .test => 5
  | .restart => 7

/-- A block register of EVENT. -/
def State.eventWord (s : State) (off : Nat) : Word :=
  if off = 0x40 then s.fabricMode
  else if off = 0x50 then 0
  else if 0x60 ≤ off ∧ off < 0xa0 then s.chanFlags ((off - 0x60) / 4)
  else s.rd Page.event off

/-- A block register of TIMER. -/
def State.timerWord (s : State) (off : Nat) : Word :=
  if 0x40 ≤ off ∧ off < 0x240 ∧ off % 16 = 12 then s.timerStat ((off - 0x40) / 16)
  else s.rd Page.timer off

/-- WM_STATE (R286). -/
def State.monState (s : State) (m : Nat) : Word :=
  let x := s.monitor m
  word (x.state.code + b2n x.running * 4 + b2n (s.blanked m) * 8 + (if x.running then x.mode else 0) * 2 ^ 4)

/-- A threshold as applied, 14 bits. -/
def tap14 (v : Int) : Nat := (BitVec.ofInt 14 v).toNat

/-- A block register of WMON; blocks of monitors that are not fitted read as zero. -/
def State.wmonWord (s : State) (off : Nat) : Word :=
  let m := (off - 0x40) / 32
  if off < 0x340 then
    if s.monitorFitted m = false then 0
    else match off % 32 with
      | 4 => setBits (s.reg (monReg m 4)) 16 14 (tap14 (s.monitor m).upperUsed)
      | 8 => setBits (s.reg (monReg m 8)) 16 14 (tap14 (s.monitor m).lower)
      | 16 => s.monState m
      | _ => s.rd Page.wmon off
  else s.rd Page.wmon off

/-- TRIP_STATE (R288). -/
def State.tripState (s : State) : Word :=
  let obeyed := (fittedPorts s.part).foldl (fun acc n => acc ||| s.tripLines n) 0
  let cond := (List.range 8).foldl (fun acc k => acc + b2n (s.lineCondition k) * 2 ^ k) 0
  word (s.trips.die.toNat + cond * 2 ^ 8 + (s.trips.die &&& obeyed).toNat * 2 ^ 16)

/-- A block register of TRIP. -/
def State.tripWord (s : State) (off : Nat) : Word :=
  if off = 0x40 then s.tripState
  else if off = 0x44 then word s.trips.die.toNat
  else s.rd Page.trip off

/-! ### Every register -/

/-- GLOBAL.SERIAL and the rest of GLOBAL, COMMIT_ALL's IN_PROGRESS and PAGES among them. -/
def State.blockWord (s : State) (owner : Bool) (p off : Nat) : Word :=
  match pageKind p with
  | .global => s.globalWord off
  | .owner => s.ownerWord owner off
  | .security => s.securityWord off
  | .health => s.healthWord off
  | .clock => s.clockWord off
  | .clockmon => if off < 0x130 then s.domainWord ((off - 0x40) / 4) else 0
  | .ledger => s.ledgerWord off
  | .memctl k => s.memctlWord k off
  | .stream => s.streamWord off
  | .cache => s.cacheWord off
  | .host => s.hostWord off
  | .twin => s.twinWord off
  | .cal => s.calWord off
  | .cart => s.cartWord off
  | .event => s.eventWord off
  | .timer => s.timerWord off
  | .wmon => s.wmonWord off
  | .trip => s.tripWord off
  | .port n => s.portWord n off
  | .spare g => s.spareWord g off
  | .group g => s.groupWord g off
  | .evchan _ => s.rd p off
  | .tables | .none => 0

/-- A register as it stands, for a reader who owns the module or does not (R9, R366, R438): absent and unmapped pages and
reserved offsets read as zero. The TABLES page is read through its window. -/
def State.liveReg (s : State) (owner : Bool) (a : Nat) : Word :=
  let p := pageOf a
  let off := offOf a
  if pagePresent s.part p = false then 0
  else if off < 0x40 then s.headerWord p off
  else s.blockWord owner p off

end Machine
end Sys2Proof
end

