-- ==== Sys2Proof/Machine/Tables.lean ====
section
/-! DEFINITION. The TABLES window (R46, R152, R153, R229, R463-R466): each I3C port's selector, index and staged words,
the words of the eight tables, stores of whole entries, and the bobbin allocation. -/

namespace Sys2Proof
namespace Machine

/-! ### Stored bits (R37, R43-R45, R229) -/

/-- The bits of a field. -/
def fieldBits (lo width : Nat) : Nat := (2 ^ width - 1) * 2 ^ lo

/-- The bits of a descriptor that are stored (R37, R45). -/
def descBits : Nat := fieldBits 0 51 + fieldBits 64 24 + fieldBits 96 16 + fieldBits 128 64

/-- The bits of a sequence entry that are stored, by its KIND (R43-R45). -/
def entryBits (kind : Nat) : Nat :=
  match kind with
  | 0 => fieldBits 0 4 + fieldBits 8 18 + fieldBits 32 16 + fieldBits 64 12 + fieldBits 80 12 + fieldBits 96 24 +
      fieldBits 128 24 + fieldBits 160 24 + fieldBits 192 24 + fieldBits 224 32
  | 1 => fieldBits 0 4 + fieldBits 8 18 + fieldBits 32 18
  | 3 => fieldBits 0 6 + fieldBits 32 144
  | 4 => fieldBits 0 8 + fieldBits 32 24 + fieldBits 64 19
  | 5 => fieldBits 0 6 + fieldBits 32 64
  | _ => fieldBits 0 4

/-- A descriptor as stored. -/
def storedDesc (w : BitVec 256) : BitVec 256 := w &&& BitVec.ofNat 256 descBits

/-- A sequence entry as stored. -/
def storedEntry (w : BitVec 256) : BitVec 256 := w &&& BitVec.ofNat 256 (entryBits (field w 0 4))

/-- A word of the band table as stored. -/
def storedBand (i : Nat) (w : Word) : Word := if i % 2 = 0 then w &&& 0x01ffffff else w &&& 0x8000ff3f

/-! ### The bobbin allocation (R152, R153) -/

/-- An allocation write is accepted: every fitted port is PARKED, OFF or SAFE. -/
def State.mayAllocate (s : State) : Bool :=
  (fittedPorts s.part).all (fun n =>
    let st := (s.port n).state
    st == .parked || st == .off || st == .safe)

/-- The sizes lowered from the highest fitted port down until the excess is gone, none below 1. -/
def reduceBobbins (sizes : Tab Nat) (size : Nat → Nat) : List Nat → Nat → Tab Nat
  | [], _ => sizes
  | n :: ns, excess =>
    let cut := min excess (size n - 1)
    reduceBobbins (if cut = 0 then sizes else sizes.set n (size n - cut)) size ns (excess - cut)

/-- An accepted allocation write: the size at least 1, the total no more than 2,048 units. -/
def State.allocate (s : State) (n size : Nat) : State :=
  if Config.portFitted s.part n = false then s
  else
    let s1 : State := { s with bobbins := s.bobbins.set n (max 1 (size % 4096)) }
    let ports := fittedPorts s.part
    let total := (ports.map s1.bobbinSize).foldl (· + ·) 0
    { s1 with bobbins := reduceBobbins s1.bobbins s1.bobbinSize ports.reverse (total - 2048) }

/-! ### Tables (R464) -/

/-- The words of a table. -/
def State.tableWords (s : State) (sel : Nat) : Nat :=
  match sel with
  | 0 | 1 => 2097152
  | 2 => 32
  | 3 => s.security.report.length / 4
  | 4 => 4194304
  | 5 => 1691
  | 6 => 144
  | _ => 1024

/-- The words that one entry of a table takes. -/
def entryWords (sel : Nat) : Nat :=
  match sel with
  | 0 | 1 => 8
  | 2 => 2
  | 7 => 4
  | _ => 1

/-- The fault log's word (R412). -/
def State.faultWord (s : State) (i : Nat) : Word :=
  match s.faults.find? (fun e => e.1 == i / 4) with
  | .none => 0
  | .some (_, e) =>
    match i % 4 with
    | 0 => word e.sec
    | 1 => word e.ns
    | 2 => word (e.code + e.page * 2 ^ 16)
    | _ => e.detail

/-- A word of a table; an index beyond the table reads its last word, an empty table 0 (DEDUCED, log entry 23). -/
def State.tableWord (s : State) (sel i : Nat) : Word :=
  let i := min i (s.tableWords sel - 1)
  match sel with
  | 0 => word (field (s.desc (i / 8)) (32 * (i % 8)) 32)
  | 1 => word (field (s.entryAt (i / 8)) (32 * (i % 8)) 32)
  | 2 => s.clock.bandWord i
  | 3 => wordAt s.security.report i
  | 4 => s.ringWord i
  | 5 => s.liveWord i
  | 6 => word (s.bobbinSize i % 2 ^ 12 + s.bobbinBase i % 2 ^ 12 * 2 ^ 16)
  | _ => s.faultWord i

/-! ### The window of a port (R465, R466) -/

/-- TBL_STATUS. -/
def I3c.tableStatus (x : I3c) : Word := setBits x.tblStatus 1 1 (b2n x.staged.isSome)

/-- TBL_INDEX after an access. -/
def State.nextIndex (s : State) (sel i : Nat) : Nat := if s.tableWords sel ≤ i + 1 then 0 else i + 1

/-- Staged words kept only for one entry of one table. -/
def I3c.keepStaged (x : I3c) (sel entry : Nat) : I3c :=
  match x.staged with
  | .some (t, e, _) => if t = sel ∧ e = entry then x else { x with staged := .none }
  | .none => x

/-- TBL_SEL written (R463, R465). -/
def State.tblSel (s : State) (p : I3cPort) (w : Word) : State :=
  s.modI3c p (fun x =>
    let sel := bits w 0 3
    { x with tblSel := sel }.keepStaged sel (x.tblIndex / entryWords sel))

/-- TBL_INDEX written (R463, R465): clamped to the selected table's last word. -/
def State.tblIndex (s : State) (p : I3cPort) (w : Word) : State :=
  s.modI3c p (fun x =>
    let i := bits w 0 22
    let last := s.tableWords x.tblSel - 1
    { x with tblIndex := min i last
             tblStatus := setBits x.tblStatus 2 1 (b2n (decide (last < i))) }.keepStaged x.tblSel (min i last / entryWords x.tblSel))

/-- What an access leaves in the port's window: REFUSED, EMPTY and the index moved on. -/
def State.tblAccess (s : State) (p : I3cPort) (refused : Bool) : State :=
  s.modI3c p (fun x => { x with
    tblIndex := s.nextIndex x.tblSel x.tblIndex
    tblStatus := setBits (setBits x.tblStatus 0 1 (b2n refused)) 3 1 (b2n (x.tblSel == 3 && s.security.report.isEmpty)) })

/-- The eight words of a store's entry with the staged words and word 7 put in (R46). -/
def mergeEntry (old : BitVec 256) (staged : Tab Word) (last : Word) : BitVec 256 :=
  BitVec.ofNat 256 ((List.range 8).foldl (fun acc i =>
    let w := if i = 7 then last else staged.get (fun i => word (field old (32 * i) 32)) i
    acc + w.toNat * 2 ^ (32 * i)) 0)

/-- The words a port has staged for an entry of a table. -/
def I3c.stagedFor (x : I3c) (sel entry : Nat) : Tab Word :=
  match x.staged with
  | .some (t, e, ws) => if t = sel ∧ e = entry then ws else []
  | .none => []

/-- A word staged by a port: words of another entry are discarded. -/
def State.stage (s : State) (p : I3cPort) (sel entry i : Nat) (w : Word) : State :=
  s.modI3c p (fun x => { x with staged := .some (sel, entry, (x.stagedFor sel entry).set i w) })

/-- The staged words of a port gone. -/
def State.unstage (s : State) (p : I3cPort) : State := s.modI3c p (fun x => { x with staged := .none })

/-- TBL_DATA written by the owner through a port (R46, R153, R229, R465). -/
def State.tblWrite (s : State) (p : I3cPort) (w : Word) : State :=
  let x := s.i3c p
  let sel := x.tblSel
  let i := min x.tblIndex (s.tableWords sel - 1)
  let refuse (s : State) : State := (s.tblAccess p true).flag Page.tables 0
  match sel with
  | 0 =>
    if i % 8 = 7 then
      let d := storedDesc (mergeEntry (s.desc (i / 8)) (x.stagedFor 0 (i / 8)) w)
      (State.unstage { s with descs := s.descs.set (i / 8) d } p).tblAccess p false
    else (s.stage p 0 (i / 8) (i % 8) w).tblAccess p false
  | 1 =>
    if i % 8 = 7 then
      let e := storedEntry (mergeEntry (s.entryAt (i / 8)) (x.stagedFor 1 (i / 8)) w)
      (State.unstage { s with entries := s.entries.set (i / 8) e } p).tblAccess p false
    else (s.stage p 1 (i / 8) (i % 8) w).tblAccess p false
  | 2 =>
    if i % 2 = 1 then
      let w0 := (x.stagedFor 2 (i / 2)).get (fun _ => s.clock.bandWord (i - 1)) 0
      let bands := (s.clock.bands.set (i - 1) (storedBand 0 w0)).set i (storedBand 1 w)
      ((s.modClock (fun c => { c with bands := bands })).unstage p).tblAccess p false
    else (s.stage p 2 (i / 2) 0 w).tblAccess p false
  | 6 => if s.mayAllocate then (s.allocate i (bits w 0 12)).tblAccess p false else refuse s
  | _ => refuse s

/-- TBL_DATA read through a port: the word at TBL_INDEX, which then advances (R465). -/
def State.tblRead (s : State) (p : I3cPort) : Word × State :=
  let x := s.i3c p
  (s.tableWord x.tblSel x.tblIndex, s.tblAccess p false)

/-- A register of TABLES as a port reads it, TBL_DATA apart (R463). -/
def State.tablesWord (s : State) (p : I3cPort) (off : Nat) : Word :=
  let x := s.i3c p
  if off = 0x40 then word x.tblSel
  else if off = 0x44 then word x.tblIndex
  else if off = 0x48 then s.tableWord x.tblSel x.tblIndex
  else if off = 0x4c then x.tableStatus
  else 0

/-- UNIT_RESET of the TABLES page: the calling port's window returns to its reset values (R457). -/
def State.resetTables (s : State) (p : I3cPort) : State :=
  s.modI3c p (fun x => { x with tblSel := 0, tblIndex := 0, tblStatus := 0, staged := .none })

/-- TBL_SEL_WRITE (R465). -/
def execTblSelWrite (p : I3cPort) (value : Word) (s : State) : Result := .next (s.tblSel p value)

/-- TBL_INDEX_WRITE (R465). -/
def execTblIndexWrite (p : I3cPort) (value : Word) (s : State) : Result := .next (s.tblIndex p value)

/-- TBL_DATA_WRITE (R46, R465): a write that the owner's envelope carries. -/
def execTblDataWrite (p : I3cPort) (value : Word) (s : State) : Result := .next (s.tblWrite p value)

/-- TBL_DATA_READ (R465): the word read stands in the port's lastRead. -/
def execTblDataRead (p : I3cPort) (s : State) : Result :=
  let r := s.tblRead p
  .next (r.2.spend.modI3c p (fun x => { x with lastRead := r.1 }))

end Machine
end Sys2Proof
end

