-- ==== Sys2Proof/Machine/Resets.lean ====
section
/-! DEFINITION. PAGE_CTRL.UNIT_RESET (R457, R458), and the clearing of trip lines with the spare returns that wait for
it (R282, R458). -/

namespace Sys2Proof
namespace Machine

/-- A page's flags cleared, and the listed counters with them. -/
def State.clearPage (s : State) (page : Nat) (counters : List Nat) : State :=
  (counters.foldl (fun s off => s.wr page off 0) s).clearFlags page 0xffffffff

/-- The fields of a port that return to their reset values, the slot grid moved by a changed divisor (R34, R458). -/
def Port.reset (p : Port) (t : PType) : Port :=
  let div := portResetWord t 0x48
  { p with
    slot := if div = p.div then p.slot else p.slot * Config.granuleCycles t p.div / Config.granuleCycles t div
    requested := .parked, deliver := .none, withCommit := false, commit := false
    mode := word (portResetWord t 0x44), div := div, seqStart := 0, shadow := 0, held := 0, transfers := [], merge := .none
    osc := Osc.reset, play := Playhead.idle, ms := 0, holdPark := false, restart := false, mismatch := false, seenAt := .none }

/-- The read captures of a page forgotten on both I3C ports. -/
def State.dropCaptures (s : State) (page : Nat) : State :=
  let drop (x : I3c) : I3c := { x with captures := x.captures.filter (fun e => pageOf e.1 != page) }
  (s.modI3c .a drop).modI3c .b drop

/-- UNIT_RESET of a PORT page outside SAFE (R458): parked at once with its transfers discarded (R454), then every block
register but TRIP_SEL and the applied trims; an OFF port is powered up (R175, R432). -/
def State.resetPort (s : State) (n : Nat) : State :=
  let pg := Page.port n
  let t := Config.portType n
  let before := s.classes
  let off := (s.port n).state == .off
  let s1 := if (s.port n).state = .service then (s.abortPort n s.freeReason).spend else s
  let s2 := s1.modPort n (fun p => { p with transfers := [], merge := .none, shadow := 0, held := 0 })
  let s3 := (((s2.parkAtOnce n).resetPage pg [0x1c, 0x20, 0xa4]).resetHooks pg).dropCaptures pg
  let s4 := s3.modPort n (fun p => p.reset t)
  let s5 :=
    if off then
      if s.life.bindoff = .running ∨ s.life.bindoff = .done then s4
      else s4.modPort n (fun p => { p with power := .up })
    else (s4.modPort n (fun p => { p with power := if p.power = .down then .on else p.power })).stepOutput n
  (s5.settleSwitches n).updateIbis before

/-- UNIT_RESET of a GROUP page outside SAFE (R458): the members park at once, the page ends OFF. -/
def State.resetGroup (s : State) (g : Nat) : State :=
  let pg := Page.group g
  let before := s.classes
  let s1 := (s.group g).members.foldl (fun s n => s.parkAtOnce n) s
  let s2 := (s1.resetPage pg [0x18, 0x1c, 0x20]).modGroup g (fun x => { Group.fresh with slot := x.slot })
  s2.updateIbis before

/-- A UNIT_RESET that waits for its spare's return starts it as soon as it may (R458). -/
def State.returnDue (s : State) (g : Nat) : State :=
  if (s.spare g).resetDue && s.mayReturn g then s.beginHandover g false else s

/-- UNIT_RESET of a SPARE page (R308, R407, R458). -/
def State.resetSpareUnit (s : State) (g : Nat) : State :=
  let x := s.spare g
  let pg := Page.spare g
  if s.rotates g then s.refuseSpare g
  else if x.fault || x.safeRecord.isSome then
    ((s.wr pg 0x40 (setBits (s.rd pg 0x40) 7 1 0)).modSpare g (fun x => { x with fault := false })).releaseUnit pg
  else if x.substituted || x.busy.isSome then (s.modSpare g (fun x => { x with resetDue := true })).returnDue g
  else s.resetSpare g

/-- UNIT_RESET of CLOCK: the relock of R221 with a CLOCK transfer in waiting discarded (R454). -/
def State.resetClockPage (s : State) : State :=
  (s.modClock (fun c => { c with pend := false, held := false, commit := false })).resetClock

/-- UNIT_RESET of a MEMCTL page (R167). -/
def State.resetMemctl (s : State) (k : Nat) : State :=
  let pg := Page.memctl k
  (s.clearPage pg [0x50, 0x54, 0x58, 0x5c, 0x6c, 0x70, 0x74]).modStack k (fun x =>
    { x with peakOwed := 0, peakTemp := 0, taps := 0 })

/-- UNIT_RESET of an EVCHAN page: CH_STAT of its 32 channels (R267). -/
def State.resetChannels (s : State) (k : Nat) : State :=
  let before := s.classes
  ((List.range 32).foldl (fun s i => s.setReg (chanReg (32 * k + i) 12) 0) s).updateIbis before

/-- UNIT_RESET of the TIMER page: every timer stopped, every register and hook at its reset value (R268). -/
def State.resetTimers (s : State) : State :=
  let before := s.classes
  let s1 := ((s.resetPage Page.timer [0x1c, 0x20]).resetHooks Page.timer).dropCaptures Page.timer
  State.updateIbis { s1 with timers := [] } before

/-- UNIT_RESET of HOST and TWIN: their counters, some of which share a word with what stays (R380, R417). -/
def State.resetHost (s : State) : State :=
  let s1 := s.clearPage Page.host [0x48, 0x4c, 0x54]
  { s1 with bulk := { s1.bulk with retrains := 0 } }

/-- UNIT_RESET of TWIN (R417). -/
def State.resetTwin (s : State) : State :=
  (s.clearPage Page.twin [0x50, 0x58]).wr Page.twin 0x64 (setBits (s.rd Page.twin 0x64) 8 24 0)

/-- UNIT_RESET of WMON: WM_COUNT of every monitor and the flags (R457). -/
def State.resetMonitors (s : State) : State :=
  ((List.range (Config.monitors s.part)).foldl (fun s m => s.setReg (monReg m 0x18) 0) s).clearFlags Page.wmon 0xffffffff

/-- PAGE_CTRL.UNIT_RESET of a page, written through a port (R457); on an absent page nothing (R10). On a unit in SAFE it runs
steps 2 and 3 of R406 and no more: the counters of R91 stay (R407; DEDUCED, log entry 127). -/
def State.unitReset (s : State) (p : I3cPort) (page : Nat) : State :=
  if pagePresent s.part page = false then s
  else match pageKind page with
  | .global => s.resetModule
  | .owner | .security => s.clearPage page []
  | .health => s.clearPage page [0x4c, 0x6c]
  | .host => s.resetHost
  | .twin => s.resetTwin
  | .clock => s.resetClockPage
  | .clockmon => s.modClock (fun c => { c with domains := c.domains.map (fun d => (d.1, { d.2 with fault := false, faults := 0 })) })
  | .ledger => s.resetLedger
  | .tables => s.resetTables p
  | .memctl k => s.resetMemctl k
  | .stream => s.clearPage page [0x44]
  | .cache => (s.wr page 0x4c 0).clearPage page []
  | .cal => s.clearPage page [0x6c]
  | .cart => s.resetCart
  | .event => (s.clearPage page [0x48, 0x4c, 0xa0]).disarmHooks page
  | .evchan k => s.resetChannels k
  | .timer => s.resetTimers
  | .wmon => s.resetMonitors
  | .trip => s.clearPage page ((List.range 8).map (fun k => 0x50 + 4 * k))
  | .port n => if (s.port n).state = .safe then s.releaseUnit page else s.resetPort n
  | .spare g => s.resetSpareUnit g
  | .group g => if (s.group g).state = .safe then s.releaseUnit page else s.resetGroup g
  | .none => s

/-- UNIT_RESET (R457, R458). -/
def execUnitReset (p : I3cPort) (page : Nat) (s : State) : Result := .next (s.unitReset p page)

/-- TRIP_CLEAR written, with the returns that it lets run (R282, R458). -/
def State.clearTrips (s : State) (value : Word) : State :=
  (List.range (Config.spares s.part)).foldl State.returnDue (s.tripClear value)

/-- TRIP_CLEAR (R282). -/
def execTripClear (value : Word) (s : State) : Result := .next (s.clearTrips value)

end Machine
end Sys2Proof
end

