-- ==== Sys2Proof/Machine/Registers.lean ====
section
/-! DEFINITION. Reads and writes of registers by a master (R9, R10, R90, R120, R327, R357, R438-R450): captures, the bits
that a write replaces, clears or sets, the pending bits of shadowed fields, PAGE_CTRL. -/

namespace Sys2Proof
namespace Machine

/-! ### Reads (R90, R120, R327, R440) -/

/-- The offsets that a read of an offset captures. -/
def captureTargets (page off : Nat) : List Nat :=
  match pageKind page with
  | .global => if off = 0x64 then [0x68] else if off = 0x8c then [0x90] else []
  | .owner => if off = 0x48 then [0x4c] else if off = 0x54 then [0x58] else []
  | .ledger =>
    if off = 0x40 then [0x44] else if off = 0x4c then [0x50] else if off = 0x58 then [0x5c]
    else if off = 0x60 then [0x64] else if off = 0x70 then [0x74] else []
  | .memctl _ => if off = 0x60 then [0x64] else []
  | .timer => if off = 0x3c4 then [0x3c8] else if off = 0x3cc then [0x3d0] else []
  | .port _ =>
    if off = 0x5c then [0x60, 0x64, 0x68] else if off = 0x64 then [0x68] else if off = 0x80 then [0x84]
    else if off = 0x90 then [0x9c] else if off = 0x10c then [0x110]
    else if off = 0x11c then (List.range 16).map (fun i => 0x120 + 4 * i) else []
  | _ => []

/-- The value that a port has captured for a register. -/
def I3c.captured (x : I3c) (a : Nat) : Option Word := (x.captures.find? (fun e => e.1 == a)).map (fun e => e.2)

/-- What a read captures for its port, every register from the same cycle. -/
def State.captureFor (s : State) (p : I3cPort) (owner : Bool) (a : Nat) : State :=
  (captureTargets (pageOf a) (offOf a)).foldl (fun t off =>
    let b := regAddr (pageOf a) off
    t.modI3c p (fun x => { x with captures := x.captures.set b (s.liveReg owner b) })) s

/-- The registers that read only to the owner (R366). -/
def ownersOnly (a : Nat) : Bool :=
  pageOf a == Page.owner && (let off := offOf a; off == 0x48 || off == 0x4c || off == 0x54 || off == 0x58)

/-- A captured register through a port that has captured nothing yet: TIME_NS reads its reset value (R327), every other one
the live value (DESIGN CHOICE, log entry 114). -/
def State.uncaptured (s : State) (owner : Bool) (a : Nat) : Word :=
  if a = regAddr Page.ledger 0x50 then 0 else s.liveReg owner a

/-- A register read through a port: its word, and what the read leaves (R440, R465, R342). A word that reads a free value
takes the next one; TAGS_PEAK covers what TAGS_IN_FLIGHT has shown (R168). -/
def State.readReg (s : State) (p : I3cPort) (owner : Bool) (a : Nat) : Word × State :=
  if pageOf a = Page.tables ∧ 0x40 ≤ offOf a then
    if offOf a = 0x48 then s.tblRead p else (s.tablesWord p (offOf a), s)
  else if a = regAddr Page.cart 0x74 then (s.infoData, s.infoRead)
  else match (s.i3c p).captured a with
    | .some w => (if ownersOnly a && !owner then 0 else w, s)
    | .none =>
      let s1 := if a = regAddr Page.stream 0x40 then s.notePeak s.lowReading else s
      (s.uncaptured owner a, (s1.captureFor p owner a).spend)

/-- The word that a read command returned, shown in the port's lastRead. -/
def State.readShown (s : State) (p : I3cPort) (a : Nat) : State :=
  let r := s.readReg p false a
  r.2.modI3c p (fun x => { x with lastRead := r.1 })

/-- PORT_POS_READ (R90): the position with its captures. -/
def execPortPosRead (p : I3cPort) (n : Nat) (s : State) : Result := .next (s.readShown p (portReg n 0x5c))

/-- RATIO_STATUS_READ (R120): the status with the ratio words of one cycle. -/
def execRatioStatusRead (p : I3cPort) (n : Nat) (s : State) : Result := .next (s.readShown p (portReg n 0x11c))

/-- LO_REGISTER_READ (R440): a _LO register with its _HI register captured. -/
def execLoRegisterRead (p : I3cPort) (addr : Nat) (s : State) : Result := .next (s.readShown p addr)

/-- INFO_DATA_READ (R342). -/
def execInfoDataRead (p : I3cPort) (s : State) : Result := .next (s.readShown p (regAddr Page.cart 0x74))

/-! ### Written words -/

/-- A write of a register: who, through which port, the mask of bits that it replaces, their values, and the bits that
act on W1C, W1S and WO fields. -/
structure RegWrite where
  who : Writer
  port : I3cPort
  mask : Word
  value : Word
  act : Word
deriving DecidableEq, Repr

/-- A held register's content after the write. -/
def RegWrite.over (w : RegWrite) (old : Word) : Word := (old &&& ~~~w.mask) ||| (w.value &&& w.mask)

/-- The write reaches a bit of a field. -/
def RegWrite.hits (w : RegWrite) (field : Word) : Bool := w.mask &&& field != 0

/-- A plain RW register with its reserved bits dropped. -/
def State.put (s : State) (w : RegWrite) (page off : Nat) (field : Word) : State :=
  s.wr page off (w.over (s.rd page off) &&& field)

/-! ### The page header (R439, R445-R447) -/

/-- PAGE_FLAGS of an EVCHAN page cleared: CH_STAT.FLAG of its channels (R254). -/
def State.clearChannels (s : State) (k : Nat) (set : Word) : State :=
  ((List.range 32).filter (bit set)).foldl (fun s i =>
    s.setChanStat (32 * k + i) (s.reg (chanReg (32 * k + i) 12) &&& ~~~(1 : Word))) s

/-- A header register but PAGE_CTRL written. -/
def State.writeHeader (s : State) (w : RegWrite) (page off : Nat) : State :=
  if off = 0x14 then
    match pageKind page with
    | .evchan k => s.clearChannels k w.act
    | _ => s.clearFlags page w.act
  else if off = 0x18 then s.setIrqen page (w.over (s.pageIrqen page))
  else if off = 0x20 ∧ w.who = .owner then s.put w page off 1
  else s

/-- PAGE_CTRL written (R439): UNIT_RESET alone; else COMMIT, then the REQUEST that the mask reaches. -/
def State.writeCtrl (s : State) (w : RegWrite) (page : Nat) : State :=
  if pagePresent s.part page = false then s
  else if bit w.act 9 then s.unitReset w.port page
  else
    let commit := bit w.act 8
    let s1 := if commit then s.pageCommit page else s
    if w.hits 0xf then
      let s2 := s1.requestValue page (bits (w.over (word (s.pageRequested page).code)) 0 4)
      match pageKind page with
      | .port n => s2.modPort n (fun p => { p with withCommit := commit && p.deliver.isSome })
      | _ => s2
    else s1

/-! ### Port pages (R88, R121, R172-R173, R183, R191-R194, R209, R450) -/

/-- PORT_DIV clamped (R173). -/
def clampDiv (t : PType) (d : Nat) : Nat :=
  match t with
  | .p => max 8 (min 16777216 d)
  | .f => if 1024 ≤ d then 1024 else 2 ^ (Nat.log2 (max 1 d))
  | .d => max 1 (min 65536 d)

/-- PORT_MODE's bits by type (R172), RANGE 3 as 2. -/
def storedMode (t : PType) (w : Word) : Word :=
  match t with
  | .p => let x := w &&& 0xf303; if bits x 8 2 = 3 then setBits x 8 2 2 else x
  | .f => w &&& 0xf003
  | .d => w &&& 0xf013

/-- The bits of PORT_MODE that MODE_PEND stands for, by type (R449, R468). -/
def modeField (t : PType) : Word := match t with | .p => 0x303 | .f => 0x3 | .d => 0x13

/-- PORT_PARK's bits by type (R192). -/
def parkMask (t : PType) : Word := match t with | .p => 0xffffffff | .f => 0x8000ffff | .d => 0x80000001

/-- PORT_UNDERRUN as stored: POLICY 3 reads back as 0 (R89). -/
def storedUnderrun (w : Word) : Word :=
  let x := w &&& 0x0ffffc03
  if bits x 0 2 = 3 then setBits x 0 2 0 else x

/-- A shadow register written: its content, and the pending bits of the field groups that the mask reaches (R450). -/
def State.writeShadow (s : State) (w : RegWrite) (n off : Nat) (new : Word) (groups : List (Word × Nat)) : State :=
  (s.setReg (portReg n off) new).modPort n (fun p => { p with
    shadow := groups.foldl (fun sh g => if w.hits g.1 then sh ||| bitWord g.2 else sh) p.shadow })

/-- A block register of a fitted port's page written. -/
def State.writePort (s : State) (w : RegWrite) (n off : Nat) : State :=
  let pg := Page.port n
  let t := Config.portType n
  let new := w.over (s.rd pg off)
  if portHas t off = false then s
  else if off = 0x44 then s.writeShadow w n off (storedMode t new) [(modeField t, 0), (0xf000, 1)]
  else if off = 0x48 then s.writeShadow w n off (word (clampDiv t (bits new 0 25))) [(0x01ffffff, 2)]
  else if off = 0x4c then s.writeShadow w n off (new &&& 0x3ffff) [(0x3ffff, 3)]
  else if off = 0x50 then s.put w pg off 0xff9f
  else if off = 0x54 then s.put w pg off (parkMask t)
  else if off = 0x58 then s.wr pg off (storedUnderrun new)
  else if off = 0x70 ∨ off = 0x78 then s.writeShadow w n off new [(0xffffffff, 8)]
  else if off = 0x74 ∨ off = 0x7c then s.writeShadow w n off (new &&& 0xffff) [(0xffff, 8)]
  else if off = 0x88 then s.writeShadow w n off new [(0xffffffff, 9)]
  else if off = 0x8c then s.writeShadow w n off (new &&& 0xffff) [(0xffff, 9)]
  else if off = 0x94 then
    let field : Word := match t with | .d => 0xffff | _ => 0xffffffff
    s.writeShadow w n off (new &&& field) [(field, 10)]
  else if off = 0x98 then s.writeShadow w n off new [(0xffffffff, 11)]
  else if off = 0xa0 then (if w.hits 1 then s.writeOutSwitch n (bit new 0) else s)
  else if off = 0xa4 then s.writeTripSel n new
  else if off = 0xb0 then s.wr pg off (word (min (maxTap t) (bits new 0 9)))
  else if off = 0xb8 then s.put w pg off 0xf
  else if isPortHook off then s.writeHook (portReg n off) new w.act
  else if off = 0x160 then s.put w pg off 3
  else if off = 0x164 ∨ off = 0x168 then s.put w pg off 0xffffffff
  else if off = 0x174 then (if bit w.act 0 then s.fireByRegister n else s)
  else s

/-! ### Other pages -/

/-- A block register of a SPARE page written (R212); while the group's rotation is enabled such a write is ignored (R308). -/
def State.writeSpare (s : State) (w : RegWrite) (g off : Nat) : State :=
  let pg := Page.spare g
  if off = 0x40 then s.writeSpareTarget g (w.over (s.rd pg off))
  else if off = 0x44 then
    if s.rotates g then s.refuseSpare g
    else
      let s1 := s.put w pg off 0x10
      let s2 := if bit w.act 0 then s1.substitute g else s1
      if bit w.act 1 then s2.returnSpare g else s2
  else s

/-- A block register of a GROUP page written (R81, R449). -/
def State.writeGroup (s : State) (w : RegWrite) (g off : Nat) : State :=
  if off = 0x40 then
    let s1 := s.put w (Page.group g) off 0x3ffff
    if w.hits 0x3ffff then s1.modGroup g (fun x => { x with shadow := true }) else s1
  else s

/-- FB_INT, FB_NUM or FB_DEN written: FB_PEND (R242, R450). -/
def State.writeRatio (s : State) (w : RegWrite) (off : Nat) (field : Word) : State :=
  let s1 := s.put w Page.clock off field
  if w.hits field then s1.modClock (fun c => { c with pend := true }) else s1

/-- A block register of CLOCK written (R234, R241, R242). -/
def State.writeClock (s : State) (w : RegWrite) (off : Nat) : State :=
  let pg := Page.clock
  if off = 0x40 then s.put w pg off 0xff0f
  else if off = 0x48 then s.writeRatio w off 0xffff
  else if off = 0x4c ∨ off = 0x50 then s.writeRatio w off 0xffffffff
  else if off = 0x58 then
    let s1 := s.put w pg off 3
    if bit w.act 8 then s1.clearBands else s1
  else if off = 0x68 then s.put w pg off 0xf
  else if off = 0x6c then s.wr pg off (word (max 100 (min 1000000 (bits (w.over (s.rd pg off)) 0 20))))
  else if off = 0x80 then (s.put w pg off 0xffff0003).clampDelay
  else if off = 0x84 then
    let s1 := if bit w.act 0 then s.syncArm else s
    if bit w.act 1 then s1.syncFire else s1
  else s

/-- PIN_CTRL written (R157, R170): while an operation runs the register stands; without GO it holds DESC and OP. -/
def State.writePin (s : State) (w : RegWrite) : State :=
  let old := s.rd Page.cache 0x48
  let new := w.over old
  if bit old 31 then s
  else if bit w.act 31 then s.pinStart (bits new 0 18) (bit new 24)
  else s.wr Page.cache 0x48 (new &&& 0x0103ffff)

/-- A block register of CAL written (R325, R326). -/
def State.writeCal (s : State) (w : RegWrite) (off : Nat) : State :=
  let pg := Page.cal
  if off = 0x40 then s.writeCalMode (w.over (s.rd pg off))
  else if off = 0x44 then s.put w pg off 0xffffffff
  else if off = 0x50 ∨ off = 0x54 then s.put w pg off 0xffffff
  else if off = 0x68 then s.put w pg off 0xffff
  else if off = 0x70 then s.writeRotation (w.over (s.rd pg off))
  else if off = 0x74 then
    let s1 := s.put w pg off 0xffff
    if bit w.act 31 then s1.calRebase (bits (s1.rd pg off) 0 16) else s1
  else if off = 0x78 then (if bit w.act 0 then s.legacyStart else s)
  else s

/-- A block register of LEDGER written (R323, R327). -/
def State.writeLedger (s : State) (w : RegWrite) (off : Nat) : State :=
  let pg := Page.ledger
  if off = 0x54 then (if w.hits 0xffffffff then s.timeSet (w.over (s.rd pg off)) else s)
  else if off = 0x60 ∨ off = 0x64 then s.put w pg off 0xffffffff
  else s

/-- How the authentication that a TRANSFER_CTRL.GO starts ends: a free value (DESIGN CHOICE, log entry 24). -/
def State.freeAuth (s : State) : Option AuthFailure :=
  match (Config.freeTime s.free).toNat % 5 with
  | 0 => .none
  | 1 => .some .certificate
  | 2 => .some .signature
  | 3 => .some .bus
  | _ => .some .model

/-- A block register of CART written (R336-R342). -/
def State.writeCart (s : State) (w : RegWrite) (off : Nat) : State :=
  let pg := Page.cart
  if off = 0x48 then
    let s1 := s.put w pg off 0x20
    let s2 := if bit w.act 4 then s1.selectSlot (bits (s1.rd pg off) 5 1) else s1
    if bit w.act 8 then s2.contClear else s2
  else if off = 0x60 then
    let s1 := s.put w pg off 0xffffff00
    let s2 := if bit w.act 0 then (s1.transferStart s1.freeAuth).spend else s1
    if bit w.act 1 then s2.transferFails 4 else s2
  else if off = 0x70 then s.infoSelect (w.over (s.rd pg off))
  else s

/-- A block register of EVENT written (R257-R259, R265). -/
def State.writeEvent (s : State) (w : RegWrite) (off : Nat) : State :=
  let pg := Page.event
  let new := w.over (s.rd pg off)
  if off = 0x44 then s.put w pg off 0xffff
  else if off = 0x50 then s.strobe w.act
  else if off = 0x54 then s.put w pg off 0xffffffff
  else if off = 0x58 then s.firstQuery (bits new 0 9)
  else if 0x60 ≤ off ∧ off < 0xa0 then s.clearChannels ((off - 0x60) / 4) w.act
  else if off = 0xa4 then (if w.hits 1 then s.testCtrl (bit new 0) else s)
  else if 0xc0 ≤ off ∧ off < 0x100 then (if off % 8 = 0 then s.writeHook (regAddr pg off) new w.act else s.put w pg off 0x3ffff)
  else s

/-- A block register of an EVCHAN page written (R261, R262, R267). -/
def State.writeEvchan (s : State) (w : RegWrite) (k off : Nat) : State :=
  if off < 0x40 ∨ 0x240 ≤ off then s
  else if off % 16 = 12 then
    let c := 32 * k + (off - 0x40) / 16
    s.setChanStat c (s.reg (chanReg c 12) &&& ~~~(w.act &&& 3))
  else s.writeChannel w.who (regAddr (Page.evchan k) off) w.mask w.value

/-- A block register of TIMER written (R263, R268). -/
def State.writeTimer (s : State) (w : RegWrite) (off : Nat) : State :=
  let pg := Page.timer
  let new := w.over (s.rd pg off)
  if 0x40 ≤ off ∧ off < 0x240 then
    if off % 16 = 0 then s.put w pg off 0xffff000f else if off % 16 = 12 then s else s.put w pg off 0xffffffff
  else if 0x240 ≤ off ∧ off < 0x3c0 then s.writeHook (regAddr pg off) new w.act
  else if off = 0x3c0 then s.snapTimer (bits new 0 5)
  else if off = 0x3d8 then (timersOf w.act).foldl (fun s t => s.timerStart 0 t) s
  else if off = 0x3dc then (timersOf w.act).foldl State.timerStop s
  else s

/-- A block register of WMON written (R285-R287); blocks of monitors that are not fitted ignore writes. -/
def State.writeWmon (s : State) (w : RegWrite) (off : Nat) : State :=
  let pg := Page.wmon
  let m := (off - 0x40) / 32
  if off < 0x340 then
    if s.monitorFitted m = false then s
    else match off % 32 with
      | 0 => s.writeMonCfg m (w.over (s.rd pg off))
      | 4 => s.put w pg off 0x3fff
      | 8 => s.put w pg off 0x3fff
      | 12 => s.put w pg off 0x9fff
      | 20 => s.put w pg off 0x7f
      | _ => s
  else if off = 0x340 then s.wr pg off (word (max 200 (min 200000 (bits (w.over (s.rd pg off)) 0 18))))
  else s

/-- A block register of TRIP written (R280, R282, R288). -/
def State.writeTrip (s : State) (w : RegWrite) (off : Nat) : State :=
  if off = 0x44 then s.clearTrips (w.act &&& 0xff)
  else if off = 0x48 then s.put w Page.trip off 0xff
  else s

/-- A block register of HOST, SECURITY, TWIN, HEALTH, GLOBAL or OWNER written: held fields as the mask leaves them, W1S
fields from the bits that act. -/
def State.writeSystem (s : State) (w : RegWrite) (page off : Nat) : State :=
  let new := w.over (s.rd page off)
  match pageKind page with
  | .host => s.writeHost off new
  | .security => s.writeSecurity off (if off = 0x50 ∨ off = 0x58 then w.act else new)
  | .twin => if off = 0x40 ∧ w.mask = 0 then s else s.writeTwin off (if off = 0x5c then w.act else new)
  | .health => s.writeHealth off new
  | .global => s.writeGlobal off (if off = 0x80 then w.act else setBits new 0 1 (bits w.act 0 1))
  | .owner => if off = 0x50 then s.writeTimeout new else s
  | _ => s

/-- A register of TABLES written through a port (R347, R463-R466). -/
def State.writeTables (s : State) (w : RegWrite) (off : Nat) : State :=
  let x := s.i3c w.port
  if off = 0x40 then s.tblSel w.port (w.over (word x.tblSel))
  else if off = 0x44 then s.tblIndex w.port (w.over (word x.tblIndex))
  else if off = 0x48 then s.tblWrite w.port (w.over 0)
  else s

/-- A block register of a present page written. -/
def State.writeBlock (s : State) (w : RegWrite) (page off : Nat) : State :=
  match pageKind page with
  | .port n => s.writePort w n off
  | .spare g => s.writeSpare w g off
  | .group g => s.writeGroup w g off
  | .clock => s.writeClock w off
  | .memctl k => if off = 0x40 ∧ w.hits 1 then s.writeForceDouble k (bit (w.over (s.rd page off)) 0) else s
  | .stream =>
    if 0x70 ≤ off ∧ off < 0x80 then s.put w page off 0xffffffff else if off = 0x80 then s.put w page off 0xffff else s
  | .cache => if off = 0x48 then s.writePin w else s
  | .cal => s.writeCal w off
  | .ledger => s.writeLedger w off
  | .cart => s.writeCart w off
  | .event => s.writeEvent w off
  | .evchan k => s.writeEvchan w k off
  | .timer => s.writeTimer w off
  | .wmon => s.writeWmon w off
  | .trip => s.writeTrip w off
  | .tables => s.writeTables w off
  | .clockmon | .none => s
  | _ => s.writeSystem w page off

/-- A register written; absent and unmapped pages, reserved offsets and read-only bits ignore it (R10, R357, R438). -/
def State.writeReg (s : State) (w : RegWrite) (a : Nat) : State :=
  let page := pageOf a
  let off := offOf a
  if pagePresent s.part page = false then s
  else if off = 0x10 then s.writeCtrl w page
  else if off < 0x40 then s.writeHeader w page off
  else s.writeBlock w page off

/-- The words of one envelope applied (R439): pages in the order in which they come, on each page the PAGE_CTRL words
after the others. -/
def State.writeWords (s : State) (words : List (Nat × RegWrite)) : State :=
  let pages := (words.map (fun x => pageOf x.1)).eraseDups
  pages.foldl (fun s p =>
    let mine := words.filter (fun x => pageOf x.1 == p)
    let order := mine.filter (fun x => offOf x.1 != 0x10) ++ mine.filter (fun x => offOf x.1 == 0x10)
    order.foldl (fun s x => s.writeReg x.2 x.1) s) s

/-- REGISTER_WRITE (R447): a register written by the owner through a port. -/
def execRegisterWrite (p : I3cPort) (addr : Nat) (mask value : Word) (s : State) : Result :=
  .next (s.writeReg { who := .owner, port := p, mask := mask, value := value, act := value &&& mask } (addr % 2 ^ 24 / 4 * 4))

end Machine
end Sys2Proof
end

