-- ==== Sys2Proof/Machine/Mirror.lean ====
section
/-! DEFINITION. Mirroring to a follower (R387 step 4, R388, R391, R392): which registers are mirrored, SCHEDULE and CONFIG
messages. -/

namespace Sys2Proof
namespace Machine

/-- The register is mirrored (R388): channels 480-511 stay local, and with them EVCHAN15. -/
def mirrored (a : Nat) : Bool :=
  let off := offOf a
  match pageKind (pageOf a) with
  | .global => off == 0x80
  | .clock => off == 0x10 || (decide (0x40 ≤ off) && off != 0x58 && off != 0x80)
  | .event | .timer | .wmon | .trip | .port _ | .group _ => true
  | .evchan k => k < 15
  | .stream => 0x70 ≤ off && off ≤ 0x80
  | .cache => off == 0x48
  | _ => false

/-- A module that follows in a pair takes what the lead mirrors. -/
def State.takesMirror (s : State) : Bool := s.twin.role == .follow && s.carriesPair

/-- The DIVERGED ports that a mirrored request arms: the port's own, or those of the group (R397). -/
def State.armedDiverged (s : State) (a : Nat) : List Nat :=
  let asks := offOf a == 0x10 && s.twin.phase == .paired && !s.joining
  match pageKind (pageOf a) with
  | .port n => if asks && (s.port n).deliver == .some .armed && s.divergedPorts.contains n then [n] else []
  | .group g => if asks && (s.group g).deliver == .some .armed then (s.named g).filter s.divergedPorts.contains else []
  | _ => []

/-- The follower joins the DIVERGED ports whose ARM on the lead is mirrored (R397). -/
def State.joinArmed (s : State) (a : Nat) : State :=
  match s.armedDiverged a with
  | [] => s
  | l => s.beginJoin l

/-- A scheduled register write, request or commit of the lead, changes of its SAFE map, the parking of a trip (R391,
R392). -/
def State.scheduled (s : State) (c : Scheduled) : State :=
  match c with
  | .write a mask value =>
    if mirrored a then (s.writeReg { who := .twin, port := .a, mask := mask, value := value, act := value &&& mask } a).joinArmed a else s
  | .safeMap pages => s.modTwin (fun t => { t with safePages := pages })
  | .tripPark ports => (ports.filter (Config.portFitted s.part)).foldl State.tripPort s

/-- SCHEDULE_MESSAGE (R391): at its scheduled cycle. -/
def execScheduleMessage (f : LinkFrame) (c : Scheduled) (s : State) : Result :=
  .next (s.frame f false (fun s => if s.takesMirror then s.scheduled c else s))

/-- The values that a mirrored shadow brings are in force on the follower at once (DEDUCED, log entry 25). -/
def State.settleShadow (s : State) (a : Nat) : State :=
  match pageKind (pageOf a) with
  | .port n => if (s.port n).shadow = 0 then s else s.transfer n false
  | .group g => s.commitGroup g
  | .clock =>
    if 0x48 ≤ offOf a ∧ offOf a ≤ 0x50 then
      (s.modClock (fun c => { c with pend := false })).setRatio s.shadowRatio
    else s
  | _ => s

/-- A word, entry, descriptor or bobbin of the lead's configuration (R387 step 4): it acts on no W1C, W1S or WO field. -/
def State.configured (s : State) (c : ConfigItem) : State :=
  match c with
  | .register a value =>
    if mirrored a && offOf a != 0x10 then
      (s.writeReg { who := .twin, port := .a, mask := 0xffffffff, value := value, act := 0 } a).settleShadow a
    else s
  | .entry i value => { s with entries := s.entries.set (i % 262144) (storedEntry value) }
  | .descriptor i value => { s with descs := s.descs.set (i % 262144) (storedDesc value) }
  | .bobbin n size => s.allocate n size

/-- CONFIG_MESSAGE (R387 step 4). -/
def execConfigMessage (f : LinkFrame) (item : ConfigItem) (s : State) : Result :=
  .next (s.frame f false (fun s => if s.takesMirror then s.configured item else s))

end Machine
end Sys2Proof
end

