-- ==== Sys2Proof/Machine/Envelope.lean ====
section
/-! DEFINITION. The command envelope (R344-R347, R354-R359, R429): its layout, the checks in their order, the execution of
each opcode, the reply. -/

namespace Sys2Proof
namespace Machine

/-! ### Layout (R354, R355) -/

/-- The opcodes (R355). -/
inductive Opcode where
  | read
  | write
  | writeMask
  | claim
  | release
  | handover
  | accept
  | heartbeat
  | attest
deriving DecidableEq, Repr

/-- The opcode with a code. -/
def opcodeOf (c : Nat) : Option Opcode :=
  match c with
  | 0x01 => .some .read
  | 0x02 => .some .write
  | 0x03 => .some .writeMask
  | 0x10 => .some .claim
  | 0x11 => .some .release
  | 0x12 => .some .handover
  | 0x13 => .some .accept
  | 0x14 => .some .heartbeat
  | 0x20 => .some .attest
  | _ => .none

/-- The data words that an opcode carries, given COUNT (R355). -/
def Opcode.words (o : Opcode) (count : Nat) : Nat :=
  match o with
  | .write => count
  | .writeMask => count + 1
  | .handover => 2
  | .attest => 8
  | _ => 0

/-- The opcode addresses registers. -/
def Opcode.addresses (o : Opcode) : Bool := match o with | .read | .write | .writeMask => true | _ => false

/-- The opcode writes registers. -/
def Opcode.writes (o : Opcode) : Bool := match o with | .write | .writeMask => true | _ => false

/-- An envelope taken apart. -/
structure Envelope where
  op : Opcode
  fixed : Bool
  addr : Nat
  count : Nat
  token : BitVec 64
  data : List Byte
deriving DecidableEq, Repr

/-- A byte of a list, 0 beyond its end. -/
def byteAt (bytes : List Byte) (i : Nat) : Byte := bytes.getD i 0

/-- Bytes from an offset as a little-endian number. -/
def leField (bytes : List Byte) (from_ n : Nat) : Nat := leValue ((bytes.drop from_).take n)

/-- The fields of an envelope of an opcode (R354). -/
def parse (op : Opcode) (bytes : List Byte) : Envelope :=
  { op := op, fixed := (byteAt bytes 0).getLsbD 7, addr := leField bytes 2 3, count := leField bytes 5 1
    token := BitVec.ofNat 64 (leField bytes 6 8), data := (bytes.drop 14).take (bytes.length - 18) }

/-- A data word. -/
def Envelope.word (e : Envelope) (i : Nat) : Word := wordAt e.data i

/-- The addresses of the envelope's words in order (R357). -/
def Envelope.addrs (e : Envelope) : List Nat := (List.range e.count).map (fun i => if e.fixed then e.addr else e.addr + 4 * i)

/-- The registers that the envelope addresses (R357): none for an opcode that ignores ADDR. -/
def Envelope.addressed (e : Envelope) : List Nat :=
  if e.op.addresses = false then [] else if e.fixed then [e.addr] else e.addrs

/-- The CRC at the end of a list of bytes matches (R354). -/
def crcMatches (bytes : List Byte) : Bool :=
  leField bytes (bytes.length - 4) 4 == (crc32c (bytes.take (bytes.length - 4))).toNat

/-- The length and address rules of check 3 (R356). -/
def Envelope.framed (e : Envelope) (length : Nat) : Bool :=
  length == 18 + 4 * e.op.words e.count &&
    (!e.op.addresses ||
      (decide (1 ≤ e.count ∧ e.count ≤ 64) && e.addr % 4 == 0 &&
        (e.fixed || decide (e.addr + 4 * (e.count - 1) ≤ 0xfffffc))))

/-! ### The checks (R356) -/

/-- A register that the maintenance master may write (R346). -/
def maintenanceReg (a : Nat) : Bool :=
  (chanOf a).isSome || a == regAddr Page.tables 0x40 || a == regAddr Page.tables 0x44

/-- A table selector, which every master may write (R347). -/
def selectorReg (a : Nat) : Bool := a == regAddr Page.tables 0x40 || a == regAddr Page.tables 0x44

/-- Check 4: the port may issue the opcode for these registers (R344, R346). -/
def State.portMay (s : State) (p : I3cPort) (e : Envelope) : Bool :=
  s.ownerCapable p || (match e.op with
    | .claim | .handover | .accept => false
    | .write | .writeMask => e.addressed.all maintenanceReg
    | _ => true)

/-- Check 5: the sender holds the authority (R346, R347, R355, R361, R363). -/
def State.senderMay (s : State) (p : I3cPort) (e : Envelope) : Bool :=
  let owner := s.isOwner p e.token
  match e.op with
  | .read | .attest => true
  | .write | .writeMask => owner || !s.ownerCapable p || e.addressed.all selectorReg
  | .claim =>
    (match s.owner.state with
      | .none | .lapsed => e.token != 0
      | .owned => owner
      | .handover => false)
  | .accept => s.owner.state == .handover && e.token == s.owner.target && s.ownerCapable p
  | .release | .handover | .heartbeat => owner

/-- The mask and the values that a WRITE or WRITE_MASK carries (R355). -/
def Envelope.mask (e : Envelope) : Word := if e.op = .writeMask then e.word 0 else 0xffffffff

/-- The value for the i-th register. -/
def Envelope.value (e : Envelope) (i : Nat) : Word := e.word (if e.op = .writeMask then i + 1 else i)

/-- The table that a port has selected once the envelope's own TBL_SEL words have acted. -/
def State.selAfter (s : State) (p : I3cPort) (e : Envelope) : Nat :=
  let old := word (s.i3c p).tblSel
  match e.addrs.findIdx? (fun a => a == regAddr Page.tables 0x40) with
  | .some i => bits ((old &&& ~~~e.mask) ||| (e.value i &&& e.mask)) 0 3
  | .none => (s.i3c p).tblSel

/-- On a follower a mirrored register or store is not written by an envelope (R388). -/
def State.mirrorHolds (s : State) (p : I3cPort) (e : Envelope) : Bool :=
  s.twin.role == .follow && e.addressed.any (fun a =>
    mirrored a || (a == regAddr Page.tables 0x48 && (let t := s.selAfter p e; t == 0 || t == 1 || t == 6)))

/-- Check 6: the module does not accept this envelope now (R372, R377, R388, R429). -/
def State.busyFor (s : State) (p : I3cPort) (e : Envelope) : Bool :=
  let read := e.op == .read
  let attest := e.op == .attest
  if s.life.state = .halted then !(read || (attest && s.life.halt == 3)) || (attest && s.security.attest == .busy)
  else if s.paused then !read
  else if attest then s.security.attest == .busy
  else if s.life.bindoff = .running then !read
  else if e.op.writes = false then false
  else match s.life.state with
    | .clocking => !e.addressed.all (fun a =>
        pageOf a == Page.owner || pageOf a == Page.clock || a == regAddr Page.twin 0x40)
    | .memory => !e.addressed.all (fun a => pageOf a == Page.owner)
    | _ => s.mirrorHolds p e

/-- Checks 1 to 3: the CRC, the opcode, the length and the address (R356). -/
def wellFramed (bytes : List Byte) : Except Nat Envelope :=
  if bytes.length < 18 ∨ crcMatches bytes = false then .error 2
  else match opcodeOf ((byteAt bytes 0).toNat % 64) with
    | .none => .error 4
    | .some op => if (parse op bytes).framed bytes.length = false then .error 2 else .ok (parse op bytes)

/-- What the checks decide: the STATUS of the first that fails, or the envelope (R356). -/
def State.check (s : State) (p : I3cPort) (bytes : List Byte) : Except Nat Envelope :=
  match wellFramed bytes with
  | .error status => .error status
  | .ok e =>
    if s.portMay p e = false then .error 5
    else if s.senderMay p e = false then .error 1
    else if s.busyFor p e then .error 3
    else .ok e

/-- An envelope from the owner that passes checks 1 to 3 restarts the heartbeat timer (R365). -/
def State.hearOwner (s : State) (p : I3cPort) (bytes : List Byte) : State :=
  match wellFramed bytes with
  | .ok e => if s.isOwner p e.token then { s with owner := { s.owner with heard := 0 } } else s
  | .error _ => s

/-! ### Execution (R355, R357) -/

/-- READ: the words in order. In HALTED for reasons 1 and 2 the boot ROM shows GLOBAL, SECURITY and HEALTH alone (R429). -/
def State.doRead (s : State) (p : I3cPort) (e : Envelope) : List Word × State :=
  let rom := s.life.state == .halted && s.life.halt != 3
  let owner := s.isOwner p e.token
  e.addrs.foldl (fun (r : List Word × State) a =>
    let page := pageOf a
    if rom && !(page == Page.global || page == Page.security || page == Page.health) then (r.1 ++ [0], r.2)
    else
      let x := r.2.readReg p owner a
      (r.1 ++ [x.1], x.2)) ([], s)

/-- WRITE and WRITE_MASK: every word applied (R357, R439). -/
def State.doWrite (s : State) (p : I3cPort) (e : Envelope) : State :=
  let who : Writer := if s.isOwner p e.token then .owner else .maintenance
  let mask := e.mask
  s.writeWords ((List.range e.count).map (fun i =>
    let v := e.value i
    (if e.fixed then e.addr else e.addr + 4 * i, { who := who, port := p, mask := mask, value := v, act := v &&& mask })))

/-- An envelope that passed every check carried out: its reply words and what it leaves. -/
def State.perform (s : State) (p : I3cPort) (e : Envelope) : List Word × State :=
  match e.op with
  | .read => s.doRead p e
  | .write | .writeMask => ([], s.doWrite p e)
  | .claim => ([], s.claim p e.token)
  | .release => ([], s.releaseOwner)
  | .handover => ([], s.handover (BitVec.ofNat 64 ((e.word 0).toNat + 2 ^ 32 * (e.word 1).toNat)))
  | .accept => ([], s.accept p e.token)
  | .heartbeat => ([], s)
  | .attest =>
    let t := s.startReport e.data
    ([word t.security.reportSeq], t)

/-- The bytes of a reply (R356). -/
def replyBytes (opc seq : Byte) (status : Nat) (words : List Word) : List Byte :=
  let body := [opc, seq, BitVec.ofNat 8 status, 0] ++ (words.map (fun w => leBytes 4 w.toNat)).flatten
  body ++ leBytes 4 (crc32c body).toNat

/-- A reply that is not OK counted on HOST, with its flag (R356, R380). -/
def State.countRefusal (s : State) (status : Nat) : State :=
  if status = 2 then (s.countField Page.host 0x48 0 16 1).flag Page.host 0
  else if status = 4 then (s.countField Page.host 0x48 16 16 1).flag Page.host 0
  else if status = 3 then (s.countField Page.host 0x4c 16 16 1).flag Page.host 1
  else (s.countField Page.host 0x4c 0 16 1).flag Page.host 1

/-- The deliveries of a global commit made: no envelope is executed before the last (R455). -/
def State.finishCommits (s : State) : State :=
  if s.committing = false then s
  else
    let s1 := (fittedPorts s.part).foldl (fun s n =>
      if (s.port n).commit then ((s.modPort n (fun p => { p with commit := false })).latchTransfer n false).commitOn else s) s
    if s1.clock.commit then s1.clockTransfer else s1

/-- An envelope on a port that answers (R354-R359): its reply stands until the next; one that repeats the last envelope
executed returns that one's reply. A reset that it orders leaves no reply. -/
def State.answer (s : State) (p : I3cPort) (bytes : List Byte) : State :=
  let opc := if bytes.length < 2 then 0 else byteAt bytes 0
  let seq := if bytes.length < 2 then 0 else byteAt bytes 1
  match (s.i3c p).executed.filter (fun x => x.1 == bytes) with
  | .some x => s.modI3c p (fun y => { y with reply := .some x.2 })
  | .none =>
    match s.check p bytes with
    | .error status => (s.countRefusal status).modI3c p (fun x => { x with reply := .some (replyBytes opc seq status []) })
    | .ok e =>
      let r := s.perform p e
      let out := replyBytes opc seq 0 r.1
      if r.2.life.reset then r.2
      else r.2.modI3c p (fun x => { x with reply := .some out, executed := .some (bytes, out) })

/-- An envelope received (R349, R350, R362, R365, R409, R455): NACKed by a port that takes no private transfer. -/
def State.envelope (s : State) (p : I3cPort) (bytes : List Byte) : State :=
  if s.takesPrivate p = false then s
  else ((s.finishCommits.ownerDue.hearOwner p bytes).modI3c p (fun x => { x with hdrEnvelope := x.hdr, hdr := false })).answer p
    bytes

/-! ### Commands -/

/-- READ (R357): an envelope whose OPC names it. -/
def execRead (p : I3cPort) (bytes : List Byte) (s : State) : Result := .next (s.envelope p bytes)

/-- WRITE (R357). -/
def execWrite (p : I3cPort) (bytes : List Byte) (s : State) : Result := .next (s.envelope p bytes)

/-- WRITE_MASK (R355). -/
def execWriteMask (p : I3cPort) (bytes : List Byte) (s : State) : Result := .next (s.envelope p bytes)

/-- CLAIM (R363). -/
def execClaim (p : I3cPort) (bytes : List Byte) (s : State) : Result := .next (s.envelope p bytes)

/-- RELEASE (R363). -/
def execRelease (p : I3cPort) (bytes : List Byte) (s : State) : Result := .next (s.envelope p bytes)

/-- HANDOVER (R363). -/
def execHandover (p : I3cPort) (bytes : List Byte) (s : State) : Result := .next (s.envelope p bytes)

/-- ACCEPT (R363). -/
def execAccept (p : I3cPort) (bytes : List Byte) (s : State) : Result := .next (s.envelope p bytes)

/-- HEARTBEAT (R365). -/
def execHeartbeat (p : I3cPort) (bytes : List Byte) (s : State) : Result := .next (s.envelope p bytes)

/-- ATTEST (R372). -/
def execAttest (p : I3cPort) (bytes : List Byte) (s : State) : Result := .next (s.envelope p bytes)

/-- NO_SUCH_OPCODE (R356): an envelope whose OPC names no opcode, or that is too short to name one. -/
def execNoSuchOpcode (p : I3cPort) (bytes : List Byte) (s : State) : Result := .next (s.envelope p bytes)

/-- REPLY_READ (R358): a private read; the reply is returned, and stays until the next envelope completes. -/
def execReplyRead (p : I3cPort) (s : State) : Result :=
  .next (if s.takesPrivate p then s.modI3c p (fun x => { x with hdr := false }) else s)

end Machine
end Sys2Proof
end

