-- ==== Sys2Proof/Machine/Dispatch.lean ====
section
/-! DEFINITION. Which meaning each command has: one arm for each command. -/

namespace Sys2Proof
namespace Machine

/-- What a command does to everything but the queue. -/
def exec (i : Instr) (s : State) : Host.Outcome State Fault Refusal :=
  match i with
  | .read p bytes => Sys2Proof.Machine.execRead p bytes s
  | .write p bytes => Sys2Proof.Machine.execWrite p bytes s
  | .writeMask p bytes => Sys2Proof.Machine.execWriteMask p bytes s
  | .claim p bytes => Sys2Proof.Machine.execClaim p bytes s
  | .release p bytes => Sys2Proof.Machine.execRelease p bytes s
  | .handover p bytes => Sys2Proof.Machine.execHandover p bytes s
  | .accept p bytes => Sys2Proof.Machine.execAccept p bytes s
  | .heartbeat p bytes => Sys2Proof.Machine.execHeartbeat p bytes s
  | .attest p bytes => Sys2Proof.Machine.execAttest p bytes s
  | .replyRead p => Sys2Proof.Machine.execReplyRead p s
  | .enec p => Sys2Proof.Machine.execEnec p s
  | .disec p => Sys2Proof.Machine.execDisec p s
  | .rstdaa p => Sys2Proof.Machine.execRstdaa p s
  | .entdaa p address => Sys2Proof.Machine.execEntdaa p address s
  | .setdasa p static address => Sys2Proof.Machine.execSetdasa p static address s
  | .setnewda p address => Sys2Proof.Machine.execSetnewda p address s
  | .getpid p => Sys2Proof.Machine.execGetpid p s
  | .getbcr p => Sys2Proof.Machine.execGetbcr p s
  | .getdcr p => Sys2Proof.Machine.execGetdcr p s
  | .getcaps p => Sys2Proof.Machine.execGetcaps p s
  | .enthdr0 p => Sys2Proof.Machine.execEnthdr0 p s
  | .getstatus p => Sys2Proof.Machine.execGetstatus p s
  | .getmwl p => Sys2Proof.Machine.execGetmwl p s
  | .getmrl p => Sys2Proof.Machine.execGetmrl p s
  | .setmwl p value => Sys2Proof.Machine.execSetmwl p value s
  | .setmrl p value => Sys2Proof.Machine.execSetmrl p value s
  | .rstact p defining get => Sys2Proof.Machine.execRstact p defining get s
  | .targetResetPattern p => Sys2Proof.Machine.execTargetResetPattern p s
  | .ibiDelivery p acked => Sys2Proof.Machine.execIbiDelivery p acked s
  | .bulkWriteTlp addr bytes => Sys2Proof.Machine.execBulkWriteTlp addr bytes s
  | .bulkReadTlp addr length reads => Sys2Proof.Machine.execBulkReadTlp addr length reads s
  | .postedWriteDrain oldUnreadable => Sys2Proof.Machine.execPostedWriteDrain oldUnreadable s
  | .pePerst level => Sys2Proof.Machine.execPePerst level s
  | .bulkLinkDown => Sys2Proof.Machine.execBulkLinkDown s
  | .jtagIdcode => Sys2Proof.Machine.execJtagIdcode s
  | .jtagBypass => Sys2Proof.Machine.execJtagBypass s
  | .jtagSamplePreload => Sys2Proof.Machine.execJtagSamplePreload s
  | .jtagExtest => Sys2Proof.Machine.execJtagExtest s
  | .registerWrite p addr mask value => Sys2Proof.Machine.execRegisterWrite p addr mask value s
  | .requestOff page => Sys2Proof.Machine.execRequestOff page s
  | .requestParked page => Sys2Proof.Machine.execRequestParked page s
  | .requestArmed page => Sys2Proof.Machine.execRequestArmed page s
  | .requestRun page => Sys2Proof.Machine.execRequestRun page s
  | .requestPaused page => Sys2Proof.Machine.execRequestPaused page s
  | .requestDelivery page => Sys2Proof.Machine.execRequestDelivery page s
  | .pageCommit page => Sys2Proof.Machine.execPageCommit page s
  | .commitAll => Sys2Proof.Machine.execCommitAll s
  | .commitDelivery n => Sys2Proof.Machine.execCommitDelivery n s
  | .transferEffect n => Sys2Proof.Machine.execTransferEffect n s
  | .unitReset p page => Sys2Proof.Machine.execUnitReset p page s
  | .tblDataWrite p value => Sys2Proof.Machine.execTblDataWrite p value s
  | .tblDataRead p => Sys2Proof.Machine.execTblDataRead p s
  | .tblSelWrite p value => Sys2Proof.Machine.execTblSelWrite p value s
  | .tblIndexWrite p value => Sys2Proof.Machine.execTblIndexWrite p value s
  | .portPosRead p n => Sys2Proof.Machine.execPortPosRead p n s
  | .ratioStatusRead p n => Sys2Proof.Machine.execRatioStatusRead p n s
  | .loRegisterRead p addr => Sys2Proof.Machine.execLoRegisterRead p addr s
  | .infoSelWrite value => Sys2Proof.Machine.execInfoSelWrite value s
  | .infoDataRead p => Sys2Proof.Machine.execInfoDataRead p s
  | .swStrobe value => Sys2Proof.Machine.execSwStrobe value s
  | .firstQuery channel => Sys2Proof.Machine.execFirstQuery channel s
  | .snapSel t => Sys2Proof.Machine.execSnapSel t s
  | .timerStart value => Sys2Proof.Machine.execTimerStart value s
  | .timerStop value => Sys2Proof.Machine.execTimerStop value s
  | .testCtrlSingle on => Sys2Proof.Machine.execTestCtrlSingle on s
  | .channelConfigWrite who addr mask value => Sys2Proof.Machine.execChannelConfigWrite who addr mask value s
  | .tripClear value => Sys2Proof.Machine.execTripClear value s
  | .tripForce value => Sys2Proof.Machine.execTripForce value s
  | .tripSelWrite n mask value => Sys2Proof.Machine.execTripSelWrite n mask value s
  | .outSwitchWrite n close => Sys2Proof.Machine.execOutSwitchWrite n close s
  | .syncArm => Sys2Proof.Machine.execSyncArm s
  | .syncFire => Sys2Proof.Machine.execSyncFire s
  | .bandTableClear => Sys2Proof.Machine.execBandTableClear s
  | .forceDoubleWrite k on => Sys2Proof.Machine.execForceDoubleWrite k on s
  | .pin desc => Sys2Proof.Machine.execPin desc s
  | .unpin desc => Sys2Proof.Machine.execUnpin desc s
  | .pinComplete reads => Sys2Proof.Machine.execPinComplete reads s
  | .spareTargetWrite g value => Sys2Proof.Machine.execSpareTargetWrite g value s
  | .substitute g => Sys2Proof.Machine.execSubstitute g s
  | .returnPort g => Sys2Proof.Machine.execReturnPort g s
  | .groupEnWrite value => Sys2Proof.Machine.execGroupEnWrite value s
  | .calRebase item => Sys2Proof.Machine.execCalRebase item s
  | .legacyCtrlGo => Sys2Proof.Machine.execLegacyCtrlGo s
  | .select slot => Sys2Proof.Machine.execSelect slot s
  | .contClear => Sys2Proof.Machine.execContClear s
  | .transferGo failure => Sys2Proof.Machine.execTransferGo failure s
  | .transferAbort => Sys2Proof.Machine.execTransferAbort s
  | .attestStart => Sys2Proof.Machine.execAttestStart s
  | .load => Sys2Proof.Machine.execLoad s
  | .switch => Sys2Proof.Machine.execSwitch s
  | .confirm => Sys2Proof.Machine.execConfirm s
  | .revert => Sys2Proof.Machine.execRevert s
  | .cancel => Sys2Proof.Machine.execCancel s
  | .swap => Sys2Proof.Machine.execSwap s
  | .join => Sys2Proof.Machine.execJoin s
  | .abortJoin => Sys2Proof.Machine.execAbortJoin s
  | .twinRoleWrite value => Sys2Proof.Machine.execTwinRoleWrite value s
  | .bindoffGo => Sys2Proof.Machine.execBindoffGo s
  | .timeSet seconds => Sys2Proof.Machine.execTimeSet seconds s
  | .pulseFire n => Sys2Proof.Machine.execPulseFire n s
  | .monitorEnable m => Sys2Proof.Machine.execMonitorEnable m s
  | .monitorDisable m => Sys2Proof.Machine.execMonitorDisable m s
  | .syncEnWrite m on => Sys2Proof.Machine.execSyncEnWrite m on s
  | .fabricEvent more => Sys2Proof.Machine.execFabricEvent more s
  | .trigEdge k level => Sys2Proof.Machine.execTrigEdge k level s
  | .ppsEdge level => Sys2Proof.Machine.execPpsEdge level s
  | .hookJump n j => Sys2Proof.Machine.execHookJump n j s
  | .hookStart n => Sys2Proof.Machine.execHookStart n s
  | .hookStop n => Sys2Proof.Machine.execHookStop n s
  | .hookPause n => Sys2Proof.Machine.execHookPause n s
  | .hookNco n => Sys2Proof.Machine.execHookNco n s
  | .hookCommit n => Sys2Proof.Machine.execHookCommit n s
  | .hookTstart t => Sys2Proof.Machine.execHookTstart t s
  | .hookTstop t => Sys2Proof.Machine.execHookTstop t s
  | .hookTcapt t => Sys2Proof.Machine.execHookTcapt t s
  | .gcHook u => Sys2Proof.Machine.execGcHook u s
  | .timerWindowOpen t => Sys2Proof.Machine.execTimerWindowOpen t s
  | .timerExpire t => Sys2Proof.Machine.execTimerExpire t s
  | .commitPoint u badEntries => Sys2Proof.Machine.execCommitPoint u badEntries s
  | .passEnd u errs => Sys2Proof.Machine.execPassEnd u errs s
  | .startEffect u errs => Sys2Proof.Machine.execStartEffect u errs s
  | .pauseEffect u errs => Sys2Proof.Machine.execPauseEffect u errs s
  | .stopEffect u errs => Sys2Proof.Machine.execStopEffect u errs s
  | .immediateJumpEffect u errs => Sys2Proof.Machine.execImmediateJumpEffect u errs s
  | .waitRelease u errs => Sys2Proof.Machine.execWaitRelease u errs s
  | .waitTimeout u errs => Sys2Proof.Machine.execWaitTimeout u errs s
  | .gapEnd u errs => Sys2Proof.Machine.execGapEnd u errs s
  | .selvedgeEnd u errs => Sys2Proof.Machine.execSelvedgeEnd u errs s
  | .missingSlot u errs => Sys2Proof.Machine.execMissingSlot u errs s
  | .underrunRecovery n errs => Sys2Proof.Machine.execUnderrunRecovery n errs s
  | .fetchRequest n => Sys2Proof.Machine.execFetchRequest n s
  | .readComplete n severity overBound => Sys2Proof.Machine.execReadComplete n severity overBound s
  | .refetchComplete n severity late overBound => Sys2Proof.Machine.execRefetchComplete n severity late overBound s
  | .stagingComplete u reads => Sys2Proof.Machine.execStagingComplete u reads s
  | .delayTapMove n => Sys2Proof.Machine.execDelayTapMove n s
  | .powerDownComplete n => Sys2Proof.Machine.execPowerDownComplete n s
  | .powerUpComplete n => Sys2Proof.Machine.execPowerUpComplete n s
  | .isolationSwitchStep n => Sys2Proof.Machine.execIsolationSwitchStep n s
  | .pulseLeadingEdge n => Sys2Proof.Machine.execPulseLeadingEdge n s
  | .pulseEnd n => Sys2Proof.Machine.execPulseEnd n s
  | .refreshTick k => Sys2Proof.Machine.execRefreshTick k s
  | .refreshIssue k tapSteps => Sys2Proof.Machine.execRefreshIssue k tapSteps s
  | .forcedBatch k tapSteps => Sys2Proof.Machine.execForcedBatch k tapSteps s
  | .stackTempReading k celsius => Sys2Proof.Machine.execStackTempReading k celsius s
  | .crossingBatch k tapSteps => Sys2Proof.Machine.execCrossingBatch k tapSteps s
  | .parityAlert k pc failures errorsInMs => Sys2Proof.Machine.execParityAlert k pc failures errorsInMs s
  | .trainingComplete k ok => Sys2Proof.Machine.execTrainingComplete k ok s
  | .refDetected khz => Sys2Proof.Machine.execRefDetected khz s
  | .clockTransfer => Sys2Proof.Machine.execClockTransfer s
  | .refRemeasure khz => Sys2Proof.Machine.execRefRemeasure khz s
  | .lockRunStart => Sys2Proof.Machine.execLockRunStart s
  | .bandFallback => Sys2Proof.Machine.execBandFallback s
  | .lockRunComplete rootCycles => Sys2Proof.Machine.execLockRunComplete rootCycles s
  | .guardEnd overshoot => Sys2Proof.Machine.execGuardEnd overshoot s
  | .firstLock => Sys2Proof.Machine.execFirstLock s
  | .relockRefLoss => Sys2Proof.Machine.execRelockRefLoss s
  | .relockRefResume => Sys2Proof.Machine.execRelockRefResume s
  | .lossOfReference => Sys2Proof.Machine.execLossOfReference s
  | .lossOfLock => Sys2Proof.Machine.execLossOfLock s
  | .returnQualified rootMilli phasePs => Sys2Proof.Machine.execReturnQualified rootMilli phasePs s
  | .slewEnd => Sys2Proof.Machine.execSlewEnd s
  | .stepCorrectionEnd => Sys2Proof.Machine.execStepCorrectionEnd s
  | .clockmonWindowEnd readings => Sys2Proof.Machine.execClockmonWindowEnd readings s
  | .syncEdge level => Sys2Proof.Machine.execSyncEdge level s
  | .alignmentEpoch heldLock => Sys2Proof.Machine.execAlignmentEpoch heldLock s
  | .comparatorChange m microvolts => Sys2Proof.Machine.execComparatorChange m microvolts s
  | .thresholdStep m upper => Sys2Proof.Machine.execThresholdStep m upper s
  | .blankingEnd m => Sys2Proof.Machine.execBlankingEnd m s
  | .sampledTick m microvolts => Sys2Proof.Machine.execSampledTick m microvolts s
  | .tripLineAssert k => Sys2Proof.Machine.execTripLineAssert k s
  | .tripLatch k => Sys2Proof.Machine.execTripLatch k s
  | .tripPark n errs => Sys2Proof.Machine.execTripPark n errs s
  | .wakeRequest m => Sys2Proof.Machine.execWakeRequest m s
  | .swatchStart adc readback => Sys2Proof.Machine.execSwatchStart adc readback s
  | .swatchPoint adc readback value noise => Sys2Proof.Machine.execSwatchPoint adc readback value noise s
  | .swatchEnd adc => Sys2Proof.Machine.execSwatchEnd adc s
  | .trimTap => Sys2Proof.Machine.execTrimTap s
  | .targetRecompute readings => Sys2Proof.Machine.execTargetRecompute readings s
  | .rotationStep g => Sys2Proof.Machine.execRotationStep g s
  | .legacyPass => Sys2Proof.Machine.execLegacyPass s
  | .legacyRelease adc => Sys2Proof.Machine.execLegacyRelease adc s
  | .lifelineCommitStart => Sys2Proof.Machine.execLifelineCommitStart s
  | .lifelineCommitComplete ok => Sys2Proof.Machine.execLifelineCommitComplete ok s
  | .ledgerEntryProgram => Sys2Proof.Machine.execLedgerEntryProgram s
  | .ledgerSecond => Sys2Proof.Machine.execLedgerSecond s
  | .cartridgeInsert slot => Sys2Proof.Machine.execCartridgeInsert slot s
  | .cartridgeRemove slot => Sys2Proof.Machine.execCartridgeRemove slot s
  | .authenticationComplete slot result => Sys2Proof.Machine.execAuthenticationComplete slot result s
  | .reauthentication slot failure => Sys2Proof.Machine.execReauthentication slot failure s
  | .ovenReading slot milliK => Sys2Proof.Machine.execOvenReading slot milliK s
  | .ovenReadingTimeout slot => Sys2Proof.Machine.execOvenReadingTimeout slot s
  | .lifeLogUpdate slot shocks peakMilliC => Sys2Proof.Machine.execLifeLogUpdate slot shocks peakMilliC s
  | .transferPoint ratioE15 inWindow => Sys2Proof.Machine.execTransferPoint ratioE15 inWindow s
  | .transferSwitch => Sys2Proof.Machine.execTransferSwitch s
  | .transferTimeout => Sys2Proof.Machine.execTransferTimeout s
  | .lapse => Sys2Proof.Machine.execLapse s
  | .handoverExpiry => Sys2Proof.Machine.execHandoverExpiry s
  | .attestReportReady => Sys2Proof.Machine.execAttestReportReady s
  | .fwVerifyComplete signed reads => Sys2Proof.Machine.execFwVerifyComplete signed reads s
  | .fwProgramComplete ok => Sys2Proof.Machine.execFwProgramComplete ok s
  | .quiescentPoint => Sys2Proof.Machine.execQuiescentPoint s
  | .quietTimeout => Sys2Proof.Machine.execQuietTimeout s
  | .newImageStart ok => Sys2Proof.Machine.execNewImageStart ok s
  | .linkTrained => Sys2Proof.Machine.execLinkTrained s
  | .linkLoss => Sys2Proof.Machine.execLinkLoss s
  | .twinHeartbeat f c => Sys2Proof.Machine.execTwinHeartbeat f c s
  | .faultMessage f sources leadRelease => Sys2Proof.Machine.execFaultMessage f sources leadRelease s
  | .scheduleMessage f c => Sys2Proof.Machine.execScheduleMessage f c s
  | .digestMessage f entries => Sys2Proof.Machine.execDigestMessage f entries s
  | .epochMessage f => Sys2Proof.Machine.execEpochMessage f s
  | .swapMessage f => Sys2Proof.Machine.execSwapMessage f s
  | .joinMessage f records batch => Sys2Proof.Machine.execJoinMessage f records batch s
  | .configMessage f item => Sys2Proof.Machine.execConfigMessage f item s
  | .idleMessage f => Sys2Proof.Machine.execIdleMessage f s
  | .digestWindow => Sys2Proof.Machine.execDigestWindow s
  | .leadActAcquire => Sys2Proof.Machine.execLeadActAcquire s
  | .watchdogRelease => Sys2Proof.Machine.execWatchdogRelease s
  | .heartbeatLoss => Sys2Proof.Machine.execHeartbeatLoss s
  | .takeover => Sys2Proof.Machine.execTakeover s
  | .takeoverForceClose => Sys2Proof.Machine.execTakeoverForceClose s
  | .pairFormation => Sys2Proof.Machine.execPairFormation s
  | .followerLock => Sys2Proof.Machine.execFollowerLock s
  | .swapPrepare => Sys2Proof.Machine.execSwapPrepare s
  | .swapInstant => Sys2Proof.Machine.execSwapInstant s
  | .swapForceClose => Sys2Proof.Machine.execSwapForceClose s
  | .swapRelease => Sys2Proof.Machine.execSwapRelease s
  | .joinCapture => Sys2Proof.Machine.execJoinCapture s
  | .joinLoad => Sys2Proof.Machine.execJoinLoad s
  | .healthCheck seen => Sys2Proof.Machine.execHealthCheck seen s
  | .recoveryRewrite page => Sys2Proof.Machine.execRecoveryRewrite page s
  | .recoveryResume page => Sys2Proof.Machine.execRecoveryResume page s
  | .stageFault n => Sys2Proof.Machine.execStageFault n s
  | .spareStageFault g => Sys2Proof.Machine.execSpareStageFault g s
  | .spareSettled g => Sys2Proof.Machine.execSpareSettled g s
  | .handoverConnect g => Sys2Proof.Machine.execHandoverConnect g s
  | .handoverComplete g => Sys2Proof.Machine.execHandoverComplete g s
  | .hkWatchdogExpiry => Sys2Proof.Machine.execHkWatchdogExpiry s
  | .hkRestartComplete => Sys2Proof.Machine.execHkRestartComplete s
  | .thermalCheck readings => Sys2Proof.Machine.execThermalCheck readings s
  | .analogRailLow r => Sys2Proof.Machine.execAnalogRailLow r s
  | .analogRailRestored r => Sys2Proof.Machine.execAnalogRailRestored r s
  | .suppliesValid => Sys2Proof.Machine.execSuppliesValid s
  | .rstNLow => Sys2Proof.Machine.execRstNLow s
  | .brownOut r => Sys2Proof.Machine.execBrownOut r s
  | .resetEnd => Sys2Proof.Machine.execResetEnd s
  | .firmwareStart => Sys2Proof.Machine.execFirmwareStart s
  | .castOnReady => Sys2Proof.Machine.execCastOnReady s
  | .bindoffDone => Sys2Proof.Machine.execBindoffDone s
  | .slotBoundary u errs => Sys2Proof.Machine.execSlotBoundary u errs s
  | .senseOpen n => Sys2Proof.Machine.execSenseOpen n s
  | .currentLimit n => Sys2Proof.Machine.execCurrentLimit n s
  | .bulkLinkUp generation lanes => Sys2Proof.Machine.execBulkLinkUp generation lanes s
  | .ppsLost => Sys2Proof.Machine.execPpsLost s
  | .noSuchOpcode p bytes => Sys2Proof.Machine.execNoSuchOpcode p bytes s

end Machine
end Sys2Proof
end

