-- ==== Sys2Proof/Safety.lean ====
section
/-! DEFINITION. The terms that statements use: the areas of the state a command may change, the invariant of the
waveform memory, and a run that never stops. -/

namespace Sys2Proof
namespace Machine

/-- The areas of the state: its fields. -/
inductive Area where
  | part
  | cycle
  | free
  | regs
  | ports
  | groups
  | spares
  | descs
  | entries
  | wave
  | memctl
  | copies
  | bobbins
  | fabric
  | timers
  | i3cA
  | i3cB
  | owner
  | bulk
  | security
  | ledger
  | faults
  | cal
  | monitors
  | trips
  | clock
  | cart
  | twin
  | health
  | life
  | nv
  | pins
  | pending
deriving DecidableEq, Repr

/-- An area holds in t what it holds in s. -/
def State.sameIn (s t : State) : Area → Prop
  | .part => t.part = s.part
  | .cycle => t.cycle = s.cycle
  | .free => t.free = s.free
  | .regs => t.regs = s.regs
  | .ports => t.ports = s.ports
  | .groups => t.groups = s.groups
  | .spares => t.spares = s.spares
  | .descs => t.descs = s.descs
  | .entries => t.entries = s.entries
  | .wave => t.wave = s.wave
  | .memctl => t.memctl = s.memctl
  | .copies => t.copies = s.copies
  | .bobbins => t.bobbins = s.bobbins
  | .fabric => t.fabric = s.fabric
  | .timers => t.timers = s.timers
  | .i3cA => t.i3cA = s.i3cA
  | .i3cB => t.i3cB = s.i3cB
  | .owner => t.owner = s.owner
  | .bulk => t.bulk = s.bulk
  | .security => t.security = s.security
  | .ledger => t.ledger = s.ledger
  | .faults => t.faults = s.faults
  | .cal => t.cal = s.cal
  | .monitors => t.monitors = s.monitors
  | .trips => t.trips = s.trips
  | .clock => t.clock = s.clock
  | .cart => t.cart = s.cart
  | .twin => t.twin = s.twin
  | .health => t.health = s.health
  | .life => t.life = s.life
  | .nv => t.nv = s.nv
  | .pins => t.pins = s.pins
  | .pending => t.pending = s.pending

/-- From s to t nothing changes outside the areas listed. -/
def State.changesOnly (s t : State) (l : List Area) : Prop := ∀ a, a ∉ l → s.sameIn t a

/-- A command, run in s, answers a next state of which P holds. -/
def Yields (c : Instr) (s : State) (P : State → Prop) : Prop := ∃ t, exec c s = .next t ∧ P t

/-- The waveform memory is in its canonical form. -/
def State.memoryCanonical (s : State) : Prop := Memory.wf s.wave = true

/-- A run of the module from s goes on for k steps: no step of it stops. -/
def RunsOn : Nat → State → Prop
  | 0, _ => True
  | k + 1, s => ∃ t, step s = .next t ∧ RunsOn k t

/-! ### What stays, unit by unit -/

/-- Every register but those at the addresses listed keeps its word. -/
def State.regsBut (s t : State) (l : List Nat) : Prop := ∀ a, a ∉ l → t.reg a = s.reg a

/-- Every port but those listed is as before. -/
def State.portsBut (s t : State) (l : List Nat) : Prop := ∀ n, n ∉ l → t.port n = s.port n

/-- Every stitch group but those listed is as before. -/
def State.groupsBut (s t : State) (l : List Nat) : Prop := ∀ g, g ∉ l → t.group g = s.group g

/-- Every spare but those listed is as before. -/
def State.sparesBut (s t : State) (l : List Nat) : Prop := ∀ g, g ∉ l → t.spare g = s.spare g

/-- Every timer but those listed is as before. -/
def State.timersBut (s t : State) (l : List Nat) : Prop := ∀ k, k ∉ l → t.timer k = s.timer k

/-- Every stack but those listed is as before. -/
def State.stacksBut (s t : State) (l : List Nat) : Prop := ∀ k, k ∉ l → t.stack k = s.stack k

/-- Every monitor but those listed is as before. -/
def State.monitorsBut (s t : State) (l : List Nat) : Prop := ∀ m, m ∉ l → t.monitor m = s.monitor m

/-- The flags of a page after some of its bits were set: those bits and the ones set before. -/
def State.flagged (s t : State) (page : Nat) (w : Word) : Prop := t.rd page 0x14 = s.rd page 0x14 ||| w

/-- The commands through which a byte of the waveform memory can change: the drain of the posted-write buffer, and those
that reset the module, whose memory then holds nothing that was written (DESIGN CHOICE, log entry 2). -/
def Instr.reachesMemory : Instr → Bool
  | .postedWriteDrain _ => true
  | .read _ _ => true
  | .write _ _ => true
  | .writeMask _ _ => true
  | .claim _ _ => true
  | .release _ _ => true
  | .handover _ _ => true
  | .accept _ _ => true
  | .heartbeat _ _ => true
  | .attest _ _ => true
  | .noSuchOpcode _ _ => true
  | .registerWrite _ _ _ _ => true
  | .unitReset _ _ => true
  | .scheduleMessage _ _ => true
  | .configMessage _ _ => true
  | .wakeRequest _ => true
  | .rstNLow => true
  | .brownOut _ => true
  | _ => false

/-! ### Envelopes -/

/-- The command brings an envelope of these bytes to the port. -/
def envelopeCommand (p : I3cPort) (bytes : List Byte) (c : Instr) : Prop :=
  c = .read p bytes ∨ c = .write p bytes ∨ c = .writeMask p bytes ∨ c = .claim p bytes ∨ c = .release p bytes ∨
    c = .handover p bytes ∨ c = .accept p bytes ∨ c = .heartbeat p bytes ∨ c = .attest p bytes ∨ c = .noSuchOpcode p bytes

/-- Nothing is to happen before an envelope is decided: no global commit is on its way (R455), no handover and no lapse is due
(R362). -/
def State.settled (s : State) : Prop := s.committing = false ∧ s.handoverDue = false ∧ s.silentFor 1 = false

/-- The port takes an envelope with these bytes, nothing is to happen first, and the bytes are not those of the last envelope
executed on the port (R358, R359). -/
def State.hears (s : State) (p : I3cPort) (bytes : List Byte) : Prop :=
  s.takesPrivate p = true ∧ s.settled ∧ ∀ r, (s.i3c p).executed ≠ some (bytes, r)

/-- The state in which an envelope that is heard is carried out: the owner's timer restarted (R365), the transfer's mode
noted. -/
def State.entering (s : State) (p : I3cPort) (bytes : List Byte) : State :=
  (s.hearOwner p bytes).modI3c p (fun x => { x with hdrEnvelope := x.hdr, hdr := false })

/-- Apart from the time since the owner's last envelope, the ownership is as before. -/
def State.sameOwner (s t : State) : Prop := t.owner = { s.owner with heard := t.owner.heard }

/-- The bytes pass checks 1 to 3 of R356 as an envelope of an opcode that carries w data words and ignores ADDR. -/
def framedAs (code w : Nat) (bytes : List Byte) : Prop :=
  bytes.length = 18 + 4 * w ∧ crcMatches bytes = true ∧ (byteAt bytes 0).toNat % 64 = code

/-- The bytes pass checks 1 to 3 of R356 as an envelope of an opcode that carries w data words and addresses registers. -/
def framedFor (code w : Nat) (bytes : List Byte) : Prop :=
  framedAs code w bytes ∧ 1 ≤ leField bytes 5 1 ∧ leField bytes 5 1 ≤ 64 ∧ leField bytes 2 3 % 4 = 0 ∧
    ((byteAt bytes 0).getLsbD 7 = true ∨ leField bytes 2 3 + 4 * (leField bytes 5 1 - 1) ≤ 0xfffffc)

/-- The address of the i-th word of an envelope (R357). -/
def addressOf (bytes : List Byte) (i : Nat) : Nat :=
  if (byteAt bytes 0).getLsbD 7 then leField bytes 2 3 else leField bytes 2 3 + 4 * i

/-- The writes that a WRITE orders, or a WRITE_MASK, whose first data word is the mask (R355). -/
def writesOf (who : Writer) (p : I3cPort) (bytes : List Byte) (masked : Bool) : List (Nat × RegWrite) :=
  (List.range (leField bytes 5 1)).map (fun i =>
    let mask := if masked then wordAt (bytes.drop 14) 0 else 0xffffffff
    let v := wordAt (bytes.drop 14) (if masked then i + 1 else i)
    (addressOf bytes i, { who := who, port := p, mask := mask, value := v, act := v &&& mask }))

/-- The words that reads of registers in turn return, and the state they leave: each read captures its partners (R357,
R440). -/
def State.readsFrom (s : State) (p : I3cPort) (owner : Bool) : List Nat → List Word × State
  | [] => ([], s)
  | a :: l =>
    let x := s.readReg p owner a
    let r := x.2.readsFrom p owner l
    (x.1 :: r.1, r.2)

/-- The token of an envelope (R354). -/
def tokenOf (bytes : List Byte) : BitVec 64 := BitVec.ofNat 64 (leField bytes 6 8)

/-- The module refuses no ownership opcode for what it is doing (R377, R429, R435). -/
def State.serving (s : State) : Prop := s.life.state ≠ .halted ∧ s.paused = false ∧ s.life.bindoff ≠ .running

/-- The module takes the writes of its owner to every page: it serves, past MEMORY, and mirrors no lead (R377, R388, R429). -/
def State.writable (s : State) : Prop :=
  s.serving ∧ s.life.state ≠ .clocking ∧ s.life.state ≠ .memory ∧ s.twin.role ≠ .follow

/-- The reply on a port is one of a status with data words to the envelope of these bytes (R356). -/
def State.replied (t : State) (p : I3cPort) (bytes : List Byte) (status : Nat) (words : List Word) : Prop :=
  (t.i3c p).reply = some (replyBytes (byteAt bytes 0) (byteAt bytes 1) status words)

/-! ### Playheads -/

/-- The playhead of a port that walks alone has gone on, in its next slot, to the entry e of the state it left: it waits
at a WAIT, holds a GAP, plays the first pass of a PLAY or the selvedge before it, or is parked by a HALT. -/
def State.landsOn (s t : State) (n e : Nat) : Prop :=
  (t.port n).slot = (s.port n).slot + 1 ∧
  match entryKind (s.entryAt e) with
  | .wait => (t.port n).state = .run ∧ (t.port n).play.entry = e ∧ (t.port n).play.activity = .wait ∧ (t.port n).play.gran = 0
  | .gap => (t.port n).state = .run ∧ (t.port n).play.entry = e ∧ (t.port n).play.activity = .gap ∧ (t.port n).play.gran = 0
  | .play => (t.port n).state = .run ∧ (t.port n).play.entry = e ∧ (t.port n).play.pass = 1 ∧ (t.port n).play.gran = 0 ∧
      ((t.port n).play.activity = .segment ∨ (t.port n).play.activity = .selvedge)
  | .halt => (t.port n).state = .parked ∧ (t.port n).play.activity = .idle ∧
      ((∀ l ∈ (s.port n).play.latches, ∀ st, l.what ≠ .request st) → (t.port n).requested = .parked)
  | _ => True

/-- A port that walks alone, outside a stitch group, with no field that R174 holds and without the underrun policy that
parks it. -/
def State.walksAlone (s : State) (n : Nat) : Prop :=
  n < 144 ∧ (s.port n).group = none ∧ (s.port n).held = 0 ∧ bits (s.reg (portReg n 0x58)) 0 2 ≠ 1

/-- A port stands at a new sample epoch (R34, R95, R96): in slot 0, whose first sample carried residue 0, its oscillator
advanced by that slot's samples. -/
def State.atEpoch (t : State) (n : Nat) : Prop :=
  (t.port n).slot = 0 ∧ (t.port n).osc.u =
    Config.samplesPerGranule (Config.portType n) * (t.port n).osc.runN ((t.port n).clockMode (Config.portType n)) %
      (t.port n).osc.m

/-! ### Faults and ledger entries -/

/-- A fault with this code was raised on this page: PAGE_FAULT, HEALTH.LAST_FAULT and HEALTH.PAGE_FLAGS.FAULT show it (R410,
R412). -/
def State.faulted (t : State) (page code : Nat) : Prop :=
  bits (t.rd page 0x1c) 0 16 = code ∧ t.rd Page.health 0x44 = word (code + page * 2 ^ 16) ∧ bit (t.rd Page.health 0x14) 0 = true

/-- A ledger entry of this kind joined the buffer, after what was there; said of a buffer that is not near full (R320,
R322). -/
def State.logged (s t : State) (kind : Nat) : Prop :=
  s.ledger.buffer.length < 4000 → ∃ l, t.ledger.buffer = s.ledger.buffer ++ l ∧ ∃ e ∈ l, e.kind = kind ∧ s.ledger.nextSeq ≤ e.seq

/-- A fitted port, by number. -/
def State.fits (s : State) (n : Nat) : Prop := n ∈ fittedPorts s.part

/-! ### Transfers -/

/-- The mean of these points, in units of 10^-15, has a standard error of at most so many units of 10^-12, in squares; taken
from the sample deviation (DEDUCED, log entry 119; R337). -/
def quietMean (pts : List Int) (noise : Nat) : Prop :=
  (pts.length : Int) * pts.foldl (fun a x => a + x * x) 0 - pts.foldl (fun a x => a + x) 0 ^ 2 ≤
    (pts.length : Int) ^ 2 * ((pts.length : Int) - 1) * (1000 * (noise : Int)) ^ 2

/-! ### The link of a pair -/

/-- The command brings a message in this frame (R383, R384). -/
def frameCommand (f : LinkFrame) (c : Instr) : Prop :=
  (∃ x, c = .twinHeartbeat f x) ∨ (∃ l b, c = .faultMessage f l b) ∨ (∃ x, c = .scheduleMessage f x) ∨
    (∃ l, c = .digestMessage f l) ∨ c = .epochMessage f ∨ c = .swapMessage f ∨ (∃ l b, c = .joinMessage f l b) ∨
    (∃ x, c = .configMessage f x) ∨ c = .idleMessage f

/-- A good frame over a trained link, after a good one, that changes no level and no monitor state and mirrors nothing: only
its message tells (R383, R390). -/
def State.quietFrame (s : State) (f : LinkFrame) : Prop :=
  s.twin.linkUp = true ∧ s.twin.badFrames = 0 ∧ f.crcOk = true ∧ (∀ c, c < 6 → f.extAt c = s.twin.ext) ∧ f.mon = s.twin.mon ∧
    f.mirror = []

end Machine
end Sys2Proof
end

