-- ==== Sys2Proof/WellFormed.lean ====
section
/-! DEFINITION. Well-formed commands: an envelope's bytes spell the opcode of its row, and an operand that names a unit, a
register, an address or a number of its own stays in the range that the spec gives it. The meanings are total all the
same: they take an ill-formed command too. -/

namespace Sys2Proof

/-- The envelope names the opcode with a code in the low six bits of its first byte (R354, R355). -/
def spells (code : Nat) (bytes : List Byte) : Bool :=
  decide (2 ≤ bytes.length) && (bytes.headD 0).toNat % 64 == code

/-- The opcodes of R355. -/
def opcodes : List Nat := [0x01, 0x02, 0x03, 0x10, 0x11, 0x12, 0x13, 0x14, 0x20]

/-- A playhead's number (R4, R78). -/
def SeqUnit.wellFormed : SeqUnit → Bool
  | .port n => n < 144
  | .group g => g < 32

/-- A page of the register space, whose addresses have 24 bits (R354). -/
def pageNumber (p : Nat) : Bool := p < 0x4000

/-- A register address: 24 bits, a multiple of 4 (R354, R356). -/
def registerAddress (a : Nat) : Bool := a < 0x1000000 && a % 4 == 0

/-- A die that R482 limits: a stack's, a precision die's or a fast die's number. -/
def Die.wellFormed : Die → Bool
  | .sequencer => true
  | .stack k => k < 2
  | .precision k => k < 4
  | .fast k => k < 2
  | .pattern => true

/-- What a SCHEDULE message carries (R384). -/
def Scheduled.wellFormed : Scheduled → Bool
  | .write a _ _ => registerAddress a
  | .safeMap pages => pages.all pageNumber
  | .tripPark ports => ports.all (fun n => n < 144)

/-- What a CONFIG message mirrors (R388). -/
def ConfigItem.wellFormed : ConfigItem → Bool
  | .register a _ => registerAddress a
  | .entry i _ => i < 262144
  | .descriptor i _ => i < 262144
  | .bobbin n _ => n < 144

/-- The check of one command. -/
def Instr.wellFormed : Instr → Bool
  | .read _ bytes => spells 0x01 bytes
  | .write _ bytes => spells 0x02 bytes
  | .writeMask _ bytes => spells 0x03 bytes
  | .claim _ bytes => spells 0x10 bytes
  | .release _ bytes => spells 0x11 bytes
  | .handover _ bytes => spells 0x12 bytes
  | .accept _ bytes => spells 0x13 bytes
  | .heartbeat _ bytes => spells 0x14 bytes
  | .attest _ bytes => spells 0x20 bytes
  | .noSuchOpcode _ bytes => !opcodes.any (fun c => spells c bytes)
  | .setmwl _ v => v < 65536
  | .setmrl _ v => v < 65536
  | .bulkReadTlp _ n _ => 0 < n
  | .registerWrite _ a _ _ => registerAddress a
  | .requestOff p => pageNumber p
  | .requestParked p => pageNumber p
  | .requestArmed p => pageNumber p
  | .requestRun p => pageNumber p
  | .requestPaused p => pageNumber p
  | .requestDelivery p => pageNumber p
  | .pageCommit p => pageNumber p
  | .commitDelivery n => n < 144
  | .transferEffect n => n < 144
  | .unitReset _ p => pageNumber p
  | .portPosRead _ n => n < 144
  | .ratioStatusRead _ n => n < 144
  | .loRegisterRead _ a => registerAddress a
  | .firstQuery c => c < 512
  | .snapSel t => t < 32
  | .channelConfigWrite _ a _ _ => registerAddress a
  | .tripSelWrite n _ _ => n < 144
  | .outSwitchWrite n _ => n < 144
  | .forceDoubleWrite k _ => k < 2
  | .pin d => d < 262144
  | .unpin d => d < 262144
  | .spareTargetWrite g _ => g < 4
  | .substitute g => g < 4
  | .returnPort g => g < 4
  | .select k => k < 2
  | .pulseFire n => n < 144
  | .monitorEnable m => m < 24
  | .monitorDisable m => m < 24
  | .syncEnWrite m _ => m < 24
  | .trigEdge i _ => i < 4
  | .hookJump n j => n < 144 && j < 4
  | .hookStart n => n < 144
  | .hookStop n => n < 144
  | .hookPause n => n < 144
  | .hookNco n => n < 144
  | .hookCommit n => n < 144
  | .hookTstart t => t < 32
  | .hookTstop t => t < 32
  | .hookTcapt t => t < 32
  | .timerWindowOpen t => t < 32
  | .timerExpire t => t < 32
  | .commitPoint u _ => u.wellFormed
  | .passEnd u _ => u.wellFormed
  | .startEffect u _ => u.wellFormed
  | .pauseEffect u _ => u.wellFormed
  | .stopEffect u _ => u.wellFormed
  | .immediateJumpEffect u _ => u.wellFormed
  | .waitRelease u _ => u.wellFormed
  | .waitTimeout u _ => u.wellFormed
  | .gapEnd u _ => u.wellFormed
  | .selvedgeEnd u _ => u.wellFormed
  | .missingSlot u _ => u.wellFormed
  | .underrunRecovery n _ => n < 144
  | .fetchRequest n => n < 144
  | .readComplete n _ _ => n < 144
  | .refetchComplete n _ _ _ => n < 144
  | .stagingComplete u _ => u.wellFormed
  | .delayTapMove n => n < 144
  | .powerDownComplete n => n < 144
  | .powerUpComplete n => n < 144
  | .isolationSwitchStep n => n < 144
  | .pulseLeadingEdge n => n < 144
  | .pulseEnd n => n < 144
  | .refreshTick k => k < 2
  | .refreshIssue k _ => k < 2
  | .forcedBatch k _ => k < 2
  | .stackTempReading k _ => k < 2
  | .crossingBatch k _ => k < 2
  | .parityAlert k pc _ _ => k < 2 && pc < 32
  | .trainingComplete k _ => k < 2
  | .comparatorChange m _ => m < 24
  | .thresholdStep m _ => m < 24
  | .blankingEnd m => m < 24
  | .sampledTick m _ => m < 24
  | .tripLineAssert k => k < 8
  | .tripLatch k => k < 8
  | .tripPark n _ => n < 144
  | .wakeRequest m => m < 24
  | .swatchStart adc _ => adc < 2
  | .swatchPoint adc _ _ _ => adc < 2
  | .swatchEnd adc => adc < 2
  | .targetRecompute l => l.all (fun x => x.1.wellFormed)
  | .rotationStep g => g < 4
  | .legacyRelease adc => adc < 2
  | .cartridgeInsert k => k < 2
  | .cartridgeRemove k => k < 2
  | .authenticationComplete k _ => k < 2
  | .reauthentication k _ => k < 2
  | .ovenReading k _ => k < 2
  | .ovenReadingTimeout k => k < 2
  | .lifeLogUpdate k _ _ => k < 2
  | .scheduleMessage _ x => x.wellFormed
  | .digestMessage _ l => l.all (fun e => e.entry ≤ 144)
  | .joinMessage _ l b => l.all (fun r => r.port < 144) && b.timers.all (fun x => x.index < 32)
  | .configMessage _ x => x.wellFormed
  | .healthCheck l => l.all (fun d => pageNumber d.page)
  | .recoveryRewrite p => pageNumber p
  | .recoveryResume p => pageNumber p
  | .stageFault n => n < 144
  | .spareStageFault g => g < 4
  | .spareSettled g => g < 4
  | .handoverConnect g => g < 4
  | .handoverComplete g => g < 4
  | .thermalCheck l => l.all (fun x => x.1.wellFormed)
  | .slotBoundary u _ => u.wellFormed
  | .senseOpen n => n < 144
  | .currentLimit n => n < 144
  | .bulkLinkUp generation lanes => 1 ≤ generation && generation ≤ 4 && [1, 2, 4].contains lanes
  | .replyRead _ => true
  | .enec _ => true
  | .disec _ => true
  | .rstdaa _ => true
  | .entdaa _ _ => true
  | .setdasa _ _ _ => true
  | .setnewda _ _ => true
  | .getpid _ => true
  | .getbcr _ => true
  | .getdcr _ => true
  | .getcaps _ => true
  | .enthdr0 _ => true
  | .getstatus _ => true
  | .getmwl _ => true
  | .getmrl _ => true
  | .rstact _ _ _ => true
  | .targetResetPattern _ => true
  | .ibiDelivery _ _ => true
  | .bulkWriteTlp _ _ => true
  | .postedWriteDrain _ => true
  | .pePerst _ => true
  | .bulkLinkDown => true
  | .jtagIdcode => true
  | .jtagBypass => true
  | .jtagSamplePreload => true
  | .jtagExtest => true
  | .commitAll => true
  | .tblDataWrite _ _ => true
  | .tblDataRead _ => true
  | .tblSelWrite _ _ => true
  | .tblIndexWrite _ _ => true
  | .infoSelWrite _ => true
  | .infoDataRead _ => true
  | .swStrobe _ => true
  | .timerStart _ => true
  | .timerStop _ => true
  | .testCtrlSingle _ => true
  | .tripClear _ => true
  | .tripForce _ => true
  | .syncArm => true
  | .syncFire => true
  | .bandTableClear => true
  | .pinComplete _ => true
  | .groupEnWrite _ => true
  | .calRebase _ => true
  | .legacyCtrlGo => true
  | .contClear => true
  | .transferGo _ => true
  | .transferAbort => true
  | .attestStart => true
  | .load => true
  | .switch => true
  | .confirm => true
  | .revert => true
  | .cancel => true
  | .swap => true
  | .join => true
  | .abortJoin => true
  | .twinRoleWrite _ => true
  | .bindoffGo => true
  | .timeSet _ => true
  | .fabricEvent _ => true
  | .ppsEdge _ => true
  | .gcHook u => u < 8
  | .refDetected _ => true
  | .clockTransfer => true
  | .refRemeasure _ => true
  | .lockRunStart => true
  | .bandFallback => true
  | .lockRunComplete _ => true
  | .guardEnd _ => true
  | .firstLock => true
  | .relockRefLoss => true
  | .relockRefResume => true
  | .lossOfReference => true
  | .lossOfLock => true
  | .returnQualified _ _ => true
  | .slewEnd => true
  | .stepCorrectionEnd => true
  | .clockmonWindowEnd _ => true
  | .syncEdge _ => true
  | .alignmentEpoch _ => true
  | .trimTap => true
  | .legacyPass => true
  | .lifelineCommitStart => true
  | .lifelineCommitComplete _ => true
  | .ledgerEntryProgram => true
  | .ledgerSecond => true
  | .transferPoint _ _ => true
  | .transferSwitch => true
  | .transferTimeout => true
  | .lapse => true
  | .handoverExpiry => true
  | .attestReportReady => true
  | .fwVerifyComplete _ _ => true
  | .fwProgramComplete _ => true
  | .quiescentPoint => true
  | .quietTimeout => true
  | .newImageStart _ => true
  | .linkTrained => true
  | .linkLoss => true
  | .twinHeartbeat _ _ => true
  | .faultMessage _ _ _ => true
  | .epochMessage _ => true
  | .swapMessage _ => true
  | .idleMessage _ => true
  | .digestWindow => true
  | .leadActAcquire => true
  | .watchdogRelease => true
  | .heartbeatLoss => true
  | .takeover => true
  | .takeoverForceClose => true
  | .pairFormation => true
  | .followerLock => true
  | .swapPrepare => true
  | .swapInstant => true
  | .swapForceClose => true
  | .swapRelease => true
  | .joinCapture => true
  | .joinLoad => true
  | .hkWatchdogExpiry => true
  | .hkRestartComplete => true
  | .analogRailLow _ => true
  | .analogRailRestored _ => true
  | .suppliesValid => true
  | .rstNLow => true
  | .brownOut _ => true
  | .resetEnd => true
  | .firmwareStart => true
  | .castOnReady => true
  | .bindoffDone => true
  | .ppsLost => true

end Sys2Proof
end

