-- ==== Sys2Proof/Certificates/Slice0/Obligations.lean ====
section
/-! DEFINITION. The statements for the provers. Yields c s P says that exec c s answers a next state t with P t.
changesOnly, regsBut, portsBut and their like say what stays. -/

open Sys2Proof Sys2Proof.Machine

/-- A step runs the command at the front of the queue. For every command c and state s: a step of s with c at the
front of its queue is exec of c on s with the queue's rest. -/
def Obligations.StepRunsFrontCommand : Prop :=
  ∀ (c : Instr) (rest : List Instr) (s : State), s.pending = c :: rest → step s = exec c { s with pending := rest }

/-- On an empty queue a step lets one CK_CORE cycle pass, with what the rules let go on in it. The model's choice (log
entry 12): with no command waiting, a step advances the cycle count by one, so that every counting timer's count
advances by one modulo 2^48 and a timer that counts no cycles keeps its count. While the module is owned and the
owner's timers run, the time since the owner's last envelope and since its offer goes on by one cycle; otherwise the
owner stays. Where no read waits to be issued, no lifeline commit is being erased or programmed and no cartridge
stands in its window, nothing but the cycle count and the owner's timers changes. -/
def Obligations.EmptyQueueLetsOneCyclePass : Prop :=
  ∀ s : State, s.pending = [] →
    ∃ t, step s = .next t ∧ t.cycle = s.cycle + 1 ∧
      (s.owned = true → s.ownerTimersRun = true →
        t.owner = { s.owner with heard := s.owner.heard + 1, offered := s.owner.offered + 1 }) ∧
      (s.owned = false ∨ s.ownerTimersRun = false → t.owner = s.owner) ∧
      (s.waitingReads = [] → s.cal.store ≠ .erasing → s.cal.store ≠ .programming →
        (∀ k, k < 2 → (s.slot k).inWindow = false) → s.changesOnly t [.cycle, .owner]) ∧
      s.changesOnly t [.cycle, .free, .regs, .ports, .spares, .i3cA, .i3cB, .owner, .ledger, .cal, .cart] ∧
      (∀ k, (s.timer k).active = true → (s.timer k).mode ≠ 5 → (s.timer k).at_ ≤ s.cycle →
        t.timerCount k = (s.timerCount k + 1) % 2 ^ 48) ∧
      (∀ k, (s.timer k).active = false ∨ (s.timer k).mode = 5 → t.timerCount k = s.timerCount k)

/-- No command touches the queue, the variant or the cycle count. Whatever next state a command answers has the queue,
the variant and the cycle count of the state it ran in. -/
def Obligations.CommandsKeepQueueVariantCycle : Prop :=
  ∀ (c : Instr) (s t : State), exec c s = .next t → t.pending = s.pending ∧ t.part = s.part ∧ t.cycle = s.cycle

/-- Every command answers a next state, so that every run goes on. No command faults or is refused: for every command
and state exec answers a next state, and from every state the module goes on for every number of steps. What the
manual calls a fault is a code on a page, a log entry and an event, all of them state. -/
def Obligations.EveryRunGoesOn : Prop :=
  (∀ (c : Instr) (s : State), ∃ t, exec c s = .next t) ∧ ∀ (k : Nat) (s : State), RunsOn k s

/-- Every step keeps the canonical form of the waveform memory. For every state whose waveform memory lists its bytes
with addresses strictly rising and none equal to what an unlisted address reads as: if a step answers a next state,
its memory has that form too, whatever command ran, a reset of the module included. Where the manual leaves a point
open it states the model's reading: log entry 2. -/
def Obligations.MemoryStaysCanonicalAtEveryStep : Prop :=
  ∀ s t : State, s.memoryCanonical → step s = .next t → t.memoryCanonical

/-- Reset leaves the values that the spec gives, and a waveform memory in its canonical form. On every variant the
state after reset has a canonical waveform memory whose bytes read as an unlisted address reads (the model's choice,
log entry 2), no owner, no command waiting, the lifecycle in BOOT, the loop without a reference, no monitor running,
and the registers the spec gives a reset value other than zero read it: GROUP_ENABLE, the lapse limit of OWNER,
MISMATCH_WINDOW and SAFE_POLICY, FB_INT, FB_DEN and BAND_TABLE_CTRL, the schedule and limits of CAL, TRANSFER_CTRL,
WTICK_DIV, and TWIN_POLICY on a module with a link. -/
def Obligations.ResetLeavesTheStatedValues : Prop :=
  ∀ v : Variant, (State.resetOf v).memoryCanonical ∧ (∀ a, (State.resetOf v).readByte a = Memory.unwritten) ∧
    (State.resetOf v).owner.state = .none ∧ (State.resetOf v).owner.token = 0 ∧ (State.resetOf v).pending = [] ∧
    (State.resetOf v).life.state = .boot ∧ (State.resetOf v).clock.loop = .noRef ∧
    (∀ m, ((State.resetOf v).monitor m).running = false) ∧
    (State.resetOf v).rd Page.event 0x44 = 0xffff ∧ (State.resetOf v).rd Page.owner 0x50 = 2000 ∧
    (State.resetOf v).rd Page.health 0x48 = 250 ∧ (State.resetOf v).rd Page.health 0x50 = 1 ∧
    (State.resetOf v).rd Page.clock 0x48 = 0x780 ∧ (State.resetOf v).rd Page.clock 0x50 = 1 ∧
    (State.resetOf v).rd Page.clock 0x58 = 3 ∧ (State.resetOf v).rd Page.cal 0x44 = 0x6405e384 ∧
    (State.resetOf v).rd Page.cal 0x68 = 0x14 ∧ (State.resetOf v).rd Page.cart 0x60 = 0x00c35000 ∧
    (State.resetOf v).rd Page.wmon 0x340 = 0xc8 ∧
    (Config.twinLink v = true → (State.resetOf v).rd Page.twin 0x4c = 0x11)

/-- Only the posted-write drain and the resets of the module reach the waveform memory. For every command but the
drain of the posted-write buffer and those that can reset the module (an envelope or register write that orders
UNIT_RESET of GLOBAL, a scheduled or mirrored write, RST_N low, a brown-out, a wake from standby), every byte of the
waveform memory reads after the command as it read before. Where the manual leaves a point open it states the model's
reading: log entry 2. -/
def Obligations.WaveformMemoryFrame : Prop :=
  ∀ (c : Instr) (s t : State), Instr.reachesMemory c = false → exec c s = .next t → ∀ a, t.readByte a = s.readByte a

/-- The posted-write drain writes the next granule of the oldest buffered write and nothing else. With w the oldest
write in the buffer, and no read waiting on the pseudo-channel of its address (R19: bulk writes come last; with one
waiting nothing happens), the drain stores the first 64 - (address mod 64) of its bytes from its address on, wrapping
at the end of fitted memory: a byte it supplies reads as supplied, and every byte outside the granule that holds its
address reads as before. Of the other bytes of that granule, all read as before when its old content can be read, and
as zero when it cannot (R144). A granule in a failed pseudo-channel keeps its content (R139). What the write has left
stays at the front of the buffer. With an empty buffer nothing happens. Where the manual leaves a point open it states
the model's reading: log entries 33 and 100. -/
def Obligations.PostedWriteDrainStoresOneGranule : Prop :=
  (∀ (bad : Bool) (s : State), s.bulk.buffer = [] → exec (.postedWriteDrain bad) s = .next s) ∧
  (∀ (bad : Bool) (s : State) (w : Posted) (rest : List Posted), s.bulk.buffer = w :: rest → s.channelBusy w.addr = true →
    exec (.postedWriteDrain bad) s = .next s) ∧
  ∀ (bad : Bool) (s : State) (w : Posted) (rest : List Posted), s.bulk.buffer = w :: rest → w.bytes ≠ [] →
    s.channelBusy w.addr = false →
    let data := w.bytes.take (64 - w.addr % 64)
    let base := s.memAddr w.addr / 64 * 64
    let failed := (s.stack (s.pseudo base / 32)).failed.contains (s.pseudo base % 32)
    ∃ t, exec (.postedWriteDrain bad) s = .next t ∧
      (∀ a, s.memAddr a / 64 * 64 ≠ base → t.readByte a = s.readByte a) ∧
      (failed = true → ∀ a, t.readByte a = s.readByte a) ∧
      (failed = false → ∀ i b, data[i]? = some b → t.readByte (w.addr + i) = b) ∧
      (failed = false → ∀ a, s.memAddr a / 64 * 64 = base →
        (∀ i, i < data.length → s.memAddr a ≠ s.memAddr (w.addr + i)) →
        t.readByte a = if data.length < 64 ∧ (bad = true ∨ s.unreadable base = true) then 0 else s.readByte a) ∧
      (w.bytes.length ≤ 64 - w.addr % 64 → t.bulk.buffer = rest) ∧
      (64 - w.addr % 64 < w.bytes.length →
        t.bulk.buffer = { w with addr := w.addr + (64 - w.addr % 64), bytes := w.bytes.drop (64 - w.addr % 64) } :: rest) ∧
      s.changesOnly t [.wave, .copies, .bulk, .regs, .i3cA, .i3cB]

/-- The I3C commands that enable, address, set lengths, reset and interrupt change the port they arrive on and nothing
else. On a port of a module whose I3C ports answer: ENEC sets and DISEC clears ENINT and ENHJ; RSTDAA clears the
dynamic address and leaves the static one; ENTDAA gives an address to a port that has none and leaves one that has;
SETDASA gives one when it names the port's static address, and otherwise none; SETNEWDA changes the address of a port
that has one. Every other field of the module, the other port included, stays; and each of the six answers the
unchanged state while the ports do not answer. On a port that answers: SETMWL and SETMRL store the length, at most 278
and 264; ENTHDR0 enters HDR-DDR; RSTACT 0x00 selects no action, 0x01 and 0x02 a reset of the port's I3C logic, another
byte nothing, and its GET form returns 1 ms on a port with a dynamic address; the target reset pattern, unless no
action is selected, clears the address and the waiting IBIs, sets ENINT and ENHJ and restores both lengths; an
acknowledged IBI of an enabled, addressed port delivers the lowest waiting class and leaves the others waiting, and
one that is not acknowledged leaves them all; a private read of an addressed port leaves the reply as it stands, and
ends HDR-DDR. The other port and the rest of the module stay. Where the manual leaves a point open it states the
model's reading: log entries 3, 13 and 19. -/
def Obligations.I3cCommandsActOnTheirPort : Prop :=
  ((∀ (p : I3cPort) (s : State), s.i3cAnswers = true →
    exec (.enec p) s = .next (s.setI3c p { s.i3c p with enint := true, enhj := true, hdr := false }) ∧
    exec (.disec p) s = .next (s.setI3c p { s.i3c p with enint := false, enhj := false, hdr := false }) ∧
    exec (.rstdaa p) s = .next (s.setI3c p { s.i3c p with address := none, hdr := false }) ∧
    (∀ a, (s.i3c p).address = none →
      exec (.entdaa p a) s = .next (s.setI3c p { s.i3c p with address := some a, hotJoin := false, hdr := false })) ∧
    (∀ a b, (s.i3c p).address = some b → exec (.entdaa p a) s = .next (s.setI3c p { s.i3c p with hdr := false })) ∧
    (∀ a (st : BitVec 7), st.toNat = s.staticAddress p →
      exec (.setdasa p st a) s = .next (s.setI3c p { s.i3c p with address := some a, hotJoin := false, hdr := false })) ∧
    (∀ a (st : BitVec 7), st.toNat ≠ s.staticAddress p →
      exec (.setdasa p st a) s = .next (s.setI3c p { s.i3c p with hdr := false })) ∧
    (∀ a b, (s.i3c p).address = some b →
      exec (.setnewda p a) s = .next (s.setI3c p { s.i3c p with address := some a, hotJoin := false, hdr := false })) ∧
    (∀ a, (s.i3c p).address = none → exec (.setnewda p a) s = .next (s.setI3c p { s.i3c p with hdr := false }))) ∧
  (∀ (p : I3cPort) (s : State) (a st : BitVec 7), s.i3cAnswers = false →
    exec (.enec p) s = .next s ∧ exec (.disec p) s = .next s ∧ exec (.rstdaa p) s = .next s ∧
    exec (.entdaa p a) s = .next s ∧ exec (.setdasa p st a) s = .next s ∧ exec (.setnewda p a) s = .next s)) ∧
  (∀ (p : I3cPort) (s : State), s.i3cAnswers = true →
    (∀ v, exec (.setmwl p v) s = .next (s.setI3c p { s.i3c p with mwl := min 278 v, hdr := false })) ∧
    (∀ v, exec (.setmrl p v) s = .next (s.setI3c p { s.i3c p with mrl := min 264 v, hdr := false })) ∧
    exec (.enthdr0 p) s = .next (s.setI3c p { s.i3c p with hdr := true }) ∧
    exec (.rstact p 0 false) s = .next (s.setI3c p { s.i3c p with rstact := 0, hdr := false }) ∧
    exec (.rstact p 1 false) s = .next (s.setI3c p { s.i3c p with rstact := 1, hdr := false }) ∧
    exec (.rstact p 2 false) s = .next (s.setI3c p { s.i3c p with rstact := 1, hdr := false }) ∧
    (∀ b : Byte, 2 < b.toNat → exec (.rstact p b false) s = .next (s.setI3c p { s.i3c p with hdr := false })) ∧
    (∀ b, (s.i3c p).address.isSome = true →
      exec (.rstact p b true) s = .next (s.setI3c p { s.i3c p with cccValue := 1, hdr := false })) ∧
    ((s.i3c p).rstact ≠ 0 → Yields (.targetResetPattern p) s (fun t =>
      (t.i3c p).address = none ∧ (t.i3c p).enint = true ∧ (t.i3c p).enhj = true ∧ (t.i3c p).mwl = 278 ∧
      (t.i3c p).mrl = 264 ∧ (t.i3c p).ibis = [] ∧ (t.i3c p).staged = (s.i3c p).staged ∧ t = s.setI3c p (t.i3c p))) ∧
    ((s.i3c p).rstact = 0 → exec (.targetResetPattern p) s = .next (s.setI3c p { s.i3c p with hdr := false })) ∧
    (∀ c rest, s.takesPrivate p = true → (s.i3c p).enint = true → s.paused = false → (s.i3c p).ibis = c :: rest →
      exec (.ibiDelivery p true) s = .next (s.setI3c p { s.i3c p with ibis := rest, lastIbi := c }) ∧
      exec (.ibiDelivery p false) s = .next s) ∧
    (s.takesPrivate p = true → exec (.replyRead p) s = .next (s.setI3c p { s.i3c p with hdr := false })))

/-- The I3C GET codes return the values of R351. On a port that answers and has a dynamic address: GETPID returns
0x05d3 in bits 47-33, 0 in bit 32, the part number in bits 31-16, 0 or 1 for port A or B in bits 15-12 and the low 12
bits of the serial number; GETBCR returns 0x06, GETDCR 0x00, GETCAPS reports HDR-DDR (bit 0, the model's choice of log
entry 13); GETMWL and GETMRL return the stored lengths; GETSTATUS returns MODULE_STATE's low byte in bits 15-8, the
protocol error in bit 5, which it clears, and the lowest pending alert class in bits 3-0. Nothing else of the module
changes. A port without a dynamic address returns nothing. Where the manual leaves a point open it states the model's
reading: log entries 1 and 13. -/
def Obligations.I3cGetCodesReturnTheirFields : Prop :=
  (∀ (p : I3cPort) (s : State), s.i3cAnswers = true → (s.i3c p).address.isSome = true →
    Yields (.getpid p) s (fun t =>
      (t.i3c p).cccValue / 2 ^ 33 = 0x05d3 ∧ (t.i3c p).cccValue / 2 ^ 32 % 2 = 0 ∧
      (t.i3c p).cccValue / 2 ^ 16 % 2 ^ 16 = Config.partNumber s.part ∧
      (t.i3c p).cccValue / 2 ^ 12 % 2 ^ 4 = (match p with | .a => 0 | .b => 1) ∧
      (t.i3c p).cccValue % 2 ^ 12 = s.nv.serial.toNat % 2 ^ 12 ∧
      t = s.setI3c p { s.i3c p with cccValue := (t.i3c p).cccValue, hdr := false }) ∧
    exec (.getbcr p) s = .next (s.setI3c p { s.i3c p with cccValue := 0x06, hdr := false }) ∧
    exec (.getdcr p) s = .next (s.setI3c p { s.i3c p with cccValue := 0x00, hdr := false }) ∧
    exec (.getcaps p) s = .next (s.setI3c p { s.i3c p with cccValue := 0x01, hdr := false }) ∧
    exec (.getmwl p) s = .next (s.setI3c p { s.i3c p with cccValue := (s.i3c p).mwl, hdr := false }) ∧
    exec (.getmrl p) s = .next (s.setI3c p { s.i3c p with cccValue := (s.i3c p).mrl, hdr := false }) ∧
    Yields (.getstatus p) s (fun t =>
      (t.i3c p).cccValue / 2 ^ 8 = bits s.moduleState 0 8 ∧
      ((t.i3c p).cccValue / 2 ^ 5 % 2 = 1 ↔ (s.i3c p).protocolError = true) ∧
      (t.i3c p).cccValue % 2 ^ 4 = s.lowestClass ∧ (t.i3c p).cccValue / 2 ^ 4 % 2 = 0 ∧
      (t.i3c p).cccValue / 2 ^ 6 % 4 = 0 ∧
      t = s.setI3c p { s.i3c p with cccValue := (t.i3c p).cccValue, protocolError := false, hdr := false })) ∧
  (∀ (p : I3cPort) (s : State), s.i3cAnswers = true → (s.i3c p).address = none →
    exec (.getpid p) s = .next (s.setI3c p { s.i3c p with hdr := false }) ∧
    exec (.getbcr p) s = .next (s.setI3c p { s.i3c p with hdr := false }) ∧
    exec (.getdcr p) s = .next (s.setI3c p { s.i3c p with hdr := false }) ∧
    exec (.getcaps p) s = .next (s.setI3c p { s.i3c p with hdr := false }) ∧
    exec (.getmwl p) s = .next (s.setI3c p { s.i3c p with hdr := false }) ∧
    exec (.getmrl p) s = .next (s.setI3c p { s.i3c p with hdr := false }) ∧
    exec (.getstatus p) s = .next (s.setI3c p { s.i3c p with hdr := false }))

/-- An envelope is executed once, or refused with the status of the first check it fails and no other effect. For each
of the ten envelope commands: a port that takes no private transfer NACKs it and nothing changes. A handover or a
lapse that is due happens before it is decided. An envelope identical to the last one executed on the port returns
that one's reply and is not executed again. One that fails a check leaves the reply with that status and no data
words, counts the refusal in HOST.ENVELOPE_ERR_CNT or REFUSED_CNT with the page flag, and changes no other register
but those three and nothing outside the registers, the I3C ports and the time since the owner's last envelope; the
last envelope executed stays the reference. One that is heard and passes every check leaves a reply with STATUS 0 OK
and becomes the reference, unless it reset the module. Where the manual leaves a point open it states the model's
reading: log entries 19, 93 and 96. -/
def Obligations.EnvelopeOutcomes : Prop :=
  ∀ (p : I3cPort) (bytes : List Byte) (s : State), ∀ c, envelopeCommand p bytes c →
    (s.takesPrivate p = false → exec c s = .next s) ∧
    (s.committing = false → exec c s = exec c s.ownerDue) ∧
    (∀ r, s.takesPrivate p = true → s.settled → (s.i3c p).executed = some (bytes, r) →
      Yields c s (fun t => (t.i3c p).reply = some r ∧ (t.i3c p).executed = some (bytes, r) ∧ t.regs = s.regs ∧
        s.sameOwner t ∧ s.changesOnly t [.owner, .i3cA, .i3cB])) ∧
    (∀ st, s.hears p bytes → s.check p bytes = .error st →
      Yields c s (fun t => (2 ≤ bytes.length → t.replied p bytes st []) ∧ (t.i3c p).executed = (s.i3c p).executed ∧
        s.regsBut t [regAddr Page.host 0x48, regAddr Page.host 0x4c, regAddr Page.host 0x14] ∧
        s.flagged t Page.host (if st = 2 ∨ st = 4 then 1 else 2) ∧ s.sameOwner t ∧
        s.changesOnly t [.owner, .regs, .i3cA, .i3cB])) ∧
    (∀ e, s.hears p bytes → s.check p bytes = .ok e →
      Yields c s (fun t => t.life.reset = false →
        (∃ words, t.replied p bytes 0 words) ∧ (t.i3c p).executed.map (fun x => x.1) = some bytes))

/-- The checks of R356 decide the status in their order. Of the bytes of an envelope: too short or with a CRC that
does not match, the check answers 2 FRAME_ERROR; otherwise with an opcode that R355 does not list, 4 NO_SUCH_OPCODE;
otherwise with a wrong length or register range, 2; otherwise 5 PORT_FORBIDDEN for CLAIM, HANDOVER and ACCEPT on a
port that is not owner-capable; otherwise, on an owner-capable port, 1 NOT_OWNER for RELEASE, HANDOVER and HEARTBEAT
of a sender that is not the owner; a CLAIM of token 0, of anyone but the owner while the module is owned, or of anyone
while a handover is pending, 1. Where the manual leaves a point open it states the model's reading: log entry 93. -/
def Obligations.EnvelopeStatusesInOrder : Prop :=
  ∀ (s : State) (p : I3cPort) (bytes : List Byte),
    (bytes.length < 18 ∨ crcMatches bytes = false → s.check p bytes = .error 2) ∧
    (18 ≤ bytes.length → crcMatches bytes = true → (byteAt bytes 0).toNat % 64 ∉ opcodes → s.check p bytes = .error 4) ∧
    (∀ op, 18 ≤ bytes.length → crcMatches bytes = true → opcodeOf ((byteAt bytes 0).toNat % 64) = some op →
      (parse op bytes).framed bytes.length = false → s.check p bytes = .error 2) ∧
    (∀ c w, (c, w) ∈ [(0x10, 0), (0x12, 2), (0x13, 0)] → framedAs c w bytes → s.ownerCapable p = false →
      s.check p bytes = .error 5) ∧
    (∀ c w, (c, w) ∈ [(0x11, 0), (0x12, 2), (0x14, 0)] → framedAs c w bytes → s.ownerCapable p = true →
      s.isOwner p (tokenOf bytes) = false → s.check p bytes = .error 1) ∧
    (framedAs 0x10 0 bytes → s.ownerCapable p = true →
      (tokenOf bytes = 0 ∧ s.owned = false ∨ s.owned = true ∧ s.isOwner p (tokenOf bytes) = false ∨
      s.owner.state = .handover) → s.check p bytes = .error 1)

/-- CLAIM, RELEASE, HANDOVER, ACCEPT and HEARTBEAT move ownership as R363 tables it. On an owner-capable port of a
module that serves them, an envelope that is heard and framed as its opcode: a CLAIM with a token other than 0 from
NONE or LAPSED makes the sender the owner, counts CLAIM_COUNT and flags it; the owner's own CLAIM in OWNED restarts
the owner's timer and changes no ownership; the owner's RELEASE leaves no owner and closes every bulk window; its
HANDOVER of another token offers it, and of 0 or its own token cancels a pending one; an ACCEPT of the offered token
makes the sender the owner and counts CLAIM_COUNT; a HEARTBEAT restarts the timer and changes no ownership. Each
replies OK. A claim, an acceptance and a release return every PAGE_LOCK to 0. None of them touches a port, a group, a
spare, a descriptor, an entry, the waveform memory or a trim. Where the manual leaves a point open it states the
model's reading: log entries 66, 67 and 68. -/
def Obligations.OwnershipOpcodesMoveTheOwner : Prop :=
  ∀ (p : I3cPort) (bytes : List Byte) (s : State), s.hears p bytes → s.serving → s.ownerCapable p = true →
    (framedAs 0x10 0 bytes → s.owned = false → tokenOf bytes ≠ 0 →
      Yields (.claim p bytes) s (fun t =>
        t.owner = { state := .owned, token := tokenOf bytes, port := p, target := 0, heard := 0, offered := 0 } ∧
        t.replied p bytes 0 [] ∧
        t.rd Page.owner 0x60 = word (min 0xffffffff ((s.rd Page.owner 0x60).toNat + 1)) ∧ s.flagged t Page.owner 1 ∧
        (∀ pg, t.rd pg 0x20 = 0) ∧ s.changesOnly t [.free, .regs, .i3cA, .i3cB, .owner, .ledger])) ∧
    (framedAs 0x10 0 bytes → s.owner.state = .owned → s.isOwner p (tokenOf bytes) = true →
      Yields (.claim p bytes) s (fun t => t.replied p bytes 0 [] ∧ t.regs = s.regs ∧ t.owner = { s.owner with heard := 0 } ∧
        s.changesOnly t [.owner, .i3cA, .i3cB])) ∧
    (framedAs 0x11 0 bytes → s.isOwner p (tokenOf bytes) = true →
      Yields (.release p bytes) s (fun t =>
        t.owner.state = .none ∧ t.owner.token = 0 ∧ t.replied p bytes 0 [] ∧ s.flagged t Page.owner 2 ∧
        (∀ w, w < 8 → bit (t.rd Page.host (0x6c + 16 * w)) 0 = false) ∧ (∀ pg, t.rd pg 0x20 = 0) ∧
        s.changesOnly t [.free, .regs, .i3cA, .i3cB, .owner, .ledger])) ∧
    (∀ target, framedAs 0x12 2 bytes → s.isOwner p (tokenOf bytes) = true →
      target = BitVec.ofNat 64 (leField bytes 14 8) →
      Yields (.handover p bytes) s (fun t => t.replied p bytes 0 [] ∧
        (target ≠ 0 → target ≠ s.owner.token →
          t.owner = { s.owner with state := .handover, target := target, heard := 0, offered := 0 } ∧ s.flagged t Page.owner 4) ∧
        (target = 0 ∨ target = s.owner.token → t.owner.state = .owned ∧ t.owner.token = s.owner.token ∧
          t.owner.port = s.owner.port) ∧
        s.changesOnly t [.free, .regs, .i3cA, .i3cB, .owner, .ledger])) ∧
    (framedAs 0x13 0 bytes → s.owner.state = .handover → tokenOf bytes = s.owner.target →
      Yields (.accept p bytes) s (fun t =>
        t.owner = { state := .owned, token := tokenOf bytes, port := p, target := 0, heard := 0, offered := 0 } ∧
        t.replied p bytes 0 [] ∧
        t.rd Page.owner 0x60 = word (min 0xffffffff ((s.rd Page.owner 0x60).toNat + 1)) ∧ s.flagged t Page.owner 8 ∧
        (∀ pg, t.rd pg 0x20 = 0) ∧ (∀ w, w < 8 → t.rd Page.host (0x6c + 16 * w) = s.rd Page.host (0x6c + 16 * w)) ∧
        s.changesOnly t [.free, .regs, .i3cA, .i3cB, .owner, .ledger])) ∧
    (framedAs 0x14 0 bytes → s.isOwner p (tokenOf bytes) = true →
      Yields (.heartbeat p bytes) s (fun t => t.replied p bytes 0 [] ∧ t.regs = s.regs ∧ t.owner = { s.owner with heard := 0 } ∧
        s.changesOnly t [.owner, .i3cA, .i3cB]))

/-- READ, WRITE, WRITE_MASK and ATTEST do what their envelopes order; an unknown opcode is refused. A well-framed
envelope that is heard completes: a READ, of any sender, replies OK with COUNT words, each the register as the sender
reads it after the reads before it, and leaves what those reads leave (outside HALTED for reasons 1 and 2); a WRITE or
WRITE_MASK of the owner on an owner-capable port of a module past MEMORY that serves and follows no lead, or of the
maintenance master to the registers it may write, leaves the module as the register writes of its words, in order of
address, leave it, with an OK reply without data, or as the reset leaves it that one of them orders; an ATTEST while
none is BUSY starts a report on the nonce it carries and replies with the REPORT_SEQ of that report. An opcode that
R355 does not list is refused with STATUS 4 and counted in ENVELOPE_ERR_CNT's upper half. Where the manual leaves a
point open it states the model's reading: log entries 4, 5 and 84. -/
def Obligations.ReadWriteAttestEnvelopes : Prop :=
  ∀ (p : I3cPort) (bytes : List Byte) (s : State), s.hears p bytes →
    let r := s.entering p bytes
    let count := leField bytes 5 1
    let owner := s.isOwner p (tokenOf bytes)
    (framedFor 0x01 0 bytes → s.life.state ≠ .halted ∨ s.life.halt = 3 →
      let x := r.readsFrom p owner ((List.range count).map (addressOf bytes))
      Yields (.read p bytes) s (fun t => t.replied p bytes 0 x.1 ∧ x.1.length = count ∧
        t = x.2.modI3c p (fun y => { y with reply := (t.i3c p).reply, executed := (t.i3c p).executed }))) ∧
    (framedFor 0x01 0 bytes → Yields (.read p bytes) s (fun t => ∃ words, t.replied p bytes 0 words ∧ words.length = count)) ∧
    (∀ (c : Instr) (masked : Bool) (who : Writer),
      (c = .write p bytes ∧ masked = false ∧ framedFor 0x02 count bytes) ∨
        (c = .writeMask p bytes ∧ masked = true ∧ framedFor 0x03 (count + 1) bytes) →
      s.writable →
      (who = .owner ∧ s.ownerCapable p = true ∧ owner = true) ∨
        (who = .maintenance ∧ s.ownerCapable p = false ∧ owner = false ∧
          ∀ i, i < count → maintenanceReg (addressOf bytes i) = true) →
      let u := r.writeWords (writesOf who p bytes masked)
      Yields c s (fun t => (u.life.reset = true → t = u) ∧
        (u.life.reset = false → t.replied p bytes 0 [] ∧
          t = u.modI3c p (fun y => { y with reply := (t.i3c p).reply, executed := (t.i3c p).executed })))) ∧
    (framedAs 0x20 8 bytes → s.paused = false → s.life.state ≠ .halted ∨ s.life.halt = 3 → s.security.attest ≠ .busy →
      Yields (.attest p bytes) s (fun t => t.security = { s.security with
          attest := .busy, nonce := (bytes.drop 14).take 32, reportSeq := s.security.reportSeq + 1 } ∧
        t.replied p bytes 0 [word (s.security.reportSeq + 1)] ∧ s.sameOwner t ∧
        s.changesOnly t [.owner, .security, .i3cA, .i3cB])) ∧
    (18 ≤ bytes.length → crcMatches bytes = true → (byteAt bytes 0).toNat % 64 ∉ opcodes →
      Yields (.noSuchOpcode p bytes) s (fun t => t.replied p bytes 4 [] ∧
        bits (t.rd Page.host 0x48) 16 16 = min 0xffff (bits (s.rd Page.host 0x48) 16 16 + 1) ∧
        bits (t.rd Page.host 0x48) 0 16 = bits (s.rd Page.host 0x48) 0 16 ∧ s.changesOnly t [.regs, .i3cA, .i3cB]))

/-- A lapse ends the ownership and an expiry only the pending handover, each once its time is over. While the owner's
timers run (no housekeeping pause, no housekeeping restart): once HEARTBEAT_TIMEOUT has passed since the owner's last
envelope, a lapse of an owned module leaves the state LAPSED with no token, closes every bulk window, returns every
PAGE_LOCK to 0, counts LAPSE_COUNT and sets its flag; once 100 ms have passed since the offer, the expiry of a pending
handover leaves the owner as it was before the offer and sets HANDOVER_EXPIRED. Otherwise both leave the state as it
is. Neither touches a port, a sequence, a trim or the waveform memory. Where the manual leaves a point open it states
the model's reading: log entries 18 and 66. -/
def Obligations.LapseAndHandoverExpiry : Prop :=
  ∀ s : State,
    (s.owned = true → s.ownerTimersRun = true → 1200000 * (s.rd Page.owner 0x50).toNat ≤ s.owner.heard →
      Yields .lapse s (fun t => t.owner.state = .lapsed ∧ t.owner.token = 0 ∧ t.owner.target = 0 ∧
        (∀ w, w < 8 → bit (t.rd Page.host (0x6c + 16 * w)) 0 = false) ∧ (∀ pg, t.rd pg 0x20 = 0) ∧
        t.rd Page.owner 0x68 = word (min 0xffffffff ((s.rd Page.owner 0x68).toNat + 1)) ∧ s.flagged t Page.owner 0x20 ∧
        s.changesOnly t [.free, .regs, .i3cA, .i3cB, .owner, .ledger])) ∧
    (s.owner.state = .handover → s.ownerTimersRun = true → 120000000 ≤ s.owner.offered →
      Yields .handoverExpiry s (fun t => t.owner = { s.owner with state := .owned, target := 0 } ∧
        s.flagged t Page.owner 0x10 ∧ s.changesOnly t [.free, .regs, .i3cA, .i3cB, .owner, .ledger])) ∧
    (s.owned = false ∨ s.ownerTimersRun = false ∨ s.owner.heard < 1200000 * (s.rd Page.owner 0x50).toNat →
      exec .lapse s = .next s) ∧
    (s.owner.state ≠ .handover ∨ s.ownerTimersRun = false ∨ s.owner.offered < 120000000 →
      exec .handoverExpiry s = .next s)

/-- A token of 0 never owns, at reset and through every step. The invariant: while the module is owned its token is
not 0, while a handover is pending its target is not 0 either, and while it is not owned the token and the target are
0. It holds after reset on every variant, and every step from any state with it keeps it. A sender with token 0 is
therefore never the owner. -/
def Obligations.TokenZeroNeverOwns : Prop :=
  let inv : State → Prop := fun s =>
    (s.owned = true → s.owner.token ≠ 0) ∧ (s.owner.state = .handover → s.owner.target ≠ 0) ∧
    (s.owned = false → s.owner.token = 0 ∧ s.owner.target = 0)
  (∀ v, inv (State.resetOf v)) ∧ (∀ s t, inv s → step s = .next t → inv t) ∧
  ∀ s p, inv s → s.isOwner p 0 = false

/-- A bulk write is accepted whole or discarded whole, and a bulk read returns data or Unsupported Request. With the
link up: a write whose every byte a window grants joins the posted-write buffer of 262,144 bytes at its end and
changes nothing else; one that no longer fits waits; one with a byte that no window grants is discarded whole and
counted in the low half of HOST's count at 0x54 with the flag. A read whose every byte is granted returns as many
bytes as it asks for, each byte whose granule is read well and that has no write waiting as the memory holds it; one
that is not granted returns Unsupported Request and is counted in the upper half. With the link down nothing happens.
No byte of the waveform memory changes. Where the manual leaves a point open it states the model's reading: log
entries 5 and 31. -/
def Obligations.BulkTransfersFollowTheWindows : Prop :=
  ∀ (a : Nat) (s : State),
    (s.bulk.linkUp = true → ∀ bytes, bytes ≠ [] → s.tlpGranted false a bytes.length = true →
      s.bulk.held + bytes.length ≤ 262144 →
      Yields (.bulkWriteTlp a bytes) s (fun t =>
        (∃ w : Posted, t.bulk = { s.bulk with buffer := s.bulk.buffer ++ [w] } ∧ w.addr = s.memAddr a ∧ w.bytes = bytes) ∧
        s.changesOnly t [.bulk])) ∧
    (s.bulk.linkUp = true → ∀ bytes, bytes ≠ [] → s.tlpGranted false a bytes.length = true →
      262144 < s.bulk.held + bytes.length → exec (.bulkWriteTlp a bytes) s = .next s) ∧
    (s.bulk.linkUp = true → ∀ bytes, bytes ≠ [] → s.tlpGranted false a bytes.length = false →
      Yields (.bulkWriteTlp a bytes) s (fun t => t.bulk.buffer = s.bulk.buffer ∧
        bits (t.rd Page.host 0x54) 0 16 = min 0xffff (bits (s.rd Page.host 0x54) 0 16 + 1) ∧
        bits (t.rd Page.host 0x54) 16 16 = bits (s.rd Page.host 0x54) 16 16 ∧ s.flagged t Page.host 4 ∧
        s.regsBut t [regAddr Page.host 0x54, regAddr Page.host 0x14] ∧ s.changesOnly t [.regs, .i3cA, .i3cB, .bulk])) ∧
    (s.bulk.linkUp = true → ∀ n reads, s.tlpGranted true a n = true →
      Yields (.bulkReadTlp a n reads) s (fun t => ∃ data, t.bulk = { s.bulk with completion := some data } ∧ data.length = n ∧
        (∀ i, i < n → s.readFails reads (a + i) = false → s.posted (a + i) = false →
          data[i]? = some (s.readByte (a + i))) ∧
        s.changesOnly t [.free, .regs, .i3cA, .i3cB, .bulk])) ∧
    (s.bulk.linkUp = true → ∀ n reads, s.tlpGranted true a n = false →
      Yields (.bulkReadTlp a n reads) s (fun t => t.bulk = { s.bulk with completion := none } ∧
        bits (t.rd Page.host 0x54) 16 16 = min 0xffff (bits (s.rd Page.host 0x54) 16 16 + 1) ∧
        bits (t.rd Page.host 0x54) 0 16 = bits (s.rd Page.host 0x54) 0 16 ∧ s.flagged t Page.host 4 ∧
        s.regsBut t [regAddr Page.host 0x54, regAddr Page.host 0x14] ∧ s.changesOnly t [.regs, .i3cA, .i3cB, .bulk])) ∧
    (s.bulk.linkUp = false → (∀ bytes, exec (.bulkWriteTlp a bytes) s = .next s) ∧
      ∀ n reads, exec (.bulkReadTlp a n reads) s = .next s)

/-- The bulk link rises, falls and is held down by PE_PERST_N. A link that trains while PE_PERST_N is high, at a
generation 1-4 and 1, 2 or 4 lanes, reads up with them, a retraining is counted, and LINK_CHANGE is flagged. A fall of
a link that is up leaves it down, flags it, and is fault 0x19: PAGE_FAULT of HOST takes the code and counts,
LAST_FAULT names code and page, and the fault log's next entry holds them. PE_PERST_N low does the same to the link,
high only moves the pin. Nothing else changes but, on a fall, the fabric that the fault's source enters. Where the
manual leaves a point open it states the model's reading: log entry 71. -/
def Obligations.BulkLinkRisesAndFalls : Prop :=
  (∀ (g l : Nat) (s : State), s.bulk.linkUp = false → s.pins.perst = true → 1 ≤ g → g ≤ 4 → l = 1 ∨ l = 2 ∨ l = 4 →
    Yields (.bulkLinkUp g l) s (fun t => t.bulk.linkUp = true ∧ t.bulk.generation = g ∧ t.bulk.lanes = l ∧
      t.bulk.retrains = (if s.bulk.trained then min 0xffff (s.bulk.retrains + 1) else s.bulk.retrains) ∧
      t.bulk.buffer = s.bulk.buffer ∧ s.flagged t Page.host 8 ∧ s.regsBut t [regAddr Page.host 0x14] ∧
      s.changesOnly t [.regs, .i3cA, .i3cB, .bulk])) ∧
  (∀ (c : Instr) (s : State), c = .bulkLinkDown ∨ c = .pePerst false → s.bulk.linkUp = true →
    Yields c s (fun t => t.bulk = { s.bulk with linkUp := false } ∧ s.flagged t Page.host 8 ∧
      bits (t.rd Page.host 0x1c) 0 16 = 0x19 ∧
      bits (t.rd Page.host 0x1c) 16 16 = min 0xffff (bits (s.rd Page.host 0x1c) 16 16 + 1) ∧
      t.rd Page.health 0x44 = 0x000c0019 ∧
      (∃ e, (bits (s.rd Page.health 0x40) 0 8, e) ∈ t.faults ∧ e.code = 0x19 ∧ e.page = Page.host) ∧
      (c = .bulkLinkDown → t.pins = s.pins) ∧ (c = .pePerst false → t.pins = { s.pins with perst := false }) ∧
      s.changesOnly t [.free, .regs, .fabric, .i3cA, .i3cB, .bulk, .faults, .pins])) ∧
  (∀ s : State, exec (.pePerst true) s = .next { s with pins := { s.pins with perst := true } }) ∧
  (∀ s : State, s.bulk.linkUp = false →
    exec (.pePerst false) s = .next { s with pins := { s.pins with perst := false } } ∧ exec .bulkLinkDown s = .next s)

/-- A requested state is shown at once, and its delivery carries it out. A REQUEST of OFF, PARKED, ARMED, RUN or
PAUSED to a fitted port outside SAFE, with no relock, alignment or bind-off, that asks for another state than the one
shown, is shown as the requested state and is on its way, and nothing else changes; in SAFE the requested state shows
SAFE. The same holds of a stitch group. The delivery carries it out: ARMED moves a parked, powered, ungrouped port
that no trip holds to READY with zero row counters, marker levels and latches, and takes its active PORT_SEQ_START (no
other port changes where no swatch runs); PARKED powers up a port that is OFF; RUN latches a START for the effect slot
on a playhead that runs, waits paused or is armed. Without a request on its way a delivery changes nothing. The other
ports stay as they are. Where the manual leaves a point open it states the model's reading: log entries 15 and 18. -/
def Obligations.RequestsAreShownAndDelivered : Prop :=
  (∀ (c : Nat → Instr) (st : UState) (n : Nat) (s : State), n < 144 →
    c = .requestOff ∧ st = .off ∨ c = .requestParked ∧ st = .parked ∨ c = .requestArmed ∧ st = .armed ∨
      c = .requestRun ∧ st = .run ∨ c = .requestPaused ∧ st = .paused →
    (∀ _ : (s.port n).state ≠ .absent, (s.port n).state ≠ .safe → s.mustStay = false → (s.port n).requested ≠ st →
      Yields (c (Page.port n)) s (fun t =>
        t.port n = { s.port n with requested := st, deliver := some st, withCommit := false, restart := false } ∧
        s.portsBut t [n] ∧ s.changesOnly t [.ports])) ∧
    ((s.port n).state = .safe →
      Yields (c (Page.port n)) s (fun t => t.port n = { s.port n with requested := .safe, deliver := none } ∧
        s.portsBut t [n] ∧ s.changesOnly t [.ports])) ∧
    (∀ g, g < 32 → (s.group g).state ≠ .safe → s.mustStay = false → (s.group g).requested ≠ st →
      Yields (c (Page.group g)) s (fun t =>
        t.group g = { s.group g with requested := st, deliver := some st, restart := false } ∧
        s.groupsBut t [g] ∧ s.changesOnly t [.groups]))) ∧
  (∀ (n : Nat) (s : State), n < 144 → (s.port n).withCommit = false → (s.port n).group = none →
    ((s.port n).deliver = none → exec (.requestDelivery (Page.port n)) s = .next s) ∧
    ((s.port n).deliver = some .armed → (s.port n).state = .parked → (s.port n).power = .on → s.mustStay = false →
      s.tripHeld n = false → s.quieting = false →
      Yields (.requestDelivery (Page.port n)) s (fun t =>
        (t.port n).state = .ready ∧ (t.port n).requested = .armed ∧ (t.port n).deliver = none ∧ (t.port n).ms = 0 ∧
        (t.port n).play = { Playhead.idle with start := (s.port n).seqStart } ∧ t.reg (portReg n 0x114) = 0 ∧
        (s.cal.adc0 = none → s.cal.adc1 = none → s.portsBut t [n] ∧ s.changesOnly t [.regs, .ports]) ∧
        s.changesOnly t [.free, .regs, .ports, .spares, .i3cA, .i3cB, .ledger, .cal])) ∧
    ((s.port n).deliver = some .parked → (s.port n).state = .off → (s.port n).power = .off →
      s.life.bindoff ≠ .running → s.life.bindoff ≠ .done →
      Yields (.requestDelivery (Page.port n)) s (fun t => t.port n = { s.port n with deliver := none, power := .up } ∧
        s.portsBut t [n] ∧ s.changesOnly t [.ports])) ∧
    ((s.port n).deliver = some .run → (s.port n).state = .armed ∨ (s.port n).state = .run ∨ (s.port n).state = .paused →
      (s.port n).power = .on →
      Yields (.requestDelivery (Page.port n)) s (fun t =>
        (t.port n).state = (s.port n).state ∧ (t.port n).deliver = none ∧
        (∃ l, l.what = .start ∧ l.due = (s.port n).slot + Config.ka (Config.portType n) ∧ l ∈ (t.port n).play.latches) ∧
        s.portsBut t [n] ∧ s.changesOnly t [.ports])))

/-- A commit is ordered, delivered as a latched transfer, and moves the shadow at its effect slot. Where register
writes are accepted (no pause, no housekeeping restart, not HALTED), PAGE_COMMIT puts a commit on its way on a fitted
port or on CLOCK, and moves a group's start entry at once. COMMIT_ALL counts the pages whose PAGE_SHADOW is pending in
its register and puts a commit on its way on each such port. A delivery of a port's commit, when no lower port's
commit of a global one comes first, latches a transfer for slot t + Ka. At that boundary the transfer takes the
shadow: of a port whose MODE, MARKER_ROUTE, DIV and SEQ_START are pending, MARKER_ROUTE and SEQ_START as their
registers hold them, MODE and DIV held; a boundary at which the port is parked takes what is held, and no pending bit
of theirs is left. Without a transfer due nothing changes. Where the manual leaves a point open it states the model's
reading: log entries 28, 96 and 128. -/
def Obligations.CommitsLatchAndTransfer : Prop :=
  (∀ (n : Nat) (s : State), n < 144 → Config.portFitted s.part n = true → (s.port n).state ≠ .absent →
    s.writesRefused = false →
    Yields (.pageCommit (Page.port n)) s (fun t => t.port n = { s.port n with commit := true } ∧ s.portsBut t [n] ∧
      s.changesOnly t [.free, .regs, .ports, .i3cA, .i3cB, .ledger])) ∧
  (∀ (g : Nat) (s : State), g < 32 → s.writesRefused = false →
    Yields (.pageCommit (Page.group g)) s (fun t =>
      t.group g = { s.group g with
        seqStart := if (s.group g).shadow then bits (s.rd (Page.group g) 0x40) 0 18 else (s.group g).seqStart
        shadow := false } ∧
      s.groupsBut t [g] ∧ s.changesOnly t [.free, .regs, .groups, .i3cA, .i3cB, .ledger])) ∧
  (∀ s : State, s.writesRefused = false → Yields (.pageCommit Page.clock) s (fun t => t.clock = { s.clock with commit := true } ∧
    s.changesOnly t [.free, .regs, .i3cA, .i3cB, .ledger, .clock])) ∧
  (∀ (c : Instr) (s : State), c = .commitAll ∨ (∃ page, c = .pageCommit page) → s.writesRefused = true →
    exec c s = .next s) ∧
  (∀ s : State, s.writesRefused = false →
    (∃ n ∈ fittedPorts s.part, (s.port n).shadow ≠ 0 ∧ (s.port n).state ≠ .absent) →
    Yields .commitAll s (fun t => t.rd Page.global 0x80 = word (2 ^ 8 + s.pendingPages.length % 256 * 2 ^ 16) ∧
      (∀ n ∈ fittedPorts s.part, (s.port n).state ≠ .absent → (s.port n).shadow ≠ 0 →
        t.port n = { s.port n with commit := true }) ∧
      (s.clock.pend = true → t.clock = { s.clock with commit := true }) ∧
      s.changesOnly t [.free, .regs, .ports, .groups, .i3cA, .i3cB, .ledger, .clock])) ∧
  (∀ (n : Nat) (s : State), (s.port n).commit = true →
    s.committing = false ∨ (∀ m, m < n → (s.port m).commit = false) →
    Yields (.commitDelivery n) s (fun t =>
      t.port n = { s.port n with
        commit := false
        transfers := (s.port n).transfers ++ [((s.port n).slot + Config.ka (Config.portType n), false)] } ∧
      s.portsBut t [n] ∧ s.changesOnly t [.regs, .ports, .groups])) ∧
  (∀ (n : Nat) (s : State), (s.port n).transfers = [((s.port n).slot + 1, false)] → (s.port n).shadow = 0xf →
    Yields (.transferEffect n) s (fun t =>
      t.port n = { s.port n with
        mode := ((s.port n).mode &&& 0x0fff) ||| (s.reg (portReg n 0x44) &&& 0xf000)
        seqStart := bits (s.reg (portReg n 0x4c)) 0 18
        shadow := 5, held := (s.port n).held ||| 5, transfers := [] } ∧
      s.portsBut t [n] ∧ s.changesOnly t [.ports])) ∧
  (∀ (n : Nat) (errs : SlotErrors) (s : State), n < 144 → s.moment (.port n) = .ordinary → (s.port n).state = .parked →
    (s.port n).held = 5 → (s.port n).shadow = 5 → (s.port n).div = (s.reg (portReg n 0x48)).toNat →
    Yields (.slotBoundary (.port n) errs) s (fun t =>
      (t.port n).mode = ((s.reg (portReg n 0x44) &&& 0x0fff) ||| ((s.port n).mode &&& 0xf000)) ∧ (t.port n).shadow = 0 ∧
      (t.port n).held = 0 ∧ (t.port n).div = (s.port n).div ∧ (t.port n).slot = (s.port n).slot + 1)) ∧
  (∀ (n : Nat) (s : State), (∀ x ∈ (s.port n).transfers, x.1 ≠ (s.port n).slot + 1) → exec (.transferEffect n) s = .next s)

/-- The table window of a port selects, indexes, stages and writes entries of every table. TBL_SEL takes the low three
bits, and words staged for another entry are gone; TBL_INDEX is clamped to the selected table's last word and says so
in TBL_STATUS. A write of TBL_DATA to one of the first seven words of a descriptor or of a sequence entry, or to the
first word of a band entry, stages that word for the port and leaves the stores as they are; a write to the last word
stores the whole entry as one, the staged words with it and the others as they stood, reserved bits dropped, every
other entry as before, and leaves nothing staged. A write of the bobbin allocation, with every fitted port PARKED, OFF
or SAFE, gives the port its size, at least 1, the others keeping theirs where the total stays within 2,048 units; the
total never passes 2,048; with a port elsewhere, and for a table that is only read, the write is refused: TBL_STATUS
and PAGE_FLAGS bit 0 say so, and no table changes. A read of TBL_DATA shows the word at TBL_INDEX. Each access moves
the index on to the next word, from the last to the first. The other port's window stays. Where the manual leaves a
point open it states the model's reading: log entries 23, 88 and 89. -/
def Obligations.TableWindowStagesEntries : Prop :=
  ∀ (p : I3cPort) (s : State),
    (∀ w, Yields (.tblSelWrite p w) s (fun t => (t.i3c p).tblSel = bits w 0 3 ∧ (t.i3c p).tblIndex = (s.i3c p).tblIndex ∧
      (∀ e, (t.i3c p).staged = some e → (s.i3c p).staged = some e ∧ e.1 = bits w 0 3) ∧
      t = s.setI3c p { s.i3c p with tblSel := bits w 0 3, staged := (t.i3c p).staged })) ∧
    (∀ w, Yields (.tblIndexWrite p w) s (fun t =>
      (t.i3c p).tblIndex = min (bits w 0 22) (s.tableWords (s.i3c p).tblSel - 1) ∧
      bits (t.i3c p).tblStatus 2 1 = b2n (decide (s.tableWords (s.i3c p).tblSel - 1 < bits w 0 22)) ∧
      t = s.setI3c p { s.i3c p with
        tblIndex := (t.i3c p).tblIndex, tblStatus := (t.i3c p).tblStatus, staged := (t.i3c p).staged })) ∧
    (∀ w i k, (s.i3c p).tblSel = k → k < 2 → (s.i3c p).tblIndex = i → i % 8 ≠ 7 → i < 2097152 →
      Yields (.tblDataWrite p w) s (fun t =>
        ((t.i3c p).stagedFor k (i / 8)).get (fun _ => 0) (i % 8) = w ∧ (t.i3c p).tblIndex = i + 1 ∧
        bits (t.i3c p).tblStatus 0 1 = 0 ∧ s.changesOnly t [.i3cA, .i3cB])) ∧
    (∀ w i, (s.i3c p).tblSel = 0 → (s.i3c p).tblIndex = i → i % 8 = 7 → i < 2097152 →
      Yields (.tblDataWrite p w) s (fun t =>
        t.desc (i / 8) = storedDesc (mergeEntry (s.desc (i / 8)) ((s.i3c p).stagedFor 0 (i / 8)) w) ∧
        (∀ j, j ≠ i / 8 → t.desc j = s.desc j) ∧ (t.i3c p).staged = none ∧
        (t.i3c p).tblIndex = (if i = 2097151 then 0 else i + 1) ∧ s.changesOnly t [.descs, .i3cA, .i3cB])) ∧
    (∀ w i, (s.i3c p).tblSel = 1 → (s.i3c p).tblIndex = i → i % 8 = 7 → i < 2097152 →
      Yields (.tblDataWrite p w) s (fun t =>
        t.entryAt (i / 8) = storedEntry (mergeEntry (s.entryAt (i / 8)) ((s.i3c p).stagedFor 1 (i / 8)) w) ∧
        (∀ j, j ≠ i / 8 → t.entryAt j = s.entryAt j) ∧ (t.i3c p).staged = none ∧
        (t.i3c p).tblIndex = (if i = 2097151 then 0 else i + 1) ∧ s.changesOnly t [.entries, .i3cA, .i3cB])) ∧
    (∀ w i, (s.i3c p).tblSel = 2 → (s.i3c p).tblIndex = i → i % 2 = 0 → i < 32 →
      Yields (.tblDataWrite p w) s (fun t => ((t.i3c p).stagedFor 2 (i / 2)).get (fun _ => 0) 0 = w ∧
        (t.i3c p).tblIndex = i + 1 ∧ s.changesOnly t [.i3cA, .i3cB])) ∧
    (∀ w i, (s.i3c p).tblSel = 2 → (s.i3c p).tblIndex = i → i % 2 = 1 → i < 32 →
      Yields (.tblDataWrite p w) s (fun t => t.clock.bandWord i = w &&& 0x8000ff3f ∧
        t.clock.bandWord (i - 1) =
          ((s.i3c p).stagedFor 2 (i / 2)).get (fun _ => s.clock.bandWord (i - 1)) 0 &&& 0x01ffffff ∧
        (∀ j, j ≠ i → j ≠ i - 1 → t.clock.bandWord j = s.clock.bandWord j) ∧
        t.clock = { s.clock with bands := t.clock.bands } ∧ (t.i3c p).staged = none ∧
        (t.i3c p).tblIndex = (if i = 31 then 0 else i + 1) ∧ s.changesOnly t [.clock, .i3cA, .i3cB])) ∧
    (∀ w i, (s.i3c p).tblSel = 6 → (s.i3c p).tblIndex = i → i < 144 → s.mayAllocate = true →
      Yields (.tblDataWrite p w) s (fun t =>
        (Config.portFitted s.part i = false → t.bobbins = s.bobbins) ∧
        (Config.portFitted s.part i = true →
          ((fittedPorts s.part).map t.bobbinSize).foldl (· + ·) 0 ≤ 2048 ∧
          (((fittedPorts s.part).map (fun n => if n = i then max 1 (bits w 0 12) else s.bobbinSize n)).foldl (· + ·) 0 ≤ 2048 →
            t.bobbinSize i = max 1 (bits w 0 12) ∧ ∀ n, n ≠ i → t.bobbinSize n = s.bobbinSize n)) ∧
        (t.i3c p).tblIndex = (if i = 143 then 0 else i + 1) ∧ s.changesOnly t [.bobbins, .i3cA, .i3cB])) ∧
    (∀ w, ((s.i3c p).tblSel = 6 ∧ s.mayAllocate = false) ∨ (s.i3c p).tblSel ∈ [3, 4, 5, 7] →
      Yields (.tblDataWrite p w) s (fun t => bits (t.i3c p).tblStatus 0 1 = 1 ∧ s.flagged t Page.tables 1 ∧
        s.changesOnly t [.regs, .i3cA, .i3cB])) ∧
    Yields (.tblDataRead p) s (fun t => (t.i3c p).lastRead = s.tableWord (s.i3c p).tblSel (s.i3c p).tblIndex ∧
      (t.i3c p).tblIndex = (if s.tableWords (s.i3c p).tblSel ≤ (s.i3c p).tblIndex + 1 then 0 else (s.i3c p).tblIndex + 1) ∧
      (t.i3c p).staged = (s.i3c p).staged ∧ s.changesOnly t [.free, .i3cA, .i3cB]) ∧
    ∀ q w, q ≠ p → ∀ c, c = .tblSelWrite p w ∨ c = .tblIndexWrite p w ∨ c = .tblDataRead p →
      Yields c s (fun t => t.i3c q = s.i3c q)

/-- A read shows the register and captures its partners from the same cycle, for its port alone. A read of PORT_POS
shows the live word and captures the row counters and the position's partners at 0x60, 0x64 and 0x68 for that port; a
read of RATIO_STATUS captures the sixteen ratio words; a read of a low word of TIMER's snapshot captures its high
word, and so does a read of any other register with its partners. A register captured before reads as it was captured;
one not captured reads live, but for TIME_NS, which reads its reset value (the model's choice, log entry 114).
INFO_SEL's write selects the slot and starts at word 0; a read of INFO_DATA shows the next word and moves on. Only the
reading port, the count of free values, the information window and, for TAGS_IN_FLIGHT, the peak change. Where the
manual leaves a point open it states the model's reading: log entries 5, 85, 91, 114 and 129. -/
def Obligations.ReadsCaptureTheirPartners : Prop :=
  ∀ (p : I3cPort) (s : State),
    (∀ n, n < 144 → (s.i3c p).captured (portReg n 0x5c) = none →
      Yields (.portPosRead p n) s (fun t => (t.i3c p).lastRead = s.liveReg false (portReg n 0x5c) ∧
        (∀ off ∈ [0x60, 0x64, 0x68], (t.i3c p).captured (portReg n off) = some (s.liveReg false (portReg n off))) ∧
        s.changesOnly t [.free, .i3cA, .i3cB])) ∧
    (∀ n, n < 144 → (s.i3c p).captured (portReg n 0x11c) = none →
      Yields (.ratioStatusRead p n) s (fun t => (t.i3c p).lastRead = s.liveReg false (portReg n 0x11c) ∧
        (∀ i, i < 16 → (t.i3c p).captured (portReg n (0x120 + 4 * i)) = some (s.liveReg false (portReg n (0x120 + 4 * i)))) ∧
        s.changesOnly t [.free, .i3cA, .i3cB])) ∧
    (∀ lo hi, lo = regAddr Page.timer 0x3c4 ∧ hi = regAddr Page.timer 0x3c8 ∨
        lo = regAddr Page.timer 0x3cc ∧ hi = regAddr Page.timer 0x3d0 →
      ((s.i3c p).captured lo = none →
        Yields (.loRegisterRead p lo) s (fun t => (t.i3c p).lastRead = s.liveReg false lo ∧
          (t.i3c p).captured hi = some (s.liveReg false hi) ∧ s.changesOnly t [.free, .i3cA, .i3cB])) ∧
      (∀ w, (s.i3c p).captured hi = some w →
        Yields (.loRegisterRead p hi) s (fun t => (t.i3c p).lastRead = w ∧ s.changesOnly t [.i3cA, .i3cB]))) ∧
    (∀ a, pageOf a ≠ Page.tables → a ≠ regAddr Page.cart 0x74 → (s.i3c p).captured a = none →
      Yields (.loRegisterRead p a) s (fun t =>
        (t.i3c p).lastRead = (if a = regAddr Page.ledger 0x50 then 0 else s.liveReg false a) ∧
        (∀ off ∈ captureTargets (pageOf a) (offOf a),
          (t.i3c p).captured (regAddr (pageOf a) off) = some (s.liveReg false (regAddr (pageOf a) off))) ∧
        (a ≠ regAddr Page.stream 0x40 → t.regs = s.regs) ∧ s.changesOnly t [.free, .regs, .i3cA, .i3cB])) ∧
    (∀ w, Yields (.infoSelWrite w) s (fun t => bits (t.rd Page.cart 0x70) 0 1 = bits w 0 1 ∧ t.cart = { s.cart with infoWord := 0 } ∧
      s.regsBut t [regAddr Page.cart 0x70] ∧ s.changesOnly t [.regs, .cart])) ∧
    Yields (.infoDataRead p) s (fun t =>
      (t.i3c p).lastRead = s.infoWordOf (bits (s.rd Page.cart 0x70) 0 1) s.cart.infoWord ∧
      t.cart = { s.cart with infoWord := s.cart.infoWord + 1 } ∧ s.changesOnly t [.i3cA, .i3cB, .cart])

/-- A register write changes what its mask reaches; UNIT_RESET clears its page and nothing beyond. A write by the
owner to PORT_SEQ_START of a fitted port stores the masked bits and, when the mask reaches the field, makes it
pending, the active start entry standing; to HEARTBEAT_TIMEOUT stores the value clamped to 50-600,000; to a page that
is absent, or to a read-only register (PART_ID, OWNER_STATE, PLL_STATE), changes nothing; to PAGE_FLAGS of CAL clears
the flags whose bits act. UNIT_RESET of a MEMCTL page clears its counters, peaks and flags and never touches training,
refresh or the data in the stacks; of an EVCHAN page CH_STAT of its 32 channels; of STREAM its counter and flags; of
the TABLES page it returns only the calling port's window; of an absent page it changes nothing. Where the manual
leaves a point open it states the model's reading: log entries 84, 87 and 127. -/
def Obligations.RegisterWritesAndUnitResets : Prop :=
  (∀ (p : I3cPort) (n : Nat) (mask value : Word) (s : State), n < 144 → pagePresent s.part (Page.port n) = true →
    Yields (.registerWrite p (portReg n 0x4c) mask value) s (fun t =>
      t.reg (portReg n 0x4c) = (((s.reg (portReg n 0x4c) &&& ~~~mask) ||| (value &&& mask)) &&& 0x3ffff) ∧
      t.port n = { s.port n with
        shadow := if mask &&& 0x3ffff = 0 then (s.port n).shadow else (s.port n).shadow ||| 8 } ∧
      s.regsBut t [portReg n 0x4c] ∧ s.portsBut t [n] ∧ s.changesOnly t [.regs, .ports])) ∧
  (∀ (p : I3cPort) (value : Word) (s : State),
    Yields (.registerWrite p (regAddr Page.owner 0x50) 0xffffffff value) s (fun t =>
      (t.rd Page.owner 0x50).toNat = max 50 (min 600000 value.toNat) ∧ s.regsBut t [regAddr Page.owner 0x50] ∧
      s.changesOnly t [.regs])) ∧
  (∀ (p : I3cPort) (addr : Nat) (mask value : Word) (s : State), addr < 0x1000000 → addr % 4 = 0 →
    pagePresent s.part (pageOf addr) = false ∨ addr = regAddr Page.owner 0x40 ∨ addr = regAddr Page.clock 0x44 ∨
      addr = regAddr Page.global 0x40 →
    exec (.registerWrite p addr mask value) s = .next s) ∧
  (∀ (p : I3cPort) (mask value : Word) (s : State),
    Yields (.registerWrite p (regAddr Page.cal 0x14) mask value) s (fun t =>
      t.rd Page.cal 0x14 = (s.rd Page.cal 0x14 &&& ~~~(value &&& mask)) ∧ s.regsBut t [regAddr Page.cal 0x14] ∧
      s.changesOnly t [.regs, .i3cA, .i3cB])) ∧
  (∀ (p : I3cPort) (k : Nat) (s : State), k < Config.stackCount s.part →
    Yields (.unitReset p (Page.memctl k)) s (fun t =>
      (∀ off ∈ [0x50, 0x54, 0x58, 0x5c, 0x6c, 0x70, 0x74, 0x14], t.rd (Page.memctl k) off = 0) ∧
      t.stack k = { s.stack k with peakOwed := 0, peakTemp := 0, taps := 0 } ∧ s.stacksBut t [k] ∧
      s.changesOnly t [.regs, .memctl, .i3cA, .i3cB])) ∧
  (∀ (p : I3cPort) (k : Nat) (s : State), k < 16 →
    Yields (.unitReset p (Page.evchan k)) s (fun t => (∀ i, i < 32 → t.reg (chanReg (32 * k + i) 12) = 0) ∧
      (∀ a, (∀ i, i < 32 → a ≠ chanReg (32 * k + i) 12) → t.reg a = s.reg a) ∧ s.changesOnly t [.regs, .i3cA, .i3cB])) ∧
  (∀ (p : I3cPort) (s : State),
    Yields (.unitReset p Page.stream) s (fun t => t.rd Page.stream 0x44 = 0 ∧ t.rd Page.stream 0x14 = 0 ∧
      s.regsBut t [regAddr Page.stream 0x44, regAddr Page.stream 0x14] ∧ s.changesOnly t [.regs, .i3cA, .i3cB])) ∧
  (∀ (p : I3cPort) (s : State),
    exec (.unitReset p Page.tables) s =
      .next (s.setI3c p { s.i3c p with tblSel := 0, tblIndex := 0, tblStatus := 0, staged := none })) ∧
  (∀ (p : I3cPort) (page : Nat) (s : State), pagePresent s.part page = false → exec (.unitReset p page) s = .next s)

/-- A boundary command that names another moment than the unit's next changes nothing. The model's reading (log entry
11): the moments at a unit's boundary come one at a time, each as a command. A command of a moment that the unit's
boundary has not come to leaves the state as it is, for ports and for stitch groups. -/
def Obligations.CommandsOutOfTheirMomentDoNothing : Prop :=
  ∀ (u : SeqUnit) (errs : SlotErrors) (s : State),
    (∀ l, s.moment u ≠ .commit → exec (.commitPoint u l) s = .next s) ∧
    (s.moment u ≠ .passEnd → exec (.passEnd u errs) s = .next s) ∧
    (s.moment u ≠ .start → exec (.startEffect u errs) s = .next s) ∧
    (s.moment u ≠ .pause → exec (.pauseEffect u errs) s = .next s) ∧
    (s.moment u ≠ .stop → exec (.stopEffect u errs) s = .next s) ∧
    (s.moment u ≠ .jump → exec (.immediateJumpEffect u errs) s = .next s) ∧
    (s.moment u ≠ .release → exec (.waitRelease u errs) s = .next s) ∧
    (s.moment u ≠ .timeout → exec (.waitTimeout u errs) s = .next s) ∧
    (s.moment u ≠ .gapEnd → exec (.gapEnd u errs) s = .next s) ∧
    (s.moment u ≠ .selvedgeEnd → exec (.selvedgeEnd u errs) s = .next s) ∧
    (s.moment u ≠ .missing → exec (.missingSlot u errs) s = .next s) ∧
    (s.moment u ≠ .ordinary → s.moment u ≠ .safe → exec (.slotBoundary u errs) s = .next s) ∧
    (∀ n, s.moment (.port n) ≠ .recover → exec (.underrunRecovery n errs) s = .next s) ∧
    (∀ n, s.moment (.port n) ≠ .trip → exec (.tripPark n errs) s = .next s)

/-- The commit point fixes what follows the pass and lets no slot pass. At the commit point of a unit, what follows is
fixed as the resolution of R48 gives it, the entry that runs standing as it was read at its own resolution (R47): the
lowest hook with an event standing and an enabled jump word wins and the plan goes to its target with the row counters
cleared as its word says; without one, a pass that is not the last is followed by the next pass of the same entry, and
the last by the resolution from the next entry. The events that stood are spent, the position stays where it is, and
no other unit moves. Where the manual leaves a point open it states the model's reading: log entries 29, 33, 95, 103
and 108. -/
def Obligations.CommitPointFixesWhatFollows : Prop :=
  ∀ (u : SeqUnit) (bad : List Nat) (s : State), s.moment u = .commit →
    Yields (.commitPoint u bad) s (fun t =>
      (t.playhead u).plan = some (commitPlan s bad (s.playhead u)).1 ∧ (t.playhead u).rows = (commitPlan s bad (s.playhead u)).2 ∧
      (t.playhead u).cand = 0 ∧ (t.playhead u).pend = 0 ∧ (t.playhead u).entry = (s.playhead u).entry ∧
      (t.playhead u).pass = (s.playhead u).pass ∧ (t.playhead u).gran = (s.playhead u).gran ∧ t.unitSlot u = s.unitSlot u ∧
      (∀ v, v ≠ u → t.playhead v = s.playhead v ∧ t.unitState v = s.unitState v) ∧
      (winner (s.playhead u).word ((s.playhead u).cand ||| (s.playhead u).pend) = none →
        (s.playhead u).pass < playRepeat (s.playhead u).word →
        ((t.playhead u).plan.map (fun pl => pl.follow)) = some (.play (s.playhead u).entry ((s.playhead u).pass + 1) (s.playhead u).word) ∧
        (t.playhead u).rows = (s.playhead u).rows) ∧
      (∀ j, winner (s.playhead u).word ((s.playhead u).cand ||| (s.playhead u).pend) = some j →
        ((t.playhead u).plan.map (fun pl => pl.follow)) =
          some (resolveFrom s bad (jumpTarget (jumpWord (s.playhead u).word j))
            (clearRows (s.playhead u).rows (jumpClr (jumpWord (s.playhead u).word j)))).1.follow) ∧
      s.changesOnly t [.free, .regs, .ports, .groups, .fabric, .i3cA, .i3cB, .faults])

/-- Start, jump, release, timeout, GAP end and recovery take a port's playhead to their entry in the next slot. For a
port that walks alone, at its moment and for an entry below 2^18 that is read without an error: a START of an armed
sequence goes to the start entry that its ARM took; an immediate jump to its latched target; a WAIT release and a GAP
end to the next entry; a WAIT timeout, flagged, to TO_TARGET where TO_EN is set and to the next entry where not; an
underrun recovery to the entry named by RECOVERY. There it waits, holds a GAP, plays the first pass or the selvedge
before it, or is parked by a HALT, in the slot after. A jump and a recovery clear the pending events, the recovery the
row counters too. An entry read with an uncorrectable error is executed as HALT (R145). Where the manual leaves a
point open it states the model's reading: log entries 11, 15, 29, 41, 106 and 109. -/
def Obligations.PlayheadsGoWhereTheirMomentSends : Prop :=
  ∀ (n : Nat) (errs : SlotErrors) (s : State), s.walksAlone n →
    (s.moment (.port n) = .start → (s.port n).state = .armed → pulseUnit (Config.portType n) (s.port n).mode = false →
      (s.port n).play.start < 2 ^ 18 → (s.port n).play.start ∉ errs.entries →
      Yields (.startEffect (.port n) errs) s (fun t => s.landsOn t n (s.port n).play.start)) ∧
    (∀ j e clr l, s.moment (.port n) = .jump → e < 2 ^ 18 → e ∉ errs.entries →
      (s.port n).play.dueAt ((s.port n).slot + 1) (fun x => match x with | .jump .. => true | _ => false) = some l →
      l.what = .jump j e clr →
      Yields (.immediateJumpEffect (.port n) errs) s (fun t => s.landsOn t n e ∧ (t.port n).play.pend = 0 ∧
        (entryKind (s.entryAt e) = .wait → (t.port n).play.rows = clearRows (s.port n).play.rows clr))) ∧
    (s.moment (.port n) = .release → (s.port n).play.entry + 1 < 2 ^ 18 → (s.port n).play.entry + 1 ∉ errs.entries →
      Yields (.waitRelease (.port n) errs) s (fun t => s.landsOn t n ((s.port n).play.entry + 1))) ∧
    (∀ e, s.moment (.port n) = .timeout →
      e = (if field (s.port n).play.word 82 1 = 1 then field (s.port n).play.word 64 18 else (s.port n).play.entry + 1) →
      e < 2 ^ 18 → e ∉ errs.entries →
      Yields (.waitTimeout (.port n) errs) s (fun t => bit (t.rd (Page.port n) 0x14) 6 = true ∧ s.landsOn t n e)) ∧
    (s.moment (.port n) = .gapEnd → (s.port n).play.entry + 1 < 2 ^ 18 → (s.port n).play.entry + 1 ∉ errs.entries →
      Yields (.gapEnd (.port n) errs) s (fun t => s.landsOn t n ((s.port n).play.entry + 1))) ∧
    (∀ e, s.moment (.port n) = .recover → e = bits (s.reg (portReg n 0x58)) 10 18 → e ∉ errs.entries →
      Yields (.underrunRecovery n errs) s (fun t => s.landsOn t n e ∧ (t.port n).play.pend = 0 ∧
        (entryKind (s.entryAt e) = .wait → (t.port n).play.rows = rowsZero))) ∧
    (∀ c e, e < 2 ^ 18 → e ∈ errs.entries →
      (c = .waitRelease (.port n) errs ∧ s.moment (.port n) = .release ∨ c = .gapEnd (.port n) errs ∧ s.moment (.port n) = .gapEnd) →
      e = (s.port n).play.entry + 1 →
      Yields c s (fun t => (t.port n).slot = (s.port n).slot + 1 ∧ (t.port n).state = .parked))

/-- A pass end begins the next pass, a selvedge its pass, a missing granule an underrun episode, and every slot
advances. For a port that walks alone, at its moment: the end of a pass whose plan is the next pass of an entry on the
default path, with no transition outstanding, begins that pass at granule 0; the end of a selvedge begins the pass
that it came before; a missing granule, outside a recovery and with no episode running, counts an underrun, flags it,
and the position goes on by one granule, but on a frozen output or one that a rail holds off it counts none; an
ordinary boundary of a WAIT or a GAP counts one slot, and no underrun episode outlasts it; an ordinary boundary of a
parked port leaves it parked. A START of a paused port that waits in an entry without a timeout leaves it running
where it stopped; a START of an armed pulse unit puts the line at IDLE. In each the slot number goes on by one. Where
the manual leaves a point open it states the model's reading: log entries 11, 27, 29, 33, 41, 104, 107 and 125. -/
def Obligations.PassesSelvedgesUnderrunsAndSlots : Prop :=
  ∀ (n : Nat) (errs : SlotErrors) (s : State), s.walksAlone n →
    (∀ pl e k w, s.moment (.port n) = .passEnd → (s.port n).play.plan = some pl → pl.follow = .play e k w →
      pl.offPath = false → (s.port n).play.trans = none →
      Yields (.passEnd (.port n) errs) s (fun t => (t.port n).slot = (s.port n).slot + 1 ∧ (t.port n).state = .run ∧
        (t.port n).play.entry = e ∧ (t.port n).play.word = w ∧ (t.port n).play.pass = k ∧ (t.port n).play.gran = 0 ∧
        (t.port n).play.activity = .segment ∧ (t.port n).play.plan = none)) ∧
    (s.moment (.port n) = .selvedgeEnd →
      Yields (.selvedgeEnd (.port n) errs) s (fun t => (t.port n).slot = (s.port n).slot + 1 ∧ (t.port n).state = .run ∧
        (t.port n).play.entry = (s.port n).play.entry ∧ (t.port n).play.pass = (s.port n).play.pass ∧ (t.port n).play.gran = 0 ∧
        (t.port n).play.activity = .segment)) ∧
    (s.moment (.port n) = .missing → (s.port n).underrun = false → (s.port n).stale = false → s.railHolds n = false →
      Yields (.missingSlot (.port n) errs) s (fun t => (t.port n).slot = (s.port n).slot + 1 ∧
        (t.port n).play.gran = (s.port n).play.gran + 1 ∧ (t.port n).underrun = true ∧
        t.rd (Page.port n) 0x100 = word (min 0xffffffff ((s.rd (Page.port n) 0x100).toNat + 1)) ∧
        bit (t.rd (Page.port n) 0x14) 0 = true)) ∧
    (s.moment (.port n) = .missing → (s.port n).stale = true ∨ s.railHolds n = true →
      Yields (.missingSlot (.port n) errs) s (fun t => (t.port n).slot = (s.port n).slot + 1 ∧ (t.port n).state = .run ∧
        t.rd (Page.port n) 0x100 = s.rd (Page.port n) 0x100)) ∧
    (s.moment (.port n) = .ordinary → (s.port n).state = .run →
      (s.port n).play.activity = .wait ∨ (s.port n).play.activity = .gap →
      Yields (.slotBoundary (.port n) errs) s (fun t => (t.port n).slot = (s.port n).slot + 1 ∧
        (t.port n).play.gran = (s.port n).play.gran + 1 ∧ (t.port n).play.entry = (s.port n).play.entry ∧
        (t.port n).play.activity = (s.port n).play.activity ∧ (t.port n).state = .run ∧
        ((s.port n).play.recovering = false → (t.port n).underrun = false))) ∧
    (s.moment (.port n) = .ordinary → (s.port n).state = .parked →
      Yields (.slotBoundary (.port n) errs) s (fun t => (t.port n).slot = (s.port n).slot + 1 ∧ (t.port n).state = .parked)) ∧
    (s.moment (.port n) = .start → (s.port n).state = .paused → (s.port n).play.activity = .wait → (s.port n).play.len = 0 →
      (s.port n).play.recovering = false → pulseUnit (Config.portType n) (s.port n).mode = false →
      Yields (.startEffect (.port n) errs) s (fun t => (t.port n).slot = (s.port n).slot + 1 ∧ (t.port n).state = .run ∧
        (t.port n).play.entry = (s.port n).play.entry ∧ (t.port n).play.gran = (s.port n).play.gran + 1)) ∧
    (s.moment (.port n) = .start → (s.port n).state = .armed → pulseUnit (Config.portType n) (s.port n).mode = true →
      (s.port n).forced = false → (s.port n).play.activity = .idle →
      Yields (.startEffect (.port n) errs) s (fun t => (t.port n).state = .run ∧
        (t.port n).last.value = b2n (bit (s.reg (portReg n 0x160)) 0)))

/-- PAUSE freezes the playhead and holds the output; STOP and a trip park the port. For a port that walks alone, at
its moment: a PAUSE leaves it PAUSED with its entry, pass, granule, row counters and marker state as they stand and
its last sample held; a STOP leaves it PARKED, requested so where no request is on its way, with its playhead idle,
its row counters kept, its marker state cleared, no pending event, no reservation and an empty bobbin; a trip does the
same and its output steps to the park output without a ramp. In each the slot number goes on by one and no other
port's playhead moves. A stitch group at its moment is paused, or parked and left, with every member. Where the manual
leaves a point open it states the model's reading: log entries 11, 27, 36, 110 and 126. -/
def Obligations.PauseStopAndTripPark : Prop :=
  (∀ (n : Nat) (errs : SlotErrors) (s : State), s.walksAlone n →
    (s.moment (.port n) = .pause →
      Yields (.pauseEffect (.port n) errs) s (fun t => (t.port n).slot = (s.port n).slot + 1 ∧ (t.port n).state = .paused ∧
        (t.port n).play.entry = (s.port n).play.entry ∧ (t.port n).play.pass = (s.port n).play.pass ∧
        (t.port n).play.gran = (s.port n).play.gran ∧ (t.port n).play.rows = (s.port n).play.rows ∧
        (t.port n).ms = (s.port n).ms ∧ ((s.port n).forced = false → (t.port n).last = (s.port n).last.held) ∧
        ∀ m, m ≠ n → (t.port m).play = (s.port m).play)) ∧
    (∀ c, (c = .stopEffect (.port n) errs ∧ s.moment (.port n) = .stop) ∨
        (c = .tripPark n errs ∧ s.moment (.port n) = .trip) →
      Yields c s (fun t => (t.port n).slot = (s.port n).slot + 1 ∧ (t.port n).state = .parked ∧
        ((∀ l ∈ (s.port n).play.latches, ∀ st, l.what ≠ .request st) → (t.port n).requested = .parked) ∧
        (t.port n).play.activity = .idle ∧ (t.port n).play.rows = (s.port n).play.rows ∧
        (t.port n).play.pend = 0 ∧ (t.port n).ms = 0 ∧ (t.port n).admitted = false ∧ (t.port n).bobbin.present = [] ∧
        (c = .tripPark n errs → (t.port n).ramp = none ∧
          ((s.port n).forced = false → (s.port n).stale = false → n ∉ errs.bridge →
            (t.port n).last.value = parkLevel (Config.portType n) (s.reg (portReg n 0x54)))) ∧
        ∀ m, m ≠ n → (t.port m).play = (s.port m).play))) ∧
  (∀ (g : Nat) (errs : SlotErrors) (s : State),
    (s.moment (.group g) = .pause →
      Yields (.pauseEffect (.group g) errs) s (fun t => (t.group g).state = .paused ∧
        (t.group g).slot = (s.group g).slot + 1 ∧ (t.group g).play.entry = (s.group g).play.entry ∧
        (t.group g).play.gran = (s.group g).play.gran ∧ ∀ m ∈ (s.group g).members, (t.port m).state = .paused)) ∧
    (s.moment (.group g) = .stop →
      Yields (.stopEffect (.group g) errs) s (fun t => (t.group g).state = .parked ∧ (t.group g).members = [] ∧
        ∀ m ∈ (s.group g).members, (t.port m).state = .parked)))

/-- A fabric cycle carries its emission to every open channel and subscribed hook, and drops what has hopped too
often. With one emission waiting that has hopped fewer than 16 times, the cycle takes it: on every enabled channel of
its source whose gate is off and whose group is enabled, CH_STAT shows FLAG and the hop count; and in NORMAL every
hook in DIRECT mode whose first subscription is enabled on such a channel is presented an activation with that hop
count. An emission that has hopped 16 times or more is dropped: counted in HOP_DROP_COUNT, its source shown, flagged,
and no activation is formed. The rest of the waiting emissions wait on; no port, timer or group moves before its
activation is taken. -/
def Obligations.FabricCycleCarriesEmissions : Prop :=
  (∀ (e : Emission) (rest : List (List Emission)) (s : State), s.fabric.emitted = [e] :: rest → e.hop < 16 →
    Yields (.fabricEvent 0) s (fun t => t.fabric.emitted = rest ∧ t.fabric.cycles = s.fabric.cycles + 1 ∧
      (∀ c, c < 512 → bit (s.reg (chanReg c 0)) 15 = true → c ∈ s.enabledChannels →
        bits (s.reg (chanReg c 0)) 0 12 = e.code → bit (s.reg (chanReg c 4)) 15 = false →
        bit (s.rd Page.event 0x44) (bits (s.reg (chanReg c 8)) 4 4) = true →
        bit (t.reg (chanReg c 12)) 0 = true ∧ bits (t.reg (chanReg c 12)) 8 4 = e.hop ∧
        (s.fabric.mode = .normal → ∀ a, isHook a = true → a ∈ s.fabric.hooks.map (fun h => h.1) →
          hookMode (s.reg a) = 0 → hookEn (s.reg a) 0 = true → hookChan (s.reg a) 0 = c →
          ∃ x ∈ t.fabric.acts, x.hook = a ∧ x.hop = e.hop)) ∧
      s.changesOnly t [.regs, .fabric, .i3cA, .i3cB])) ∧
  (∀ (e : Emission) (rest : List (List Emission)) (s : State), s.fabric.emitted = [e] :: rest → 16 ≤ e.hop →
    Yields (.fabricEvent 0) s (fun t => t.fabric.emitted = rest ∧ t.fabric.acts = s.fabric.acts ∧
      t.rd Page.event 0x48 = word (min 0xffffffff ((s.rd Page.event 0x48).toNat + 1)) ∧
      t.rd Page.event 0xa0 = word (e.code % 4096) ∧ s.flagged t Page.event 1 ∧
      s.regsBut t [regAddr Page.event 0x48, regAddr Page.event 0xa0, regAddr Page.event 0x14] ∧
      s.changesOnly t [.regs, .fabric, .i3cA, .i3cB]))

/-- Pins and strobes emit their sources, and the fabric's controls keep to their writers. A rising edge of TRIG0-3 or
PPS emits its source with hop count 0 unless the module follows; a falling edge emits nothing; a rising PPS also
begins a ledger second, an armed TIME_SET taking effect there. SW_STROBE emits the sources of its set bits in one
cycle. FIRST_QUERY shows the first subscription of its channel, or 0. TEST_CTRL.SINGLE is refused while a fitted port
is neither PARKED nor OFF, and otherwise holds. A channel register is written as its writer may: the owner on an
unlocked channel of OWNER 0, with its reserved bits dropped, not on one of the module's, where the write is flagged
ATTR_REFUSED. A group-control hook's activation, in NORMAL, sets, clears or toggles GROUP_ENABLE by its configuration,
after the activations of the other units that came before it, so that of two the last decides. Where the manual leaves
a point open it states the model's reading: log entry 98. -/
def Obligations.SourcesEnterTheFabric : Prop :=
  (∀ (i : Nat) (s : State), i < 4 →
    (s.pins.trig.getLsbD i = false → s.twin.role ≠ .follow →
      Yields (.trigEdge i true) s (fun t => t.fabric = { s.fabric with
          emitted := s.fabric.emitted ++ [[{ code := 0x10 + i, hop := 0 }]] } ∧
        (∀ j, j < 4 → t.pins.trig.getLsbD j = (j == i || s.pins.trig.getLsbD j)) ∧ s.changesOnly t [.fabric, .pins])) ∧
    Yields (.trigEdge i false) s (fun t => (∀ j, j < 4 → t.pins.trig.getLsbD j = (j != i && s.pins.trig.getLsbD j)) ∧
      s.changesOnly t [.pins])) ∧
  (∀ s : State, s.pins.pps = false → s.twin.role ≠ .follow →
    (s.ledger.timeSet = none →
      Yields (.ppsEdge true) s (fun t => t.pins = { s.pins with pps := true } ∧
        t.fabric = { s.fabric with emitted := s.fabric.emitted ++ [[{ code := 0x14, hop := 0 }]] } ∧
        t.ledger = { s.ledger with
          pps := true, sec := s.ledger.sec + 1, elapsed := s.ledger.elapsed + 1, secAt := s.cycle } ∧
        s.changesOnly t [.fabric, .ledger, .pins])) ∧
    (∀ v, s.ledger.timeSet = some v →
      Yields (.ppsEdge true) s (fun t => t.ledger.sec = v ∧ t.ledger.timeSet = none ∧ t.ledger.elapsed = s.ledger.elapsed + 1 ∧
        t.ledger.secAt = s.cycle ∧ bit (t.rd Page.ledger 0x14) 2 = true ∧
        s.changesOnly t [.free, .regs, .fabric, .i3cA, .i3cB, .ledger, .pins]))) ∧
  (∀ s : State, exec (.ppsEdge false) s = .next { s with pins := { s.pins with pps := false } }) ∧
  (∀ (w : Word) (s : State), w ≠ 0 →
    Yields (.swStrobe w) s (fun t => ∃ es, t.fabric = { s.fabric with emitted := s.fabric.emitted ++ [es] } ∧
      (∀ e : Emission, e ∈ es ↔ e.hop = 0 ∧ 0x20 ≤ e.code ∧ e.code < 0x40 ∧ bit w (e.code - 0x20) = true) ∧
      s.changesOnly t [.fabric])) ∧
  (∀ (c : Nat) (s : State), c < 512 →
    Yields (.firstQuery c) s (fun t => t.rd Page.event 0x58 = word c ∧
      (s.firstSubscription c = none → t.rd Page.event 0x5c = 0) ∧
      (∀ a sub, s.firstSubscription c = some (a, sub) → a < 2 ^ 24 → sub < 2 →
        bit (t.rd Page.event 0x5c) 31 = true ∧ bits (t.rd Page.event 0x5c) 0 24 = a ∧ bits (t.rd Page.event 0x5c) 24 1 = sub) ∧
      s.regsBut t [regAddr Page.event 0x58, regAddr Page.event 0x5c] ∧ s.changesOnly t [.regs])) ∧
  (∀ s : State,
    (s.allParked = false → exec (.testCtrlSingle true) s = .next s) ∧
    (s.allParked = true → Yields (.testCtrlSingle true) s (fun t => t.rd Page.event 0xa4 = 1 ∧ t.fabric.mode ≠ .normal)) ∧
    Yields (.testCtrlSingle false) s (fun t => t.rd Page.event 0xa4 = 0)) ∧
  (∀ (c : Nat) (mask value : Word) (s : State), c < 512 → bit (s.reg (chanReg c 8)) 2 = false →
    (bits (s.reg (chanReg c 8)) 0 2 = 0 →
      Yields (.channelConfigWrite .owner (chanReg c 0) mask value) s (fun t =>
        t.reg (chanReg c 0) = (((s.reg (chanReg c 0) &&& ~~~mask) ||| (value &&& mask)) &&& 0x8fff) ∧
        s.regsBut t [chanReg c 0] ∧ s.changesOnly t [.regs])) ∧
    (bits (s.reg (chanReg c 8)) 0 2 = 1 →
      Yields (.channelConfigWrite .owner (chanReg c 0) mask value) s (fun t => s.flagged t Page.event 4 ∧
        s.regsBut t [regAddr Page.event 0x14] ∧ s.changesOnly t [.regs, .i3cA, .i3cB]))) ∧
  (∀ (u : Nat) (x : Activation) (s : State), u < 8 → s.fabric.mode = .normal →
    s.fabric.acts.find? (fun y => y.hook == gcHook u) = some x →
    let before := (s.fabric.acts.takeWhile (fun y => y != x)).filter (fun y => ((List.range 8).map gcHook).contains y.hook)
    Yields (.gcHook u) s (fun t =>
      let mask := s.rd Page.event (0xc4 + 8 * u) &&& 0xffff
      let action := bits (s.rd Page.event (0xc4 + 8 * u)) 16 2
      (before = [] →
        (action = 0 ∨ action = 3 → t.rd Page.event 0x44 = s.rd Page.event 0x44 ||| mask) ∧
        (action = 1 → t.rd Page.event 0x44 = s.rd Page.event 0x44 &&& ~~~mask) ∧
        (action = 2 → t.rd Page.event 0x44 = s.rd Page.event 0x44 ^^^ mask) ∧
        t.fabric = { s.fabric with acts := s.fabric.acts.erase x }) ∧
      t.rd Page.event 0x44 =
        (before ++ [x]).foldl (fun w y => groupControl w (s.reg (y.hook + 4))) (s.rd Page.event 0x44) ∧
      s.regsBut t [regAddr Page.event 0x44] ∧ s.changesOnly t [.regs, .fabric]))

/-- An activation of a port's hook is taken and acts on the unit it steers, in the effect slot. For a port outside a
stitch group whose hooks have effect, with an activation presented: HOOK_STOP and HOOK_PAUSE, and HOOK_START on a port
that is no pulse unit, latch their command for slot t + Ka with the cause's hop count raised by one; HOOK_NCO and
HOOK_COMMIT latch a transfer of the NCO group or of every field for that slot; a jump event during a segment before
the commit point becomes a candidate, after it a late event, counted and flagged when the slot ends, an immediate one
is latched for t + Ka, and one that a WAIT's mask takes releases it. In SAFE or during a relock the activation is
taken and nothing else happens. No other port changes. Without an activation nothing happens. The stop and pause hooks
of a stitch group's leader act on the group, those of another member on nothing. Where the manual leaves a point open
it states the model's reading: log entries 11, 26 and 111. -/
def Obligations.PortHooksActOnTheirPlayhead : Prop :=
  (∀ (n : Nat) (s : State), n < 144 → (s.port n).group = none →
    let ka := Config.ka (Config.portType n)
    (∀ c off what, (c = .hookStop n ∧ off = 0xd4 ∧ what = .stop) ∨ (c = .hookPause n ∧ off = 0xd8 ∧ what = .pause) ∨
        (c = .hookStart n ∧ off = 0xd0 ∧ what = .start ∧ pulseUnit (Config.portType n) (s.port n).mode = false) →
      (s.fabric.acts.find? (fun y => y.hook == portReg n off) = none → exec c s = .next s) ∧
      (∀ x, s.fabric.acts.find? (fun y => y.hook == portReg n off) = some x →
        (s.hooksAct n = true → Yields c s (fun t =>
          t.port n = { s.port n with play := { (s.port n).play with
            latches := (s.port n).play.latches ++ [{ due := (s.port n).slot + ka, what := what, hop := x.hop + 1 }] } } ∧
          t.fabric = { s.fabric with acts := s.fabric.acts.erase x } ∧ s.portsBut t [n] ∧
          s.changesOnly t [.ports, .fabric])) ∧
        (s.hooksAct n = false →
          exec c s = .next { s with fabric := { s.fabric with acts := s.fabric.acts.erase x } }))) ∧
    (∀ c off nco x, (c = .hookNco n ∧ off = 0xdc ∧ nco = true) ∨ (c = .hookCommit n ∧ off = 0xe0 ∧ nco = false) →
      s.fabric.acts.find? (fun y => y.hook == portReg n off) = some x → s.hooksAct n = true →
      Yields c s (fun t =>
        t.port n = { s.port n with transfers := (s.port n).transfers ++ [((s.port n).slot + ka, nco)] } ∧
        t.fabric = { s.fabric with acts := s.fabric.acts.erase x } ∧ s.portsBut t [n] ∧
        s.changesOnly t [.ports, .fabric])) ∧
    (∀ j x, j < 4 → s.fabric.acts.find? (fun y => y.hook == hookJ n j) = some x → s.hooksAct n = true →
      (s.port n).state = .run → (s.port n).play.judged = none →
      let ph := (s.port n).play
      let w := jumpWord ph.word j
      (ph.activity = .segment → jumpEn w = true → jumpImm w = false → ph.gran + ka < ph.len →
        Yields (.hookJump n j) s (fun t => (t.port n).play.cand.getLsbD j = true ∧ (t.port n).play.pend = ph.pend ∧
          (t.port n).play.latches = ph.latches ∧ s.portsBut t [n] ∧ s.changesOnly t [.ports, .fabric])) ∧
      (ph.activity = .segment → jumpEn w = true → jumpImm w = false → ph.len ≤ ph.gran + ka →
        Yields (.hookJump n j) s (fun t => (t.port n).play.pend.getLsbD j = true ∧ (t.port n).play.cand = ph.cand ∧
          (t.port n).play.lateNow = true ∧ s.portsBut t [n] ∧ s.changesOnly t [.ports, .fabric])) ∧
      (ph.activity = .segment → jumpEn w = true → jumpImm w = true →
        Yields (.hookJump n j) s (fun t => (t.port n).play.latches =
            ph.latches ++ [{ due := (s.port n).slot + ka, what := .jump j (jumpTarget w) (jumpClr w), hop := x.hop + 1 }] ∧
          (t.port n).play.cand = ph.cand ∧ s.portsBut t [n] ∧ s.changesOnly t [.ports, .fabric])) ∧
      (ph.activity = .wait → (waitMask ph.word).getLsbD j = true →
        Yields (.hookJump n j) s (fun t => (t.port n).play.latches =
            ph.latches ++ [{ due := (s.port n).slot + ka, what := .release, hop := x.hop + 1 }] ∧
          s.portsBut t [n] ∧ s.changesOnly t [.ports, .fabric])))) ∧
  (∀ (n : Nat) (errs : SlotErrors) (s : State), n < 144 → s.moment (.port n) = .ordinary → (s.port n).state = .run →
    (s.port n).play.lateNow = true →
    Yields (.slotBoundary (.port n) errs) s (fun t =>
      t.rd (Page.port n) 0x104 = word (min 0xffffffff ((s.rd (Page.port n) 0x104).toNat + 1)) ∧
      bit (t.rd (Page.port n) 0x14) 1 = true)) ∧
  (∀ (n g : Nat) (c : Instr) (off : Nat) (what : Latched) (x : Activation) (s : State), n < 144 → (s.port n).group = some g →
    (c = .hookStop n ∧ off = 0xd4 ∧ what = .stop) ∨ (c = .hookPause n ∧ off = 0xd8 ∧ what = .pause) →
    s.fabric.acts.find? (fun y => y.hook == portReg n off) = some x → s.hooksAct n = true →
    ((s.group g).leader = some n → Yields c s (fun t =>
      (t.group g).play.latches = (s.group g).play.latches ++
        [{ due := (s.group g).slot + Config.ka (Config.portType n), what := what, hop := x.hop + 1 }] ∧
      s.groupsBut t [g] ∧ s.changesOnly t [.groups, .fabric])) ∧
    ((s.group g).leader ≠ some n →
      exec c s = .next { s with fabric := { s.fabric with acts := s.fabric.acts.erase x } }))

/-- Timers start, stop, capture, count, open their window and expire as their mode says. TIMER_START starts every
timer of its set bits that is not running and has a mode, with the period and width of its registers (at least 1) and
a count of 0, and leaves the other timers; TIMER_STOP leaves the timers of its set bits IDLE with the count reached.
An activation of TSTART starts the timer, unless a stop of the same cycle came first, and carries its hop count on;
one of TSTOP stops it. One of TCAPT captures the count of a running timer, emits its event and marks an overrun; in
COUNT mode it counts, and at the period expires. A WINDOW timer opens its window at PERIOD. A ONESHOT expiry leaves
DONE, counts, flags and emits; a RETRIG one counts from 0 again. SNAP_SEL shows the count and the last capture of one
cycle and clears CAPT_VALID and CAPT_OVERRUN. Where the manual leaves a point open it states the model's reading: log
entries 12 and 38. -/
def Obligations.TimersStartStopCaptureExpire : Prop :=
  (∀ (w : Word) (s : State),
    Yields (.timerStart w) s (fun t =>
      (∀ k, k < 32 → bit w k = true → (s.timer k).active = false → timerMode (s.reg (timerReg k 0)) ≠ 0 →
        t.timer k = { s.timer k with
          state := .running, mode := timerMode (s.reg (timerReg k 0)), retrig := bit (s.reg (timerReg k 0)) 3
          period := max 1 ((s.reg (timerReg k 4)).toNat + 2 ^ 32 * bits (s.reg (timerReg k 0)) 16 16)
          width := max 1 (s.reg (timerReg k 8)).toNat, count := 0, at_ := s.cycle, hop := 0 }) ∧
      (∀ k, bit w k = false ∨ 32 ≤ k ∨ ((s.timer k).active = true ∧ (s.timer k).retrig = false) → t.timer k = s.timer k) ∧
      s.changesOnly t [.timers]) ∧
    Yields (.timerStop w) s (fun t =>
      (∀ k, k < 32 → bit w k = true → t.timer k = { s.timer k with state := .idle, count := s.timerCount k }) ∧
      (∀ k, bit w k = false ∨ 32 ≤ k → t.timer k = s.timer k) ∧ s.changesOnly t [.timers])) ∧
  (∀ (k : Nat) (x : Activation) (s : State), k < 32 →
    (s.fabric.acts.find? (fun y => y.hook == timerHook k 0) = some x → (s.timer k).active = false →
      timerMode (s.reg (timerReg k 0)) ≠ 0 →
      ((s.timer k).stopped ≠ some x.cycle → Yields (.hookTstart k) s (fun t =>
        (t.timer k).state = .running ∧ (t.timer k).count = 0 ∧ (t.timer k).at_ = s.cycle ∧ (t.timer k).hop = x.hop + 1 ∧
        s.timersBut t [k] ∧ s.changesOnly t [.fabric, .timers])) ∧
      ((s.timer k).stopped = some x.cycle → Yields (.hookTstart k) s (fun t => t.timers = s.timers))) ∧
    (s.fabric.acts.find? (fun y => y.hook == timerHook k 4) = some x →
      Yields (.hookTstop k) s (fun t =>
        t.timer k = { s.timer k with state := .idle, count := s.timerCount k, stopped := some x.cycle } ∧
        s.timersBut t [k] ∧ s.changesOnly t [.fabric, .timers])) ∧
    (s.fabric.acts.find? (fun y => y.hook == timerHook k 8) = some x → (s.timer k).active = true →
      ((s.timer k).mode ≠ 5 → Yields (.hookTcapt k) s (fun t =>
        t.timer k = { s.timer k with
          capture := s.timerCount k, captOverrun := (s.timer k).captOverrun || (s.timer k).captValid, captValid := true } ∧
        t.fabric.emitted = s.fabric.emitted ++ [[{ code := 0x201 + 2 * k, hop := x.hop + 1 }]] ∧
        s.timersBut t [k] ∧ s.changesOnly t [.fabric, .timers])) ∧
      ((s.timer k).mode = 5 → (s.timer k).count + x.count < (s.timer k).period → Yields (.hookTcapt k) s (fun t =>
        t.timer k = { s.timer k with count := (s.timer k).count + x.count } ∧ s.timersBut t [k] ∧
        s.changesOnly t [.fabric, .timers])) ∧
      ((s.timer k).mode = 5 → (s.timer k).period ≤ (s.timer k).count + x.count → Yields (.hookTcapt k) s (fun t =>
        (t.timer k).count = ((s.timer k).count + x.count) % (s.timer k).period ∧
        t.fabric.emitted = s.fabric.emitted ++ [[{ code := 0x200 + 2 * k, hop := x.hop + 1 }]] ∧
        s.flagged t Page.timer (bitWord k) ∧ s.timersBut t [k])))) ∧
  (∀ (k : Nat) (s : State), k < 32 →
    ((s.timer k).mode = 3 → (s.timer k).state = .running →
      Yields (.timerWindowOpen k) s (fun t =>
        t.timer k = { s.timer k with state := .windowOpen, count := (s.timer k).period, at_ := s.cycle } ∧
        s.timersBut t [k] ∧ s.changesOnly t [.timers])) ∧
    ((s.timer k).mode = 1 → (s.timer k).state = .running →
      Yields (.timerExpire k) s (fun t => (t.timer k).state = .done ∧ (t.timer k).count = (s.timer k).period ∧
        (t.timer k).expires = ((s.timer k).expires + 1) % 65536 ∧
        t.fabric.emitted = s.fabric.emitted ++ [[{ code := 0x200 + 2 * k, hop := (s.timer k).hop }]] ∧
        s.flagged t Page.timer (bitWord k) ∧ s.timersBut t [k] ∧
        s.changesOnly t [.regs, .fabric, .timers, .i3cA, .i3cB])) ∧
    ((s.timer k).mode = 4 → (s.timer k).state = .running →
      Yields (.timerExpire k) s (fun t => (t.timer k).state = .running ∧ (t.timer k).count = 0 ∧ (t.timer k).at_ = s.cycle ∧
        (t.timer k).expires = ((s.timer k).expires + 1) % 65536 ∧ s.timersBut t [k])) ∧
    ((s.timer k).mode = 2 → (s.timer k).state = .running →
      Yields (.timerExpire k) s (fun t => (t.timer k).state = .running ∧ (t.timer k).at_ = s.cycle ∧
        (t.timer k).expires = ((s.timer k).expires + 1) % 65536 ∧
        ((s.timer k).period ≠ 0 → (t.timer k).count % (s.timer k).period = 0) ∧ s.timersBut t [k] ∧
        s.changesOnly t [.regs, .fabric, .timers, .i3cA, .i3cB])) ∧
    Yields (.snapSel k) s (fun t => t.rd Page.timer 0x3c0 = word k ∧ t.rd Page.timer 0x3c4 = lo32 (s.timerCount k) ∧
      t.rd Page.timer 0x3c8 = hi32 (s.timerCount k) ∧ t.rd Page.timer 0x3cc = lo32 (s.timer k).capture ∧
      t.rd Page.timer 0x3d0 = hi32 (s.timer k).capture ∧
      t.timer k = { s.timer k with captValid := false, captOverrun := false } ∧ s.timersBut t [k] ∧
      s.changesOnly t [.regs, .timers]))

/-- A pulse unit fires from ARMED or RUN, leads, ends, and counts what it misses. A FIRE of an armed pulse unit that
no trip holds moves it to RUN with a pulse in its delay and its line at IDLE; of a running one without a pulse in
progress begins a pulse with the register values of now; while a pulse is in progress, without RESTART, or in a state
in which it cannot fire, or paused, it is counted in PULSE_MISSED and the port stays. The leading edge takes the line
to the level opposite to IDLE and counts the pulse; its end returns the line to IDLE and leaves no pulse. No other
port changes. Where the manual leaves a point open it states the model's reading: log entries 16 and 37. -/
def Obligations.PulseUnitsFire : Prop :=
  (∀ (n : Nat) (s : State), s.isPulse n = true →
    (s.tripHeld n = false → (s.port n).pulse = none → (s.port n).state = .armed ∨ (s.port n).state = .run →
      Yields (.pulseFire n) s (fun t => (t.port n).state = .run ∧
        (t.port n).pulse = some { lead := true, idle := bit (s.reg (portReg n 0x160)) 0
                                  delay := (s.reg (portReg n 0x164)).toNat, width := max 1 (s.reg (portReg n 0x168)).toNat } ∧
        (t.port n).last.value = b2n (bit (s.reg (portReg n 0x160)) 0) ∧ s.portsBut t [n] ∧ s.changesOnly t [.ports])) ∧
    (∀ x, (s.port n).pulse = some x → bit (s.reg (portReg n 0x160)) 1 = false →
      Yields (.pulseFire n) s (fun t => t.ports = s.ports ∧
        t.rd (Page.port n) 0x170 = word (min 0xffffffff ((s.rd (Page.port n) 0x170).toNat + 1)) ∧
        s.regsBut t [portReg n 0x170] ∧ s.changesOnly t [.regs])) ∧
    ((s.port n).state = .paused ∨ s.tripHeld n = true ∨ (s.port n).state = .parked →
      Yields (.pulseFire n) s (fun t => t.ports = s.ports ∧
        t.rd (Page.port n) 0x170 = word (min 0xffffffff ((s.rd (Page.port n) 0x170).toNat + 1)) ∧
        s.regsBut t [portReg n 0x170] ∧ s.changesOnly t [.regs]))) ∧
  (∀ (n : Nat) (s : State), s.isPulse n = false → exec (.pulseFire n) s = .next s) ∧
  (∀ (n : Nat) (x : Pulse) (s : State), n < 144 → (s.port n).pulse = some x →
    (x.lead = true → Yields (.pulseLeadingEdge n) s (fun t => (t.port n).last.value = b2n (!x.idle) ∧
      (t.port n).pulse = some { x with lead := false } ∧
      t.rd (Page.port n) 0x16c = word (min 0xffffffff ((s.rd (Page.port n) 0x16c).toNat + 1)) ∧
      s.regsBut t [portReg n 0x16c] ∧ s.portsBut t [n] ∧ s.changesOnly t [.regs, .ports])) ∧
    (x.lead = false → Yields (.pulseEnd n) s (fun t => (t.port n).last.value = b2n x.idle ∧ (t.port n).pulse = none ∧
      s.portsBut t [n] ∧ s.changesOnly t [.ports])))

/-- A trip line latches in the front ends and on the die, forces and parks the ports that obey it, and clears only
when its conditions have gone. For a line k: with its condition true and no latch, TRIP_LINE_ASSERT latches it in the
front ends and forces every obeying fitted port to its trip level, no other port changing; without a condition nothing
happens. TRIP_LATCH, outside standby, latches it on the die, sets its flag and counts it; outside the housekeeping
pause at once, in it deferred with its time; on a module that does not follow, every obeying port in RUN, ARMED or
PAUSED gets the flag TRIPPED, the requested state PARKED and a trip for its next slot, while a follower's ports stay.
TRIP_CLEAR of one line clears both latches, lets go the force of obeying ports that no other latched line forces and
writes a ledger entry; while a condition holds it is refused with its flag. TRIP_FORCE holds its eight bits. TRIP_SEL
replaces a port's lines, judged against the lines latched now. Where the manual leaves a point open it states the
model's reading: log entries 36 and 90. -/
def Obligations.TripLinesLatchForceAndClear : Prop :=
  (∀ (k : Nat) (s : State), k < 8 →
    (s.lineCondition k = true → s.trips.front.getLsbD k = false →
      Yields (.tripLineAssert k) s (fun t => t.trips = { s.trips with front := s.trips.front ||| BitVec.ofNat 8 (2 ^ k) } ∧
        (∀ n, s.fits n → (s.tripLines n).getLsbD k = true → (t.port n).forced = true ∧
          ((s.port n).forced = false → (s.port n).state ≠ .off → (s.port n).state ≠ .absent →
            (t.port n).last.value = s.tripLevel n ∧ (t.port n).pulse = none)) ∧
        (∀ n, (¬ s.fits n ∨ (s.tripLines n).getLsbD k = false) → t.port n = s.port n) ∧
        s.changesOnly t [.free, .regs, .ports, .spares, .i3cA, .i3cB, .ledger, .cal, .trips])) ∧
    (s.lineCondition k = false → exec (.tripLineAssert k) s = .next s)) ∧
  (∀ (k : Nat) (s : State), s.inStandby = true → exec (.tripLatch k) s = .next s) ∧
  (∀ (k : Nat) (s : State), k < 8 → s.inStandby = false → s.trips.front.getLsbD k = true → s.trips.die.getLsbD k = false →
    Yields (.tripLatch k) s (fun t => t.trips = { s.trips with die := s.trips.die ||| BitVec.ofNat 8 (2 ^ k) } ∧
      bit (t.rd Page.trip 0x14) k = true ∧
      (s.paused = false → t.rd Page.trip (0x50 + 4 * k) = word (min 0xffffffff ((s.rd Page.trip (0x50 + 4 * k)).toNat + 1)) ∧
        s.logged t 0x30 ∧ t.security = s.security) ∧
      (s.paused = true → t.rd Page.trip (0x50 + 4 * k) = s.rd Page.trip (0x50 + 4 * k) ∧
        t.security = { s.security with deferred := s.security.deferred ++ [(k, s.ledger.sec, s.nanos)] }) ∧
      (s.twin.role = .follow → t.ports = s.ports) ∧
      (s.twin.role ≠ .follow → ∀ n, s.fits n → (s.tripLines n).getLsbD k = true →
        (s.port n).state = .run ∨ (s.port n).state = .armed ∨ (s.port n).state = .paused →
        (t.port n).requested = .parked ∧ bit (t.rd (Page.port n) 0x14) 8 = true ∧
        ∃ x ∈ (t.port n).play.latches, x.what = .trip ∧ x.due = (s.port n).slot + 1) ∧
      (∀ n, (¬ s.fits n ∨ (s.tripLines n).getLsbD k = false) → t.port n = s.port n) ∧
      s.changesOnly t [.free, .regs, .ports, .spares, .fabric, .i3cA, .i3cB, .security, .ledger, .cal, .trips])) ∧
  (∀ (k : Nat) (s : State), k < 8 →
    (s.lineCondition k = true → Yields (.tripClear (bitWord k)) s (fun t => t.trips = s.trips ∧ t.ports = s.ports ∧
      s.flagged t Page.trip (bitWord 8) ∧ s.regsBut t [regAddr Page.trip 0x14] ∧
      s.changesOnly t [.regs, .spares, .i3cA, .i3cB])) ∧
    (s.lineCondition k = false → (s.trips.front.getLsbD k = true ∨ s.trips.die.getLsbD k = true) →
      Yields (.tripClear (bitWord k)) s (fun t =>
        t.trips.front = s.trips.front &&& ~~~(BitVec.ofNat 8 (2 ^ k)) ∧ t.trips.die = s.trips.die &&& ~~~(BitVec.ofNat 8 (2 ^ k)) ∧
        (∀ n, s.fits n → (s.tripLines n).getLsbD k = true →
          (t.port n).forced = (s.tripLines n &&& t.trips.front != 0)) ∧
        (∀ n, (¬ s.fits n ∨ (s.tripLines n).getLsbD k = false) → t.port n = s.port n) ∧ s.logged t 0x30 ∧
        s.changesOnly t [.free, .regs, .ports, .spares, .i3cA, .i3cB, .ledger, .cal, .trips]))) ∧
  (∀ (v : Word) (s : State), exec (.tripForce v) s = .next (s.wr Page.trip 0x48 (v &&& 0xff))) ∧
  (∀ (n : Nat) (mask value : Word) (s : State),
    (¬ s.fits n → exec (.tripSelWrite n mask value) s = .next s) ∧
    (s.fits n → Yields (.tripSelWrite n mask value) s (fun t =>
      let w := ((s.reg (portReg n 0xa4) &&& ~~~mask) ||| (value &&& mask)) &&& (if Config.portType n = .d then 0x1ff else 0xff)
      t.reg (portReg n 0xa4) = w ∧ (t.port n).forced = (BitVec.ofNat 8 w.toNat &&& s.trips.front != 0) ∧
      (s.twin.role ≠ .follow → BitVec.ofNat 8 w.toNat &&& ~~~(s.tripLines n) &&& s.trips.die ≠ 0 → (s.port n).state = .run →
        (t.port n).requested = .parked ∧ bit (t.rd (Page.port n) 0x14) 8 = true ∧
        ∃ x ∈ (t.port n).play.latches, x.what = .trip ∧ x.due = (s.port n).slot + 1) ∧
      s.portsBut t [n] ∧ s.changesOnly t [.free, .regs, .ports, .spares, .fabric, .i3cA, .i3cB, .ledger, .cal])))

/-- Output stages power, switch, move their delay taps and report, port by port. OUT_SWITCH of a fitted port replaces
CLOSE: opening opens the force switches first and then the sense switches, closing closes the sense switches first,
where the stage, the rails and the module's role permit it; an F- or D-port's driver follows at once. The second half
of a sequence moves the other switches. DELAY_TAP_MOVE moves one tap toward the target. POWER_DOWN_COMPLETE leaves the
port OFF, a P-port once its isolation switches have opened; POWER_UP_COMPLETE leaves it PARKED at its park level, or
at the trip level while forced. SENSE_OPEN and CURRENT_LIMIT set flags 10 and 9. A stage fault sets flag 14 and raises
fault 0x04; a port whose spare serves it goes on, one whose spare stands ready under AUTO is handed over, any other is
SAFE. Every other port stays. Where the manual leaves a point open it states the model's reading: log entries 18, 45
and 47. -/
def Obligations.OutputStagesSwitchAndReport : Prop :=
  (∀ (n : Nat) (close : Bool) (s : State), (¬ s.fits n → exec (.outSwitchWrite n close) s = .next s) ∧
    (s.fits n → Yields (.outSwitchWrite n close) s (fun t =>
      t.reg (portReg n 0xa0) = word (b2n close) ∧ s.portsBut t [n] ∧
      ((s.port n).state ≠ .safe → (s.port n).state ≠ .service → Config.portType n = .p → close = false →
        (t.port n).switches.force = false ∧ (t.port n).switches.sense = (s.port n).switches.sense ∧
        (t.port n).switches.moving =
          if (s.port n).switches.sense = true then some false else none) ∧
      ((s.port n).state ∉ [.off, .absent, .safe, .service] → (s.port n).power = .on → s.railHolds n = false → close = true →
        s.permitsOutput = true → (Config.portType n ≠ .p → (t.port n).switches.force = true) ∧
          (Config.portType n = .p → s.permitsForce = true → (t.port n).switches.sense = true ∧
            (t.port n).switches.force = (s.port n).switches.force ∧
            ((t.port n).switches.moving = none ↔ (s.port n).switches.sense = true ∧ (s.port n).switches.force = true))) ∧
      (close = true → s.permitsOutput = false → (t.port n).switches.force = false) ∧
      (close = false → Config.portType n ≠ .p → (t.port n).switches.force = false) ∧
      s.changesOnly t [.free, .regs, .ports, .spares, .i3cA, .i3cB, .ledger, .cal]))) ∧
  (∀ (n : Nat) (s : State),
    ((s.port n).switches.moving = some true → exec (.isolationSwitchStep n) s =
      .next (s.setPort n { s.port n with switches := { (s.port n).switches with force := true, moving := none } })) ∧
    ((s.port n).switches.moving = some false → exec (.isolationSwitchStep n) s =
      .next (s.setPort n { s.port n with switches := { (s.port n).switches with sense := false, moving := none } })) ∧
    (Config.portType n ≠ .p → s.fits n → Yields (.delayTapMove n) s (fun t =>
      let a : Int := (s.port n).delayActual
      let top : Nat := if Config.portType n = .d then 511 else 255
      let aim : Int := max 0 (min (top : Int) ((min top (bits (s.reg (portReg n 0xb0)) 0 9) : Nat) + (s.port n).delayTrim))
      ((t.port n).delayActual : Int) = (if a < aim then a + 1 else if aim < a then a - 1 else a) ∧
      t.port n = { s.port n with delayActual := (t.port n).delayActual } ∧ s.portsBut t [n] ∧ s.changesOnly t [.ports])) ∧
    ((s.port n).power = .down → Config.portType n = .p → (s.port n).switches.sense = true ∨ (s.port n).switches.force = true →
      exec (.powerDownComplete n) s = .next s) ∧
    ((s.port n).power = .down →
      (Config.portType n = .p → (s.port n).switches = { sense := false, force := false, moving := none }) →
      exec (.powerDownComplete n) s =
      .next (s.setPort n { s.port n with power := .off, state := .off, requested := .off, deliver := none })) ∧
    ((s.port n).power = .up → (s.port n).state = .off → Yields (.powerUpComplete n) s (fun t =>
      (t.port n).power = .on ∧ (t.port n).state = .parked ∧ (t.port n).requested = .parked ∧ (t.port n).ramp = none ∧
      (t.port n).last.value = (if (s.port n).forced = true then s.tripLevel n
        else parkLevel (Config.portType n) (s.port n).park) ∧
      s.portsBut t [n] ∧ s.regsBut t [regAddr (Page.port n) 0x14] ∧ s.changesOnly t [.regs, .ports, .i3cA, .i3cB])) ∧
    (s.stageOn n = true →
      Yields (.senseOpen n) s (fun t => s.flagged t (Page.port n) (bitWord 10) ∧
        s.regsBut t [regAddr (Page.port n) 0x14] ∧ s.changesOnly t [.regs, .i3cA, .i3cB]) ∧
      Yields (.currentLimit n) s (fun t => s.flagged t (Page.port n) (bitWord 9) ∧
        s.regsBut t [regAddr (Page.port n) 0x14] ∧ s.changesOnly t [.regs, .i3cA, .i3cB])) ∧
    (s.fits n → s.life.ready = true ∨ (s.port n).power = .on → (s.port n).state ≠ .safe → (s.port n).state ≠ .absent →
      Yields (.stageFault n) s (fun t => bit (t.rd (Page.port n) 0x14) 14 = true ∧ t.faulted (Page.port n) 4 ∧
        s.portsBut t [n] ∧
        (Config.portType n = .p → (s.spare (n / 16)).substituted = true → (s.spare (n / 16)).serves = some n →
          (t.port n).state ≠ .safe ∧ t.spare (n / 16) = s.spare (n / 16)) ∧
        (Config.portType n = .p → (s.spare (n / 16)).substituted = false → bit (s.rd (Page.spare (n / 16)) 0x44) 4 = true →
          (s.spare (n / 16)).settled = true → s.shadowing (n / 16) = true → s.spareTarget (n / 16) = n →
          (s.spare (n / 16)).busy = none → (t.port n).state ≠ .safe ∧ (t.spare (n / 16)).serves = some n ∧
            (t.spare (n / 16)).busy = some { toSpare := true, connected := false }) ∧
        (Config.portType n ≠ .p ∨ ((s.spare (n / 16)).substituted = false ∧ bit (s.rd (Page.spare (n / 16)) 0x44) 4 = false) →
          (t.port n).state = .safe ∧ (t.port n).requested = .safe ∧ (t.port n).bobbin.present = []) ∧
        s.changesOnly t [.free, .regs, .ports, .groups, .spares, .copies, .fabric, .i3cA, .i3cB, .ledger, .faults, .cal])))

/-- A spare shadows, settles, takes over a node and gives it back, and refuses what it may not do. For a fitted spare:
SPARE_TARGET is refused while its group rotates, ignored while a hand-over runs or the spare substitutes, and
otherwise replaced, a new target restarting the settling, SHADOW = 0 leaving SAFE. SPARE_SETTLED sets the flag.
SUBSTITUTE of a settled spare whose target is neither OFF nor held by a latched line begins a hand-over (one that runs
goes on: log entry 113), and RETURN of a substituted one begins the return; otherwise they are refused with the flag.
HANDOVER_CONNECT joins both stages; HANDOVER_COMPLETE moves the node, counts it and sets both flags, a waiting
UNIT_RESET then going on. A stage fault of the spare ends a hand-over that only runs, sets the flags, raises fault
0x05 and ends the rotation; a substituted port goes back to its own stage at its next slot boundary, counted and
flagged as a return. Every other spare stays. Where the manual leaves a point open it states the model's reading: log
entries 45, 78, 90, 113 and 130. -/
def Obligations.SparesShadowSubstituteAndReturn : Prop :=
  ∀ (g : Nat) (s : State), g < Config.spares s.part →
    (∀ w : Word,
      (s.rotates g = true → Yields (.spareTargetWrite g w) s (fun t => t.spare g = { s.spare g with refused := true } ∧
        s.flagged t (Page.spare g) (bitWord 2) ∧ s.regsBut t [regAddr (Page.spare g) 0x14] ∧ s.sparesBut t [g] ∧
        s.changesOnly t [.regs, .spares, .i3cA, .i3cB])) ∧
      (s.rotates g = false → ((s.spare g).busy.isSome = true ∨ (s.spare g).substituted = true) →
        exec (.spareTargetWrite g w) s = .next s) ∧
      (s.rotates g = false → (s.spare g).busy = none → (s.spare g).substituted = false →
        Yields (.spareTargetWrite g w) s (fun t => t.rd (Page.spare g) 0x40 = w &&& 0x8f ∧
          (t.spare g).fault = ((s.spare g).fault && bit w 7) ∧ (bit w 7 = false → (t.spare g).safeRecord = none) ∧
          (w &&& 0x8f ≠ s.rd (Page.spare g) 0x40 → (t.spare g).settled = false) ∧
          (w &&& 0x8f = s.rd (Page.spare g) 0x40 → (t.spare g).settled = (s.spare g).settled ∧ t.regs = s.regs.set (regAddr (Page.spare g) 0x40) (w &&& 0x8f)) ∧ t.ports = s.ports ∧ s.sparesBut t [g] ∧
          s.changesOnly t [.free, .regs, .ports, .spares, .i3cA, .i3cB, .ledger, .cal]))) ∧
    (s.rotates g = false → (s.spare g).settled = true → (s.spare g).substituted = false → (s.spare g).service = false →
      s.tripHeld (s.spareTarget g) = false →
      (s.port (s.spareTarget g)).state ≠ .off → (s.port (s.spareTarget g)).state ≠ .absent →
      ((s.spare g).busy = none → exec (.substitute g) s = .next (s.setSpare g { s.spare g with
        busy := some { toSpare := true, connected := false }, refused := false, serves := some (s.spareTarget g) })) ∧
      ((s.spare g).busy ≠ none → Yields (.substitute g) s (fun t => t.spare g = { s.spare g with refused := false } ∧
        s.sparesBut t [g] ∧ s.changesOnly t [.spares]))) ∧
    (s.rotates g = true ∨ (s.spare g).settled = false ∨ (s.spare g).substituted = true ∨ s.tripHeld (s.spareTarget g) = true ∨
        (s.port (s.spareTarget g)).state = .off →
      Yields (.substitute g) s (fun t => t.spare g = { s.spare g with refused := true } ∧ s.sparesBut t [g] ∧
        s.flagged t (Page.spare g) (bitWord 2) ∧ s.regsBut t [regAddr (Page.spare g) 0x14] ∧
        s.changesOnly t [.regs, .spares, .i3cA, .i3cB])) ∧
    (∀ n, s.rotates g = false → (s.spare g).substituted = true → (s.spare g).busy = none → (s.spare g).serves = some n →
      s.tripHeld n = false → exec (.returnPort g) s = .next (s.setSpare g { s.spare g with
        busy := some { toSpare := false, connected := false }, refused := false })) ∧
    (s.rotates g = true ∨ (s.spare g).substituted = false →
      Yields (.returnPort g) s (fun t => t.spare g = { s.spare g with refused := true } ∧ s.sparesBut t [g] ∧
        s.flagged t (Page.spare g) (bitWord 2) ∧ s.regsBut t [regAddr (Page.spare g) 0x14] ∧
        s.changesOnly t [.regs, .spares, .i3cA, .i3cB])) ∧
    (s.shadowing g = true → (s.spare g).settled = false → Yields (.spareSettled g) s (fun t =>
      t.spare g = { s.spare g with settled := true } ∧ s.flagged t (Page.spare g) (bitWord 0) ∧ s.sparesBut t [g] ∧
      s.regsBut t [regAddr (Page.spare g) 0x14] ∧ s.changesOnly t [.regs, .spares, .i3cA, .i3cB])) ∧
    (∀ h, (s.spare g).busy = some h → h.connected = false → exec (.handoverConnect g) s =
      .next (s.setSpare g { s.spare g with busy := some { h with connected := true } })) ∧
    (∀ h n, (s.spare g).busy = some h → h.connected = true → (s.spare g).serves = some n →
      Yields (.handoverComplete g) s (fun t => bit (t.rd (Page.port n) 0x14) 12 = true ∧ s.sparesBut t [g] ∧
        ((s.spare g).resetDue = false → t.spare g = { s.spare g with
            busy := none, substituted := h.toSpare, serves := if h.toSpare = true then some n else none } ∧
          t.rd (Page.spare g) 0x4c = word (min 0xffffffff ((s.rd (Page.spare g) 0x4c).toNat + 1)) ∧
          bit (t.rd (Page.spare g) 0x14) 1 = true ∧
          s.regsBut t [regAddr (Page.port n) 0x14, regAddr (Page.spare g) 0x14, regAddr (Page.spare g) 0x4c]) ∧
        ((s.spare g).resetDue = true → h.toSpare = false → t.spare g = { Spare.fresh with trims := (s.spare g).trims }) ∧
        ((s.spare g).resetDue = true → h.toSpare = true → s.tripHeld n = false →
          (t.spare g).substituted = true ∧ (t.spare g).busy = some { toSpare := false, connected := false }) ∧
        s.changesOnly t [.free, .regs, .ports, .spares, .i3cA, .i3cB, .ledger, .cal])) ∧
    (s.shadowing g = true ∨ (s.spare g).substituted = true → Yields (.spareStageFault g) s (fun t =>
      (t.spare g).fault = true ∧ (t.spare g).busy = none ∧ (t.spare g).settled = false ∧
      (t.spare g).substituted = (s.spare g).substituted ∧ (t.spare g).returning = (s.spare g).substituted ∧
      (t.spare g).serves = (if (s.spare g).substituted = true then (s.spare g).serves else none) ∧
      bit (t.rd (Page.spare g) 0x14) 3 = true ∧ t.faulted (Page.spare g) 5 ∧
      (∀ n, (s.spare g).substituted = true → (s.spare g).serves = some n → bit (t.rd (Page.port n) 0x14) 13 = true) ∧
      t.rotates g = false ∧
      s.sparesBut t [g] ∧
      s.changesOnly t [.free, .regs, .ports, .spares, .fabric, .i3cA, .i3cB, .ledger, .faults, .cal])) ∧
    (∀ n errs, n / 16 = g → Config.portType n = .p → s.moment (.port n) = .ordinary →
      (s.spare g).returning = true → (s.spare g).serves = some n →
      Yields (.slotBoundary (.port n) errs) s (fun t =>
        t.spare g = { s.spare g with substituted := false, serves := none, busy := none, returning := false } ∧
        t.rd (Page.spare g) 0x4c = word (min 0xffffffff ((s.rd (Page.spare g) 0x4c).toNat + 1)) ∧
        bit (t.rd (Page.port n) 0x14) 12 = true ∧ bit (t.rd (Page.spare g) 0x14) 1 = true))

/-- A window monitor starts undetermined, compares its input with thresholds and hysteresis, and tells the fabric of
each change once. For a fitted monitor: MONITOR_ENABLE sets EN and, where the monitor was stopped and VANA is good,
starts it with its stored mode and hysteresis; MONITOR_DISABLE clears EN and stops it undetermined; SYNC_EN_WRITE
replaces SYNC_EN, taking up the present state quietly. A new input of a running monitor (a sample tick in mode 4, a
comparator change in the others) gives ABOVE beyond the upper threshold, BELOW beyond the lower, INSIDE between both
hysteresis bands; a monitor that does not evaluate on it takes the input only. Going from INSIDE to ABOVE with
SYNC_EN, unblanked, outside standby and not on a follower sets the flag, counts one and emits events 0 and 3 in one
cycle. CK_WTICK reaches the monitors of a TG048 alone. A threshold in use moves one step toward SET with its trim,
outside standby. The end of blanking tells the single net change. Where the manual leaves a point open it states the
model's reading: log entries 7, 34 and 86. -/
def Obligations.MonitorsCompareMoveAndBlank : Prop :=
  ∀ (m : Nat) (s : State), m < Config.monitors s.part →
    Yields (.monitorEnable m) s (fun t => t.reg (monReg m 0) = (s.reg (monReg m 0) ||| 1) &&& 0x37ff ∧
      (bit (s.reg (monReg m 0)) 0 = false → Rail.vana ∉ s.health.rails → (t.monitor m).running = true ∧
        (t.monitor m).mode = activeMode s.part (bits (s.reg (monReg m 0)) 1 3) ∧
        (t.monitor m).hyst = bits (s.reg (monReg m 0)) 4 4 ∧ (t.monitor m).published = (t.monitor m).state ∧
        ((t.monitor m).mode = 4 → (t.monitor m).state = .indeterminate)) ∧
      ((bit (s.reg (monReg m 0)) 0 = true ∨ Rail.vana ∈ s.health.rails) → t.monitors = s.monitors) ∧
      s.monitorsBut t [m] ∧ s.regsBut t [monReg m 0] ∧ s.changesOnly t [.regs, .monitors]) ∧
    Yields (.monitorDisable m) s (fun t => t.reg (monReg m 0) = s.reg (monReg m 0) &&& 0x37fe ∧
      (t.monitor m).running = false ∧ (t.monitor m).state = .indeterminate ∧ (t.monitor m).published = .indeterminate ∧
      s.monitorsBut t [m] ∧ s.regsBut t [monReg m 0] ∧ s.changesOnly t [.regs, .monitors]) ∧
    (∀ on, Yields (.syncEnWrite m on) s (fun t => bit (t.reg (monReg m 0)) 8 = on ∧
      (bit (s.reg (monReg m 0)) 0 = true → on = true → s.syncEn m = false →
        (t.monitor m) = { s.monitor m with published := (s.monitor m).state }) ∧
      (bit (s.reg (monReg m 0)) 0 = true → (on = false ∨ s.syncEn m = true) → t.monitors = s.monitors) ∧
      s.monitorsBut t [m] ∧ s.regsBut t [monReg m 0] ∧ s.changesOnly t [.regs, .monitors])) ∧
    (∀ (c : Instr) (v : Int), (c = .comparatorChange m v ∧ (s.monitor m).mode ≠ 4) ∨ (c = .sampledTick m v ∧ (s.monitor m).mode = 4 ∧ activeMode s.part 0 = 4) →
      (s.monitor m).running = true → Yields c s (fun t => (t.monitor m).volts = v ∧
        (36000000 * (s.monitor m).upperUsed < v * 24576 → (t.monitor m).state = .above) ∧
        (v * 24576 < 36000000 * (s.monitor m).lower → (t.monitor m).state = .below) ∧
        (36000000 * (s.monitor m).lower + 327680000 * (s.monitor m).hyst < v * 24576 →
          v * 24576 < 36000000 * (s.monitor m).upperUsed - 327680000 * (s.monitor m).hyst → (t.monitor m).state = .inside) ∧
        (s.life.standby = false → s.twin.role ≠ .follow → s.syncEn m = true → bit (s.reg (monReg m 12)) 15 = false →
          (s.monitor m).state = .inside → (s.monitor m).published = .inside →
          36000000 * (s.monitor m).upperUsed < v * 24576 → (t.monitor m).published = .above ∧
            bit (t.rd Page.wmon 0x14) m = true ∧ bits (t.reg (monReg m 24)) 0 16 = (bits (s.reg (monReg m 24)) 0 16 + 1) % 65536 ∧
            t.fabric = { s.fabric with emitted := s.fabric.emitted ++
              [[{ code := 0x100 + 4 * m, hop := 0 }, { code := 0x103 + 4 * m, hop := 0 }]] }) ∧
        s.monitorsBut t [m] ∧ s.regsBut t [monReg m 24, regAddr Page.wmon 0x14] ∧
        s.changesOnly t [.regs, .fabric, .i3cA, .i3cB, .monitors])) ∧
    (∀ (c : Instr) (v : Int), (c = .comparatorChange m v ∧ (s.monitor m).mode = 4) ∨ (c = .sampledTick m v ∧ (s.monitor m).mode ≠ 4 ∧ activeMode s.part 0 = 4) ∨
        ((c = .comparatorChange m v ∨ (c = .sampledTick m v ∧ activeMode s.part 0 = 4)) ∧ (s.monitor m).running = false) →
      exec c s = .next (s.setMonitor m { s.monitor m with volts := v })) ∧
    (∀ v, activeMode s.part 0 ≠ 4 → exec (.sampledTick m v) s = .next s) ∧
    (∀ up, s.inStandby = true → exec (.thresholdStep m up) s = .next s) ∧
    (∀ up, s.inStandby = false → Yields (.thresholdStep m up) s (fun t =>
      let toward (a b : Int) : Int := if a < b then a + 1 else if b < a then a - 1 else a
      (t.monitor m).upper = (if up = true then toward (s.monitor m).upper (s.thresholdTarget m true) else (s.monitor m).upper) ∧
      (t.monitor m).lower = (if up = true then (s.monitor m).lower else toward (s.monitor m).lower (s.thresholdTarget m false)) ∧
      s.monitorsBut t [m] ∧ s.changesOnly t [.regs, .fabric, .i3cA, .i3cB, .monitors])) ∧
    ((s.monitor m).running = true → s.syncEn m = true → s.blanked m = false →
      Yields (.blankingEnd m) s (fun t => (t.monitor m).published = s.syncState m ∧ s.monitorsBut t [m] ∧
        (changeEvents (s.monitor m).published (s.syncState m) = [] → t.fabric = s.fabric ∧ t.regs = s.regs) ∧
        (changeEvents (s.monitor m).published (s.syncState m) ≠ [] → bit (t.rd Page.wmon 0x14) m = true ∧
          t.fabric = { s.fabric with emitted := s.fabric.emitted ++ [(changeEvents (s.monitor m).published (s.syncState m)).map
            (fun k => { code := 0x100 + 4 * m + k, hop := 0 })] }) ∧
        s.changesOnly t [.regs, .fabric, .i3cA, .i3cB, .monitors]))

/-- Each memory stack owes, issues and batches its refreshes, crosses between its modes, counts its parity errors and
trains. For a fitted stack: a tick while TRACKING adds one owed refresh up to eight, which marks a forced batch; an
issue takes one away where no batch is due and no real-time read waits or runs in a train; each refresh carries a
tracking step for each lane at most; the forced batch clears all, counts and flags. A reading is kept; the first one
places the mode, later ones mark an upward crossing above 85 degrees from normal mode and end doubled mode below 80,
with their counts and flags, unless FORCE_DOUBLE holds; the crossing's batch clears the owed refreshes and enters
doubled mode. A parity error is counted twice over, error and replay; a fourth failure of one command fails its
pseudo-channel with fault 0x08 and DEGRADED, the 17th error in a millisecond is fault 0x09. Training tracks, is
retried once, or fails. No other stack changes; a stack that is not fitted answers nothing. Where the manual leaves a
point open it states the model's reading: log entries 39 and 112. -/
def Obligations.StacksRefreshTrainAndCross : Prop :=
  (∀ (k : Nat) (s : State), Config.stackCount s.part ≤ k → ∀ c : Instr,
    (c = .refreshTick k ∨ (∃ n, c = .refreshIssue k n) ∨ (∃ n, c = .forcedBatch k n) ∨ (∃ v, c = .stackTempReading k v) ∨
      (∃ n, c = .crossingBatch k n) ∨ (∃ b, c = .forceDoubleWrite k b) ∨ (∃ a b d, c = .parityAlert k a b d) ∨
      (∃ b, c = .trainingComplete k b)) → exec c s = .next s) ∧
  (∀ (k : Nat) (s : State), k < Config.stackCount s.part →
    ((s.stack k).train = .tracking →
      exec (.refreshTick k) s = .next (s.setStack k { s.stack k with
        owed := min 8 ((s.stack k).owed + 1), peakOwed := max (s.stack k).peakOwed (min 8 ((s.stack k).owed + 1)),
        forced := (s.stack k).forced || decide (7 ≤ (s.stack k).owed) }) ∧
      (∀ n, 0 < (s.stack k).owed → (s.stack k).forced = false → (s.stack k).up = false → s.readWaits k = true ∨ s.trainRuns k = true →
        exec (.refreshIssue k n) s = .next s) ∧
      (∀ n, 0 < (s.stack k).owed → (s.stack k).forced = false → (s.stack k).up = false →
        s.readWaits k = false → s.trainRuns k = false →
        exec (.refreshIssue k n) s = .next (s.setStack k { s.stack k with
          owed := (s.stack k).owed - 1, taps := ((s.stack k).taps + min n stackLanes) % 65536 })) ∧
      (∀ c : Int, Yields (.stackTempReading k c) s (fun t => (t.stack k).temp = some c ∧
        (t.stack k).peakTemp = max (s.stack k).peakTemp (min 255 c.toNat) ∧ (t.stack k).initial = false ∧
        (t.stack k).owed = (s.stack k).owed ∧
        ((s.stack k).initial = true → t.regs = s.regs ∧
          (t.stack k).doubled = ((s.stack k).forceDouble || decide (80 ≤ c)) ∧ (t.stack k).up = (s.stack k).up) ∧
        ((s.stack k).initial = false → (s.stack k).forceDouble = true → t.regs = s.regs ∧
          (t.stack k).doubled = (s.stack k).doubled ∧ (t.stack k).up = (s.stack k).up) ∧
        ((s.stack k).initial = false → (s.stack k).forceDouble = false → (s.stack k).doubled = false →
          ((t.stack k).doubled = false ∧ (t.stack k).up = ((s.stack k).up || decide (85 < c)) ∧
          (85 < c → (s.stack k).up = false → bit (t.rd (Page.memctl k) 0x14) 5 = true ∧
            bits (t.rd (Page.memctl k) 0x74) 0 16 = min 0xffff (bits (s.rd (Page.memctl k) 0x74) 0 16 + 1)))) ∧
        ((s.stack k).initial = false → (s.stack k).forceDouble = false → (s.stack k).doubled = true →
          (t.stack k).doubled = decide (80 ≤ c) ∧ (t.stack k).up = (s.stack k).up ∧
          (c < 80 → bit (t.rd (Page.memctl k) 0x14) 6 = true ∧
            bits (t.rd (Page.memctl k) 0x74) 16 16 = min 0xffff (bits (s.rd (Page.memctl k) 0x74) 16 16 + 1))) ∧
        s.stacksBut t [k] ∧ s.regsBut t [regAddr (Page.memctl k) 0x74, regAddr (Page.memctl k) 0x14] ∧
        s.changesOnly t [.regs, .memctl, .i3cA, .i3cB]))) ∧
    (∀ n, (s.stack k).train = .tracking → (s.stack k).forced = true → (s.stack k).up = false →
      Yields (.forcedBatch k n) s (fun t =>
      t.stack k = { s.stack k with
        owed := 0, forced := false, taps := ((s.stack k).taps + min n (stackLanes * (s.stack k).owed)) % 65536 } ∧ s.flagged t (Page.memctl k) (bitWord 4) ∧
      t.rd (Page.memctl k) 0x70 = word (min 0xffffffff ((s.rd (Page.memctl k) 0x70).toNat + 1)) ∧ s.stacksBut t [k] ∧
      s.regsBut t [regAddr (Page.memctl k) 0x70, regAddr (Page.memctl k) 0x14] ∧ s.changesOnly t [.regs, .memctl, .i3cA, .i3cB])) ∧
    (∀ n, (s.stack k).up = true → exec (.crossingBatch k n) s = .next (s.setStack k { s.stack k with
      owed := 0, forced := false, up := false, doubled := true
      taps := ((s.stack k).taps + min n (stackLanes * (s.stack k).owed)) % 65536 })) ∧
    (∀ on, Yields (.forceDoubleWrite k on) s (fun t => t.rd (Page.memctl k) 0x40 = word (b2n on) ∧
      (t.stack k).forceDouble = on ∧ (t.stack k).owed = (s.stack k).owed ∧
      (on = true → (t.stack k).doubled = (s.stack k).doubled ∧
        (t.stack k).up = ((s.stack k).up || !(s.stack k).doubled)) ∧
      (on = false → (t.stack k).up = (s.stack k).up ∧
        ((t.stack k).doubled = false ↔ (s.stack k).doubled = false ∨
          ((s.stack k).initial = false ∧ ∃ v, (s.stack k).temp = some v ∧ v < 80))) ∧
      s.stacksBut t [k] ∧ s.changesOnly t [.regs, .memctl, .i3cA, .i3cB])) ∧
    (∀ pc failures errs, pc < 32 → Yields (.parityAlert k pc failures errs) s (fun t =>
      t.rd (Page.memctl k) 0x50 = word (min 0xffffffff ((s.rd (Page.memctl k) 0x50).toNat + 1)) ∧
      t.rd (Page.memctl k) 0x54 = word (min 0xffffffff ((s.rd (Page.memctl k) 0x54).toNat + 1)) ∧
      bit (t.rd (Page.memctl k) 0x14) 0 = true ∧ bit (t.rd (Page.memctl k) 0x14) 1 = true ∧
      (failures < 4 → t.memctl = s.memctl) ∧
      (failures < 4 → errs ≠ 17 → s.regsBut t [regAddr (Page.memctl k) 0x50, regAddr (Page.memctl k) 0x54, regAddr (Page.memctl k) 0x14] ∧
        s.changesOnly t [.regs, .i3cA, .i3cB]) ∧
      (4 ≤ failures → pc ∉ (s.stack k).failed → (t.stack k).failed = (s.stack k).failed ++ [pc] ∧ s.stacksBut t [k] ∧
        bit (t.rd Page.health 0x68) 1 = true ∧ (errs ≠ 17 → t.faulted (Page.memctl k) 8)) ∧
      (errs = 17 → t.faulted (Page.memctl k) 9 ∧ bit (t.rd (Page.memctl k) 0x14) 8 = true) ∧
      s.changesOnly t [.free, .regs, .ports, .memctl, .fabric, .i3cA, .i3cB, .ledger, .faults, .twin, .life])) ∧
    (∀ ok, (s.stack k).train = .training → exec (.trainingComplete k ok) s = .next (s.setStack k (
      if ok = true then { s.stack k with train := .tracking, doubled := true, initial := true, owed := 0, forced := false, up := false }
      else if (s.stack k).attempts < 2 then { s.stack k with attempts := (s.stack k).attempts + 1 }
      else { s.stack k with train := .failed }))))

/-- The fetch engine requests the next granule of the default path, and a read that returns reaches the bobbin, is
refetched or becomes a hold. FETCH_REQUEST of a port whose bobbin has room and for whose read a tag is free puts the
next granule of the segment at the cursor in flight, in a burst train where the port reads in real time; with no tag
free it waits. The read of a port that returns next, an issued one before the others: read well, and its slot not
begun, its granule joins the bobbin with the memory's content; corrected, it is counted; uncorrectable, it is counted
and waits for its refetch; of an unreadable pseudo-channel it is a hold at once; one of a discarded pass is dropped. A
refetch that is good gives the granule, one that is late or bad a hold, its severity counted too. A guaranteed port's
read beyond the bound raises fault 0x0b. No other port changes. Where the manual leaves a point open it states the
model's reading: log entries 10, 48, 105 and 106. -/
def Obligations.ReadsReachTheBobbin : Prop :=
  ∀ (n : Nat) (s : State), n < 144 →
    ((s.port n).bobbin.cursor = none ∨ s.bobbinRoom n = false → exec (.fetchRequest n) s = .next s) ∧
    (∀ (c : Cursor) (w : BitVec 256), (s.port n).bobbin.cursor = some c → c.word = some w → s.bobbinRoom n = true →
      s.copyFor n (s.playedDesc n c.item) = none → descSuits (Config.portType n) (s.port n).mode w = true →
      c.gran < descLen w → c.gran < s.passLen n c.item →
      let a := s.memAddr (dataAddr (Config.portType n) w c.gran)
      (s.tagFree n a = false → exec (.fetchRequest n) s = .next s) ∧
      (s.tagFree n a = true → Yields (.fetchRequest n) s (fun t =>
        (∃ train, (t.port n).bobbin.flying = (s.port n).bobbin.flying ++
          [{ pass := c.count, gran := c.gran, addr := a, data := none, issued := false, train := train }] ∧
          (s.bestEffort n = true ↔ train = 0)) ∧
        (t.port n).bobbin.cursor = some { c with gran := c.gran + 1 } ∧ s.portsBut t [n] ∧
        s.regsBut t [regAddr Page.stream 0x44] ∧ s.changesOnly t [.regs, .ports]))) ∧
    (∀ (f : Fetched) (v : Severity) (late : Bool), (s.port n).bobbin.returning = some f →
      Yields (.readComplete n v late) s (fun t => (t.port n).bobbin.flying = (s.port n).bobbin.flying.erase f ∧
        (f.pass = 0 → (t.port n).bobbin.present = (s.port n).bobbin.present ∧ (t.port n).bobbin.refetch = (s.port n).bobbin.refetch) ∧
        (f.pass ≠ 0 → v ≠ .uncorrectable → s.unreadable f.addr = false → s.slotBegun n f = false →
          (t.port n).bobbin.present = (s.port n).bobbin.present ++ [{ f with data := some (s.readGranule f.addr) }] ∧
          (t.port n).bobbin.refetch = (s.port n).bobbin.refetch) ∧
        (f.pass ≠ 0 → v = .uncorrectable → s.unreadable f.addr = false →
          (t.port n).bobbin.present = (s.port n).bobbin.present ∧
          (t.port n).bobbin.refetch = (s.port n).bobbin.refetch ++ [{ f with issued := false, train := 0 }]) ∧
        (f.pass ≠ 0 → s.unreadable f.addr = true → s.slotBegun n f = false →
          (t.port n).bobbin.present = (s.port n).bobbin.present ++ [{ f with data := none }]) ∧
        (v = .uncorrectable ∨ s.unreadable f.addr = true → bit (t.rd (Page.memctl (s.stackOf f.addr)) 0x14) 3 = true ∧
          t.rd (Page.memctl (s.stackOf f.addr)) 0x5c =
            word (min 0xffffffff ((s.rd (Page.memctl (s.stackOf f.addr)) 0x5c).toNat + 1))) ∧
        (v = .corrected → s.unreadable f.addr = false → bit (t.rd (Page.memctl (s.stackOf f.addr)) 0x14) 2 = true ∧
          t.rd (Page.memctl (s.stackOf f.addr)) 0x58 =
            word (min 0xffffffff ((s.rd (Page.memctl (s.stackOf f.addr)) 0x58).toNat + 1))) ∧
        (late = true → s.bestEffort n = false → t.faulted (Page.memctl (s.stackOf f.addr)) 0xb) ∧ s.portsBut t [n] ∧
        s.changesOnly t [.free, .regs, .ports, .fabric, .i3cA, .i3cB, .faults])) ∧
    (∀ (f : Fetched) (rest : List Fetched) (v : Severity) (late slow : Bool), (s.port n).bobbin.refetch = f :: rest →
      Yields (.refetchComplete n v late slow) s (fun t => (t.port n).bobbin.refetch = rest ∧
        (t.port n).bobbin.flying = (s.port n).bobbin.flying ∧
        (s.slotBegun n f = true → (t.port n).bobbin.present = (s.port n).bobbin.present) ∧
        (s.slotBegun n f = false → (t.port n).bobbin.present = (s.port n).bobbin.present ++
          [{ f with data := if v ≠ .uncorrectable ∧ s.unreadable f.addr = false ∧ late = false
                            then some (s.readGranule f.addr) else none }]) ∧
        (v = .uncorrectable ∨ s.unreadable f.addr = true → t.rd (Page.memctl (s.stackOf f.addr)) 0x5c =
          word (min 0xffffffff ((s.rd (Page.memctl (s.stackOf f.addr)) 0x5c).toNat + 1))) ∧
        (v = .corrected → s.unreadable f.addr = false → bit (t.rd (Page.memctl (s.stackOf f.addr)) 0x14) 2 = true ∧
          t.rd (Page.memctl (s.stackOf f.addr)) 0x58 =
            word (min 0xffffffff ((s.rd (Page.memctl (s.stackOf f.addr)) 0x58).toNat + 1))) ∧ s.portsBut t [n] ∧
        s.changesOnly t [.free, .regs, .ports, .fabric, .i3cA, .i3cB, .faults]))

/-- A pin operation runs once, ends with its result, and staging arms a whole unit or parks it. PIN and UNPIN set GO
with their descriptor, and wait while a firmware switch does; while GO stands a further one does nothing. Its
completion clears GO, sets the flag and loads RESULT: 1 where a port uses the pinned copy or is staging with it, for
an unpin 3 where there is none and 0 where it is removed, for a pin 2 where the cache has no room and otherwise a new
pinned copy with the memory's content (0 where every granule read well). STAGING_COMPLETE of a unit in READY, after
the units armed with it whose place is lower, arms all its players or parks them all; a port that needs nothing cached
is ARMED, with its row counters and marker state clear. Elsewhere it does nothing. Where the manual leaves a point
open it states the model's reading: log entries 22, 40, 42 and 70. -/
def Obligations.CachePinsAndStaging : Prop :=
  (∀ (c : Instr) (d : Nat) (un : Bool) (s : State), (c = .pin d ∧ un = false) ∨ (c = .unpin d ∧ un = true) →
    (bit (s.rd Page.cache 0x48) 31 = true → exec c s = .next s) ∧
    (bit (s.rd Page.cache 0x48) 31 = false → Yields c s (fun t =>
      t.rd Page.cache 0x48 = word (d % 2 ^ 18 + b2n un * 2 ^ 24 + 2 ^ 31) ∧
      t.security = { s.security with pinHeld := s.quieting } ∧ s.regsBut t [regAddr Page.cache 0x48] ∧
      s.changesOnly t [.regs, .security]))) ∧
  (∀ (reads : ReadErrors) (s : State), bit (s.rd Page.cache 0x48) 31 = false ∨ s.security.pinHeld = true →
    exec (.pinComplete reads) s = .next s) ∧
  (∀ (reads : ReadErrors) (s : State), bit (s.rd Page.cache 0x48) 31 = true → s.security.pinHeld = false →
    Yields (.pinComplete reads) s (fun t =>
      let d := bits (s.rd Page.cache 0x48) 0 18
      let old := s.copies.find? (fun c => c.pinned && c.desc == d)
      let w := s.desc d
      let addrs := dataAddrs (ptypeOf w) w 0 (descLen w)
      bit (t.rd Page.cache 0x48) 31 = false ∧ bits (t.rd Page.cache 0x48) 0 18 = d ∧ bit (t.rd Page.cache 0x14) 0 = true ∧
      (∀ c, old = some c → c.users ≠ [] ∨ s.stagesWith c = true → t.rd Page.cache 0x4c = 1 ∧ t.copies = s.copies) ∧
      (bit (s.rd Page.cache 0x48) 24 = true → old = none → t.rd Page.cache 0x4c = 3 ∧ t.copies = s.copies) ∧
      (∀ c, bit (s.rd Page.cache 0x48) 24 = true → old = some c → c.users = [] → s.stagesWith c = false →
        t.rd Page.cache 0x4c = 0 ∧ t.copies = s.copies.filter (fun x => x ≠ c)) ∧
      (bit (s.rd Page.cache 0x48) 24 = false → old = none →
        cacheBlocks < s.cacheUsed + blocksOf (descLen w) + blocksOf (descMarks (ptypeOf w) w) →
        t.rd Page.cache 0x4c = 2 ∧ t.copies = s.copies) ∧
      (bit (s.rd Page.cache 0x48) 24 = false → old = none →
        s.cacheUsed + blocksOf (descLen w) + blocksOf (descMarks (ptypeOf w) w) ≤ cacheBlocks →
        ∃ c : Copy, t.copies = s.copies ++ [c] ∧ c.desc = d ∧ c.pinned = true ∧ c.users = [] ∧ c.touched = false ∧ c.whole = true ∧
          c.data.length = descLen w ∧ (reads.bad = [] → (∀ a ∈ addrs ++ markAddrs (ptypeOf w) w, s.unreadable (s.memAddr a) = false) →
            t.rd Page.cache 0x4c = 0 ∧ c.data = addrs.map (fun a => some (s.readGranule (s.memAddr a))))) ∧
      s.changesOnly t [.free, .regs, .copies, .i3cA, .i3cB])) ∧
  (∀ (u : SeqUnit) (reads : ReadErrors) (s : State), s.unitState u ≠ .ready ∨ s.stagingWaits u = true →
    exec (.stagingComplete u reads) s = .next s) ∧
  (∀ (u : SeqUnit) (reads : ReadErrors) (s : State), s.unitState u = .ready → s.stagingWaits u = false →
    Yields (.stagingComplete u reads) s (fun t =>
    ((∀ n ∈ s.players u, (t.port n).state = .armed) ∨ (∀ n ∈ s.players u, (t.port n).state = .parked)) ∧
    s.changesOnly t [.free, .regs, .ports, .groups, .copies, .i3cA, .i3cB])) ∧
  (∀ (n : Nat) (reads : ReadErrors) (s : State), n < 144 → (s.port n).state = .ready → s.stagingWaits (.port n) = false →
    bits (s.reg (portReg n 0x58)) 0 2 ≠ 2 →
    (∀ c ∈ s.copies, c.pinned = false) →
    (pulseUnit (Config.portType n) (s.port n).mode = true ∨ ∀ d ∈ s.stagedDescs n (s.port n).play.start,
      descRes (s.desc d) ≠ 0 ∧ descRes (s.desc d) ≠ 2 ∧ descMarks (Config.portType n) (s.desc d) = 0) →
    Yields (.stagingComplete (.port n) reads) s (fun t => (t.port n).state = .armed ∧ (t.port n).play.rows = rowsZero ∧
      (t.port n).ms = 0 ∧ t.copies = s.copies ∧ bit (t.reg (portReg n 0x114)) 0 = !(t.port n).admitted ∧ s.portsBut t [n]))

/-- The detected reference gives the module its ratio, a transfer is clamped and relocks the loop, and the first lock
starts the stacks. The first detection between 1 and 250 MHz loads REF_MEAS and takes the ratio: one that was held
clamped, that of the standard reference, or the active one clamped; in CLOCKING a full search begins. Outside the
range nothing happens; a later detection shows the reference present and carries out a transfer that was held. A
transfer without a reference is held; with a locked loop it takes the clamped ratio, and a changed one parks every
fitted port, gates and guards the clocks and starts a relock. A new measurement during a relock clamps the transferred
ratio again and starts the loop step. CLEAR takes the VALID bits of the band table. The first lock ends the search:
LOCKED, lifecycle MEMORY, every port in slot 0 of a new epoch, idle stacks in training. Where the manual leaves a
point open it states the model's reading: log entries 49 and 54. -/
def Obligations.ReferenceAndRatioReachTheLoop : Prop :=
  (∀ (khz : Nat) (s : State),
    (khz < 1000 ∨ 250000 < khz → exec (.refDetected khz) s = .next s) ∧
    (1000 ≤ khz → khz ≤ 250000 → s.clock.loop ≠ .noRef → s.clock.held = true → Yields (.refDetected khz) s (fun t =>
      t.clock.refPresent = true ∧ t.clock.held = false ∧ t.clock.pend = false ∧
      t.clock.ratio = clampRatio s.refKhz s.shadowRatio)) ∧
    (1000 ≤ khz → khz ≤ 250000 → s.clock.loop ≠ .noRef → s.clock.held = false →
      exec (.refDetected khz) s = .next { s with clock := { s.clock with refPresent := true } }) ∧
    (1000 ≤ khz → khz ≤ 250000 → s.clock.loop = .noRef → Yields (.refDetected khz) s (fun t =>
      t.clock.refPresent = true ∧ t.clock.loop = .searching ∧ t.clock.pend = (s.clock.pend && !s.clock.held) ∧
      bits (t.rd Page.clock 0x54) 0 18 = khz ∧ bit (t.rd Page.clock 0x54) 24 = true ∧
      bit (t.rd Page.clock 0x54) 25 = (standardOf khz).isSome ∧ bit (t.rd Page.global 0x74) 1 = true ∧
      t.clock.ratio = (if s.clock.held = true then clampRatio khz s.shadowRatio
        else match standardOf khz with
          | some i => (Config.standardReferences.getD i (0, 0, 0, 1)).2
          | none => clampRatio khz s.clock.ratio) ∧
      (s.life.state = .clocking → t.clock.relock = some (.search true)) ∧
      (s.life.state ≠ .clocking → t.clock.relock = some .waiting) ∧ s.changesOnly t [.regs, .ports, .clock]))) ∧
  (∀ s : State, s.clock.commit = true → s.committing = false →
    (s.clock.pend = false → exec .clockTransfer s = .next { s with clock := { s.clock with commit := false } }) ∧
    (s.clock.pend = true → s.clock.loop = .noRef ∨ (s.clock.loop = .coasting ∧ s.clock.refPresent = false) →
      exec .clockTransfer s = .next { s with clock := { s.clock with commit := false, held := true } }) ∧
    (s.clock.pend = true → s.clock.loop = .locked → s.clock.relock = none → Yields .clockTransfer s (fun t =>
      t.clock.commit = false ∧ t.clock.pend = false ∧ t.clock.ratio = clampRatio s.refKhz s.shadowRatio ∧
      (clampRatio s.refKhz s.shadowRatio = s.clock.ratio → t.clock.loop = .locked ∧ t.clock.relock = none) ∧
      (clampRatio s.refKhz s.shadowRatio ≠ s.clock.ratio → t.clock.loop = .searching ∧ t.clock.relock ≠ none ∧
        (s.firstLock = true → t.clock.guard = true ∧ t.clock.gated = true ∧
          ∀ n, s.fits n → (s.port n).state ∉ [.off, .absent, .safe] → (t.port n).state = .parked))))) ∧
  (∀ (khz : Nat) (s : State), s.clock.relock = some .measuring → s.clock.refPresent = true → 1000 ≤ khz → khz ≤ 250000 →
    Yields (.refRemeasure khz) s (fun t => bits (t.rd Page.clock 0x54) 0 18 = khz ∧ t.clock.ratio = clampRatio khz s.clock.raw ∧
      t.clock.loop = .searching ∧ (∃ full, t.clock.relock = some (.search full)) ∧ s.changesOnly t [.regs, .ports, .clock])) ∧
  (∀ s : State, Yields .bandTableClear s (fun t =>
    (∀ e, e < 16 → t.clock.bandWord (2 * e) = s.clock.bandWord (2 * e) ∧
      t.clock.bandWord (2 * e + 1) = s.clock.bandWord (2 * e + 1) &&& 0x7fffffff) ∧
    t.clock = { s.clock with bands := t.clock.bands } ∧ s.changesOnly t [.clock])) ∧
  (∀ s : State, s.firstLock = false → s.life.state = .clocking → s.clock.searches = true → Yields .firstLock s (fun t =>
    t.clock.loop = .locked ∧ t.clock.relock = none ∧ t.clock.guard = false ∧ t.clock.gated = false ∧ t.firstLock = true ∧
    t.life.state = .memory ∧ s.logged t 0x01 ∧
    t.rd Page.clock 0x74 = word (min 0xffffffff ((s.rd Page.clock 0x74).toNat + 1)) ∧ bit (t.rd Page.clock 0x14) 2 = true ∧
    (∀ k, k < Config.stackCount s.part → ((s.stack k).train = .idle ∨ (s.stack k).train = .selfRefresh →
      (t.stack k).train = .training) ∧ (t.stack k).attempts = 1) ∧
    (∀ n, s.fits n → t.atEpoch n) ∧
    s.changesOnly t [.free, .regs, .ports, .groups, .memctl, .fabric, .i3cA, .i3cB, .ledger, .clock, .twin, .life]))

/-- A relock searches, runs for 64 cycles, passes and ends in lock with a new epoch, and a lost reference holds it. A
search ends in the lock run with PLL_STATE GUARD; a table search may fall back to a full one, with its bit and flag. A
run whose root cycles over 64 reference cycles lie within 2 of 64 x FB awaits the common edge, any other starts again.
GUARD_END after a passed run locks the loop, ends guard division and gating, counts and records the relock, counts a
table hit, and starts a new epoch: every fitted port in slot 0, whose first sample carries residue 0. A loss of the
reference puts the relock back to wait; its return starts the loop step, on a follower it waits on. Elsewhere in the
sequence each of these does nothing. Where the manual leaves a point open it states the model's reading: log entries
5, 50, 51 and 55. -/
def Obligations.RelocksGoThroughTheirSteps : Prop :=
  (∀ s : State,
    (∀ full, s.clock.relock = some (.search full) → Yields .lockRunStart s (fun t =>
      t.clock = { s.clock with relock := some .run, loop := .guard, run := 0, band := t.clock.band, fine := t.clock.fine,
                               fromTable := t.clock.fromTable } ∧
      (full = false → t.clock.band = s.clock.band ∧ t.clock.fine = s.clock.fine ∧ t.clock.fromTable = s.clock.fromTable) ∧
      (full = true → t.clock.fromTable = false) ∧ s.changesOnly t [.free, .clock])) ∧
    ((∀ full, s.clock.relock ≠ some (.search full)) → exec .lockRunStart s = .next s ∧ exec .bandFallback s = .next s) ∧
    (s.clock.relock = some (.search false) → Yields .bandFallback s (fun t =>
      t.clock = { s.clock with relock := some (.search true), fromTable := false } ∧
      t.rd Page.clock 0x5c = s.rd Page.clock 0x5c ||| 2 ∧ s.flagged t Page.clock (bitWord 6) ∧
      s.regsBut t [regAddr Page.clock 0x5c, regAddr Page.clock 0x14] ∧ s.changesOnly t [.regs, .i3cA, .i3cB, .clock])) ∧
    (s.clock.relock = some .run →
      ∀ k : Nat, let fb := s.clock.fbInt * s.clock.fbDen + s.clock.fbNum
        (64 * fb ≤ (k + 2) * s.clock.fbDen → k * s.clock.fbDen ≤ 64 * fb + 2 * s.clock.fbDen →
          exec (.lockRunComplete k) s = .next { s with clock := { s.clock with relock := some .passed, run := 64, windowPass := true } }) ∧
        ((k + 2) * s.clock.fbDen < 64 * fb ∨ 64 * fb + 2 * s.clock.fbDen < k * s.clock.fbDen →
          exec (.lockRunComplete k) s = .next { s with clock := { s.clock with run := 0, windowPass := false } })) ∧
    (s.clock.relock ≠ some .run → ∀ b, exec (.lockRunComplete b) s = .next s) ∧
    (s.clock.relock ≠ some .passed ∨ s.firstLock = false → ∀ o, exec (.guardEnd o) s = .next s) ∧
    (∀ o, s.clock.relock = some .passed → s.firstLock = true → Yields (.guardEnd o) s (fun t =>
      t.clock.loop = .locked ∧ t.clock.relock = none ∧ t.clock.guard = false ∧ t.clock.gated = false ∧
      t.clock.peak = min 255 o ∧ t.clock.ratio = s.clock.ratio ∧ s.logged t 0x01 ∧ bit (t.rd Page.clock 0x14) 2 = true ∧
      t.rd Page.clock 0x74 = word (min 0xffffffff ((s.rd Page.clock 0x74).toNat + 1)) ∧
      (s.clock.fromTable = true → bit (t.rd Page.clock 0x5c) 0 = true ∧ t.clock.bands = s.clock.bands ∧
        bits (t.rd Page.clock 0x5c) 16 16 = min 0xffff (bits (s.rd Page.clock 0x5c) 16 16 + 1)) ∧
      (s.clock.fromTable = false → bit (t.rd Page.clock 0x5c) 0 = false) ∧
      (∀ n, s.fits n → t.atEpoch n ∧ (t.port n).transfers = []) ∧
      (∀ g, g < 32 → (t.group g).slot = 0) ∧
      s.changesOnly t [.regs, .ports, .groups, .fabric, .i3cA, .i3cB, .ledger, .clock, .twin, .life]))) ∧
  (∀ s : State,
    (s.clock.relock = none → exec .relockRefLoss s = .next s ∧ exec .relockRefResume s = .next s) ∧
    (s.clock.relock = some .measuring →
      exec .relockRefLoss s = .next { s with clock := { s.clock with refPresent := false } } ∧
      exec .relockRefResume s = .next { s with clock := { s.clock with refPresent := true } }) ∧
    (s.clock.relock ≠ none → s.clock.relock ≠ some .measuring → exec .relockRefLoss s = .next { s with clock := { s.clock with
      refPresent := false, relock := some .waiting, loop := .searching, run := 0, windowPass := false } }) ∧
    (s.clock.relock = some .waiting → s.twin.role = .follow →
      exec .relockRefResume s = .next { s with clock := { s.clock with refPresent := true } }) ∧
    (s.clock.relock = some .waiting → s.twin.role ≠ .follow → s.firstLock = true ∨ s.life.state = .clocking →
      Yields .relockRefResume s (fun t => t.clock.refPresent = true ∧ t.clock.loop = .searching ∧ t.clock.run = 0 ∧
        t.clock.relock = some (.search (s.clock.fullSearch || !bit (s.rd Page.clock 0x58) 0 ||
          ({ s with clock := { s.clock with refPresent := true } } : State).bandMatch.isNone)) ∧
        s.changesOnly t [.regs, .clock])))

/-- A lost reference or lock makes the loop coast, a qualified return ends the coast by its policy, and a domain out
of tolerance is a fault. On a module that does not follow, with no relock: LOSS_OF_REFERENCE and LOSS_OF_LOCK of a
locked loop make it COASTING, counted, flagged, recorded and raised as fault 0x0d; during an alignment they fail it
and gate the clocks; elsewhere only the reference's presence is noted, and a loss of lock without edges does nothing.
A return outside 10 ppm sets its flag and the coast goes on; inside, the offset is loaded, reduced to half a reference
period either way, COAST_TIME with the length of the coast, the return recorded, and the policy locks at once or slews
or steps. SLEW_END and STEP_CORRECTION_END lock. A measured window of a present domain shows its frequency; checked
and out of tolerance it counts a fault, raises 0x0c and sets the DEGRADED cause, in tolerance it clears the domain's
fault. Where the manual leaves a point open it states the model's reading: log entries 12, 50 and 53. -/
def Obligations.CoastsReturnAndDomains : Prop :=
  (∀ (present : Bool) (c : Instr) (s : State), (c = .lossOfReference ∧ present = false) ∨
      (c = .lossOfLock ∧ present = true ∧ s.clock.refPresent = true) →
    ((s.twin.role = .follow ∨ s.clock.relock ≠ none) → exec c s = .next { s with clock := { s.clock with refPresent := present } }) ∧
    (s.twin.role ≠ .follow → s.clock.relock = none → s.clock.sync ≠ .aligning →
      ((s.clock.loop = .locked ∨ s.clock.loop = .refReturned) → Yields c s (fun t =>
        t.clock = { s.clock with refPresent := present, loop := .coasting, correction := none, coastAt := s.cycle } ∧
        s.logged t 0x02 ∧
        t.rd Page.clock 0x78 = word (min 0xffffffff ((s.rd Page.clock 0x78).toNat + 1)) ∧
        bit (t.rd Page.clock 0x14) (b2n present) = true ∧ t.faulted Page.clock 0x0d ∧
        s.changesOnly t [.free, .regs, .fabric, .i3cA, .i3cB, .ledger, .faults, .clock])) ∧
      (s.clock.loop ≠ .locked → s.clock.loop ≠ .refReturned → exec c s = .next { s with clock := { s.clock with refPresent := present } })) ∧
    (s.twin.role ≠ .follow → s.clock.relock = none → s.clock.sync = .aligning → Yields c s (fun t =>
      t.clock.sync = .failed ∧ t.clock.loop = .searching ∧ t.clock.relock = some .waiting ∧ t.clock.guard = true ∧
      t.clock.gated = true ∧ t.clock.refPresent = present ∧ bit (t.rd Page.clock 0x14) 11 = true ∧ s.logged t 0x04 ∧ t.twin.linkUp = false))) ∧
  (∀ s : State, s.clock.refPresent = false → exec .lossOfLock s = .next s) ∧
  (∀ (khz : Nat) (p : Int), khz ≠ 0 → 2 * reducePhase khz p * khz ≤ 1000000000 ∧
    -1000000000 - 2 * (khz : Int) < 2 * reducePhase khz p * khz) ∧
  (∀ (m : Nat) (p : Int) (s : State), s.clock.loop = .coasting → s.clock.relock = none → s.twin.role ≠ .follow →
    let want := 1024000 * (s.clock.fbInt * s.clock.fbDen + s.clock.fbNum)
    (100001 * want < 100000 * (m * s.clock.fbDen) ∨ 100000 * (m * s.clock.fbDen) + want < 100000 * want →
      Yields (.returnQualified m p) s (fun t => t.clock = { s.clock with refPresent := true } ∧
      s.flagged t Page.clock (bitWord 9) ∧ s.regsBut t [regAddr Page.clock 0x14] ∧ s.changesOnly t [.regs, .i3cA, .i3cB, .clock])) ∧
    (100000 * (m * s.clock.fbDen) ≤ 100001 * want → 100000 * want ≤ 100000 * (m * s.clock.fbDen) + want →
      Yields (.returnQualified m p) s (fun t => t.rd Page.clock 0x64 = wordOfInt (reducePhase s.refKhz p) ∧
      t.rd Page.clock 0x60 = word s.coastMs ∧ bit (t.rd Page.clock 0x14) 3 = true ∧
      s.logged t 0x03 ∧
      (bits (s.rd Page.clock 0x68) 0 4 = 2 → bit (t.rd Page.clock 0x14) 5 = true ∧
        t.clock = { s.clock with refPresent := true, loop := .locked, correction := none }) ∧
      (bits (s.rd Page.clock 0x68) 0 4 = 1 →
        t.clock = { s.clock with refPresent := true, loop := .refReturned, correction := some 1 }) ∧
      (bits (s.rd Page.clock 0x68) 0 4 ≠ 1 → bits (s.rd Page.clock 0x68) 0 4 ≠ 2 →
        t.clock = { s.clock with refPresent := true, loop := .refReturned, correction := some 0 }) ∧
      s.changesOnly t [.regs, .i3cA, .i3cB, .ledger, .clock]))) ∧
  (∀ s : State, s.clock.loop = .refReturned →
    (s.clock.correction = some 0 →
      exec .slewEnd s = .next { s with clock := { s.clock with loop := .locked, correction := none } }) ∧
    (s.clock.correction = some 1 → Yields .stepCorrectionEnd s (fun t =>
      t.clock = { s.clock with loop := .locked, correction := none } ∧ s.flagged t Page.clock (bitWord 4) ∧
      s.regsBut t [regAddr Page.clock 0x14] ∧ s.changesOnly t [.regs, .i3cA, .i3cB, .clock]))) ∧
  (∀ (i khz : Nat) (s : State),
    (domainPresent s.part i = false → exec (.clockmonWindowEnd [{ domain := i, khz := khz }]) s = .next s) ∧
    (domainPresent s.part i = true → Yields (.clockmonWindowEnd [{ domain := i, khz := khz }]) s (fun t =>
      (t.domain i).mhz = min 65535 (khz / 1000) ∧ ((t.domain i).active = true ↔ 1 ≤ khz) ∧
      (t.domain i).tainted = (s.domainGated i || s.domainGuarded i) ∧ (∀ j, j ≠ i → t.domain j = s.domain j) ∧
      (s.domainChecked i = false → (t.domain i).fault = (s.domain i).fault ∧ (t.domain i).faults = (s.domain i).faults) ∧
      (s.domainChecked i = true → s.inTolerance i khz = true → (t.domain i).fault = false ∧
        (t.domain i).faults = (s.domain i).faults) ∧
      (s.domainChecked i = true → s.inTolerance i khz = false → (t.domain i).fault = true ∧
        (t.domain i).faults = min 255 ((s.domain i).faults + 1) ∧ bit (t.rd Page.clock 0x14) 10 = true ∧
        bit (t.rd Page.health 0x68) 2 = true ∧ (2 ≤ i → t.faulted Page.clock 0x0c)))))

/-- SYNC arms a module at rest, its rising edge starts the alignment, and the epoch ends it. ARM arms a module that
has a SYNC role, does not follow and stands locked with every fitted port PARKED or OFF, and refuses otherwise; during
an alignment, or on a follower, it does nothing. DELAY is raised to its least value when it arms. FIRE acts on a
source alone: from the next sample on SYNC_OUT is high for four reference periods. Each sample of SYNC_IN is kept and
takes one period from SYNC_OUT; a rising edge emits source 0x15 with hop count 0 on a module that does not follow, and
an armed module then gates its clocks and aligns, or refuses. The epoch of an alignment puts every fitted port and
every group in slot 0, counts, sets DONE with its flag (or LATE with both), ends the gating and is recorded; without
an alignment it does nothing. Where the manual leaves a point open it states the model's reading: log entries 52 and
55. -/
def Obligations.SyncArmsFiresAndAligns : Prop :=
  (∀ s : State,
    (s.twin.role = .follow ∨ s.clock.sync = .aligning → exec .syncArm s = .next s) ∧
    (s.twin.role ≠ .follow → s.clock.sync ≠ .aligning → bits (s.rd Page.clock 0x80) 0 2 ∈ [1, 2] → s.clock.loop = .locked →
      s.clock.relock = none → (∀ n, s.fits n → (s.port n).state = .parked ∨ (s.port n).state = .off) →
      Yields .syncArm s (fun t => t.clock = { s.clock with sync := .armed } ∧
        bits (t.rd Page.clock 0x80) 16 16 = max (bits (s.rd Page.clock 0x80) 16 16) (Config.ceilDiv s.refKhz 50 + 64) ∧
        s.regsBut t [regAddr Page.clock 0x80] ∧ s.changesOnly t [.regs, .clock])) ∧
    (s.twin.role ≠ .follow → s.clock.sync ≠ .aligning → (bits (s.rd Page.clock 0x80) 0 2 ∉ [1, 2] ∨ s.clock.loop ≠ .locked ∨
        ∃ n, s.fits n ∧ (s.port n).state = .run) →
      Yields .syncArm s (fun t => t.clock = { s.clock with sync := .refused } ∧
        s.regsBut t [regAddr Page.clock 0x80] ∧ s.changesOnly t [.regs, .clock])) ∧
    (bits (s.rd Page.clock 0x80) 0 2 = 2 → exec .syncFire s = .next { s with clock := { s.clock with syncFired := true } }) ∧
    (bits (s.rd Page.clock 0x80) 0 2 ≠ 2 → exec .syncFire s = .next s)) ∧
  (∀ (level : Bool) (s : State),
    (level = false ∨ s.clock.syncIn = true → exec (.syncEdge level) s =
      .next { s with clock := { s.clock with
        syncIn := level, syncFired := false, syncOut := if s.clock.syncFired then 4 else s.clock.syncOut - 1 } }) ∧
    (level = true → s.clock.syncIn = false → Yields (.syncEdge level) s (fun t => t.clock.syncIn = true ∧
      t.clock.syncOut = (if s.clock.syncFired then 4 else s.clock.syncOut - 1) ∧ t.clock.syncFired = false ∧
      (s.twin.role = .follow → t.fabric.emitted = s.fabric.emitted ∧ t.clock.sync = s.clock.sync) ∧
      (s.twin.role ≠ .follow → t.fabric.emitted = s.fabric.emitted ++ [[{ code := 0x15, hop := 0 }]]) ∧
      (s.clock.sync ≠ .armed → t.clock.sync = s.clock.sync ∧ t.clock.gated = s.clock.gated) ∧
      (s.twin.role ≠ .follow → s.clock.sync = .armed → s.mayAlign = true → t.clock.sync = .aligning ∧ t.clock.gated = true) ∧
      (s.twin.role ≠ .follow → s.clock.sync = .armed → s.mayAlign = false → t.clock.sync = .refused) ∧
      s.changesOnly t [.regs, .fabric, .i3cA, .i3cB, .clock, .life]))) ∧
  (∀ (held : Bool) (s : State),
    (s.clock.sync ≠ .aligning → exec (.alignmentEpoch held) s = .next s) ∧
    (s.clock.sync = .aligning → Yields (.alignmentEpoch held) s (fun t =>
      t.clock.sync = (if held = true then .done else .late) ∧ t.clock.gated = false ∧
      bit (t.rd Page.clock 0x14) 7 = true ∧ (held = false → bit (t.rd Page.clock 0x14) 8 = true) ∧
      bits (t.rd Page.clock 0x88) 16 16 = min 0xffff (bits (s.rd Page.clock 0x88) 16 16 + 1) ∧ s.logged t 0x04 ∧
      (∀ n, s.fits n → t.atEpoch n) ∧
      (∀ g, g < 32 → (t.group g).slot = 0) ∧
      s.changesOnly t [.regs, .ports, .groups, .fabric, .i3cA, .i3cB, .ledger, .clock, .twin, .life])))

/-- A swatch begins on a free CALADC, takes its points, and is judged; trims go to their targets one tap at a time.
SWATCH_START on a free CALADC with calibration allowed and neither SUSPEND nor standby takes the item due: with a
precondition failing it loads PRECONDITION with its REASON and tries again a second later; otherwise the CALADC holds
the swatch, an idle port going to SERVICE. A point joins the swatch while the calibration switches read back as
commanded; where they do not, the swatch ends with PRECONDITION, REASON 1 (the model's reading, log entry 115), and
frees the CALADC. At its end the CALADC is free, and an accepted result becomes the item's result and target, counted
as accepted, an implausible one changes no result and counts, the third in a row making the item HELD; a swatch of a
LEGACY_HOLD pass stays on its CALADC, judged, until its release. TRIM_TAP moves the applied value of every item one
tap toward its bounded target, none during the housekeeping pause or in standby. TARGET_RECOMPUTE sets the target of
every seeded item from its result and the temperatures. CAL_REBASE releases the held items it names. Where the manual
leaves a point open it states the model's reading: log entries 7, 56, 57, 60, 61, 70 and 115. -/
def Obligations.SwatchesMeasureAndJudge : Prop :=
  (∀ (adc : Nat) (rb : Bool) (s : State),
    (2 ≤ adc ∨ (s.adc adc).isSome = true ∨ s.mayCalibrate = false ∨ s.cal.suspend = true ∨ s.inStandby = true →
      exec (.swatchStart adc rb) s = .next s) ∧
    (∀ (item : Nat) (kind : SwatchKind) (rot : Bool), adc < 2 → s.adc adc = none → s.mayCalibrate = true →
      s.cal.suspend = false → s.inStandby = false → s.legacyWaits adc = false → s.nextItem adc = some item →
      s.opportunity item = some (kind, rot) → Yields (.swatchStart adc rb) s (fun t =>
        (∀ r, s.precondition item rb = some r → t.rd Page.cal 0x4c = word (2 + r * 16 + item * 2 ^ 16) ∧
          bit (t.rd Page.cal 0x14) 0 = true ∧ (t.calItem item).retry = some (s.ledger.elapsed + 1) ∧ t.adc adc = none ∧
          t.ports = s.ports ∧ t.spares = s.spares) ∧
        (s.precondition item rb = none → t.regs = s.regs ∧
          (∃ x, t.adc adc = some x ∧ x.item = item ∧ x.kind = kind ∧ x.rotation = rot ∧ x.values = [] ∧ x.legacy = false ∧
            x.done = false) ∧
          (kind = .full → rot = false → (t.port (itemIndex item / 3)).state = .service) ∧
          (kind = .delay → t.ports = s.ports)) ∧ t.adc (1 - adc) = s.adc (1 - adc) ∧
        s.changesOnly t [.regs, .ports, .spares, .i3cA, .i3cB, .cal]))) ∧
  (∀ (adc : Nat) (v : Int) (noise : Nat) (x : Swatch) (s : State), adc < 2 → s.adc adc = some x →
    (x.values.length < x.kind.points → exec (.swatchPoint adc true v noise) s = .next (s.setAdc adc (some { x with
      values := x.values ++ [v], noisy := x.noisy || decide (max 1 (bits (s.rd Page.cal 0x68) 0 16) < noise) })) ∧
      Yields (.swatchPoint adc false v noise) s (fun t => t.adc adc = none ∧ t.adc (1 - adc) = s.adc (1 - adc) ∧
        t.rd Page.cal 0x4c = word (2 + 16 + x.item * 2 ^ 16) ∧ bit (t.rd Page.cal 0x14) 0 = true ∧
        (t.calItem x.item).retry = some (s.ledger.elapsed + 1) ∧
        (∀ i, (t.calItem i).result = (s.calItem i).result ∧ (t.calItem i).target = (s.calItem i).target) ∧
        s.changesOnly t [.regs, .ports, .spares, .i3cA, .i3cB, .ledger, .cal])) ∧
    (x.done = false → x.legacy = false → x.values.length = x.kind.points → Yields (.swatchEnd adc) s (fun t =>
      t.adc adc = none ∧ t.adc (1 - adc) = s.adc (1 - adc) ∧ t.cal.storeDue = true ∧ bit (t.rd Page.cal 0x14) 0 = true ∧
      (∀ j, j ≠ x.item → t.calItem j = s.calItem j) ∧
      (∀ n, itemPort x.item = some n → (s.port n).state = .service → (t.port n).state = .parked) ∧
      (s.accepts x = true → (t.calItem x.item).result = s.swatchResult x ∧ (t.calItem x.item).target = s.swatchResult x ∧
        (t.calItem x.item).accepted = (s.calItem x.item).accepted + 1 ∧ (t.calItem x.item).rejected = 0 ∧
        (t.calItem x.item).swatched = some s.ledger.elapsed ∧ t.rd Page.cal 0x4c = word (x.item * 2 ^ 16) ∧
        bits (t.rd Page.cal 0x6c) 0 16 = (bits (s.rd Page.cal 0x6c) 0 16 + 1) % 65536) ∧
      (s.accepts x = false → (t.calItem x.item).result = (s.calItem x.item).result ∧
        (t.calItem x.item).target = (s.calItem x.item).target ∧
        (t.calItem x.item).rejected = min 3 ((s.calItem x.item).rejected + 1) ∧
        (t.calItem x.item).held = decide (2 ≤ (s.calItem x.item).rejected) ∧
        t.rd Page.cal 0x4c = word (1 + x.item * 2 ^ 16) ∧ bit (t.rd Page.cal 0x14) 1 = true ∧ s.logged t 0x10 ∧
        bits (t.rd Page.cal 0x6c) 16 16 = (bits (s.rd Page.cal 0x6c) 16 16 + 1) % 65536) ∧
      s.changesOnly t [.free, .regs, .ports, .spares, .i3cA, .i3cB, .ledger, .cal])) ∧
    (x.done = false → x.legacy = true → x.values.length = x.kind.points → Yields (.swatchEnd adc) s (fun t =>
      t.adc adc = some { x with done := true } ∧ t.adc (1 - adc) = s.adc (1 - adc) ∧ t.ports = s.ports ∧ t.cal.storeDue = true ∧
      (s.accepts x = true → (t.calItem x.item).result = s.swatchResult x ∧ (t.calItem x.item).target = s.swatchResult x) ∧
      (s.accepts x = false → (t.calItem x.item).result = (s.calItem x.item).result ∧
        (t.calItem x.item).target = (s.calItem x.item).target) ∧
      s.changesOnly t [.free, .regs, .i3cA, .i3cB, .ledger, .cal]))) ∧
  (∀ s : State, (s.paused = true ∨ s.inStandby = true → exec .trimTap s = .next s) ∧
    (s.paused = false → s.inStandby = false → (s.cal.items.map (fun e => e.1)).Nodup → (∀ e ∈ s.cal.items, e.1 ∈ itemCodes s.part) →
      Yields .trimTap s (fun t =>
        (∀ i ∈ s.cal.items.map (fun e => e.1), t.applied i = {
          gain := stepToward (s.applied i).gain (s.boundTaps i (s.calItem i).target).gain,
          offset := stepToward (s.applied i).offset (s.boundTaps i (s.calItem i).target).offset }) ∧
        (∀ i ∈ itemCodes s.part, i ∉ s.cal.items.map (fun e => e.1) → t.applied i = s.applied i) ∧
        s.regsBut t [regAddr Page.cal 0x14] ∧ s.changesOnly t [.regs, .ports, .spares, .i3cA, .i3cB, .monitors]))) ∧
  (∀ (l : List (Die × Int)) (s : State), Yields (.targetRecompute l) s (fun t =>
    (∀ i, (s.calItem i).seeded = true →
      t.calItem i = { s.calItem i with target := t.carry i (s.calItem i).result (s.calItem i).temp (t.itemTemp i) }) ∧
    (∀ i, (s.calItem i).seeded = false → t.calItem i = s.calItem i) ∧
    (t.cal.items ≠ s.cal.items → t.cal.storeDue = true) ∧ (t.cal.items = s.cal.items → t.cal.storeDue = s.cal.storeDue) ∧
    (l = [] → t.cal.temps = s.cal.temps) ∧ s.changesOnly t [.cal])) ∧
  (∀ (item : Nat) (s : State), Yields (.calRebase item) s (fun t => t.rd Page.cal 0x74 = word (item % 2 ^ 16) ∧
    (∀ i, ((i = item % 2 ^ 16 ∨ item % 2 ^ 16 = 0xffff) ∧ (s.calItem i).held = true →
      t.calItem i = { s.calItem i with held := false, judging := .released, retry := none }) ∧
      ((i ≠ item % 2 ^ 16 ∧ item % 2 ^ 16 ≠ 0xffff) ∨ (s.calItem i).held = false → t.calItem i = s.calItem i)) ∧
    s.regsBut t [regAddr Page.cal 0x74] ∧ s.changesOnly t [.regs, .cal]))

/-- A group's spare rotation goes from step to step, and a LEGACY_HOLD pass freezes, swatches and releases its ports.
GROUP_EN holds the bits of fitted spares and FORCE. A rotation that is enabled, not suspended by LEGACY_HOLD and idle
takes the item due and shadows its port; the settled spare is swatched if due, or takes the node over once both trim
sets are valid (without them PRECONDITION 3 is loaded and the rotation is idle again); after the hand-over the port is
swatched, then the return begins, and its end makes the rotation idle. A rotation whose bit was cleared waits for its
step to be complete, then returns the port if it is substituted, and is idle. A pass begins only under LEGACY_HOLD
without SUSPEND, with none running: it takes every fitted P-port that is not idle, by CALADC, or ends at once with its
entry. LEGACY_RELEASE frees the CALADC and the frozen output, its applied trims stepping at once to their bounded
targets. Where the manual leaves a point open it states the model's reading: log entries 45, 59, 60 and 116. -/
def Obligations.RotationsAndLegacyPasses : Prop :=
  (∀ (w : Word) (s : State), exec (.groupEnWrite w) s = .next (s.wr Page.cal 0x70 (w &&& word (2 ^ Config.spares s.part + 15)))) ∧
  (∀ (g : Nat) (s : State), (Config.spares s.part ≤ g ∨ s.cal.legacyMode = true → exec (.rotationStep g) s = .next s) ∧
    (g < Config.spares s.part → s.cal.legacyMode = false → s.rotates g = true →
      (∀ item, (s.rotation g).1 = .idle → (s.spare g).substituted = false → (s.spare g).busy = none → (s.spare g).service = false →
        (s.spare g).fault = false → s.mayCalibrate = true → s.rotationItem g = some item →
        Yields (.rotationStep g) s (fun t => t.rotation g = (.shadow, item) ∧ s.sparesBut t [g] ∧
          t.rd (Page.spare g) 0x40 = word (itemIndex item / 3 % 16 + 128) ∧
          s.regsBut t [regAddr (Page.spare g) 0x40] ∧ s.changesOnly t [.regs, .spares, .cal])) ∧
      ((s.rotation g).1 = .shadow → (s.spare g).settled = false → exec (.rotationStep g) s = .next s) ∧
      ((s.rotation g).1 = .shadow → (s.spare g).settled = true → s.itemDue (s.spareItem g) ≤ s.ledger.elapsed →
        (s.calItem (s.spareItem g)).held = false → Yields (.rotationStep g) s (fun t =>
          t.rotation g = (.spareSwatch, (s.rotation g).2) ∧ s.changesOnly t [.cal])) ∧
      ((s.rotation g).1 = .shadow → (s.spare g).settled = true → s.ledger.elapsed < s.itemDue (s.spareItem g) →
        s.trimsValid g = true → s.mayHandOver g = true → (s.spare g).busy = none → Yields (.rotationStep g) s (fun t =>
          t.rotation g = (.substitute, (s.rotation g).2) ∧ (t.spare g).busy = some { toSpare := true, connected := false } ∧
          (t.spare g).serves = some (s.spareTarget g) ∧ s.sparesBut t [g] ∧ s.changesOnly t [.spares, .cal])) ∧
      ((s.rotation g).1 = .shadow → (s.spare g).settled = true → s.ledger.elapsed < s.itemDue (s.spareItem g) →
        s.trimsValid g = false → bit (s.rd Page.cal 0x70) 4 = false → Yields (.rotationStep g) s (fun t =>
          (t.rotation g).1 = .idle ∧ t.rd Page.cal 0x4c = word (2 + 3 * 16 + (s.rotation g).2 * 2 ^ 16) ∧ t.spares = s.spares ∧
          s.changesOnly t [.regs, .i3cA, .i3cB, .cal])) ∧
      ((s.rotation g).1 = .substitute → (s.spare g).substituted = true → (s.spare g).busy = none →
        Yields (.rotationStep g) s (fun t => t.rotation g = (.portSwatch, (s.rotation g).2) ∧ s.changesOnly t [.cal])) ∧
      (∀ n, (s.rotation g).1 = .portSwatch → s.swatchIdle (s.rotation g).2 = true → s.ledger.elapsed < s.itemDue (s.rotation g).2 →
        s.trimsValid g = true → (s.spare g).substituted = true → (s.spare g).busy = none → (s.spare g).serves = some n →
        s.tripHeld n = false → Yields (.rotationStep g) s (fun t => t.rotation g = (.return_, (s.rotation g).2) ∧
          (t.spare g).busy = some { toSpare := false, connected := false } ∧ s.sparesBut t [g] ∧ s.changesOnly t [.spares, .cal])) ∧
      ((s.rotation g).1 = .return_ → (s.spare g).busy = none → (s.spare g).substituted = false →
        Yields (.rotationStep g) s (fun t => t.rotation g = (.idle, 0) ∧ s.changesOnly t [.cal]))) ∧
    (g < Config.spares s.part → s.cal.legacyMode = false → s.rotates g = false →
      ((s.rotation g).1 = .idle ∨ s.rotationStepDone g (s.rotation g) = false → exec (.rotationStep g) s = .next s) ∧
      ((s.rotation g).1 ≠ .idle → s.rotationStepDone g (s.rotation g) = true → s.mayReturn g = true → (s.spare g).busy = none →
        Yields (.rotationStep g) s (fun t => t.rotation g = (.return_, (s.rotation g).2) ∧
          (t.spare g).busy = some { toSpare := false, connected := false } ∧ s.sparesBut t [g] ∧ s.changesOnly t [.spares, .cal])) ∧
      ((s.rotation g).1 ≠ .idle → s.rotationStepDone g (s.rotation g) = true → s.mayReturn g = false →
        Yields (.rotationStep g) s (fun t => t.rotation g = (.idle, 0) ∧ s.changesOnly t [.cal])))) ∧
  (∀ (c : Instr) (s : State), c = .legacyPass ∨ c = .legacyCtrlGo →
    (s.cal.legacyMode = false ∨ s.cal.suspend = true ∨ s.cal.legacy.isSome = true → exec c s = .next s) ∧
    (s.cal.legacyMode = true → s.cal.suspend = false → s.cal.legacy = none → (∃ n, n < 64 ∧ s.fits n ∧ s.notIdle n = true) → Yields c s (fun t =>
      (∃ l, t.cal.legacy = some l ∧ l.ports = 0 ∧ l.results = [] ∧
        (∀ n, n ∈ l.queue0 ↔ n < 64 ∧ s.fits n ∧ s.notIdle n = true ∧ n / 16 % 2 = 0) ∧
        (∀ n, n ∈ l.queue1 ↔ n < 64 ∧ s.fits n ∧ s.notIdle n = true ∧ n / 16 % 2 = 1)) ∧ s.changesOnly t [.cal])) ∧
    (s.cal.legacyMode = true → s.cal.suspend = false → s.cal.legacy = none → s.cal.adc0 = none → s.cal.adc1 = none →
      (∀ n, n < 64 → s.fits n → s.notIdle n = false) → Yields c s (fun t => t.cal.legacy = none ∧ s.logged t 0x14 ∧
        s.changesOnly t [.free, .regs, .i3cA, .i3cB, .ledger, .cal]))) ∧
  (∀ (adc : Nat) (x : Swatch) (s : State), adc < 2 → s.adc adc = some x →
    (x.legacy = false ∨ x.done = false → exec (.legacyRelease adc) s = .next s) ∧
    (x.legacy = true → x.done = true → itemKind x.item = 0 → Yields (.legacyRelease adc) s (fun t => t.adc adc = none ∧
      (t.port (itemIndex x.item / 3)).stale = false ∧ t.applied x.item = s.boundTaps x.item (s.calItem x.item).target ∧
      s.portsBut t [itemIndex x.item / 3] ∧
      s.changesOnly t [.free, .regs, .ports, .i3cA, .i3cB, .ledger, .cal])))

/-- A lifeline commit writes the slot not in force, and the ledger programs its entries in order and keeps its
seconds. A pending change begins a commit where none runs, 60 min have passed since the last, and neither the pause
nor standby is on: its slot, the one that does not hold the record in force, holds no valid record from then on, and
the other stays; a commit read back well leaves the live record in that slot, the other as it was, with STORE_SEQ
raised, the flag and an entry; a failed read-back is tried once more, then the state is FAILED with flag and fault
0x17 and the change still waits. TIME_SET arms one set. Without PPS a ledger second counts both clocks by one, or
takes the armed time with its flag and entry; with PPS it does nothing. Programming moves the oldest buffered entry to
the end of the ring with its hash chained, the sector it enters erased first. A lost PPS is noted. Where the manual
leaves a point open it states the model's reading: log entries 5, 8, 9, 62, 65, 70 and 117. -/
def Obligations.LifelineAndLedgerKeepTheirRecords : Prop :=
  (∀ s : State,
    (s.cal.storeDue = false ∨ s.commitRuns = true ∨ s.commitHour = false ∨ s.paused = true ∨ s.inStandby = true →
      exec .lifelineCommitStart s = .next s) ∧
    (s.cal.storeDue = true → s.commitRuns = false → s.commitHour = true → s.paused = false → s.inStandby = false →
      Yields .lifelineCommitStart s (fun t => t.cal = { s.cal with
          store := .erasing, storeDue := false, storeRetry := false, storeAt := some s.ledger.elapsed } ∧
        ((∀ r, s.inForce ≠ some (false, r)) → t.nv = { s.nv with lifeA := none }) ∧
        (∀ r, s.inForce = some (false, r) → t.nv = { s.nv with lifeB := none }) ∧ s.changesOnly t [.cal, .nv])) ∧
    (s.commitRuns = false → ∀ ok, exec (.lifelineCommitComplete ok) s = .next s) ∧
    (s.commitRuns = true → s.cal.storeRetry = false → exec (.lifelineCommitComplete false) s =
      .next { s with cal := { s.cal with store := .erasing, storeRetry := true } }) ∧
    (s.commitRuns = true → s.cal.storeRetry = true → Yields (.lifelineCommitComplete false) s (fun t => t.cal.store = .failed ∧
      t.cal.storeDue = true ∧ t.cal.storeAt = some s.ledger.elapsed ∧ bit (t.rd Page.cal 0x14) 4 = true ∧ t.faulted Page.cal 0x17 ∧ t.nv = s.nv ∧
      s.changesOnly t [.free, .regs, .fabric, .i3cA, .i3cB, .faults, .cal])) ∧
    (s.commitRuns = true → s.life.bindoff ≠ .running → Yields (.lifelineCommitComplete true) s (fun t =>
      t.rd Page.cal 0x58 = word (s.storeSeq + 1) ∧ bit (t.rd Page.cal 0x14) 3 = true ∧ s.logged t 0x13 ∧
      t.cal.store = (if s.cal.storeDue = true then .waiting else .idle) ∧
      (s.inForce = none → t.nv = { s.nv with lifeA := some s.liveRecord } ∧ t.cal.slotB = false) ∧
      (∀ r, s.inForce = some (false, r) → t.nv = { s.nv with lifeB := some s.liveRecord } ∧ t.cal.slotB = true) ∧
      (∀ r, s.inForce = some (true, r) → t.nv = { s.nv with lifeA := some s.liveRecord } ∧ t.cal.slotB = false) ∧
      s.changesOnly t [.free, .regs, .i3cA, .i3cB, .ledger, .cal, .nv]))) ∧
  (∀ (v : Word) (s : State), Yields (.timeSet v) s (fun t => t.rd Page.ledger 0x54 = v ∧
    t.ledger = { s.ledger with timeSet := some v.toNat } ∧ s.regsBut t [regAddr Page.ledger 0x54] ∧ s.changesOnly t [.regs, .ledger])) ∧
  (∀ s : State, exec .ppsLost s = .next { s with ledger := { s.ledger with pps := false } } ∧
    (s.ledger.pps = true → exec .ledgerSecond s = .next s) ∧
    (s.ledger.pps = false → s.ledger.timeSet = none → exec .ledgerSecond s =
      .next { s with ledger := { s.ledger with sec := s.ledger.sec + 1, elapsed := s.ledger.elapsed + 1 } }) ∧
    (∀ v, s.ledger.pps = false → s.ledger.timeSet = some v → Yields .ledgerSecond s (fun t => t.ledger.sec = v ∧
      t.ledger.timeSet = none ∧ t.ledger.elapsed = s.ledger.elapsed + 1 ∧ bit (t.rd Page.ledger 0x14) 2 = true ∧ s.logged t 0x80 ∧
      s.changesOnly t [.free, .regs, .i3cA, .i3cB, .ledger])) ∧
    (s.ledger.buffer = [] → exec .ledgerEntryProgram s = .next s) ∧
    (∀ e rest, s.ledger.buffer = e :: rest → Yields .ledgerEntryProgram s (fun t => t.ledger.buffer = rest ∧
      t.nv.ringOffset = (s.nv.ringOffset + entrySize e.kind) % 2 ^ 24 ∧ t.nv.lastSeq = some e.seq ∧
      t.nv.lastHash = Config.sha384 (s.entryBytes e) ∧
      t.nv.ring = (if s.nv.ringOffset % 65536 = 0
        then s.nv.ring.filter (fun r => r.offset / 65536 != s.nv.ringOffset / 65536) else s.nv.ring) ++
        [{ offset := s.nv.ringOffset, seq := e.seq, kind := e.kind, bytes := s.entryBytes e }] ∧
      (e.kind = 0xf0 → t.nv.checkpoint = some e.seq ∧ bit (t.rd Page.ledger 0x14) 0 = true) ∧
      (e.kind ≠ 0xf0 → t.nv.checkpoint = s.nv.checkpoint) ∧
      t.nv.lifeA = s.nv.lifeA ∧ t.nv.lifeB = s.nv.lifeB ∧ t.nv.imageA = s.nv.imageA ∧ t.nv.imageB = s.nv.imageB ∧
      s.changesOnly t [.regs, .i3cA, .i3cB, .ledger, .nv])))

/-- A cartridge is powered, authenticated, watched and removed, each with its state, flag and ledger entry. A
cartridge inserted once the module serves is powered and authenticates, before that only present; one already present
is not inserted again. Removal resets the slot, with its flag and entry where it was powered, and the active
cartridge's removal leaves no slot active and the continuity factor 0. An authentication that fails rejects the
cartridge with its reason, one that passes keeps what was read, WARMING or STABLE, the life log with the powered
seconds of a standby added. Re-authentication keeps or rejects; a failed one of the active cartridge leaves it active
without AUTH. An oven reading within 10 mK of the setpoint makes the oven stable once readings have stayed so for 10
min, one outside makes it unstable; it moves a slot between WARMING and STABLE and its tap in or out of the window; a
missing one makes it FAULT. The life log, with the powered time and the oven cycles since its last update added and
the shocks and the peak as read back, is kept, its limits and new shocks noted. The other slot never changes. Where
the manual leaves a point open it states the model's reading: log entries 58, 64, 80 and 118. -/
def Obligations.CartridgesAreSeatedAndRead : Prop :=
  (∀ (k : Nat) (s : State), k < 2 →
    ((s.slot k).present = true → exec (.cartridgeInsert k) s = .next s) ∧
    ((s.slot k).present = false → (s.life.ready = false ∨ Rail.v3a ∈ s.health.rails) →
      exec (.cartridgeInsert k) s = .next (s.setSlot k { s.slot k with present := true })) ∧
    ((s.slot k).present = false → s.life.ready = true → Rail.v3a ∉ s.health.rails → Yields (.cartridgeInsert k) s (fun t =>
      t.slot k = { CartSlot.reset with
        state := .authenticating, present := true, powered := true, lifeAt := s.ledger.elapsed, owed := 1 } ∧
      t.slot (1 - k) = s.slot (1 - k) ∧ s.flagged t Page.cart (bitWord 0) ∧ s.logged t 0x20 ∧
      s.changesOnly t [.free, .regs, .i3cA, .i3cB, .ledger, .cart])) ∧
    ((s.slot k).present = false → exec (.cartridgeRemove k) s = .next s) ∧
    ((s.slot k).present = true → Yields (.cartridgeRemove k) s (fun t => t.slot k = CartSlot.reset ∧
      t.slot (1 - k) = s.slot (1 - k) ∧
      ((s.slot k).powered = true → bit (t.rd Page.cart 0x14) 1 = true ∧ s.logged t 0x20 ∧
        (s.cart.transfer = .running → t.cart.transfer = .failed ∧ t.cart.reason = 1)) ∧
      (s.cart.active = some k → t.cart.active = none ∧ t.cart.cont = 0 ∧ bit (t.rd Page.cart 0x14) 4 = true) ∧
      (s.cart.active ≠ some k → t.cart.active = s.cart.active ∧ t.cart.cont = s.cart.cont) ∧
      s.changesOnly t [.free, .regs, .ports, .spares, .i3cA, .i3cB, .ledger, .cal, .cart])) ∧
    (∀ r, (s.slot k).state ≠ .authenticating → exec (.authenticationComplete k r) s = .next s) ∧
    (∀ why, (s.slot k).state = .authenticating → Yields (.authenticationComplete k (.error why)) s (fun t =>
      (t.slot k).auth = false ∧ (t.slot k).reject = rejectReason why ∧ t.slot (1 - k) = s.slot (1 - k) ∧
      (s.cart.active ≠ some k → (t.slot k).state = .rejected) ∧ (s.cart.active = some k → t.cart.active = some k) ∧
      bit (t.rd Page.cart 0x14) 2 = true ∧ s.logged t 0x20)) ∧
    (∀ d, (s.slot k).state = .authenticating → Yields (.authenticationComplete k (.ok d)) s (fun t =>
      (t.slot k).auth = true ∧ (t.slot k).reject = 0 ∧ (t.slot k).data = some d ∧ (t.slot k).life = { d.life with seconds := d.life.seconds + (s.slot k).owedSec } ∧
      (t.slot k).state = (if (s.slot k).ovenStable = true then .stable else .warming) ∧ t.slot (1 - k) = s.slot (1 - k) ∧
      (s.cart.castOn ≠ some k → t.cart.active = s.cart.active) ∧ s.logged t 0x20 ∧
      s.changesOnly t [.free, .regs, .ports, .spares, .i3cA, .i3cB, .ledger, .cal, .cart])) ∧
    ((s.slot k).state ≠ .warming → (s.slot k).state ≠ .stable → ∀ r, exec (.reauthentication k r) s = .next s) ∧
    ((s.slot k).state = .warming ∨ (s.slot k).state = .stable →
      Yields (.reauthentication k none) s (fun t => (t.slot k).auth = true ∧ (t.slot k).reject = 0 ∧
        (t.slot k).state = (s.slot k).state ∧ t.slot (1 - k) = s.slot (1 - k) ∧ s.logged t 0x20) ∧
      ∀ why, Yields (.reauthentication k (some why)) s (fun t => (t.slot k).auth = false ∧ (t.slot k).inWindow = false ∧
        (t.slot k).reject = rejectReason why ∧ bit (t.rd Page.cart 0x14) 2 = true ∧ t.cart.active = s.cart.active ∧
        (t.slot k).state = (if s.cart.active = some k then (s.slot k).state else .rejected) ∧
        t.slot (1 - k) = s.slot (1 - k) ∧ s.logged t 0x20)) ∧
    (∀ (mk : Int), (s.slot k).powered = true → (s.slot k).state ≠ .fault →
      Yields (.ovenReading k mk) s (fun t => (t.slot k).milliK = mk ∧ t.slot (1 - k) = s.slot (1 - k) ∧
        ((t.slot k).ovenStable = true ↔ -10 ≤ mk ∧ mk ≤ 10 ∧
          ((s.slot k).ovenStable = true ∨ (∃ since, (s.slot k).nearSince = some since ∧ since + 600 ≤ s.ledger.elapsed))) ∧
        (t.slot k).nearSince = (if -10 ≤ mk ∧ mk ≤ 10 then some ((s.slot k).nearSince.getD s.ledger.elapsed) else none) ∧
        (t.slot k).readAt = s.ledger.elapsed ∧
        ((s.slot k).state = .warming ∨ (s.slot k).state = .stable →
          (t.slot k).state = (if (t.slot k).ovenStable = true then .stable else .warming)) ∧
        ((s.slot k).state ≠ .warming → (s.slot k).state ≠ .stable → (t.slot k).state = (s.slot k).state) ∧
        ((t.slot k).inWindow = true ↔ (t.slot k).ovenStable = true ∧ (s.slot k).auth = true ∧ -5 ≤ mk ∧ mk ≤ 5 ∧
          ((s.slot k).state = .warming ∨ (s.slot k).state = .stable)) ∧
        s.changesOnly t [.free, .regs, .ports, .spares, .i3cA, .i3cB, .ledger, .cal, .cart])) ∧
    ((s.slot k).powered = true → (s.slot k).state ≠ .fault → (s.slot k).state ≠ .rejected →
      Yields (.ovenReadingTimeout k) s (fun t => (t.slot k).state = .fault ∧ (t.slot k).ovenStable = false ∧
        (t.slot k).inWindow = false ∧ t.slot (1 - k) = s.slot (1 - k) ∧
        (s.cart.transfer = .running → t.cart.transfer = .failed ∧ t.cart.reason = 2))) ∧
    (∀ (shocks : Nat) (peak : Int) (log : LifeLog), (s.slot k).powered = true → (s.slot k).data ≠ none →
      log = { seconds := (s.slot k).life.seconds + (s.ledger.elapsed - (s.slot k).lifeAt),
              cycles := (s.slot k).life.cycles + (s.slot k).owed, shocks := shocks, peakMilliC := peak } →
      Yields (.lifeLogUpdate k shocks peak) s (fun t =>
      (t.slot k).life = log ∧ (t.slot k).lifeAt = s.ledger.elapsed ∧ (t.slot k).owed = 0 ∧ t.slot (1 - k) = s.slot (1 - k) ∧
      ((t.slot k).warn = true ↔ (s.slot k).warn = true ∨ 45000 ≤ log.hours ∨ 450 ≤ log.cycles) ∧
      ((t.slot k).ended = true ↔ (s.slot k).ended = true ∨ 50000 ≤ log.hours ∨ 500 ≤ log.cycles) ∧
      ((t.slot k).overTemp = true ↔ (s.slot k).overTemp = true ∨ 70000 < log.peakMilliC) ∧
      ((s.slot k).life.shocks < log.shocks → (t.slot k).shock = true ∧ bit (t.rd Page.cart 0x14) 3 = true ∧ s.logged t 0x20) ∧
      s.changesOnly t [.free, .regs, .i3cA, .i3cB, .ledger, .cart])))

/-- The active slot is selected, moved by a transfer with a continuity factor, and every unmeasured change is judged
tenfold. SELECT makes a stable sealed slot active where none is, with factor 0, every ordinary item judged tenfold,
and an entry; otherwise it does nothing. CONT_CLEAR of an active slot clears the factor likewise. A transfer starts
between two stable sealed slots once its target authenticates, is refused otherwise, and one that runs goes on. Its
points are kept while both taps are in their window; 180 of them whose mean has a standard error within SETTLE_PPM,
taken from their sample deviation (the model's reading, log entry 119), are accepted with their mean as ratio; an
accepted one takes no further point. The switch, with no swatch running, makes the other slot active with its
continuity factor, DONE, flag and entry. ABORT fails it with reason 4, the time limit with reason 3 unless a ratio was
accepted. Where the manual leaves a point open it states the model's reading: log entries 24, 63 and 119. -/
def Obligations.TransfersMoveTheActiveSlot : Prop :=
  (∀ (k : Nat) (s : State),
    (2 ≤ k ∨ s.cart.active ≠ none ∨ (s.slot k).state ≠ .stable ∨ (s.slot k).sealValid = false → exec (.select k) s = .next s) ∧
    (k < 2 → s.cart.active = none → (s.slot k).state = .stable → (s.slot k).sealValid = true → Yields (.select k) s (fun t =>
      t.cart = { s.cart with active := some k, cont := 0,
                             since := if (s.slot k).inWindow = true then some s.ledger.elapsed else none } ∧
      (∀ i ∈ itemCodes s.part, t.calItem i =
        { s.calItem i with judging := if (s.calItem i).judging = .ordinary then .tenfold else (s.calItem i).judging }) ∧
      s.logged t 0x20 ∧ s.changesOnly t [.free, .regs, .i3cA, .i3cB, .ledger, .cal, .cart]))) ∧
  (∀ s : State, (s.cart.active = none → exec .contClear s = .next s) ∧
    (s.cart.active ≠ none → Yields .contClear s (fun t => t.cart = { s.cart with cont := 0 } ∧
      (∀ i ∈ itemCodes s.part, t.calItem i =
        { s.calItem i with judging := if (s.calItem i).judging = .ordinary then .tenfold else (s.calItem i).judging }) ∧
      s.logged t 0x20 ∧ s.changesOnly t [.free, .regs, .i3cA, .i3cB, .ledger, .cal, .cart]))) ∧
  (∀ s : State,
    (∀ f, s.cart.transfer = .running → exec (.transferGo f) s = .next s) ∧
    (∀ f, s.cart.transfer ≠ .running → (s.cart.active = none ∨ (s.slot 0).state ≠ .stable ∨ (s.slot 1).state ≠ .stable ∨
        (s.slot 0).sealValid = false ∨ (s.slot 1).sealValid = false) →
      exec (.transferGo f) s = .next { s with cart := { s.cart with transfer := .refused, reason := 0 } }) ∧
    (∀ k, s.cart.transfer ≠ .running → k < 2 → s.cart.active = some k → (s.slot 0).state = .stable → (s.slot 1).state = .stable →
      (s.slot 0).sealValid = true → (s.slot 1).sealValid = true →
      Yields (.transferGo none) s (fun t => t.cart.transfer = .running ∧ t.cart.reason = 0 ∧ t.cart.points = [] ∧
        t.cart.count = 0 ∧ t.cart.accepted = none ∧ t.cart.active = some k ∧ (t.slot (1 - k)).auth = true ∧ t.slot k = s.slot k) ∧
      ∀ why, Yields (.transferGo (some why)) s (fun t => t.cart.transfer = .refused ∧ t.cart.active = some k ∧
        (t.slot (1 - k)).state = .rejected ∧ (t.slot (1 - k)).reject = rejectReason why ∧ t.slot k = s.slot k ∧
        bit (t.rd Page.cart 0x14) 2 = true ∧ s.logged t 0x20)) ∧
    (s.cart.transfer ≠ .running → exec .transferAbort s = .next s ∧ exec .transferTimeout s = .next s ∧ exec .transferSwitch s = .next s) ∧
    (∀ (c : Instr) (r : Nat), s.cart.transfer = .running →
      (c = .transferAbort ∧ r = 4) ∨ (c = .transferTimeout ∧ r = 3 ∧ s.cart.accepted = none) → Yields c s (fun t =>
        t.cart = { s.cart with transfer := .failed, reason := r, accepted := none } ∧ bit (t.rd Page.cart 0x14) 6 = true ∧
        s.logged t 0x20 ∧ s.changesOnly t [.free, .regs, .i3cA, .i3cB, .ledger, .cart])) ∧
    (s.cart.accepted ≠ none → exec .transferTimeout s = .next s) ∧
    (∀ (v : Int) (win : Bool), s.cart.transfer ≠ .running ∨ win = false ∨ s.cart.accepted ≠ none ∨ s.clock.relock ≠ none ∨
        (s.slot 0).inWindow = false ∨ (s.slot 1).inWindow = false → exec (.transferPoint v win) s = .next s) ∧
    (∀ (v : Int), s.cart.transfer = .running → s.cart.accepted = none → s.clock.relock = none →
      (s.slot 0).inWindow = true → (s.slot 1).inWindow = true → Yields (.transferPoint v true) s (fun t =>
        (∃ old, t.cart.points = old ++ [v] ∧ old <:+ s.cart.points) ∧ t.cart.points.length = min 180 (s.cart.points.length + 1) ∧
        t.cart.count = min 0xffff (s.cart.count + 1) ∧
        (t.cart.points.length = 180 → quietMean t.cart.points (max 1000 (bits (s.rd Page.cart 0x60) 8 24)) →
          t.cart.accepted = some t.cart.ratio ∧ t.cart.ratio = nearest (t.cart.points.foldl (fun a b => a + b) 0) 180) ∧
        (t.cart.points.length < 180 ∨ ¬ quietMean t.cart.points (max 1000 (bits (s.rd Page.cart 0x60) 8 24)) →
          t.cart.accepted = none ∧ t.cart.ratio = s.cart.ratio) ∧ s.changesOnly t [.cart])) ∧
    (s.cal.adc0 ≠ none ∨ s.cal.adc1 ≠ none → exec .transferSwitch s = .next s) ∧
    (∀ (r v : Int) (k : Nat) (d : CartData) (rec_ : Assignment), s.cart.transfer = .running → s.cart.accepted = some r →
      s.cart.active = some k → k < 2 → s.cal.adc0 = none → s.cal.adc1 = none → s.predicted 0 = some v →
      (s.slot (1 - k)).data = some d → d.record = some rec_ → Yields .transferSwitch s (fun t =>
        t.cart.active = some (1 - k) ∧ t.cart.cont = continuity r v (predictTap rec_ 0 0 s.ledger.sec) ∧ t.cart.transfer = .done ∧
        t.cart.accepted = none ∧ t.cart.ratio = s.cart.ratio ∧ t.cart.a = s.cart.a ∧ t.cart.b = s.cart.b ∧
        bit (t.rd Page.cart 0x14) 5 = true ∧ s.logged t 0x20 ∧ s.changesOnly t [.free, .regs, .i3cA, .i3cB, .ledger, .cart])))

/-- Attestation makes a report, and a firmware update is verified, programmed, switched to in a pause, confirmed or
reverted. ATTEST_START starts a report with 32 zero bytes unless one is BUSY, and READY brings the report with its
flag. LOAD is accepted in IDLE, LOADED and FAILED, SWITCH in LOADED, CANCEL in LOADED and WAIT_QUIET, CONFIRM and
REVERT in RUNNING_NEW; elsewhere each does nothing. A source image that is read without error, laid out, signed, not
below the rollback counter and for this variant is programmed into the inactive slot, which read back holds its bytes;
one that fails, with the reason of the first check it fails (the order of the checks is the model's choice, log entry
120), a failed programming or a missing quiescent point ends FAILED with its reason, flag and entry. The quiescent
point begins the pause; its end runs the other image, unconfirmed, or the previous one again; a failed start keeps the
running one with reason 7. CONFIRM raises the rollback counter. The active slot's image never changes. Where the
manual leaves a point open it states the model's reading: log entries 8, 69, 70 and 120. -/
def Obligations.UpdatesStageSwitchAndConfirm : Prop :=
  (∀ s : State,
    (s.security.attest = .busy → exec .attestStart s = .next s) ∧
    (s.security.attest ≠ .busy → exec .attestStart s = .next { s with security := { s.security with
      attest := .busy, nonce := List.replicate 32 0, reportSeq := s.security.reportSeq + 1 } } ∧
      exec .attestReportReady s = .next s) ∧
    (s.security.attest = .busy → Yields .attestReportReady s (fun t =>
      t.security = { s.security with attest := .ready, report := s.makeReport } ∧ s.flagged t Page.security (bitWord 0) ∧
      s.regsBut t [regAddr Page.security 0x14] ∧ s.changesOnly t [.free, .regs, .i3cA, .i3cB, .security]))) ∧
  (∀ (c : Instr) (st : FwState) (from_ : List FwState) (s : State),
    (c = .load ∧ st = .verifying ∧ from_ = [.idle, .loaded, .failed]) ∨ (c = .switch ∧ st = .waitQuiet ∧ from_ = [.loaded]) ∨
      (c = .cancel ∧ st = .idle ∧ from_ = [.loaded, .waitQuiet]) →
    (s.security.update ∉ from_ → exec c s = .next s) ∧
    (s.security.update ∈ from_ → Yields c s (fun t =>
      t.security = { s.security with update := st, reason := 0, pinHeld := s.security.pinHeld && (st == .waitQuiet) } ∧
      bit (t.rd Page.security 0x14) 1 = true ∧ s.regsBut t [regAddr Page.security 0x14] ∧
      s.changesOnly t [.regs, .i3cA, .i3cB, .security]))) ∧
  (∀ s : State,
    (s.security.update ≠ .runningNew → exec .confirm s = .next s ∧ exec .revert s = .next s) ∧
    (s.security.update = .runningNew → Yields .confirm s (fun t => t.security.update = .idle ∧
      t.nv = { s.nv with rollback := max s.nv.rollback (min 64 ((s.image s.nv.activeB).getD Image.none).rollback),
                         unconfirmed := false } ∧ s.logged t 0x70 ∧
      s.changesOnly t [.free, .regs, .i3cA, .i3cB, .security, .ledger, .nv]) ∧
      Yields .revert s (fun t => t.security.update = .paused ∧ t.security.reverting = true ∧ t.nv = s.nv ∧
        s.changesOnly t [.regs, .fabric, .i3cA, .i3cB, .security, .life])) ∧
    (s.security.update ≠ .verifying → ∀ signed reads, exec (.fwVerifyComplete signed reads) s = .next s) ∧
    (s.security.update ≠ .programming → ∀ ok, exec (.fwProgramComplete ok) s = .next s) ∧
    (s.security.update ≠ .waitQuiet → exec .quiescentPoint s = .next s ∧ exec .quietTimeout s = .next s) ∧
    (s.security.update ≠ .paused → ∀ ok, exec (.newImageStart ok) s = .next s)) ∧
  (∀ s : State, s.security.update = .verifying →
    (∀ (signed : Bool) (reads : ReadErrors) (bad laid : Prop),
      (bad ↔ ∃ g ∈ s.fwGranules, s.readFails reads g = true) →
      (laid ↔ s.sourceWord 0 = 0x574d4654 ∧ s.sourceWord 4 = 1 ∧ s.sourceSize ≤ 0x400000 ∧ s.sourceSize ≤ s.fwSize) →
      (¬ bad → laid → signed = true → s.nv.rollback ≤ s.sourceWord 0x0c →
        (s.sourceWord 0x14).testBit (variantBit s.part) = true →
        Yields (.fwVerifyComplete signed reads) s (fun t => t.security.update = .programming ∧
          t.security.staging = some { version := word (s.sourceWord 8), rollback := s.sourceWord 0x0c,
                                      bytes := some (s.readBytes s.fwSource s.sourceSize) } ∧
          t.image (!s.nv.activeB) = none ∧ t.image s.nv.activeB = s.image s.nv.activeB ∧ t.nv.activeB = s.nv.activeB ∧
          t.nv.rollback = s.nv.rollback)) ∧
      (∀ why, (bad ∧ why = 8) ∨ (¬ bad ∧ ¬ laid ∧ why = 1) ∨ (¬ bad ∧ laid ∧ signed = false ∧ why = 2) ∨
          (¬ bad ∧ laid ∧ signed = true ∧ s.sourceWord 0x0c < s.nv.rollback ∧ why = 3) ∨
          (¬ bad ∧ laid ∧ signed = true ∧ s.nv.rollback ≤ s.sourceWord 0x0c ∧
            (s.sourceWord 0x14).testBit (variantBit s.part) = false ∧ why = 4) →
        Yields (.fwVerifyComplete signed reads) s (fun t => t.security.update = .failed ∧ t.security.reason = why ∧
          bit (t.rd Page.security 0x14) 2 = true ∧ s.logged t 0x70 ∧ t.nv = s.nv)))) ∧
  (∀ (i : Image) (s : State), s.security.update = .programming → s.security.staging = some i →
    Yields (.fwProgramComplete true) s (fun t => t.security.update = .loaded ∧ t.image (!s.nv.activeB) = some i ∧
      t.image s.nv.activeB = s.image s.nv.activeB ∧ t.nv.activeB = s.nv.activeB ∧ t.rd Page.security 0x6c = i.version ∧
      t.rd Page.security 0x70 = word (i.rollback % 128) ∧ bit (t.rd Page.security 0x14) 1 = true ∧ s.logged t 0x70) ∧
    Yields (.fwProgramComplete false) s (fun t => t.security.update = .failed ∧ t.security.reason = 5 ∧ t.nv = s.nv ∧
      bit (t.rd Page.security 0x14) 2 = true ∧ s.logged t 0x70)) ∧
  (∀ s : State, s.security.update = .waitQuiet →
    (s.quiescent = false → exec .quiescentPoint s = .next s) ∧
    (s.quiescent = true → Yields .quiescentPoint s (fun t => t.security.update = .paused ∧ t.security.reverting = false ∧ t.nv = s.nv ∧
      bit (t.rd Page.security 0x14) 1 = true ∧ s.changesOnly t [.regs, .fabric, .i3cA, .i3cB, .security, .life])) ∧
    Yields .quietTimeout s (fun t => t.security.update = .failed ∧ t.security.reason = 6 ∧ t.security.pinHeld = false ∧
      bit (t.rd Page.security 0x14) 2 = true ∧ s.logged t 0x70 ∧ s.changesOnly t [.free, .regs, .i3cA, .i3cB, .security, .ledger])) ∧
  (∀ s : State, s.security.update = .paused →
    Yields (.newImageStart true) s (fun t => t.nv = { s.nv with activeB := !s.nv.activeB, unconfirmed := !s.security.reverting } ∧
      t.security.update = (if s.security.reverting = true then .idle else .runningNew) ∧ t.security.deferred = [] ∧
      t.security.reverting = false ∧ (s.security.deferred = [] → s.logged t 0x70)) ∧
    Yields (.newImageStart false) s (fun t => t.nv = s.nv ∧ t.security.update = .failed ∧ t.security.reason = 7 ∧
      t.security.deferred = [] ∧ bit (t.rd Page.security 0x14) 2 = true ∧
      (s.security.deferred = [] → s.logged t 0x70)))

/-- The link trains and is lost, a module acquires and releases LEAD_ACT, and a pair forms with its roles. Training
brings the link up with its count. Its loss raises fault 0x11 with flag and entry; a follower's fitted ports park and
its loop coasts, another module's ports and clock stay. A lost heartbeat raises 0x12. A serving SOLO module that may
asserts LEAD_ACT. The watchdog's release of a driven line takes it away and bars it, a lead becoming FOLLOW, raises
0x15 with flag and entry, and opens every force switch and driver. TWIN_ROLE holds its bits on a module with a link; a
lead asked for FOLLOW releases the line, a follower asked for SOLO leaves its pair, a SOLO module keeps its role. A
pair forms only where it may: LEAD on the module that has that role or, from SOLO, is asked for it, FOLLOW on the
other (a role in force counts as requested: the model's reading, log entry 121), whose loop then searches for the link
clock and locks to it. Where the manual leaves a point open it states the model's reading: log entries 44, 72, 74, 121
and 123. -/
def Obligations.RolesHoldTheLeadLine : Prop :=
  (∀ s : State,
    (s.twin.linkUp = true → exec .linkTrained s = .next s) ∧
    (Config.twinLink s.part = true → s.twin.linkUp = false → s.firstLock = true → Rail.vd ∉ s.health.rails →
      Yields .linkTrained s (fun t => t.twin = { s.twin with linkUp := true, trained := true, lanes := 0xff, badFrames := 0 } ∧
        bits (t.rd Page.twin 0x64) 8 8 = min 255 (bits (s.rd Page.twin 0x64) 8 8 + 1) ∧ s.regsBut t [regAddr Page.twin 0x64] ∧
        s.changesOnly t [.regs, .twin])) ∧
    (s.twin.linkUp = false → exec .linkLoss s = .next s) ∧
    (s.twin.linkUp = true → Yields .linkLoss s (fun t => t.twin.linkUp = false ∧ t.twin.lanes = 0 ∧ t.twin.phase = .none ∧
      t.twin.heartbeat = s.twin.heartbeat ∧ t.twin.role = s.twin.role ∧ bit (t.rd Page.twin 0x14) 0 = true ∧ t.faulted Page.twin 0x11 ∧
      s.logged t 0x40 ∧
      (s.twin.role ≠ .follow → t.ports = s.ports ∧ t.clock = s.clock) ∧
      (s.twin.role = .follow → t.twin.linkLocked = false ∧ (s.clock.loop = .locked → t.clock.loop = .coasting) ∧
        ∀ n, s.fits n → (s.port n).state ∉ [.off, .absent, .safe] → (t.port n).state = .parked))) ∧
    (s.twin.heartbeat = false → exec .heartbeatLoss s = .next s) ∧
    (s.twin.heartbeat = true → Yields .heartbeatLoss s (fun t => t.twin = { s.twin with heartbeat := false } ∧
      bit (t.rd Page.twin 0x14) 1 = true ∧ t.faulted Page.twin 0x12 ∧
      s.changesOnly t [.free, .regs, .fabric, .i3cA, .i3cB, .faults, .twin])) ∧
    (s.twin.role ≠ .solo ∨ s.twin.driven = true ∨ s.twin.otherLow = true ∨ s.twin.barred = true → exec .leadActAcquire s = .next s) ∧
    (Config.twinLink s.part = true → s.life.ready = true → s.twin.role = .solo → s.twin.driven = false → s.twin.otherLow = false →
      s.twin.barred = false → s.life.state ≠ .halted → s.life.bindoff ≠ .running → Yields .leadActAcquire s (fun t =>
        t.twin = { s.twin with driven := true } ∧ s.changesOnly t [.ports, .twin])) ∧
    (s.twin.driven = false → exec .watchdogRelease s = .next s) ∧
    (s.twin.driven = true → Yields .watchdogRelease s (fun t => t.twin.driven = false ∧ t.twin.barred = true ∧
      t.twin.permit = false ∧ t.twin.role = (if s.twin.role = .lead then .follow else s.twin.role) ∧
      bit (t.rd Page.twin 0x14) 5 = true ∧ t.faulted Page.twin 0x15 ∧ s.logged t 0x40 ∧
      (Config.twinLink s.part = true → ∀ n, s.fits n → (t.port n).switches.force = false)))) ∧
  (∀ (w : Word) (s : State),
    (Config.twinLink s.part = false → exec (.twinRoleWrite w) s = .next s) ∧
    (Config.twinLink s.part = true →
      (s.twin.role = .solo → exec (.twinRoleWrite w) s = .next (s.wr Page.twin 0x40 (w &&& 0x13))) ∧
      (s.twin.role = .lead → bits w 0 2 = 1 → exec (.twinRoleWrite w) s = .next (s.wr Page.twin 0x40 (w &&& 0x13))) ∧
      (s.twin.role = .lead → s.twin.driven = true → bits w 0 2 = 2 → Yields (.twinRoleWrite w) s (fun t =>
        t.rd Page.twin 0x40 = w &&& 0x13 ∧ t.twin.role = .follow ∧ t.twin.driven = false ∧ t.twin.barred = false ∧ s.logged t 0x40)) ∧
      (s.twin.role = .follow → bits w 0 2 = 0 ∨ bits w 0 2 = 3 → Yields (.twinRoleWrite w) s (fun t =>
        t.rd Page.twin 0x40 = w &&& 0x13 ∧ t.twin.role = .solo ∧ t.twin.phase = .none ∧ t.twin.linkLocked = false ∧
        t.twin.epoch = false ∧ s.logged t 0x40)))) ∧
  (∀ s : State, (s.mayForm = false → exec .pairFormation s = .next s) ∧
    (s.mayForm = true → s.twin.role = .lead ∨ (s.twin.role = .solo ∧ s.roleRequest = 1) → Yields .pairFormation s (fun t => t.twin.role = .lead ∧ t.twin.phase = .forming ∧
      t.twin.driven = s.twin.driven ∧ t.twin.leadRelease = false ∧ t.clock = s.clock)) ∧
    (s.mayForm = true → s.twin.role = .follow ∨ (s.twin.role = .solo ∧ s.roleRequest = 2) → Yields .pairFormation s (fun t => t.twin.role = .follow ∧ t.twin.phase = .forming ∧
      t.twin.linkLocked = false ∧ t.twin.otherLow = true ∧ t.clock.loop = .searching)) ∧
    (s.twin.role = .follow → s.twin.linkUp = true → s.twin.linkLocked = false → exec .followerLock s =
      .next { s with twin := { s.twin with linkLocked := true }, clock := { s.clock with loop := .locked } }))

/-- A good frame carries its levels and its message, a bad one is counted, and without a link nothing arrives. Without
a link no message does anything, and a bad frame counts one CRC error and nothing else, the sixteenth in a row being a
loss of the link. On a good frame that changes no level: a heartbeat is kept whole; the lead's fault sources are
emitted on a follower in one cycle, LEAD_RELEASE is noted; a scheduled change of the SAFE map, a mirrored write, the
parking of a trip, or an item of the configuration is taken by a follower of a pair; the epoch begins on a locked
follower, forming pairs then joining every fitted port; a swap is announced to a follower of a running pair; a join
begins on the lead and its records reach the follower; a differing digest marks the entry DIVERGED with count and
flag; an idle message does nothing. The frame's rising levels are emitted on a follower of a pair, cycle by cycle, and
a mirrored channel on its slot with its hop count raised by one. Where the manual leaves a point open it states the
model's reading: log entries 25, 73, 92, 94, 122 and 123. -/
def Obligations.FramesCarryTheirMessages : Prop :=
  (∀ (f : LinkFrame) (c : Instr) (s : State), frameCommand f c →
    (s.twin.linkUp = false → exec c s = .next s) ∧
    (s.twin.linkUp = true → f.crcOk = false → 15 ≤ s.twin.badFrames → Yields c s (fun t => t.twin.linkUp = false ∧
      bit (t.rd Page.twin 0x14) 0 = true ∧ t.faulted Page.twin 0x11 ∧ s.logged t 0x40 ∧
      bits (t.rd Page.twin 0x64) 16 16 = (bits (s.rd Page.twin 0x64) 16 16 + 1) % 65536)) ∧
    (s.twin.linkUp = true → f.crcOk = false → s.twin.badFrames < 15 → Yields c s (fun t =>
      t.twin = { s.twin with badFrames := s.twin.badFrames + 1 } ∧
      bits (t.rd Page.twin 0x64) 16 16 = (bits (s.rd Page.twin 0x64) 16 16 + 1) % 65536 ∧
      bits (t.rd Page.twin 0x64) 0 16 = bits (s.rd Page.twin 0x64) 0 16 ∧ s.regsBut t [regAddr Page.twin 0x64] ∧
      s.changesOnly t [.regs, .twin]))) ∧
  (∀ (f : LinkFrame) (s : State), s.quietFrame f →
    (∀ h : HeartbeatContent, Yields (.twinHeartbeat f h) s (fun t => t.twin.heartbeat = true ∧
      t.twin.partner = some { role := h.role, moduleState := h.moduleState, partId := h.partId, ref := h.refPresent,
                              ready := h.ready, inStep := h.inStep, inSafe := h.unitsInSafe } ∧
      (h.role = 1 → t.twin.otherLow = true) ∧ t.twin.role = s.twin.role ∧ s.changesOnly t [.twin])) ∧
    (s.variantMismatch = false →
      exec (.idleMessage f) s = .next s ∧
      (∀ l b, Yields (.faultMessage f l b) s (fun t => (b = true → t.twin = { s.twin with leadRelease := true, otherLow := false }) ∧
        (b = false → t.twin = s.twin) ∧
        (s.twin.role = .follow → s.twin.phase ≠ .none → (∃ x ∈ l, 0x40 ≤ x ∧ x < 0x60) → t.fabric.emitted = s.fabric.emitted ++
          [(l.filter (fun x => decide (0x40 ≤ x ∧ x < 0x60))).map (fun x => { code := x, hop := 0 })]) ∧
        (s.twin.role ≠ .follow → t.fabric = s.fabric) ∧ s.changesOnly t [.fabric, .twin])) ∧
      (s.twin.role = .follow → s.twin.phase ≠ .none →
        (∀ l, exec (.scheduleMessage f (.safeMap l)) s = .next { s with twin := { s.twin with safePages := l } }) ∧
        (∀ v, exec (.scheduleMessage f (.write (regAddr Page.trip 0x48) 0xffffffff v)) s = .next (s.wr Page.trip 0x48 (v &&& 0xff))) ∧
        (∀ n, s.fits n → (s.port n).state = .run → Yields (.scheduleMessage f (.tripPark [n])) s (fun t =>
          (t.port n).requested = .parked ∧ bit (t.rd (Page.port n) 0x14) 8 = true ∧
          (∃ x ∈ (t.port n).play.latches, x.what = .trip ∧ x.due = (s.port n).slot + 1) ∧ s.portsBut t [n])) ∧
        (∀ a m v, mirrored a = false → exec (.scheduleMessage f (.write a m v)) s = .next s ∧
          exec (.configMessage f (.register a v)) s = .next s) ∧
        (∀ v, exec (.configMessage f (.register (regAddr Page.trip 0x48) v)) s = .next (s.wr Page.trip 0x48 (v &&& 0xff))) ∧
        (∀ n size, exec (.configMessage f (.bobbin n size)) s = .next (s.allocate n size)) ∧
        (∀ i v, exec (.configMessage f (.entry i v)) s = .next { s with entries := s.entries.set (i % 262144) (storedEntry v) }) ∧
        (∀ i v, exec (.configMessage f (.descriptor i v)) s = .next { s with descs := s.descs.set (i % 262144) (storedDesc v) })) ∧
      (s.twin.role ≠ .follow → (∀ x, exec (.scheduleMessage f x) s = .next s) ∧ (∀ x, exec (.configMessage f x) s = .next s) ∧
        exec (.epochMessage f) s = .next s ∧ exec (.swapMessage f) s = .next s ∧ ∀ l, exec (.digestMessage f l) s = .next s) ∧
      (s.twin.role = .follow → s.twin.phase = .paired → s.twin.swapStep = none → exec (.swapMessage f) s =
        .next { s with twin := { s.twin with swap := .scheduled, swapStep := some .announced, phase := .swapping } }) ∧
      (s.twin.role = .follow → s.twin.linkLocked = true → s.clock.relock = none → Yields (.epochMessage f) s (fun t =>
        t.twin.epoch = true ∧ t.twin.realigning = false ∧ (∀ n, s.fits n → t.atEpoch n) ∧
        (∀ g, g < 32 → (t.group g).slot = 0) ∧
        (s.twin.phase = .forming → t.twin.join = .staging ∧ t.twin.joinSet = fittedPorts s.part ∧ t.twin.joinAttempts = 0) ∧
        (s.twin.phase ≠ .forming → t.twin.join = s.twin.join) ∧ s.changesOnly t [.ports, .groups, .clock, .twin])) ∧
      (∀ l b, s.twin.role = .lead → exec (.joinMessage f l b) s = .next { s with twin := { s.twin with
        join := .staging, joinSet := l.map (fun r => r.port), joinAttempts := 0, snapshot := [], batches := [] } }) ∧
      (∀ l b, s.twin.role = .follow → s.joining = true → s.lateRecord b = false → Yields (.joinMessage f l b) s (fun t =>
        t.twin.join = .computing ∧ (∀ r ∈ l, r ∈ t.twin.snapshot) ∧
        (∀ r ∈ s.twin.snapshot, (∀ q ∈ l, q.port ≠ r.port) → r ∈ t.twin.snapshot) ∧ t.twin.batches = s.twin.batches ++ [b] ∧ s.changesOnly t [.twin])) ∧
      (∀ l b, s.twin.role = .follow → s.joining = true → s.lateRecord b = true → Yields (.joinMessage f l b) s (fun t =>
        t.twin.snapshot = [] ∧ t.twin.batches = [] ∧
        t.twin.joinAttempts = s.twin.joinAttempts + 1 ∧ (s.twin.joinAttempts < 15 → t.twin.join = .staging ∧ s.changesOnly t [.twin]) ∧
        (15 ≤ s.twin.joinAttempts → t.twin.join = .failed ∧ bit (t.rd Page.twin 0x14) 7 = true ∧ t.faulted Page.twin 0x16))) ∧
      (∀ d, s.twin.role = .follow → s.twin.phase = .paired → d.entry < 144 → s.leadSafe d.entry = false →
        (d.value = s.twin.window.get (fun _ => 0) d.entry → d.entry ∉ s.twin.diverged → exec (.digestMessage f [d]) s = .next s) ∧
        (d.value ≠ s.twin.window.get (fun _ => 0) d.entry → Yields (.digestMessage f [d]) s (fun t =>
          t.twin.diverged = insertClass d.entry s.twin.diverged ∧ bit (t.rd Page.twin 0x14) 2 = true ∧ t.twin.counted = true ∧
          (s.twin.counted = false → t.rd Page.twin 0x58 = word (min 0xffffffff ((s.rd Page.twin 0x58).toNat + 1))) ∧
          (s.twin.divergedAt = none → t.faulted Page.twin 0x13)))))) ∧
  (∀ (f : LinkFrame) (s : State), s.twin.linkUp = true → f.crcOk = true → s.carriesPair = true → f.mon = s.twin.mon →
    (s.twin.role = .follow → f.mirror = [] → Yields (.idleMessage f) s (fun t =>
      t.twin = { s.twin with ext := f.extAt 5, badFrames := 0 } ∧
      t.fabric.emitted = s.fabric.emitted ++ (List.range 6).flatMap (fun c =>
        ((List.range 6).filter (fun i =>
          (f.extAt c).getLsbD i && !(if c = 0 then s.twin.ext else f.extAt (c - 1)).getLsbD i)).map
        (fun i => [{ code := 0x10 + i, hop := 0 }])) ∧ s.changesOnly t [.fabric, .twin])) ∧
    (∀ e, s.twin.role = .lead → s.twin.badFrames = 0 → f.mirror = [e] → bit (s.rd Page.twin 0x60) (16 * e.slot + 15) = true →
      exec (.idleMessage f) s = .next { s with fabric := { s.fabric with emitted := s.fabric.emitted ++
        [[{ code := 0x300 + bits (s.rd Page.twin 0x60) (16 * e.slot) 8, hop := e.hop + 1 }]] } }))

/-- A ready follower takes over, a planned swap exchanges the roles step by step, and a join loads the lead's state.
TAKEOVER of an armed ready follower whose lead is silent or releases makes it LEAD driving LEAD_ACT, its P-port force
switches still open, counted with its time, flag, fault 0x14 and entry; with a heartbeat and no release nothing
happens. FORCE_CLOSE then closes them. A swap is scheduled on a lead whose partner reports itself ready and every port
in step, refused otherwise, and without a twin link nothing happens; its steps go in order, each only from the one
before: drivers prepared, roles exchanged, force switches closed, DONE with the time and the flag. JOIN of a follower
with diverged ports parks and stages them; ABORT_JOIN fails a running join; the capture, on the lead with the state of
the set, leads to the load once its boundary has come: DONE with flag and entry, on a follower with each record's
state and what the batches carry. A window's digest entries are formed from its contributions. Where the manual leaves
a point open it states the model's reading: log entries 43, 44, 75, 76, 121 and 132. -/
def Obligations.TakeoversSwapsAndJoins : Prop :=
  (∀ s : State, (s.twin.role ≠ .follow ∨ bit (s.rd Page.twin 0x4c) 0 = false ∨ s.readyFollower = false ∨
      (s.twin.heartbeat = true ∧ s.twin.leadRelease = false) → exec .takeover s = .next s) ∧
    (s.twin.role = .follow → bit (s.rd Page.twin 0x4c) 0 = true → s.readyFollower = true → s.twin.realigning = false →
      s.twin.heartbeat = false ∨ s.twin.leadRelease = true → Yields .takeover s (fun t => t.twin.role = .lead ∧
        t.twin.driven = true ∧ t.twin.phase = .takingOver ∧ t.twin.takeover = some .sense ∧ t.twin.leadRelease = false ∧
        t.rd Page.twin 0x50 = word (min 0xffffffff ((s.rd Page.twin 0x50).toNat + 1)) ∧ t.rd Page.twin 0x54 = word s.ledger.sec ∧
        bit (t.rd Page.twin 0x14) 4 = true ∧ t.faulted Page.twin 0x14 ∧ s.logged t 0x40 ∧
        (s.clock.loop = .locked → t.clock.loop = .coasting) ∧
        ∀ n, s.fits n → Config.portType n = .p → (s.port n).state ≠ .safe → (t.port n).switches.force = false)) ∧
    (s.twin.takeover ≠ some .sense ∨ s.twin.role ≠ .lead → exec .takeoverForceClose s = .next s) ∧
    (s.twin.takeover = some .sense → s.twin.role = .lead → Yields .takeoverForceClose s (fun t =>
      t.twin = { s.twin with takeover := none, phase := .none } ∧
      (s.twin.driven = true → s.twin.swapStep ≠ some .exchanged → ∀ n, s.fits n → Config.portType n = .p →
        (s.port n).state ≠ .safe → s.portMayClose n = true →
        (t.port n).switches.force = true ∧ (t.port n).switches.sense = true) ∧ s.changesOnly t [.ports, .twin]))) ∧
  (∀ s : State,
    (Config.twinLink s.part = false → exec .swap s = .next s) ∧
    (Config.twinLink s.part = true → s.twin.role = .lead → s.partnerInStep = true → s.twin.swapStep = none → exec .swap s =
      .next { s with twin := { s.twin with swap := .scheduled, swapStep := some .announced, phase := .swapping } }) ∧
    (Config.twinLink s.part = true → s.twin.role ≠ .lead ∨ s.partnerInStep = false ∨ s.twin.swapStep ≠ none → exec .swap s =
      .next { s with twin := { s.twin with swap := .refused } }) ∧
    (s.twin.swapStep ≠ some .announced → exec .swapPrepare s = .next s) ∧
    (s.twin.swapStep = some .announced → Yields .swapPrepare s (fun t =>
      t.twin = { s.twin with swapStep := some .prepared, permit := s.twin.role == .follow } ∧ s.changesOnly t [.ports, .twin])) ∧
    (s.twin.swapStep ≠ some .prepared → exec .swapInstant s = .next s) ∧
    (s.twin.swapStep = some .prepared → Yields .swapInstant s (fun t => t.twin.swapStep = some .exchanged ∧ t.twin.otherLow = true ∧
      (s.twin.role = .follow → t.twin.role = .lead ∧ t.twin.driven = true ∧ t.twin.permit = false) ∧
      (s.twin.role = .lead → t.twin.role = .follow ∧ t.twin.driven = s.twin.driven ∧ t.twin.permit = true ∧
        t.twin.linkLocked = true) ∧
      ∀ n, s.fits n → Config.portType n = .p → (s.port n).state ≠ .safe → (t.port n).switches.force = false)) ∧
    (s.twin.swapStep ≠ some .exchanged → exec .swapForceClose s = .next s) ∧
    (s.twin.swapStep = some .exchanged → Yields .swapForceClose s (fun t =>
      t.twin = { s.twin with swapStep := some .closed } ∧ s.changesOnly t [.ports, .twin])) ∧
    (s.twin.swapStep ≠ some .closed → exec .swapRelease s = .next s) ∧
    (s.twin.swapStep = some .closed → Yields .swapRelease s (fun t => t.twin.swapStep = none ∧ t.twin.swap = .done ∧
      t.twin.phase = .paired ∧ t.twin.permit = false ∧ t.twin.role = s.twin.role ∧ (t.twin.driven = true ↔ s.twin.role = .lead) ∧
      (t.twin.otherLow = true ↔ s.twin.role ≠ .lead) ∧ t.rd Page.twin 0x54 = word s.ledger.sec ∧
      bit (t.rd Page.twin 0x14) 6 = true ∧ s.logged t 0x40 ∧
      (s.twin.role = .lead → t.rd Page.twin 0x50 = word (min 0xffffffff ((s.rd Page.twin 0x50).toNat + 1))) ∧
      (s.twin.role ≠ .lead → t.rd Page.twin 0x50 = s.rd Page.twin 0x50)))) ∧
  (∀ s : State,
    (s.twin.role ≠ .follow ∨ s.twin.phase ≠ .paired ∨ s.joining = true ∨ s.divergedPorts = [] → exec .join s = .next s) ∧
    (s.twin.role = .follow → s.twin.phase = .paired → s.joining = false → s.divergedPorts ≠ [] → Yields .join s (fun t =>
      t.twin = { s.twin with join := .staging, joinSet := s.divergedPorts, joinAttempts := 0, snapshot := [], batches := [] } ∧
      (∀ n ∈ s.divergedPorts, (s.port n).state ∉ [.off, .absent, .safe] →
        (t.port n).state = (if s.quieting = true then .parked else .ready)) ∧
      s.changesOnly t [.free, .regs, .ports, .groups, .spares, .copies, .fabric, .i3cA, .i3cB, .ledger, .cal, .twin])) ∧
    (s.joining = true → exec .abortJoin s = .next { s with twin := { s.twin with join := .failed } }) ∧
    (s.joining = false → exec .abortJoin s = .next s) ∧
    (s.twin.join ≠ .staging → exec .joinCapture s = .next s) ∧
    (s.twin.join = .staging → exec .joinCapture s = .next { s with twin := { s.twin with
      join := .capturing, snapshot := if s.twin.role = .lead then s.twin.joinSet.map s.capture else s.twin.snapshot,
      batches := if s.twin.role = .lead then [s.captureBatch] else s.twin.batches } }) ∧
    (s.joinDue = false ∨ ((s.twin.role ≠ .follow ∨ s.twin.join ≠ .computing) ∧ (s.twin.role ≠ .lead ∨ s.twin.join ≠ .capturing)) →
      exec .joinLoad s = .next s) ∧
    (s.joinDue = true → s.twin.role = .lead → s.twin.join = .capturing → Yields .joinLoad s (fun t => t.twin.join = .done ∧ t.twin.snapshot = [] ∧
      bit (t.rd Page.twin 0x14) 3 = true ∧ s.logged t 0x40 ∧ t.ports = s.ports ∧
      t.twin.phase = (if s.twin.phase = .forming then .paired else s.twin.phase))) ∧
    (∀ r : JoinRecord, s.joinDue = true → s.twin.role = .follow → s.twin.join = .computing → s.twin.snapshot = [r] → s.fits r.port →
      (s.port r.port).power = .on → s.tripHeld r.port = false → bit (s.reg (portReg r.port 0x50)) 7 = false → r.actual = 5 →
      Yields .joinLoad s (fun t => t.twin.join = .done ∧ (t.port r.port).state = .run ∧ (t.port r.port).requested = .run ∧
        (t.port r.port).play.entry = r.entry ∧ (t.port r.port).ms = r.ms ∧ (t.port r.port).osc.u = r.residue ∧
        (t.port r.port).osc.n = r.n ∧ (t.port r.port).osc.m = r.m ∧ (t.port r.port).osc.amp = r.amp ∧
        (t.port r.port).osc.offset = r.offset ∧
        s.portsBut t [r.port] ∧ bit (t.rd Page.twin 0x14) 3 = true)) ∧
    (∀ (b : JoinBatch) (w : Word), s.joinDue = true → s.twin.role = .follow → s.twin.join = .computing → s.twin.snapshot = [] →
      s.twin.batches = [b] → b.groupEnable = some w → Yields .joinLoad s (fun t => t.twin.join = .done ∧ t.twin.batches = [] ∧
        t.rd Page.event 0x44 = w ∧ (∀ x, b.timers = [x] → x.index < 32 → (t.timer x.index).state = TimerState.ofCode x.state ∧
          (t.timer x.index).count = x.count ∧ (t.timer x.index).capture = x.capture ∧ (t.timer x.index).hop = x.hop ∧
          s.timersBut t [x.index]) ∧
        (∀ h, b.hooks = [h] → (t.hook h.1).armed = h.2))) ∧
    (s.twin.phase = .none → exec .digestWindow s = .next s) ∧
    (s.twin.phase ≠ .none → Yields .digestWindow s (fun t => t.twin.digest = [] ∧ t.twin.counted = false ∧
      t.twin.window.get (fun _ => 0) 144 = digestValue [s.fabricContribution] ∧
      (∀ e, e ≠ 144 → e ∈ s.twin.digest.map (fun x => x.1) →
        t.twin.window.get (fun _ => 0) e = digestValue (s.twin.digest.get (fun _ => []) e)) ∧ s.changesOnly t [.twin])))

/-- A disagreement that lasts sends a unit to SAFE, its recovery rewrites and resumes it by policy, and a third one in
ten seconds holds it. While the checks run, a check without disagreement leaves every unit as it was, with none seen.
A port's disagreement is counted check by check until the window has passed; then it is a MISMATCH with the flag and
fault 0x01, and the port is SAFE. The rewrite of a port in SAFE clears its playhead and marker state and notes the
recovery; the third within ten seconds holds it there with flag, fault 0x02 and DEGRADED. The resume counts, clears
MISMATCH, sets the flag and writes an entry; under STAY the port is held, under PARKED it is PARKED, under RESTORE a
port that ran is armed and started again. A member that its group recovers waits for the group. Where the manual
leaves a point open it states the model's reading: log entries 17, 35 and 78. -/
def Obligations.UnitsAreCheckedRecoveredAndResumed : Prop :=
  (∀ (l : List Disagreement) (s : State), s.healthChecks = false → exec (.healthCheck l) s = .next s) ∧
  (∀ s : State, s.healthChecks = true → Yields (.healthCheck []) s (fun t =>
    (∀ n, s.fits n → t.port n = { s.port n with seenAt := none }) ∧ (∀ g, g < 32 → t.group g = { s.group g with seenAt := none }) ∧
    (∀ g, g < Config.spares s.part → t.spare g = { s.spare g with seenAt := none }) ∧
    s.changesOnly t [.ports, .groups, .spares])) ∧
  (∀ (d : Disagreement) (n : Nat) (s : State), s.healthChecks = true → s.fits n → d.page = Page.port n →
    (s.port n).state ≠ .safe → (s.port n).state ≠ .absent →
    Yields (.healthCheck [d]) s (fun t =>
      let k := match (s.port n).seenAt with | none => 0 | some k => k + 1
      (bits (s.rd Page.health 0x48) 0 16 ≤ 50 * k → (t.port n).state = .safe ∧ (t.port n).requested = .safe ∧
        (t.port n).mismatch = true ∧ bit (t.rd Page.health 0x14) 1 = true ∧ t.faulted (Page.port n) 1) ∧
      (50 * k < bits (s.rd Page.health 0x48) 0 16 → t.port n = { s.port n with seenAt := some k } ∧ t.regs = s.regs) ∧
      (∀ m, s.fits m → m ≠ n → t.port m = { s.port m with seenAt := none }))) ∧
  (∀ (n : Nat) (s : State), n < 144 →
    ((s.port n).safeRecord = none → exec (.recoveryRewrite (Page.port n)) s = .next s ∧
      exec (.recoveryResume (Page.port n)) s = .next s) ∧
    (∀ r, (s.port n).safeRecord = some r →
      (r.rewritten = true ∨ r.held = true ∨ r.counted = false → exec (.recoveryRewrite (Page.port n)) s = .next s) ∧
      (r.rewritten = false ∨ r.held = true ∨ r.counted = false → exec (.recoveryResume (Page.port n)) s = .next s) ∧
      (r.rewritten = false → r.held = false → r.counted = true → Yields (.recoveryRewrite (Page.port n)) s (fun t =>
        (t.port n).play.entry = 0 ∧ (t.port n).play.activity = .idle ∧ (t.port n).play.rows = rowsZero ∧ (t.port n).ms = 0 ∧
        s.cycle ∈ t.health.recoveries.get (fun _ => []) (Page.port n) ∧
        (((s.health.recoveries.get (fun _ => []) (Page.port n)).filter (fun c => decide (s.cycle < c + 12000000000))).length < 2 →
          (t.port n).safeRecord = some { r with rewritten := true } ∧ s.portsBut t [n] ∧ s.changesOnly t [.ports, .health]) ∧
        (2 ≤ ((s.health.recoveries.get (fun _ => []) (Page.port n)).filter (fun c => decide (s.cycle < c + 12000000000))).length →
          (t.port n).safeRecord = some { r with rewritten := true, held := true } ∧ Page.port n ∈ t.health.held ∧
          bit (t.rd Page.health 0x14) 3 = true ∧ bit (t.rd Page.health 0x68) 0 = true ∧ t.faulted (Page.port n) 2 ∧
          s.logged t 0x40))) ∧
      (r.rewritten = true → r.held = false → r.counted = true → Yields (.recoveryResume (Page.port n)) s (fun t =>
        t.rd Page.health 0x4c = word (min 0xffffffff ((s.rd Page.health 0x4c).toNat + 1)) ∧ (t.port n).mismatch = false ∧
        bit (t.rd Page.health 0x14) 2 = true ∧ s.logged t 0x40 ∧ s.portsBut t [n] ∧
        (bits (s.rd Page.health 0x50) 0 2 = 0 → (t.port n).state = (s.port n).state ∧
          (t.port n).safeRecord = some { r with held := true }) ∧
        (bits (s.rd Page.health 0x50) 0 2 ∈ [1, 3] → r.was ≠ .off → (s.port n).power = .on → (t.port n).state = .parked ∧
          (t.port n).requested = .parked ∧ (t.port n).deliver = none ∧ (t.port n).safeRecord = none) ∧
        (bits (s.rd Page.health 0x50) 0 2 = 2 → r.was = .run → r.member = false → (s.port n).power = .on →
          (t.port n).state = .parked ∧ (t.port n).requested = .armed ∧ (t.port n).deliver = some .armed ∧
          (t.port n).restart = true ∧ (t.port n).safeRecord = none) ∧
        (s.twin.role = .follow → s.twin.phase ≠ .none → n ∈ t.twin.diverged)))))

/-- A housekeeping restart, a hot die and a low rail are faults with their DEGRADED causes, and end with them. An
expired watchdog starts one restart: counted, flagged, fault 0x0e, the fabric in RESTART; its completion ends it with
an entry. A die above its warning limit is listed with fault 0x0f and DEGRADED; above its critical limit LEAD_ACT is
released; 5 K below the warning limit it leaves the list, and the last one clears the cause. A fitted rail that falls
is listed with DEGRADED, releases LEAD_ACT, opens the stages it holds off, and VANA stops every monitor; one already
low changes nothing. Its return takes it off the list, the last one clears the cause, and VANA starts the enabled
monitors again. Where the manual leaves a point open it states the model's reading: log entries 47, 79 and 83. -/
def Obligations.RestartsHeatAndRailsAreFaults : Prop :=
  (∀ s : State,
    (s.health.restarting = true → exec .hkWatchdogExpiry s = .next s) ∧
    (s.health.restarting = false → Yields .hkWatchdogExpiry s (fun t => t.health = { s.health with restarting := true } ∧
      t.rd Page.health 0x6c = word (min 0xffffffff ((s.rd Page.health 0x6c).toNat + 1)) ∧ bit (t.rd Page.health 0x14) 5 = true ∧
      t.faulted Page.health 0x0e ∧ (s.life.state ∉ [.boot, .clocking, .memory] → t.fabric.mode = .restart) ∧
      s.changesOnly t [.free, .regs, .fabric, .i3cA, .i3cB, .faults, .health, .life])) ∧
    (s.health.restarting = false → exec .hkRestartComplete s = .next s) ∧
    (s.health.restarting = true → Yields .hkRestartComplete s (fun t => t.health = { s.health with restarting := false } ∧
      t.fabric.mode ≠ .restart ∧ s.logged t 0x40 ∧
      s.changesOnly t [.free, .regs, .fabric, .i3cA, .i3cB, .ledger, .health, .life]))) ∧
  (∀ (d : Die) (x : Int) (s : State),
    (d ∉ s.health.warning → d ∉ s.health.critical → (dieLimits d).1 < x → x ≤ (dieLimits d).2 →
      Yields (.thermalCheck [(d, x)]) s (fun t => t.health = { s.health with warning := s.health.warning ++ [d] } ∧
        bit (t.rd Page.health 0x68) 5 = true ∧ t.faulted Page.health 0x0f ∧ t.twin = s.twin)) ∧
    (d ∉ s.health.critical → (dieLimits d).2 < x → Yields (.thermalCheck [(d, x)]) s (fun t =>
      t.health.critical = s.health.critical ++ [d] ∧ t.twin.driven = false ∧ d ∈ t.health.warning ∧
      bit (t.rd Page.health 0x68) 5 = true ∧ (s.twin.driven = false → t.faulted Page.health 0x0f) ∧
      (s.twin.driven = true → t.faulted Page.twin 0x15 ∧ t.twin.barred = true))) ∧
    (d ∈ s.health.warning → d ∉ s.health.critical → x ≤ (dieLimits d).1 - 5 → Yields (.thermalCheck [(d, x)]) s (fun t =>
      t.health = { s.health with warning := s.health.warning.filter (fun y => y != d) } ∧
      bit (t.rd Page.health 0x68) 5 = !(t.health.warning.isEmpty) ∧ t.faults = s.faults ∧ t.twin = s.twin))) ∧
  (∀ (r : Rail) (s : State),
    (r ∈ s.health.rails ∨ railFitted s.part r = false → exec (.analogRailLow r) s = .next s) ∧
    (r ∉ s.health.rails → railFitted s.part r = true → Yields (.analogRailLow r) s (fun t =>
      t.health = { s.health with rails := s.health.rails ++ [r] } ∧ bit (t.rd Page.health 0x68) 4 = true ∧ t.twin.driven = false ∧
      (s.twin.driven = false → r ≠ .vd → t.faulted Page.health 0x10) ∧
      (∀ n, s.fits n → t.railHolds n = true → (t.port n).switches.force = false) ∧
      (r = .vana → ∀ m, m < Config.monitors s.part → (t.monitor m).running = false ∧ (t.monitor m).state = .indeterminate) ∧
      (r = .v3a → (t.slot 0).powered = false ∧ (t.slot 1).powered = false) ∧ (r = .vd → t.twin.linkUp = false))) ∧
    (r ∉ s.health.rails → exec (.analogRailRestored r) s = .next s) ∧
    (r ∈ s.health.rails → Yields (.analogRailRestored r) s (fun t =>
      t.health = { s.health with rails := s.health.rails.filter (fun y => y != r) } ∧
      (t.health.rails = [] → bit (t.rd Page.health 0x68) 4 = false) ∧
      (r = .vana → ∀ m, m < Config.monitors s.part → bit (s.reg (monReg m 0)) 0 = true → (t.monitor m).running = true) ∧
      s.changesOnly t [.regs, .ports, .fabric, .i3cA, .i3cB, .monitors, .cart, .health, .life])))

/-- A reset leaves every register and store at its reset content and keeps what is non-volatile, and cast-on goes from
BOOT to READY. RST_N low, or a digital rail out of its window, leaves the module in BOOT and in reset with its cause:
no register, table, port or ownership holds anything written, non-volatile contents stay, and the waveform memory
keeps the bytes of a stack whose self-refresh goes on and no other. An analog rail is no brown-out. The supplies
becoming valid are noted; with them, the end of RST_N boots. The boot ROM starts the valid image of FW_ACTIVE.SLOT or
the other one, in CLOCKING with its CAST_ON entry, or halts with reason 2 for wrong fuses and 1 without a valid image.
CAST_ON_READY with training ended parks every fitted port powered and makes the module serve: READY where no cause of
another state holds, DEGRADED with fault 0x18 without a factory model. Where the manual leaves a point open it states
the model's reading: log entries 1, 14, 81 and 82. -/
def Obligations.ResetsAndCastOnGoTheirSteps : Prop :=
  (∀ s : State, (s.life.reset = true → exec .rstNLow s = .next { s with pins := { s.pins with rstN := false } }) ∧
    (s.life.supplies = true → exec .suppliesValid s = .next s) ∧
    (s.life.supplies = false → exec .suppliesValid s =
      .next { s with life := { s.life with supplies := true }, health := { s.health with rails := [] } }) ∧
    (s.life.reset = false ∨ s.life.supplies = false → exec .resetEnd s = .next s) ∧
    (s.life.reset = true → s.life.supplies = true → exec .resetEnd s = .next { s with
      nv := { s.nv with bindoffDone := false }, pins := { s.pins with rstN := true },
      life := { s.life with reset := false, state := .boot, prevBindoff := s.nv.bindoffDone, upAt := s.cycle },
      ledger := { s.ledger with secAt := s.cycle } })) ∧
  (∀ (r : Rail) (s : State), isDigital r = false → exec (.brownOut r) s = .next s) ∧
  (∀ (c : Instr) (lost : Bool) (s : State), (c = .rstNLow ∧ s.life.reset = false ∧ lost = false) ∨
      (∃ r, c = .brownOut r ∧ isDigital r = true ∧ (lost = true ↔ r = .vhbm ∨ r = .vpp)) →
    Yields c s (fun t => t.life.state = .boot ∧ t.life.reset = true ∧ t.life.ready = false ∧
      t.regs = [] ∧ t.ports = [] ∧ t.groups = [] ∧ t.spares = [] ∧ t.descs = [] ∧ t.entries = [] ∧ t.copies = [] ∧
      t.owner.state = .none ∧ t.bulk.buffer = [] ∧ t.ledger.buffer = [] ∧ t.trips.front = 0 ∧ t.trips.die = 0 ∧ t.nv = s.nv ∧
      t.clock.loop = .noRef ∧ t.twin.role = .solo ∧ t.twin.driven = false ∧
      (c = .rstNLow → t.life.cause = 1 ∧ t.pins = { s.pins with rstN := false }) ∧
      (c ≠ .rstNLow → t.life.cause = 4 ∧ t.life.supplies = false) ∧
      (∀ a, t.readByte a = if (s.stack (s.stackOf a)).train = .selfRefresh ∧ lost = false then s.readByte a else Memory.unwritten) ∧
      (∀ m, (t.monitor m).volts = (s.monitor m).volts) ∧ s.changesOnly t ((([.regs, .ports, .groups, .spares, .descs, .entries, .wave] ++
        [.memctl, .copies, .bobbins, .fabric, .timers, .i3cA, .i3cB, .owner, .bulk, .security, .ledger, .faults] ++
        [.cal, .monitors, .trips, .clock, .cart, .twin, .health, .life, .pins]) : List Area)))) ∧
  (∀ s : State, s.life.state = .boot → s.life.reset = false → s.life.supplies = true →
    (s.nv.lockFuses.toNat / 2 ≠ 3 → Yields .firmwareStart s (fun t => t.life.state = .halted ∧ t.life.halt = 2 ∧ t.nv = s.nv)) ∧
    (s.nv.lockFuses.toNat / 2 = 3 → s.imageValid false = false → s.imageValid true = false → Yields .firmwareStart s (fun t =>
      t.life.state = .halted ∧ t.life.halt = 1 ∧ t.nv = s.nv)) ∧
    (s.nv.lockFuses.toNat / 2 = 3 → s.imageValid s.nv.activeB = true → Yields .firmwareStart s (fun t =>
      t.life.state = .clocking ∧ t.life.fwOk = true ∧ t.nv = s.nv ∧
      t.security.update = (if s.nv.unconfirmed = true then .runningNew else .idle) ∧
      (s.ledger.buffer.length < 4000 → ∃ e ∈ t.ledger.buffer, e.kind = 0x90) ∧ bit (t.rd Page.global 0x14) 0 = true)) ∧
    (s.nv.lockFuses.toNat / 2 = 3 → s.imageValid s.nv.activeB = false → s.imageValid (!s.nv.activeB) = true →
      Yields .firmwareStart s (fun t => t.life.state = .clocking ∧ t.nv.activeB = !s.nv.activeB ∧ t.nv.unconfirmed = false ∧
        t.security.update = .idle))) ∧
  (∀ s : State, (s.life.state ≠ .memory ∨ s.life.ready = true ∨ s.trainingEnded = false → exec .castOnReady s = .next s) ∧
    (s.life.state = .memory → s.life.ready = false → s.trainingEnded = true → Yields .castOnReady s (fun t =>
      t.life.ready = true ∧ (∀ n, s.fits n → (t.port n).state = .parked ∧ (t.port n).requested = .parked ∧ (t.port n).power = .on) ∧
      bit (t.rd Page.global 0x14) 0 = true ∧
      (s.cal.factoryValid = true → s.rd Page.health 0x68 = 0 → s.twin.role ≠ .follow → s.clockService = false → s.paused = false →
        bit (s.rd Page.event 0xa4) 0 = false → s.life.bindoff ≠ .running →
        (∀ k, k < Config.stackCount s.part → (s.stack k).train = .tracking) → t.life.state = .ready) ∧
      (s.cal.factoryValid = false → t.life.state = .degraded ∧ bit (t.rd Page.health 0x68) 3 = true ∧ t.faulted Page.cal 0x18))))

/-- Bind-off is refused or parks and powers down every port, ends with its checkpoint in HALTED or standby, and a wake
monitor casts on. BINDOFF_GO does nothing outside service, is refused with its reason during an update's verification,
programming or pause and while a swap is scheduled, and otherwise runs: LEAD_ACT released, its entry written, every
fitted port that can parked and on its way to OFF, no spare substituted, a rotation idle, the tracked stacks in
self-refresh, a commit begun where a change waits. BINDOFF_DONE of a running one, once no commit runs, leaves every
fitted port OFF with open switches, the stacks as they are, the ledger programmed with a CHECKPOINT as its last entry,
DONE, and HALTED with reason 3, or standby where the control asks for it. A wake in standby, by a monitor that wakes
and meets its condition, boots with cause 3 and names the monitor; otherwise it does nothing. Where the manual leaves
a point open it states the model's reading: log entries 2, 81 and 124. -/
def Obligations.BindoffEndsAndWakes : Prop :=
  (∀ s : State,
    (s.life.bindoff = .running ∨ s.life.ready = false ∨ s.life.state = .halted ∨ s.life.standby = true →
      exec .bindoffGo s = .next s) ∧
    (s.life.bindoff ≠ .running → s.life.ready = true → s.life.state ≠ .halted → s.life.standby = false →
      (s.security.update ∈ [.verifying, .programming, .paused] → exec .bindoffGo s =
        .next { s with life := { s.life with bindoff := .refused, bindoffReason := 1 } }) ∧
      (s.security.update ∉ [.verifying, .programming, .paused] → s.twin.swap = .scheduled → exec .bindoffGo s =
        .next { s with life := { s.life with bindoff := .refused, bindoffReason := 2 } }) ∧
      (s.security.update ∉ [.verifying, .programming, .paused] → s.twin.swap ≠ .scheduled → Yields .bindoffGo s (fun t =>
        t.life.bindoff = .running ∧ t.life.bindoffReason = 0 ∧ t.twin.driven = false ∧ s.logged t 0x91 ∧
        t.security.update ∉ [.loaded, .waitQuiet] ∧ t.cal.rotation = [] ∧ t.cal.legacy = none ∧
        (∀ g, g < Config.spares s.part → (t.spare g).substituted = false ∧ (t.spare g).busy = none ∧
          bit (t.rd (Page.spare g) 0x40) 7 = false) ∧
        (∀ k, k < Config.stackCount s.part → (t.stack k).owed = 0 ∧
          (t.stack k).train = (if (s.stack k).train = .tracking then .selfRefresh else (s.stack k).train)) ∧
        (s.cal.storeDue = true → s.commitRuns = false → s.cal.store ≠ .failed →
          t.cal.store = .erasing ∧ t.cal.storeDue = false) ∧
        (∀ n, s.fits n → (s.port n).state ∉ [.off, .absent, .safe] → (t.port n).state = .parked ∧ (t.port n).power = .down ∧
          (t.port n).requested = .off)))) ∧
    (s.life.bindoff ≠ .running ∨ s.commitRuns = true → exec .bindoffDone s = .next s) ∧
    (s.life.bindoff = .running → s.commitRuns = false → Yields .bindoffDone s (fun t => t.life.bindoff = .done ∧ t.nv.bindoffDone = true ∧
      (∀ n, s.fits n → (t.port n).power = .off ∧ (t.port n).switches.force = false ∧ (t.port n).switches.sense = false ∧
        ((s.port n).state ≠ .absent → (s.port n).state ≠ .safe → (t.port n).state = .off ∧ (t.port n).requested = .off)) ∧
      t.memctl = s.memctl ∧
      (∃ r, t.nv.ring.getLast? = some r ∧ r.kind = 0xf0) ∧ bit (t.rd Page.global 0x14) 1 = true ∧
      (bit (s.rd Page.global 0x84) 4 = true → t.life.standby = true ∧ t.life.state = s.life.state) ∧
      (bit (s.rd Page.global 0x84) 4 = false → t.life.state = .halted ∧ t.life.halt = 3 ∧
        (s.twin.driven = false → t.ledger.buffer = [])))) ∧
    (∀ m, (s.life.standby = false ∨ Config.monitors s.part ≤ m ∨ s.wakes m = false ∨
        (s.monitor m).state.meets (bits (s.reg (monReg m 0)) 12 2) (bit (s.reg (monReg m 0)) 9) = false →
      exec (.wakeRequest m) s = .next s) ∧
      (s.life.standby = true → m < Config.monitors s.part → s.wakes m = true →
        (s.monitor m).state.meets (bits (s.reg (monReg m 0)) 12 2) (bit (s.reg (monReg m 0)) 9) = true →
        Yields (.wakeRequest m) s (fun t => t.life.state = .boot ∧ t.life.reset = false ∧ t.life.standby = false ∧ t.life.cause = 3 ∧
          t.rd Page.wmon 0x344 = word (m + 2 ^ 31) ∧ t.nv = { s.nv with bindoffDone := false } ∧
          t.life.prevBindoff = s.nv.bindoffDone ∧ t.ports = [] ∧ t.entries = [] ∧
          (∀ a, t.readByte a = if (s.stack (s.stackOf a)).train = .selfRefresh then s.readByte a else Memory.unwritten)))))

/-- GROUP_ENABLE enables the channel groups, all at reset, and a channel of a disabled group outputs nothing. All 16
bits of EVENT.GROUP_ENABLE are 1 after reset, on every variant. In a fabric cycle with one emission that has hopped
fewer than 16 times, an enabled channel of its source without a gate outputs exactly when the bit of its group is 1:
then its CH_STAT shows FLAG and the hop count; with the bit at 0 its CH_STAT keeps its word, and a hook that
subscribes to that channel alone is presented nothing. -/
def Obligations.GroupEnableGatesItsChannels : Prop :=
  (∀ (v : Variant) (g : Nat), g < 16 → bit ((State.resetOf v).rd Page.event 0x44) g = true) ∧
  (∀ (e : Emission) (rest : List (List Emission)) (s : State), s.fabric.emitted = [e] :: rest → e.hop < 16 →
    Yields (.fabricEvent 0) s (fun t => ∀ c, c < 512 →
      (bit (s.rd Page.event 0x44) (bits (s.reg (chanReg c 8)) 4 4) = true → bit (s.reg (chanReg c 0)) 15 = true →
        bits (s.reg (chanReg c 0)) 0 12 = e.code → bit (s.reg (chanReg c 4)) 15 = false →
        bit (t.reg (chanReg c 12)) 0 = true ∧ bits (t.reg (chanReg c 12)) 8 4 = e.hop) ∧
      (bit (s.rd Page.event 0x44) (bits (s.reg (chanReg c 8)) 4 4) = false → t.reg (chanReg c 12) = s.reg (chanReg c 12) ∧
        ∀ a, isHook a = true → hookChan (s.reg a) 0 = c → hookChan (s.reg a) 1 = c →
          t.fabric.acts.filter (fun x => x.hook == a) = s.fabric.acts.filter (fun x => x.hook == a))))

/-- A change of MODE or HYST while a monitor is enabled is stored and takes effect at the next enable. A write of
WM_CFG that leaves an enabled monitor enabled stores the new word, and the monitor goes on with the mode, the
hysteresis and the comparators it had; enabling it again changes them no more. A monitor that is disabled takes the
stored mode (through the variant's modes) and hysteresis when it is enabled with VANA good. -/
def Obligations.MonitorModeWaitsForItsEnable : Prop :=
  ∀ (m : Nat) (s : State), m < Config.monitors s.part →
    (∀ (p : I3cPort) (mask value : Word), bit (s.reg (monReg m 0)) 0 = true →
      bit ((s.reg (monReg m 0) &&& ~~~mask) ||| (value &&& mask)) 0 = true →
      Yields (.registerWrite p (monReg m 0) mask value) s (fun t =>
        t.reg (monReg m 0) = ((s.reg (monReg m 0) &&& ~~~mask) ||| (value &&& mask)) &&& 0x37ff ∧
        (t.monitor m).mode = (s.monitor m).mode ∧ (t.monitor m).hyst = (s.monitor m).hyst ∧
        (t.monitor m).running = (s.monitor m).running ∧ (t.monitor m).cu = (s.monitor m).cu ∧
        (t.monitor m).cl = (s.monitor m).cl ∧ s.monitorsBut t [m] ∧ s.regsBut t [monReg m 0] ∧
        s.changesOnly t [.regs, .monitors])) ∧
    (bit (s.reg (monReg m 0)) 0 = true → Yields (.monitorEnable m) s (fun t => t.monitors = s.monitors)) ∧
    (bit (s.reg (monReg m 0)) 0 = false → Rail.vana ∉ s.health.rails → Yields (.monitorEnable m) s (fun t =>
      (t.monitor m).mode = activeMode s.part (bits (s.reg (monReg m 0)) 1 3) ∧
      (t.monitor m).hyst = bits (s.reg (monReg m 0)) 4 4 ∧ (t.monitor m).running = true))

/-- The production lock reads 1 and the JTAG port reaches no register, no memory and no key. On every variant a module
ships with the production lock fuse blown: LOCK_FUSES.PRODUCTION_LOCK reads 1 to every master after reset. In every
state IDCODE, BYPASS and SAMPLE/PRELOAD are executed as themselves, EXTEST as itself while RST_N is low and as BYPASS
otherwise, and every other instruction is the command JTAG_BYPASS. What the data register then shows is a free value.
Each of them changes the JTAG instruction and data of the pins and nothing else: no register, no memory, no key. -/
def Obligations.JtagReachesNothingButItsPins : Prop :=
  (∀ (v : Variant) (owner : Bool), bit ((State.resetOf v).liveReg owner (regAddr Page.security 0x4c)) 0 = true) ∧
  ∀ s : State,
    Yields .jtagIdcode s (fun t => t.pins = { s.pins with jtag := .idcode, jtagData := t.pins.jtagData } ∧
      s.changesOnly t [.free, .pins]) ∧
    Yields .jtagBypass s (fun t => t.pins = { s.pins with jtag := .bypass, jtagData := t.pins.jtagData } ∧
      s.changesOnly t [.free, .pins]) ∧
    Yields .jtagSamplePreload s (fun t => t.pins = { s.pins with jtag := .samplePreload, jtagData := t.pins.jtagData } ∧
      s.changesOnly t [.free, .pins]) ∧
    Yields .jtagExtest s (fun t =>
      t.pins = { s.pins with jtag := if s.pins.rstN then .bypass else .extest, jtagData := t.pins.jtagData } ∧
      s.changesOnly t [.free, .pins])
end

