-- ==== Sys2Proof/Laws/Footprint.lean ====
section
/-! SUPPORT. What an operation can change, as a mask over the fields of State (bit i for the i-th area of Machine.Area): the
relation, how it composes, and its rules for the shapes that definitions take. Each operation's own lemma, <name>_agree, is in
the other Laws/Footprint files. -/

namespace Sys2Proof
namespace Machine

/-- Every field of t whose bit in A is 0 is as in s. -/
structure Agree (A : Nat) (s t : State) : Prop where
  part : A.testBit 0 = false → t.part = s.part
  cycle : A.testBit 1 = false → t.cycle = s.cycle
  free : A.testBit 2 = false → t.free = s.free
  regs : A.testBit 3 = false → t.regs = s.regs
  ports : A.testBit 4 = false → t.ports = s.ports
  groups : A.testBit 5 = false → t.groups = s.groups
  spares : A.testBit 6 = false → t.spares = s.spares
  descs : A.testBit 7 = false → t.descs = s.descs
  entries : A.testBit 8 = false → t.entries = s.entries
  wave : A.testBit 9 = false → t.wave = s.wave
  memctl : A.testBit 10 = false → t.memctl = s.memctl
  copies : A.testBit 11 = false → t.copies = s.copies
  bobbins : A.testBit 12 = false → t.bobbins = s.bobbins
  fabric : A.testBit 13 = false → t.fabric = s.fabric
  timers : A.testBit 14 = false → t.timers = s.timers
  i3cA : A.testBit 15 = false → t.i3cA = s.i3cA
  i3cB : A.testBit 16 = false → t.i3cB = s.i3cB
  owner : A.testBit 17 = false → t.owner = s.owner
  bulk : A.testBit 18 = false → t.bulk = s.bulk
  security : A.testBit 19 = false → t.security = s.security
  ledger : A.testBit 20 = false → t.ledger = s.ledger
  faults : A.testBit 21 = false → t.faults = s.faults
  cal : A.testBit 22 = false → t.cal = s.cal
  monitors : A.testBit 23 = false → t.monitors = s.monitors
  trips : A.testBit 24 = false → t.trips = s.trips
  clock : A.testBit 25 = false → t.clock = s.clock
  cart : A.testBit 26 = false → t.cart = s.cart
  twin : A.testBit 27 = false → t.twin = s.twin
  health : A.testBit 28 = false → t.health = s.health
  life : A.testBit 29 = false → t.life = s.life
  nv : A.testBit 30 = false → t.nv = s.nv
  pins : A.testBit 31 = false → t.pins = s.pins
  pending : A.testBit 32 = false → t.pending = s.pending

theorem Agree.refl (A : Nat) (s : State) : Agree A s s := by constructor <;> intro _ <;> rfl
theorem Agree.step {A B : Nat} {s t u : State} (h : Agree A s t) (k : Agree B t u) (hs : B &&& A = B) : Agree A s u := by
  have hb (i : Nat) (hi : A.testBit i = false) : B.testBit i = false := by rw [← hs, Nat.testBit_and, hi, Bool.and_false]
  constructor
  · exact fun hi => (k.part (hb _ hi)).trans (h.part hi)
  · exact fun hi => (k.cycle (hb _ hi)).trans (h.cycle hi)
  · exact fun hi => (k.free (hb _ hi)).trans (h.free hi)
  · exact fun hi => (k.regs (hb _ hi)).trans (h.regs hi)
  · exact fun hi => (k.ports (hb _ hi)).trans (h.ports hi)
  · exact fun hi => (k.groups (hb _ hi)).trans (h.groups hi)
  · exact fun hi => (k.spares (hb _ hi)).trans (h.spares hi)
  · exact fun hi => (k.descs (hb _ hi)).trans (h.descs hi)
  · exact fun hi => (k.entries (hb _ hi)).trans (h.entries hi)
  · exact fun hi => (k.wave (hb _ hi)).trans (h.wave hi)
  · exact fun hi => (k.memctl (hb _ hi)).trans (h.memctl hi)
  · exact fun hi => (k.copies (hb _ hi)).trans (h.copies hi)
  · exact fun hi => (k.bobbins (hb _ hi)).trans (h.bobbins hi)
  · exact fun hi => (k.fabric (hb _ hi)).trans (h.fabric hi)
  · exact fun hi => (k.timers (hb _ hi)).trans (h.timers hi)
  · exact fun hi => (k.i3cA (hb _ hi)).trans (h.i3cA hi)
  · exact fun hi => (k.i3cB (hb _ hi)).trans (h.i3cB hi)
  · exact fun hi => (k.owner (hb _ hi)).trans (h.owner hi)
  · exact fun hi => (k.bulk (hb _ hi)).trans (h.bulk hi)
  · exact fun hi => (k.security (hb _ hi)).trans (h.security hi)
  · exact fun hi => (k.ledger (hb _ hi)).trans (h.ledger hi)
  · exact fun hi => (k.faults (hb _ hi)).trans (h.faults hi)
  · exact fun hi => (k.cal (hb _ hi)).trans (h.cal hi)
  · exact fun hi => (k.monitors (hb _ hi)).trans (h.monitors hi)
  · exact fun hi => (k.trips (hb _ hi)).trans (h.trips hi)
  · exact fun hi => (k.clock (hb _ hi)).trans (h.clock hi)
  · exact fun hi => (k.cart (hb _ hi)).trans (h.cart hi)
  · exact fun hi => (k.twin (hb _ hi)).trans (h.twin hi)
  · exact fun hi => (k.health (hb _ hi)).trans (h.health hi)
  · exact fun hi => (k.life (hb _ hi)).trans (h.life hi)
  · exact fun hi => (k.nv (hb _ hi)).trans (h.nv hi)
  · exact fun hi => (k.pins (hb _ hi)).trans (h.pins hi)
  · exact fun hi => (k.pending (hb _ hi)).trans (h.pending hi)
theorem Agree.setPart {A : Nat} {s t : State} (h : Agree A s t) (hb : A.testBit 0 = true) {x} :
    Agree A s { t with part := x } := by
  constructor <;> intro hi
  all_goals first
    | (rw [hb] at hi; cases hi)
    | exact h.part hi | exact h.cycle hi | exact h.free hi | exact h.regs hi | exact h.ports hi | exact h.groups hi
    | exact h.spares hi | exact h.descs hi | exact h.entries hi | exact h.wave hi | exact h.memctl hi | exact h.copies hi
    | exact h.bobbins hi | exact h.fabric hi | exact h.timers hi | exact h.i3cA hi | exact h.i3cB hi | exact h.owner hi
    | exact h.bulk hi | exact h.security hi | exact h.ledger hi | exact h.faults hi | exact h.cal hi | exact h.monitors hi
    | exact h.trips hi | exact h.clock hi | exact h.cart hi | exact h.twin hi | exact h.health hi | exact h.life hi
    | exact h.nv hi | exact h.pins hi | exact h.pending hi

theorem Agree.setCycle {A : Nat} {s t : State} (h : Agree A s t) (hb : A.testBit 1 = true) {x} :
    Agree A s { t with cycle := x } := by
  constructor <;> intro hi
  all_goals first
    | (rw [hb] at hi; cases hi)
    | exact h.part hi | exact h.cycle hi | exact h.free hi | exact h.regs hi | exact h.ports hi | exact h.groups hi
    | exact h.spares hi | exact h.descs hi | exact h.entries hi | exact h.wave hi | exact h.memctl hi | exact h.copies hi
    | exact h.bobbins hi | exact h.fabric hi | exact h.timers hi | exact h.i3cA hi | exact h.i3cB hi | exact h.owner hi
    | exact h.bulk hi | exact h.security hi | exact h.ledger hi | exact h.faults hi | exact h.cal hi | exact h.monitors hi
    | exact h.trips hi | exact h.clock hi | exact h.cart hi | exact h.twin hi | exact h.health hi | exact h.life hi
    | exact h.nv hi | exact h.pins hi | exact h.pending hi

theorem Agree.setFree {A : Nat} {s t : State} (h : Agree A s t) (hb : A.testBit 2 = true) {x} :
    Agree A s { t with free := x } := by
  constructor <;> intro hi
  all_goals first
    | (rw [hb] at hi; cases hi)
    | exact h.part hi | exact h.cycle hi | exact h.free hi | exact h.regs hi | exact h.ports hi | exact h.groups hi
    | exact h.spares hi | exact h.descs hi | exact h.entries hi | exact h.wave hi | exact h.memctl hi | exact h.copies hi
    | exact h.bobbins hi | exact h.fabric hi | exact h.timers hi | exact h.i3cA hi | exact h.i3cB hi | exact h.owner hi
    | exact h.bulk hi | exact h.security hi | exact h.ledger hi | exact h.faults hi | exact h.cal hi | exact h.monitors hi
    | exact h.trips hi | exact h.clock hi | exact h.cart hi | exact h.twin hi | exact h.health hi | exact h.life hi
    | exact h.nv hi | exact h.pins hi | exact h.pending hi

theorem Agree.setRegs {A : Nat} {s t : State} (h : Agree A s t) (hb : A.testBit 3 = true) {x} :
    Agree A s { t with regs := x } := by
  constructor <;> intro hi
  all_goals first
    | (rw [hb] at hi; cases hi)
    | exact h.part hi | exact h.cycle hi | exact h.free hi | exact h.regs hi | exact h.ports hi | exact h.groups hi
    | exact h.spares hi | exact h.descs hi | exact h.entries hi | exact h.wave hi | exact h.memctl hi | exact h.copies hi
    | exact h.bobbins hi | exact h.fabric hi | exact h.timers hi | exact h.i3cA hi | exact h.i3cB hi | exact h.owner hi
    | exact h.bulk hi | exact h.security hi | exact h.ledger hi | exact h.faults hi | exact h.cal hi | exact h.monitors hi
    | exact h.trips hi | exact h.clock hi | exact h.cart hi | exact h.twin hi | exact h.health hi | exact h.life hi
    | exact h.nv hi | exact h.pins hi | exact h.pending hi

theorem Agree.setPorts {A : Nat} {s t : State} (h : Agree A s t) (hb : A.testBit 4 = true) {x} :
    Agree A s { t with ports := x } := by
  constructor <;> intro hi
  all_goals first
    | (rw [hb] at hi; cases hi)
    | exact h.part hi | exact h.cycle hi | exact h.free hi | exact h.regs hi | exact h.ports hi | exact h.groups hi
    | exact h.spares hi | exact h.descs hi | exact h.entries hi | exact h.wave hi | exact h.memctl hi | exact h.copies hi
    | exact h.bobbins hi | exact h.fabric hi | exact h.timers hi | exact h.i3cA hi | exact h.i3cB hi | exact h.owner hi
    | exact h.bulk hi | exact h.security hi | exact h.ledger hi | exact h.faults hi | exact h.cal hi | exact h.monitors hi
    | exact h.trips hi | exact h.clock hi | exact h.cart hi | exact h.twin hi | exact h.health hi | exact h.life hi
    | exact h.nv hi | exact h.pins hi | exact h.pending hi

theorem Agree.setGroups {A : Nat} {s t : State} (h : Agree A s t) (hb : A.testBit 5 = true) {x} :
    Agree A s { t with groups := x } := by
  constructor <;> intro hi
  all_goals first
    | (rw [hb] at hi; cases hi)
    | exact h.part hi | exact h.cycle hi | exact h.free hi | exact h.regs hi | exact h.ports hi | exact h.groups hi
    | exact h.spares hi | exact h.descs hi | exact h.entries hi | exact h.wave hi | exact h.memctl hi | exact h.copies hi
    | exact h.bobbins hi | exact h.fabric hi | exact h.timers hi | exact h.i3cA hi | exact h.i3cB hi | exact h.owner hi
    | exact h.bulk hi | exact h.security hi | exact h.ledger hi | exact h.faults hi | exact h.cal hi | exact h.monitors hi
    | exact h.trips hi | exact h.clock hi | exact h.cart hi | exact h.twin hi | exact h.health hi | exact h.life hi
    | exact h.nv hi | exact h.pins hi | exact h.pending hi

theorem Agree.setSpares {A : Nat} {s t : State} (h : Agree A s t) (hb : A.testBit 6 = true) {x} :
    Agree A s { t with spares := x } := by
  constructor <;> intro hi
  all_goals first
    | (rw [hb] at hi; cases hi)
    | exact h.part hi | exact h.cycle hi | exact h.free hi | exact h.regs hi | exact h.ports hi | exact h.groups hi
    | exact h.spares hi | exact h.descs hi | exact h.entries hi | exact h.wave hi | exact h.memctl hi | exact h.copies hi
    | exact h.bobbins hi | exact h.fabric hi | exact h.timers hi | exact h.i3cA hi | exact h.i3cB hi | exact h.owner hi
    | exact h.bulk hi | exact h.security hi | exact h.ledger hi | exact h.faults hi | exact h.cal hi | exact h.monitors hi
    | exact h.trips hi | exact h.clock hi | exact h.cart hi | exact h.twin hi | exact h.health hi | exact h.life hi
    | exact h.nv hi | exact h.pins hi | exact h.pending hi

theorem Agree.setDescs {A : Nat} {s t : State} (h : Agree A s t) (hb : A.testBit 7 = true) {x} :
    Agree A s { t with descs := x } := by
  constructor <;> intro hi
  all_goals first
    | (rw [hb] at hi; cases hi)
    | exact h.part hi | exact h.cycle hi | exact h.free hi | exact h.regs hi | exact h.ports hi | exact h.groups hi
    | exact h.spares hi | exact h.descs hi | exact h.entries hi | exact h.wave hi | exact h.memctl hi | exact h.copies hi
    | exact h.bobbins hi | exact h.fabric hi | exact h.timers hi | exact h.i3cA hi | exact h.i3cB hi | exact h.owner hi
    | exact h.bulk hi | exact h.security hi | exact h.ledger hi | exact h.faults hi | exact h.cal hi | exact h.monitors hi
    | exact h.trips hi | exact h.clock hi | exact h.cart hi | exact h.twin hi | exact h.health hi | exact h.life hi
    | exact h.nv hi | exact h.pins hi | exact h.pending hi

theorem Agree.setEntries {A : Nat} {s t : State} (h : Agree A s t) (hb : A.testBit 8 = true) {x} :
    Agree A s { t with entries := x } := by
  constructor <;> intro hi
  all_goals first
    | (rw [hb] at hi; cases hi)
    | exact h.part hi | exact h.cycle hi | exact h.free hi | exact h.regs hi | exact h.ports hi | exact h.groups hi
    | exact h.spares hi | exact h.descs hi | exact h.entries hi | exact h.wave hi | exact h.memctl hi | exact h.copies hi
    | exact h.bobbins hi | exact h.fabric hi | exact h.timers hi | exact h.i3cA hi | exact h.i3cB hi | exact h.owner hi
    | exact h.bulk hi | exact h.security hi | exact h.ledger hi | exact h.faults hi | exact h.cal hi | exact h.monitors hi
    | exact h.trips hi | exact h.clock hi | exact h.cart hi | exact h.twin hi | exact h.health hi | exact h.life hi
    | exact h.nv hi | exact h.pins hi | exact h.pending hi

theorem Agree.setWave {A : Nat} {s t : State} (h : Agree A s t) (hb : A.testBit 9 = true) {x} :
    Agree A s { t with wave := x } := by
  constructor <;> intro hi
  all_goals first
    | (rw [hb] at hi; cases hi)
    | exact h.part hi | exact h.cycle hi | exact h.free hi | exact h.regs hi | exact h.ports hi | exact h.groups hi
    | exact h.spares hi | exact h.descs hi | exact h.entries hi | exact h.wave hi | exact h.memctl hi | exact h.copies hi
    | exact h.bobbins hi | exact h.fabric hi | exact h.timers hi | exact h.i3cA hi | exact h.i3cB hi | exact h.owner hi
    | exact h.bulk hi | exact h.security hi | exact h.ledger hi | exact h.faults hi | exact h.cal hi | exact h.monitors hi
    | exact h.trips hi | exact h.clock hi | exact h.cart hi | exact h.twin hi | exact h.health hi | exact h.life hi
    | exact h.nv hi | exact h.pins hi | exact h.pending hi

theorem Agree.setMemctl {A : Nat} {s t : State} (h : Agree A s t) (hb : A.testBit 10 = true) {x} :
    Agree A s { t with memctl := x } := by
  constructor <;> intro hi
  all_goals first
    | (rw [hb] at hi; cases hi)
    | exact h.part hi | exact h.cycle hi | exact h.free hi | exact h.regs hi | exact h.ports hi | exact h.groups hi
    | exact h.spares hi | exact h.descs hi | exact h.entries hi | exact h.wave hi | exact h.memctl hi | exact h.copies hi
    | exact h.bobbins hi | exact h.fabric hi | exact h.timers hi | exact h.i3cA hi | exact h.i3cB hi | exact h.owner hi
    | exact h.bulk hi | exact h.security hi | exact h.ledger hi | exact h.faults hi | exact h.cal hi | exact h.monitors hi
    | exact h.trips hi | exact h.clock hi | exact h.cart hi | exact h.twin hi | exact h.health hi | exact h.life hi
    | exact h.nv hi | exact h.pins hi | exact h.pending hi

theorem Agree.setCopies {A : Nat} {s t : State} (h : Agree A s t) (hb : A.testBit 11 = true) {x} :
    Agree A s { t with copies := x } := by
  constructor <;> intro hi
  all_goals first
    | (rw [hb] at hi; cases hi)
    | exact h.part hi | exact h.cycle hi | exact h.free hi | exact h.regs hi | exact h.ports hi | exact h.groups hi
    | exact h.spares hi | exact h.descs hi | exact h.entries hi | exact h.wave hi | exact h.memctl hi | exact h.copies hi
    | exact h.bobbins hi | exact h.fabric hi | exact h.timers hi | exact h.i3cA hi | exact h.i3cB hi | exact h.owner hi
    | exact h.bulk hi | exact h.security hi | exact h.ledger hi | exact h.faults hi | exact h.cal hi | exact h.monitors hi
    | exact h.trips hi | exact h.clock hi | exact h.cart hi | exact h.twin hi | exact h.health hi | exact h.life hi
    | exact h.nv hi | exact h.pins hi | exact h.pending hi

theorem Agree.setBobbins {A : Nat} {s t : State} (h : Agree A s t) (hb : A.testBit 12 = true) {x} :
    Agree A s { t with bobbins := x } := by
  constructor <;> intro hi
  all_goals first
    | (rw [hb] at hi; cases hi)
    | exact h.part hi | exact h.cycle hi | exact h.free hi | exact h.regs hi | exact h.ports hi | exact h.groups hi
    | exact h.spares hi | exact h.descs hi | exact h.entries hi | exact h.wave hi | exact h.memctl hi | exact h.copies hi
    | exact h.bobbins hi | exact h.fabric hi | exact h.timers hi | exact h.i3cA hi | exact h.i3cB hi | exact h.owner hi
    | exact h.bulk hi | exact h.security hi | exact h.ledger hi | exact h.faults hi | exact h.cal hi | exact h.monitors hi
    | exact h.trips hi | exact h.clock hi | exact h.cart hi | exact h.twin hi | exact h.health hi | exact h.life hi
    | exact h.nv hi | exact h.pins hi | exact h.pending hi

theorem Agree.setFabric {A : Nat} {s t : State} (h : Agree A s t) (hb : A.testBit 13 = true) {x} :
    Agree A s { t with fabric := x } := by
  constructor <;> intro hi
  all_goals first
    | (rw [hb] at hi; cases hi)
    | exact h.part hi | exact h.cycle hi | exact h.free hi | exact h.regs hi | exact h.ports hi | exact h.groups hi
    | exact h.spares hi | exact h.descs hi | exact h.entries hi | exact h.wave hi | exact h.memctl hi | exact h.copies hi
    | exact h.bobbins hi | exact h.fabric hi | exact h.timers hi | exact h.i3cA hi | exact h.i3cB hi | exact h.owner hi
    | exact h.bulk hi | exact h.security hi | exact h.ledger hi | exact h.faults hi | exact h.cal hi | exact h.monitors hi
    | exact h.trips hi | exact h.clock hi | exact h.cart hi | exact h.twin hi | exact h.health hi | exact h.life hi
    | exact h.nv hi | exact h.pins hi | exact h.pending hi

theorem Agree.setTimers {A : Nat} {s t : State} (h : Agree A s t) (hb : A.testBit 14 = true) {x} :
    Agree A s { t with timers := x } := by
  constructor <;> intro hi
  all_goals first
    | (rw [hb] at hi; cases hi)
    | exact h.part hi | exact h.cycle hi | exact h.free hi | exact h.regs hi | exact h.ports hi | exact h.groups hi
    | exact h.spares hi | exact h.descs hi | exact h.entries hi | exact h.wave hi | exact h.memctl hi | exact h.copies hi
    | exact h.bobbins hi | exact h.fabric hi | exact h.timers hi | exact h.i3cA hi | exact h.i3cB hi | exact h.owner hi
    | exact h.bulk hi | exact h.security hi | exact h.ledger hi | exact h.faults hi | exact h.cal hi | exact h.monitors hi
    | exact h.trips hi | exact h.clock hi | exact h.cart hi | exact h.twin hi | exact h.health hi | exact h.life hi
    | exact h.nv hi | exact h.pins hi | exact h.pending hi

theorem Agree.setI3cA {A : Nat} {s t : State} (h : Agree A s t) (hb : A.testBit 15 = true) {x} :
    Agree A s { t with i3cA := x } := by
  constructor <;> intro hi
  all_goals first
    | (rw [hb] at hi; cases hi)
    | exact h.part hi | exact h.cycle hi | exact h.free hi | exact h.regs hi | exact h.ports hi | exact h.groups hi
    | exact h.spares hi | exact h.descs hi | exact h.entries hi | exact h.wave hi | exact h.memctl hi | exact h.copies hi
    | exact h.bobbins hi | exact h.fabric hi | exact h.timers hi | exact h.i3cA hi | exact h.i3cB hi | exact h.owner hi
    | exact h.bulk hi | exact h.security hi | exact h.ledger hi | exact h.faults hi | exact h.cal hi | exact h.monitors hi
    | exact h.trips hi | exact h.clock hi | exact h.cart hi | exact h.twin hi | exact h.health hi | exact h.life hi
    | exact h.nv hi | exact h.pins hi | exact h.pending hi

theorem Agree.setI3cB {A : Nat} {s t : State} (h : Agree A s t) (hb : A.testBit 16 = true) {x} :
    Agree A s { t with i3cB := x } := by
  constructor <;> intro hi
  all_goals first
    | (rw [hb] at hi; cases hi)
    | exact h.part hi | exact h.cycle hi | exact h.free hi | exact h.regs hi | exact h.ports hi | exact h.groups hi
    | exact h.spares hi | exact h.descs hi | exact h.entries hi | exact h.wave hi | exact h.memctl hi | exact h.copies hi
    | exact h.bobbins hi | exact h.fabric hi | exact h.timers hi | exact h.i3cA hi | exact h.i3cB hi | exact h.owner hi
    | exact h.bulk hi | exact h.security hi | exact h.ledger hi | exact h.faults hi | exact h.cal hi | exact h.monitors hi
    | exact h.trips hi | exact h.clock hi | exact h.cart hi | exact h.twin hi | exact h.health hi | exact h.life hi
    | exact h.nv hi | exact h.pins hi | exact h.pending hi

theorem Agree.setOwner {A : Nat} {s t : State} (h : Agree A s t) (hb : A.testBit 17 = true) {x} :
    Agree A s { t with owner := x } := by
  constructor <;> intro hi
  all_goals first
    | (rw [hb] at hi; cases hi)
    | exact h.part hi | exact h.cycle hi | exact h.free hi | exact h.regs hi | exact h.ports hi | exact h.groups hi
    | exact h.spares hi | exact h.descs hi | exact h.entries hi | exact h.wave hi | exact h.memctl hi | exact h.copies hi
    | exact h.bobbins hi | exact h.fabric hi | exact h.timers hi | exact h.i3cA hi | exact h.i3cB hi | exact h.owner hi
    | exact h.bulk hi | exact h.security hi | exact h.ledger hi | exact h.faults hi | exact h.cal hi | exact h.monitors hi
    | exact h.trips hi | exact h.clock hi | exact h.cart hi | exact h.twin hi | exact h.health hi | exact h.life hi
    | exact h.nv hi | exact h.pins hi | exact h.pending hi

theorem Agree.setBulk {A : Nat} {s t : State} (h : Agree A s t) (hb : A.testBit 18 = true) {x} :
    Agree A s { t with bulk := x } := by
  constructor <;> intro hi
  all_goals first
    | (rw [hb] at hi; cases hi)
    | exact h.part hi | exact h.cycle hi | exact h.free hi | exact h.regs hi | exact h.ports hi | exact h.groups hi
    | exact h.spares hi | exact h.descs hi | exact h.entries hi | exact h.wave hi | exact h.memctl hi | exact h.copies hi
    | exact h.bobbins hi | exact h.fabric hi | exact h.timers hi | exact h.i3cA hi | exact h.i3cB hi | exact h.owner hi
    | exact h.bulk hi | exact h.security hi | exact h.ledger hi | exact h.faults hi | exact h.cal hi | exact h.monitors hi
    | exact h.trips hi | exact h.clock hi | exact h.cart hi | exact h.twin hi | exact h.health hi | exact h.life hi
    | exact h.nv hi | exact h.pins hi | exact h.pending hi

theorem Agree.setSecurity {A : Nat} {s t : State} (h : Agree A s t) (hb : A.testBit 19 = true) {x} :
    Agree A s { t with security := x } := by
  constructor <;> intro hi
  all_goals first
    | (rw [hb] at hi; cases hi)
    | exact h.part hi | exact h.cycle hi | exact h.free hi | exact h.regs hi | exact h.ports hi | exact h.groups hi
    | exact h.spares hi | exact h.descs hi | exact h.entries hi | exact h.wave hi | exact h.memctl hi | exact h.copies hi
    | exact h.bobbins hi | exact h.fabric hi | exact h.timers hi | exact h.i3cA hi | exact h.i3cB hi | exact h.owner hi
    | exact h.bulk hi | exact h.security hi | exact h.ledger hi | exact h.faults hi | exact h.cal hi | exact h.monitors hi
    | exact h.trips hi | exact h.clock hi | exact h.cart hi | exact h.twin hi | exact h.health hi | exact h.life hi
    | exact h.nv hi | exact h.pins hi | exact h.pending hi

theorem Agree.setLedger {A : Nat} {s t : State} (h : Agree A s t) (hb : A.testBit 20 = true) {x} :
    Agree A s { t with ledger := x } := by
  constructor <;> intro hi
  all_goals first
    | (rw [hb] at hi; cases hi)
    | exact h.part hi | exact h.cycle hi | exact h.free hi | exact h.regs hi | exact h.ports hi | exact h.groups hi
    | exact h.spares hi | exact h.descs hi | exact h.entries hi | exact h.wave hi | exact h.memctl hi | exact h.copies hi
    | exact h.bobbins hi | exact h.fabric hi | exact h.timers hi | exact h.i3cA hi | exact h.i3cB hi | exact h.owner hi
    | exact h.bulk hi | exact h.security hi | exact h.ledger hi | exact h.faults hi | exact h.cal hi | exact h.monitors hi
    | exact h.trips hi | exact h.clock hi | exact h.cart hi | exact h.twin hi | exact h.health hi | exact h.life hi
    | exact h.nv hi | exact h.pins hi | exact h.pending hi

theorem Agree.setFaults {A : Nat} {s t : State} (h : Agree A s t) (hb : A.testBit 21 = true) {x} :
    Agree A s { t with faults := x } := by
  constructor <;> intro hi
  all_goals first
    | (rw [hb] at hi; cases hi)
    | exact h.part hi | exact h.cycle hi | exact h.free hi | exact h.regs hi | exact h.ports hi | exact h.groups hi
    | exact h.spares hi | exact h.descs hi | exact h.entries hi | exact h.wave hi | exact h.memctl hi | exact h.copies hi
    | exact h.bobbins hi | exact h.fabric hi | exact h.timers hi | exact h.i3cA hi | exact h.i3cB hi | exact h.owner hi
    | exact h.bulk hi | exact h.security hi | exact h.ledger hi | exact h.faults hi | exact h.cal hi | exact h.monitors hi
    | exact h.trips hi | exact h.clock hi | exact h.cart hi | exact h.twin hi | exact h.health hi | exact h.life hi
    | exact h.nv hi | exact h.pins hi | exact h.pending hi

theorem Agree.setCal {A : Nat} {s t : State} (h : Agree A s t) (hb : A.testBit 22 = true) {x} :
    Agree A s { t with cal := x } := by
  constructor <;> intro hi
  all_goals first
    | (rw [hb] at hi; cases hi)
    | exact h.part hi | exact h.cycle hi | exact h.free hi | exact h.regs hi | exact h.ports hi | exact h.groups hi
    | exact h.spares hi | exact h.descs hi | exact h.entries hi | exact h.wave hi | exact h.memctl hi | exact h.copies hi
    | exact h.bobbins hi | exact h.fabric hi | exact h.timers hi | exact h.i3cA hi | exact h.i3cB hi | exact h.owner hi
    | exact h.bulk hi | exact h.security hi | exact h.ledger hi | exact h.faults hi | exact h.cal hi | exact h.monitors hi
    | exact h.trips hi | exact h.clock hi | exact h.cart hi | exact h.twin hi | exact h.health hi | exact h.life hi
    | exact h.nv hi | exact h.pins hi | exact h.pending hi

theorem Agree.setMonitors {A : Nat} {s t : State} (h : Agree A s t) (hb : A.testBit 23 = true) {x} :
    Agree A s { t with monitors := x } := by
  constructor <;> intro hi
  all_goals first
    | (rw [hb] at hi; cases hi)
    | exact h.part hi | exact h.cycle hi | exact h.free hi | exact h.regs hi | exact h.ports hi | exact h.groups hi
    | exact h.spares hi | exact h.descs hi | exact h.entries hi | exact h.wave hi | exact h.memctl hi | exact h.copies hi
    | exact h.bobbins hi | exact h.fabric hi | exact h.timers hi | exact h.i3cA hi | exact h.i3cB hi | exact h.owner hi
    | exact h.bulk hi | exact h.security hi | exact h.ledger hi | exact h.faults hi | exact h.cal hi | exact h.monitors hi
    | exact h.trips hi | exact h.clock hi | exact h.cart hi | exact h.twin hi | exact h.health hi | exact h.life hi
    | exact h.nv hi | exact h.pins hi | exact h.pending hi

theorem Agree.setTrips {A : Nat} {s t : State} (h : Agree A s t) (hb : A.testBit 24 = true) {x} :
    Agree A s { t with trips := x } := by
  constructor <;> intro hi
  all_goals first
    | (rw [hb] at hi; cases hi)
    | exact h.part hi | exact h.cycle hi | exact h.free hi | exact h.regs hi | exact h.ports hi | exact h.groups hi
    | exact h.spares hi | exact h.descs hi | exact h.entries hi | exact h.wave hi | exact h.memctl hi | exact h.copies hi
    | exact h.bobbins hi | exact h.fabric hi | exact h.timers hi | exact h.i3cA hi | exact h.i3cB hi | exact h.owner hi
    | exact h.bulk hi | exact h.security hi | exact h.ledger hi | exact h.faults hi | exact h.cal hi | exact h.monitors hi
    | exact h.trips hi | exact h.clock hi | exact h.cart hi | exact h.twin hi | exact h.health hi | exact h.life hi
    | exact h.nv hi | exact h.pins hi | exact h.pending hi

theorem Agree.setClock {A : Nat} {s t : State} (h : Agree A s t) (hb : A.testBit 25 = true) {x} :
    Agree A s { t with clock := x } := by
  constructor <;> intro hi
  all_goals first
    | (rw [hb] at hi; cases hi)
    | exact h.part hi | exact h.cycle hi | exact h.free hi | exact h.regs hi | exact h.ports hi | exact h.groups hi
    | exact h.spares hi | exact h.descs hi | exact h.entries hi | exact h.wave hi | exact h.memctl hi | exact h.copies hi
    | exact h.bobbins hi | exact h.fabric hi | exact h.timers hi | exact h.i3cA hi | exact h.i3cB hi | exact h.owner hi
    | exact h.bulk hi | exact h.security hi | exact h.ledger hi | exact h.faults hi | exact h.cal hi | exact h.monitors hi
    | exact h.trips hi | exact h.clock hi | exact h.cart hi | exact h.twin hi | exact h.health hi | exact h.life hi
    | exact h.nv hi | exact h.pins hi | exact h.pending hi

theorem Agree.setCart {A : Nat} {s t : State} (h : Agree A s t) (hb : A.testBit 26 = true) {x} :
    Agree A s { t with cart := x } := by
  constructor <;> intro hi
  all_goals first
    | (rw [hb] at hi; cases hi)
    | exact h.part hi | exact h.cycle hi | exact h.free hi | exact h.regs hi | exact h.ports hi | exact h.groups hi
    | exact h.spares hi | exact h.descs hi | exact h.entries hi | exact h.wave hi | exact h.memctl hi | exact h.copies hi
    | exact h.bobbins hi | exact h.fabric hi | exact h.timers hi | exact h.i3cA hi | exact h.i3cB hi | exact h.owner hi
    | exact h.bulk hi | exact h.security hi | exact h.ledger hi | exact h.faults hi | exact h.cal hi | exact h.monitors hi
    | exact h.trips hi | exact h.clock hi | exact h.cart hi | exact h.twin hi | exact h.health hi | exact h.life hi
    | exact h.nv hi | exact h.pins hi | exact h.pending hi

theorem Agree.setTwin {A : Nat} {s t : State} (h : Agree A s t) (hb : A.testBit 27 = true) {x} :
    Agree A s { t with twin := x } := by
  constructor <;> intro hi
  all_goals first
    | (rw [hb] at hi; cases hi)
    | exact h.part hi | exact h.cycle hi | exact h.free hi | exact h.regs hi | exact h.ports hi | exact h.groups hi
    | exact h.spares hi | exact h.descs hi | exact h.entries hi | exact h.wave hi | exact h.memctl hi | exact h.copies hi
    | exact h.bobbins hi | exact h.fabric hi | exact h.timers hi | exact h.i3cA hi | exact h.i3cB hi | exact h.owner hi
    | exact h.bulk hi | exact h.security hi | exact h.ledger hi | exact h.faults hi | exact h.cal hi | exact h.monitors hi
    | exact h.trips hi | exact h.clock hi | exact h.cart hi | exact h.twin hi | exact h.health hi | exact h.life hi
    | exact h.nv hi | exact h.pins hi | exact h.pending hi

theorem Agree.setHealth {A : Nat} {s t : State} (h : Agree A s t) (hb : A.testBit 28 = true) {x} :
    Agree A s { t with health := x } := by
  constructor <;> intro hi
  all_goals first
    | (rw [hb] at hi; cases hi)
    | exact h.part hi | exact h.cycle hi | exact h.free hi | exact h.regs hi | exact h.ports hi | exact h.groups hi
    | exact h.spares hi | exact h.descs hi | exact h.entries hi | exact h.wave hi | exact h.memctl hi | exact h.copies hi
    | exact h.bobbins hi | exact h.fabric hi | exact h.timers hi | exact h.i3cA hi | exact h.i3cB hi | exact h.owner hi
    | exact h.bulk hi | exact h.security hi | exact h.ledger hi | exact h.faults hi | exact h.cal hi | exact h.monitors hi
    | exact h.trips hi | exact h.clock hi | exact h.cart hi | exact h.twin hi | exact h.health hi | exact h.life hi
    | exact h.nv hi | exact h.pins hi | exact h.pending hi

theorem Agree.setLife {A : Nat} {s t : State} (h : Agree A s t) (hb : A.testBit 29 = true) {x} :
    Agree A s { t with life := x } := by
  constructor <;> intro hi
  all_goals first
    | (rw [hb] at hi; cases hi)
    | exact h.part hi | exact h.cycle hi | exact h.free hi | exact h.regs hi | exact h.ports hi | exact h.groups hi
    | exact h.spares hi | exact h.descs hi | exact h.entries hi | exact h.wave hi | exact h.memctl hi | exact h.copies hi
    | exact h.bobbins hi | exact h.fabric hi | exact h.timers hi | exact h.i3cA hi | exact h.i3cB hi | exact h.owner hi
    | exact h.bulk hi | exact h.security hi | exact h.ledger hi | exact h.faults hi | exact h.cal hi | exact h.monitors hi
    | exact h.trips hi | exact h.clock hi | exact h.cart hi | exact h.twin hi | exact h.health hi | exact h.life hi
    | exact h.nv hi | exact h.pins hi | exact h.pending hi

theorem Agree.setNv {A : Nat} {s t : State} (h : Agree A s t) (hb : A.testBit 30 = true) {x} :
    Agree A s { t with nv := x } := by
  constructor <;> intro hi
  all_goals first
    | (rw [hb] at hi; cases hi)
    | exact h.part hi | exact h.cycle hi | exact h.free hi | exact h.regs hi | exact h.ports hi | exact h.groups hi
    | exact h.spares hi | exact h.descs hi | exact h.entries hi | exact h.wave hi | exact h.memctl hi | exact h.copies hi
    | exact h.bobbins hi | exact h.fabric hi | exact h.timers hi | exact h.i3cA hi | exact h.i3cB hi | exact h.owner hi
    | exact h.bulk hi | exact h.security hi | exact h.ledger hi | exact h.faults hi | exact h.cal hi | exact h.monitors hi
    | exact h.trips hi | exact h.clock hi | exact h.cart hi | exact h.twin hi | exact h.health hi | exact h.life hi
    | exact h.nv hi | exact h.pins hi | exact h.pending hi

theorem Agree.setPins {A : Nat} {s t : State} (h : Agree A s t) (hb : A.testBit 31 = true) {x} :
    Agree A s { t with pins := x } := by
  constructor <;> intro hi
  all_goals first
    | (rw [hb] at hi; cases hi)
    | exact h.part hi | exact h.cycle hi | exact h.free hi | exact h.regs hi | exact h.ports hi | exact h.groups hi
    | exact h.spares hi | exact h.descs hi | exact h.entries hi | exact h.wave hi | exact h.memctl hi | exact h.copies hi
    | exact h.bobbins hi | exact h.fabric hi | exact h.timers hi | exact h.i3cA hi | exact h.i3cB hi | exact h.owner hi
    | exact h.bulk hi | exact h.security hi | exact h.ledger hi | exact h.faults hi | exact h.cal hi | exact h.monitors hi
    | exact h.trips hi | exact h.clock hi | exact h.cart hi | exact h.twin hi | exact h.health hi | exact h.life hi
    | exact h.nv hi | exact h.pins hi | exact h.pending hi

theorem Agree.setPending {A : Nat} {s t : State} (h : Agree A s t) (hb : A.testBit 32 = true) {x} :
    Agree A s { t with pending := x } := by
  constructor <;> intro hi
  all_goals first
    | (rw [hb] at hi; cases hi)
    | exact h.part hi | exact h.cycle hi | exact h.free hi | exact h.regs hi | exact h.ports hi | exact h.groups hi
    | exact h.spares hi | exact h.descs hi | exact h.entries hi | exact h.wave hi | exact h.memctl hi | exact h.copies hi
    | exact h.bobbins hi | exact h.fabric hi | exact h.timers hi | exact h.i3cA hi | exact h.i3cB hi | exact h.owner hi
    | exact h.bulk hi | exact h.security hi | exact h.ledger hi | exact h.faults hi | exact h.cal hi | exact h.monitors hi
    | exact h.trips hi | exact h.clock hi | exact h.cart hi | exact h.twin hi | exact h.health hi | exact h.life hi
    | exact h.nv hi | exact h.pins hi

theorem Agree.foldl {α : Type} {A : Nat} {s : State} {g : State → α → State} (hg : ∀ t x, Agree A s t → Agree A s (g t x)) {l : List α} {i : State}
    (h : Agree A s i) : Agree A s (l.foldl g i) := by
  induction l generalizing i with
  | nil => exact h
  | cons x l ih => exact ih (hg _ _ h)

theorem Agree.foldl1 {α β : Type} {A : Nat} {s : State} {g : State × β → α → State × β} (hg : ∀ t x, Agree A s t.1 → Agree A s (g t x).1) {l : List α}
    {i : State × β} (h : Agree A s i.1) : Agree A s (l.foldl g i).1 := by
  induction l generalizing i with
  | nil => exact h
  | cons x l ih => exact ih (hg _ _ h)

theorem Agree.foldl2 {α β : Type} {A : Nat} {s : State} {g : β × State → α → β × State} (hg : ∀ t x, Agree A s t.2 → Agree A s (g t x).2) {l : List α}
    {i : β × State} (h : Agree A s i.2) : Agree A s (l.foldl g i).2 := by
  induction l generalizing i with
  | nil => exact h
  | cons x l ih => exact ih (hg _ _ h)

theorem Agree.foldls {α : Type} {A : Nat} {s : State} {g : Staging → α → Staging} (hg : ∀ t x, Agree A s t.s → Agree A s (g t x).s) {l : List α}
    {i : Staging} (h : Agree A s i.s) : Agree A s (l.foldl g i).s := by
  induction l generalizing i with
  | nil => exact h
  | cons x l ih => exact ih (hg _ _ h)

theorem Agree.fst {β : Type} {A : Nat} {s t : State} {b : β} (h : Agree A s t) : Agree A s (t, b).1 := h

theorem Agree.snd {β : Type} {A : Nat} {s t : State} {b : β} (h : Agree A s t) : Agree A s (b, t).2 := h

theorem Agree.whenMoment {A : Nat} {r s t : State} {u : SeqUnit} {m : Moment} (h : Agree A r s) (k : Agree A r t) :
    Agree A r (s.whenMoment u m t) := by
  unfold State.whenMoment; split; exacts [k, h]

theorem Agree.onAct {A : Nat} {r s : State} {a : Nat} {f : Activation → State → State} (h : Agree A r s) (hb : 8192 &&& A = 8192)
    (k : ∀ x t, Agree A r t → Agree A r (f x t)) : Agree A r (s.onAct a f) := by
  unfold State.onAct State.takeAct
  cases s.fabric.acts.find? (fun x => x.hook == a) with
  | none => exact h
  | some x => exact k _ _ (h.step (B := 8192) (Agree.setFabric (Agree.refl _ _) rfl) hb)

/-- Whatever next state a meaning answers agrees with s outside A. -/
def Result.Agrees (A : Nat) (s : State) (r : Result) : Prop := ∀ t, r = .next t → Agree A s t

theorem Result.Agrees.next {A : Nat} {s t : State} (h : Agree A s t) : Result.Agrees A s (.next t) := by
  intro u hu; cases hu; exact h

theorem Agree.stg {A : Nat} {s t : State} {b : Bool} (h : Agree A s t) : Agree A s (Staging.mk t b).s := h

theorem Agree.ite {A : Nat} {s : State} {c : Prop} [Decidable c] {a b : State} (h : Agree A s a) (k : Agree A s b) :
    Agree A s (if c then a else b) := by split; exacts [h, k]

theorem Agree.ite1 {β : Type} {A : Nat} {s : State} {c : Prop} [Decidable c] {a b : State × β} (h : Agree A s a.1) (k : Agree A s b.1) :
    Agree A s (if c then a else b).1 := by split; exacts [h, k]

theorem Agree.ite2 {β : Type} {A : Nat} {s : State} {c : Prop} [Decidable c] {a b : β × State} (h : Agree A s a.2) (k : Agree A s b.2) :
    Agree A s (if c then a else b).2 := by split; exacts [h, k]

theorem Agree.ites {A : Nat} {s : State} {c : Prop} [Decidable c] {a b : Staging} (h : Agree A s a.s) (k : Agree A s b.s) :
    Agree A s (if c then a else b).s := by split; exacts [h, k]

theorem Agree.ite11 {β γ : Type} {A : Nat} {s : State} {c : Prop} [Decidable c] {a b : (State × β) × γ} (h : Agree A s a.1.1) (k : Agree A s b.1.1) :
    Agree A s (if c then a else b).1.1 := by split; exacts [h, k]

theorem Agree.iter {A : Nat} {s : State} {c : Prop} [Decidable c] {a b : Result} (h : Result.Agrees A s a) (k : Result.Agrees A s b) :
    Result.Agrees A s (if c then a else b) := by split; exacts [h, k]

/-- The number of an area's bit. -/
def Area.index : Area → Nat
  | .part => 0
  | .cycle => 1
  | .free => 2
  | .regs => 3
  | .ports => 4
  | .groups => 5
  | .spares => 6
  | .descs => 7
  | .entries => 8
  | .wave => 9
  | .memctl => 10
  | .copies => 11
  | .bobbins => 12
  | .fabric => 13
  | .timers => 14
  | .i3cA => 15
  | .i3cB => 16
  | .owner => 17
  | .bulk => 18
  | .security => 19
  | .ledger => 20
  | .faults => 21
  | .cal => 22
  | .monitors => 23
  | .trips => 24
  | .clock => 25
  | .cart => 26
  | .twin => 27
  | .health => 28
  | .life => 29
  | .nv => 30
  | .pins => 31
  | .pending => 32

theorem Agree.sameIn {A : Nat} {s t : State} (h : Agree A s t) (a : Area) (ha : A.testBit a.index = false) : s.sameIn t a := by
  cases a
  · exact h.part ha
  · exact h.cycle ha
  · exact h.free ha
  · exact h.regs ha
  · exact h.ports ha
  · exact h.groups ha
  · exact h.spares ha
  · exact h.descs ha
  · exact h.entries ha
  · exact h.wave ha
  · exact h.memctl ha
  · exact h.copies ha
  · exact h.bobbins ha
  · exact h.fabric ha
  · exact h.timers ha
  · exact h.i3cA ha
  · exact h.i3cB ha
  · exact h.owner ha
  · exact h.bulk ha
  · exact h.security ha
  · exact h.ledger ha
  · exact h.faults ha
  · exact h.cal ha
  · exact h.monitors ha
  · exact h.trips ha
  · exact h.clock ha
  · exact h.cart ha
  · exact h.twin ha
  · exact h.health ha
  · exact h.life ha
  · exact h.nv ha
  · exact h.pins ha
  · exact h.pending ha

/-- A mask and a list of areas that holds every area of the mask. -/
theorem Agree.changesOnly {A : Nat} {s t : State} {l : List Area} (h : Agree A s t)
    (hl : ∀ a : Area, A.testBit a.index = true → a ∈ l) : s.changesOnly t l := by
  intro a ha
  refine h.sameIn a ?_
  cases hb : A.testBit a.index with
  | false => rfl
  | true => exact absurd (hl a hb) ha

end Machine
end Sys2Proof
end

