-- ==== Sys2Proof/Laws/FootprintOps.lean ====
section
/-! SUPPORT. What each operation can change (Laws/Footprint.lean), for the named operations and the flag computations: every field of State outside the mask
is as it was. -/

namespace Sys2Proof
namespace Machine

/-! ### Ops -/

theorem State.setReg_agree (s : State) (a : ℕ) (w : Word) : Agree 8 s (State.setReg s a w) := by
  unfold State.setReg
  exact ((Agree.refl 8 s).setRegs rfl)

theorem State.wr_agree (s : State) (page : ℕ) (off : ℕ) (w : Word) : Agree 8 s (State.wr s page off w) := by
  unfold State.wr
  exact ((Agree.refl 8 s).step (State.setReg_agree _ _ _) rfl)

theorem State.countField_agree (s : State) (page : ℕ) (off : ℕ) (lo : ℕ) (width : ℕ) (by_ : ℕ) :
    Agree 8 s (State.countField s page off lo width by_) := by
  unfold State.countField
  extract_lets -underBinder -merge c0
  try clear_value c0
  exact ((Agree.refl 8 s).step (State.wr_agree _ _ _ _) rfl)

theorem State.count_agree (s : State) (page : ℕ) (off : ℕ) : Agree 8 s (State.count s page off) := by
  unfold State.count
  exact ((Agree.refl 8 s).step (State.countField_agree _ _ _ _ _ _) rfl)

theorem State.countMod_agree (s : State) (page : ℕ) (off : ℕ) (lo : ℕ) (width : ℕ) (by_ : ℕ) :
    Agree 8 s (State.countMod s page off lo width by_) := by
  unfold State.countMod
  extract_lets -underBinder -merge c0
  try clear_value c0
  exact ((Agree.refl 8 s).step (State.wr_agree _ _ _ _) rfl)

theorem State.mapSet_agree (s : State) (page : ℕ) (off : ℕ) (n : ℕ) (v : Bool) :
    Agree 8 s (State.mapSet s page off n v) := by
  unfold State.mapSet
  extract_lets -underBinder -merge c0
  try clear_value c0
  exact ((Agree.refl 8 s).step (State.wr_agree _ _ _ _) rfl)

theorem State.resetPage_agree (s : State) (page : ℕ) (keep : List ℕ) : Agree 8 s (State.resetPage s page keep) := by
  unfold State.resetPage
  exact ((Agree.refl 8 s).setRegs rfl)

theorem State.spend_agree (s : State) : Agree 4 s (State.spend s) := by
  unfold State.spend
  exact ((Agree.refl 4 s).setFree rfl)

theorem State.setPort_agree (s : State) (n : ℕ) (p : Port) : Agree 16 s (State.setPort s n p) := by
  unfold State.setPort
  exact ((Agree.refl 16 s).setPorts rfl)

theorem State.modPort_agree (s : State) (n : ℕ) (f : Port → Port) : Agree 16 s (State.modPort s n f) := by
  unfold State.modPort
  exact ((Agree.refl 16 s).step (State.setPort_agree _ _ _) rfl)

theorem State.setGroup_agree (s : State) (g : ℕ) (x : Group) : Agree 32 s (State.setGroup s g x) := by
  unfold State.setGroup
  exact ((Agree.refl 32 s).setGroups rfl)

theorem State.modGroup_agree (s : State) (g : ℕ) (f : Group → Group) : Agree 32 s (State.modGroup s g f) := by
  unfold State.modGroup
  exact ((Agree.refl 32 s).step (State.setGroup_agree _ _ _) rfl)

theorem State.setSpare_agree (s : State) (g : ℕ) (x : Spare) : Agree 64 s (State.setSpare s g x) := by
  unfold State.setSpare
  exact ((Agree.refl 64 s).setSpares rfl)

theorem State.modSpare_agree (s : State) (g : ℕ) (f : Spare → Spare) : Agree 64 s (State.modSpare s g f) := by
  unfold State.modSpare
  exact ((Agree.refl 64 s).step (State.setSpare_agree _ _ _) rfl)

theorem State.setTimer_agree (s : State) (t : ℕ) (x : Timer) : Agree 16384 s (State.setTimer s t x) := by
  unfold State.setTimer
  exact ((Agree.refl 16384 s).setTimers rfl)

theorem State.setStack_agree (s : State) (k : ℕ) (x : Stack) : Agree 1024 s (State.setStack s k x) := by
  unfold State.setStack
  exact ((Agree.refl 1024 s).setMemctl rfl)

theorem State.setMonitor_agree (s : State) (m : ℕ) (x : Monitor) : Agree 8388608 s (State.setMonitor s m x) := by
  unfold State.setMonitor
  exact ((Agree.refl 8388608 s).setMonitors rfl)

theorem State.setHook_agree (s : State) (a : ℕ) (h : HookState) : Agree 8192 s (State.setHook s a h) := by
  unfold State.setHook
  extract_lets -underBinder -merge c0
  try clear_value c0
  exact ((Agree.refl 8192 s).setFabric rfl)

theorem State.emitAll_agree (s : State) (es : List Emission) : Agree 8192 s (State.emitAll s es) := by
  unfold State.emitAll
  extract_lets -underBinder -merge c0
  try clear_value c0
  refine Agree.ite ?_ ?_
  · exact (Agree.refl 8192 s)
  · exact ((Agree.refl 8192 s).setFabric rfl)

theorem State.emit_agree (s : State) (code : ℕ) (hop : ℕ) : Agree 8192 s (State.emit s code hop) := by
  unfold State.emit
  exact ((Agree.refl 8192 s).step (State.emitAll_agree _ _) rfl)

theorem State.writeByte_agree (s : State) (a : ℕ) (b : Byte) : Agree 512 s (State.writeByte s a b) := by
  unfold State.writeByte
  exact ((Agree.refl 512 s).setWave rfl)

theorem State.writeBytes_agree (s : State) (a : ℕ) (l : List Byte) : Agree 512 s (s.writeBytes a l) := by
  induction l generalizing s a with
  | nil => exact Agree.refl _ _
  | cons b l ih => exact ((Agree.refl _ _).step (State.writeByte_agree _ _ _) rfl).step (ih _ _) rfl

/-! ### Flags -/

theorem State.updateIbis_agree (s : State) (before : BitVec 6) : Agree 98304 s (State.updateIbis s before) := by
  unfold State.updateIbis
  extract_lets -underBinder -merge c0
  try clear_value c0
  refine Agree.ite ?_ ?_
  · exact (Agree.refl 98304 s)
  · exact ((Agree.refl 98304 s).step (B := 98304) (by constructor <;> intro hi <;> first | rfl | cases hi) rfl)

theorem State.setFlags_agree (s : State) (p : ℕ) (bits_ : Word) : Agree 98312 s (State.setFlags s p bits_) := by
  unfold State.setFlags
  extract_lets -underBinder -merge c0
  try clear_value c0
  exact (((Agree.refl 98312 s).step (State.wr_agree _ _ _ _) rfl).step (State.updateIbis_agree _ _) rfl)

theorem State.flag_agree (s : State) (p : ℕ) (i : ℕ) : Agree 98312 s (State.flag s p i) := by
  unfold State.flag
  exact ((Agree.refl 98312 s).step (State.setFlags_agree _ _ _) rfl)

theorem State.clearFlags_agree (s : State) (p : ℕ) (bits_ : Word) : Agree 98312 s (State.clearFlags s p bits_) := by
  unfold State.clearFlags
  extract_lets -underBinder -merge c0
  try clear_value c0
  exact (((Agree.refl 98312 s).step (State.wr_agree _ _ _ _) rfl).step (State.updateIbis_agree _ _) rfl)

theorem State.setIrqen_agree (s : State) (p : ℕ) (w : Word) : Agree 98312 s (State.setIrqen s p w) := by
  unfold State.setIrqen
  extract_lets -underBinder -merge c0
  try clear_value c0
  exact (((Agree.refl 98312 s).step (State.wr_agree _ _ _ _) rfl).step (State.updateIbis_agree _ _) rfl)

theorem State.setChanStat_agree (s : State) (c : ℕ) (w : Word) : Agree 98312 s (State.setChanStat s c w) := by
  unfold State.setChanStat
  extract_lets -underBinder -merge c0
  try clear_value c0
  exact (((Agree.refl 98312 s).step (State.setReg_agree _ _ _) rfl).step (State.updateIbis_agree _ _) rfl)

theorem State.ledgerAppend_agree (s : State) (kind : ℕ) (flags : ℕ) (payload : List Byte) (content : List ℕ) :
    Agree 1048576 s (State.ledgerAppend s kind flags payload content) := by
  unfold State.ledgerAppend
  extract_lets -underBinder -merge c0 c1
  try clear_value c0
  try clear_value c1
  exact ((Agree.refl 1048576 s).setLedger rfl)

theorem State.ledgerPut_agree (s : State) (kind : ℕ) (flags : ℕ) (payload : List Byte) (content : List ℕ) :
    Agree 1146888 s (State.ledgerPut s kind flags payload content) := by
  unfold State.ledgerPut
  extract_lets -underBinder -merge c0
  try clear_value c0
  refine Agree.ite ?_ ?_
  · exact ((Agree.refl 1146888 s).step (State.ledgerAppend_agree _ _ _ _ _) rfl)
  · exact ((((Agree.refl 1146888 s).setLedger rfl).step (State.count_agree _ _ _) rfl).step (State.flag_agree _ _ _) rfl)

theorem State.ledgerCheckpoint_agree (s : State) : Agree 1146888 s (State.ledgerCheckpoint s) := by
  unfold State.ledgerCheckpoint
  extract_lets -underBinder -merge t0
  have ht0 : Agree 1146888 s t0 := by
    unfold t0
    refine Agree.ite ?_ ?_
    · exact ((Agree.refl 1146888 s).step (State.ledgerPut_agree _ _ _ _ _) rfl)
    · exact (Agree.refl 1146888 s)
  try clear_value t0
  exact (ht0.step (State.ledgerPut_agree _ _ _ _ _) rfl)

theorem State.ledgerWrite_agree (s : State) (kind : ℕ) (flags : ℕ) (payload : List Byte) (content : List ℕ) :
    Agree 1146888 s (State.ledgerWrite s kind flags payload content) := by
  unfold State.ledgerWrite
  extract_lets -underBinder -merge t0 c1 c2 t3
  have ht0 : Agree 1146888 s t0 := ((Agree.refl 1146888 s).step (State.ledgerPut_agree _ _ _ _ _) rfl)
  try clear_value t0
  try clear_value c1
  try clear_value c2
  have ht3 : Agree 1146888 s t3 := (ht0.setLedger rfl)
  try clear_value t3
  refine Agree.ite ?_ ?_
  · refine Agree.ite ?_ ?_
    · exact (ht3.step (State.ledgerCheckpoint_agree _) rfl)
    · exact ht3
  · exact ((Agree.refl 1146888 s).step (State.ledgerPut_agree _ _ _ _ _) rfl)

theorem State.ledgerNote_agree (s : State) (kind : ℕ) (content : List ℕ) :
    Agree 1146888 s (State.ledgerNote s kind content) := by
  unfold State.ledgerNote
  exact ((Agree.refl 1146888 s).step (State.ledgerWrite_agree _ _ _ _ _) rfl)

theorem State.ledgerCommit_agree (s : State) (pages : List ℕ) : Agree 1146888 s (State.ledgerCommit s pages) := by
  unfold State.ledgerCommit
  extract_lets -underBinder -merge c0 c1
  try clear_value c0
  subst c1
  beta_reduce
  refine Agree.ite ?_ ?_
  · exact ((Agree.refl 1146888 s).setLedger rfl)
  · exact ((Agree.refl 1146888 s).step (State.ledgerNote_agree _ _ _) rfl)

theorem State.pageFault_agree (s : State) (page : ℕ) (code : ℕ) : Agree 8 s (State.pageFault s page code) := by
  unfold State.pageFault
  extract_lets -underBinder -merge c0
  try clear_value c0
  exact ((Agree.refl 8 s).step (State.wr_agree _ _ _ _) rfl)

theorem State.logFault_agree (s : State) (page : ℕ) (code : ℕ) (detail : Word) :
    Agree 2195464 s (State.logFault s page code detail) := by
  unfold State.logFault
  extract_lets -underBinder -merge c0 c1 c2 t3 t4
  try clear_value c0
  try clear_value c1
  try clear_value c2
  have ht3 : Agree 2195464 s t3 := ((Agree.refl 2195464 s).setFaults rfl)
  try clear_value t3
  have ht4 : Agree 2195464 s t4 := (ht3.step (State.wr_agree _ _ _ _) rfl)
  try clear_value t4
  exact ((ht4.step (State.wr_agree _ _ _ _) rfl).step (State.flag_agree _ _ _) rfl)

theorem State.fault_agree (s : State) (page : ℕ) (code : ℕ) (detail : Word) :
    Agree 2203656 s (State.fault s page code detail) := by
  unfold State.fault
  extract_lets -underBinder -merge t0
  have ht0 : Agree 2203656 s t0 := (((Agree.refl 2203656 s).step (State.pageFault_agree _ _ _) rfl).step (State.logFault_agree _ _ _ _) rfl)
  try clear_value t0
  refine Agree.ite ?_ ?_
  · exact ht0
  · exact (ht0.step (State.emitAll_agree _ _) rfl)

end Machine
end Sys2Proof
end

