-- ==== Sys2Proof/Laws/FootprintPlay.lean ====
section
/-! SUPPORT. What each operation can change (Laws/Footprint.lean), for playing: output, streaming, swatches, sequences, slot boundaries: every field of State outside the mask
is as it was. -/

namespace Sys2Proof
namespace Machine

/-! ### Output -/

theorem State.settleOver_agree (s : State) (n : ℕ) : Agree 98328 s (State.settleOver s n) := by
  unfold State.settleOver
  extract_lets -underBinder -merge c0 c1 t2
  try clear_value c0
  try clear_value c1
  have ht2 : Agree 98328 s t2 := ((Agree.refl 98328 s).step (State.setPort_agree _ _ _) rfl)
  try clear_value t2
  refine Agree.ite ?_ ?_
  · exact (Agree.refl 98328 s)
  · refine Agree.ite ?_ ?_
    · exact (ht2.step (State.flag_agree _ _ _) rfl)
    · exact ht2

theorem State.contribute_agree (s : State) (n : ℕ) (plays : List ℕ) :
    Agree 134217728 s (State.contribute s n plays) := by
  unfold State.contribute
  extract_lets -underBinder -merge c0 c1 c2 c3 c4
  try clear_value c0
  try clear_value c1
  try clear_value c2
  try clear_value c3
  try clear_value c4
  refine Agree.ite ?_ ?_
  · exact (Agree.refl 134217728 s)
  · exact ((Agree.refl 134217728 s).setTwin rfl)

theorem State.playSlot_agree (s : State) (n : ℕ) (c : Content) (acts : Acts) (lost : Bool) :
    Agree 134316056 s (State.playSlot s n c acts lost).1 := by
  unfold State.playSlot
  extract_lets -underBinder -merge c0 c1 c2 c3 c4 c5 c6 c7 c8 c9 c10 c11 c12 c13 c14 c15 t16 t17 c18
  try clear_value c0
  try clear_value c1
  try clear_value c2
  try clear_value c3
  try clear_value c4
  try clear_value c5
  try clear_value c6
  try clear_value c7
  try clear_value c8
  try clear_value c9
  try clear_value c10
  try clear_value c11
  subst c12
  try clear_value c13
  try clear_value c14
  try clear_value c15
  have ht16 : Agree 134316056 s t16 := ((Agree.refl 134316056 s).step (State.setPort_agree _ _ _) rfl)
  try clear_value t16
  have ht17 : Agree 134316056 s t17 := by
    unfold t17
    refine Agree.ite ?_ ?_
    · exact (ht16.step (State.flag_agree _ _ _) rfl)
    · exact ht16
  try clear_value t17
  try clear_value c18
  exact (ht17.step (State.contribute_agree _ _ _) rfl).fst

/-! ### Stream -/

theorem State.issueRead_agree (s : State) (x : ℕ × Bool × Fetched) : Agree 16 s (State.issueRead s x) := by
  unfold State.issueRead
  extract_lets -underBinder -merge c0
  subst c0
  exact ((Agree.refl 16 s).step (State.modPort_agree _ _ _) rfl)

theorem State.issueReads_agree (s : State) : Agree 16 s (State.issueReads s) := by
  unfold State.issueReads
  refine Agree.foldl1 (fun t0 x0 h0 => ?_) ?_
  · extract_lets -underBinder -merge c1 c2
    try clear_value c1
    try clear_value c2
    refine Agree.ite1 ?_ ?_
    · exact h0
    · refine Agree.fst ?_
      refine Agree.ite ?_ ?_
      · exact (h0.step (State.issueRead_agree _ _) rfl)
      · exact h0
  · exact (Agree.refl 16 s).fst

theorem State.notePeak_agree (s : State) (low : Bool) : Agree 8 s (State.notePeak s low) := by
  unfold State.notePeak
  extract_lets -underBinder -merge c0 c1
  try clear_value c0
  try clear_value c1
  exact ((Agree.refl 8 s).step (State.wr_agree _ _ _ _) rfl)

theorem State.lowReads_agree (s : State) : Agree 12 s (State.lowReads s) := by
  unfold State.lowReads
  exact (((Agree.refl 12 s).step (State.notePeak_agree _ _) rfl).step (State.spend_agree _) rfl)

theorem State.refetchPass_agree (s : State) (n : ℕ) (entry : ℕ) (pass : ℕ) (word : BitVec 256) (rows : Vector (BitVec 16) 4) : Agree 16 s (State.refetchPass s n entry pass word rows) := by
  unfold State.refetchPass
  exact ((Agree.refl 16 s).step (State.modPort_agree _ _ _) rfl)

theorem State.requestGranule_agree (s : State) (n : ℕ) : Agree 24 s (State.requestGranule s n) := by
  unfold State.requestGranule
  extract_lets -underBinder -merge c0
  try clear_value c0
  split
  · exact (Agree.refl 24 s)
  · refine Agree.ite ?_ ?_
    · exact (Agree.refl 24 s)
    · split
      · extract_lets -underBinder -merge c1
        try clear_value c1
        exact ((Agree.refl 24 s).step (State.setPort_agree _ _ _) rfl)
      · extract_lets -underBinder -merge c2 c3 c4 c5 c6
        try clear_value c2
        try clear_value c3
        try clear_value c4
        try clear_value c5
        try clear_value c6
        refine Agree.ite ?_ ?_
        · exact (((Agree.refl 24 s).step (State.refetchPass_agree _ _ _ _ _ _) rfl).step (State.modPort_agree _ _ _) rfl)
        · refine Agree.ite ?_ ?_
          · exact (Agree.refl 24 s)
          · exact (((Agree.refl 24 s).step (State.setPort_agree _ _ _) rfl).step (State.notePeak_agree _ _) rfl)

theorem State.dataFault_agree (s : State) (n : ℕ) (addr : ℕ) (flagBit : Option ℕ) :
    Agree 98312 s (State.dataFault s n addr flagBit) := by
  unfold State.dataFault
  extract_lets -underBinder -merge c0 t1
  try clear_value c0
  have ht1 : Agree 98312 s t1 := ((((Agree.refl 98312 s).step (State.count_agree _ _ _) rfl).step (State.wr_agree _ _ _ _) rfl).step (State.wr_agree _ _ _ _) rfl)
  try clear_value t1
  split
  · exact (ht1.step (State.flag_agree _ _ _) rfl)
  · exact ht1

theorem State.bridgeFault_agree (s : State) (n : ℕ) (x2 : Option ℕ) : Agree 98312 s (State.bridgeFault s n x2) := by
  unfold State.bridgeFault
  split
  · exact ((Agree.refl 98312 s).step (State.dataFault_agree _ _ _ _) rfl)
  · exact (((Agree.refl 98312 s).step (State.count_agree _ _ _) rfl).step (State.flag_agree _ _ _) rfl)

theorem State.granuleFault_agree (s : State) (n : ℕ) (addr : ℕ) : Agree 98328 s (State.granuleFault s n addr) := by
  unfold State.granuleFault
  extract_lets -underBinder -merge t0
  have ht0 : Agree 98328 s t0 := ((Agree.refl 98328 s).step (State.dataFault_agree _ _ _ _) rfl)
  try clear_value t0
  refine Agree.ite ?_ ?_
  · exact (ht0.step (State.modPort_agree _ _ _) rfl)
  · exact ht0

theorem State.crcArrive_agree (s : State) (n : ℕ) (f : Fetched) : Agree 98332 s (State.crcArrive s n f) := by
  unfold State.crcArrive
  extract_lets -underBinder -merge c0
  try clear_value c0
  split
  · exact (Agree.refl 98332 s)
  · extract_lets -underBinder -merge c1 t2 c3 c4 c5 t6
    try clear_value c1
    have ht2 : Agree 98332 s t2 := by
      unfold t2
      refine Agree.ite ?_ ?_
      · exact ((Agree.refl 98332 s).step (State.spend_agree _) rfl)
      · exact (Agree.refl 98332 s)
    try clear_value t2
    try clear_value c3
    try clear_value c4
    try clear_value c5
    have ht6 : Agree 98332 s t6 := (ht2.step (State.setPort_agree _ _ _) rfl)
    try clear_value t6
    refine Agree.ite ?_ ?_
    · exact (ht2.step (State.setPort_agree _ _ _) rfl)
    · refine Agree.ite ?_ ?_
      · exact ht6
      · exact (ht6.step (State.dataFault_agree _ _ _ _) rfl)

theorem State.releaseData_agree (s : State) (n : ℕ) : Agree 2064 s (State.releaseData s n) := by
  unfold State.releaseData
  extract_lets -underBinder -merge c0
  try clear_value c0
  exact (((Agree.refl 2064 s).setCopies rfl).step (State.modPort_agree _ _ _) rfl)

/-! ### Swatch -/

theorem State.setAdc_agree (s : State) (k : ℕ) (x : Option Swatch) : Agree 4194304 s (State.setAdc s k x) := by
  unfold State.setAdc
  extract_lets -underBinder -merge c0 c1
  try clear_value c0
  try clear_value c1
  refine Agree.ite ?_ ?_
  · exact ((Agree.refl 4194304 s).setCal rfl)
  · exact ((Agree.refl 4194304 s).setCal rfl)

theorem State.setCalItem_agree (s : State) (item : ℕ) (x : CalItem) :
    Agree 4194304 s (State.setCalItem s item x) := by
  unfold State.setCalItem
  extract_lets -underBinder -merge c0
  try clear_value c0
  exact ((Agree.refl 4194304 s).setCal rfl)

theorem State.calResult_agree (s : State) (result : ℕ) (reason : ℕ) (item : ℕ) :
    Agree 4292616 s (State.calResult s result reason item) := by
  unfold State.calResult
  extract_lets -underBinder -merge t0 c1
  have ht0 : Agree 4292616 s t0 := (((Agree.refl 4292616 s).step (State.wr_agree _ _ _ _) rfl).step (State.flag_agree _ _ _) rfl)
  try clear_value t0
  try clear_value c1
  refine Agree.ite ?_ ?_
  · exact (ht0.step (State.setCalItem_agree _ _ _) rfl)
  · exact ht0

theorem State.setRotation_agree (s : State) (g : ℕ) (r : Rotation) (item : ℕ) :
    Agree 4194304 s (State.setRotation s g r item) := by
  unfold State.setRotation
  extract_lets -underBinder -merge c0
  try clear_value c0
  exact ((Agree.refl 4194304 s).setCal rfl)

theorem State.releaseSwatch_agree (s : State) (x : Swatch) : Agree 80 s (State.releaseSwatch s x) := by
  unfold State.releaseSwatch
  extract_lets -underBinder -merge t0
  have ht0 : Agree 80 s t0 := by
    unfold t0
    split
    · exact ((Agree.refl 80 s).step (State.modPort_agree _ _ _) rfl)
    · exact (Agree.refl 80 s)
  try clear_value t0
  split
  · exact (ht0.step (State.modSpare_agree _ _ _) rfl)
  · exact ht0

theorem State.legacyOn_agree (s : State) : Agree 5341192 s (State.legacyOn s) := by
  unfold State.legacyOn
  extract_lets -underBinder -merge c0
  subst c0
  beta_reduce
  split
  · extract_lets -underBinder -merge c1
    try clear_value c1
    refine Agree.ite ?_ ?_
    · exact (((Agree.refl 5341192 s).setCal rfl).step (State.ledgerNote_agree _ _ _) rfl)
    · exact (Agree.refl 5341192 s)
  · exact (Agree.refl 5341192 s)

theorem State.legacyNote_agree (s : State) (result : ℕ) : Agree 4194304 s (State.legacyNote s result) := by
  unfold State.legacyNote
  extract_lets -underBinder -merge c0
  try clear_value c0
  exact ((Agree.refl 4194304 s).setCal rfl)

theorem State.abortSwatch_agree (s : State) (k : ℕ) (reason : ℕ) :
    Agree 5341272 s (State.abortSwatch s k reason) := by
  unfold State.abortSwatch
  split
  · exact (Agree.refl 5341272 s)
  · extract_lets -underBinder -merge t0
    have ht0 : Agree 5341272 s t0 := (((Agree.refl 5341272 s).step (State.setAdc_agree _ _ _) rfl).step (State.releaseSwatch_agree _ _) rfl)
    try clear_value t0
    refine Agree.ite ?_ ?_
    · exact (ht0.step (State.legacyOn_agree _) rfl)
    · refine Agree.ite ?_ ?_
      · exact (((ht0.step (State.calResult_agree _ _ _ _) rfl).step (State.legacyNote_agree _ _) rfl).step (State.legacyOn_agree _) rfl)
      · exact (ht0.step (State.calResult_agree _ _ _ _) rfl)

theorem State.abortWhere_agree (s : State) (f : Swatch → Bool) (reason : ℕ) :
    Agree 5341272 s (State.abortWhere s f reason) := by
  unfold State.abortWhere
  refine Agree.foldl (fun t0 x0 h0 => ?_) ?_
  · split
    · refine Agree.ite ?_ ?_
      · exact (h0.step (State.abortSwatch_agree _ _ _) rfl)
      · exact h0
    · exact h0
  · exact (Agree.refl 5341272 s)

theorem State.abortPort_agree (s : State) (n : ℕ) (reason : ℕ) : Agree 5341272 s (State.abortPort s n reason) := by
  unfold State.abortPort
  exact ((Agree.refl 5341272 s).step (State.abortWhere_agree _ _ _) rfl)

theorem State.abortSpare_agree (s : State) (g : ℕ) (reason : ℕ) : Agree 5341272 s (State.abortSpare s g reason) := by
  unfold State.abortSpare
  exact ((Agree.refl 5341272 s).step (State.abortWhere_agree _ _ _) rfl)

theorem State.endDelaySwatch_agree (s : State) (n : ℕ) : Agree 5341276 s (State.endDelaySwatch s n) := by
  unfold State.endDelaySwatch
  extract_lets -underBinder -merge c0
  subst c0
  beta_reduce
  refine Agree.ite ?_ ?_
  · exact (((Agree.refl 5341276 s).step (State.abortWhere_agree _ _ _) rfl).step (State.spend_agree _) rfl)
  · exact (Agree.refl 5341276 s)

theorem State.abortAll_agree (s : State) (reason : ℕ) : Agree 5341272 s (State.abortAll s reason) := by
  unfold State.abortAll
  exact ((Agree.refl 5341272 s).step (State.abortWhere_agree _ _ _) rfl)

/-! ### Sequence -/

theorem State.setPlayhead_agree (s : State) (u : SeqUnit) (ph : Playhead) :
    Agree 48 s (State.setPlayhead s u ph) := by
  unfold State.setPlayhead
  split
  · exact ((Agree.refl 48 s).step (State.modPort_agree _ _ _) rfl)
  · exact ((Agree.refl 48 s).step (State.modGroup_agree _ _ _) rfl)

theorem State.modPlayhead_agree (s : State) (u : SeqUnit) (f : Playhead → Playhead) :
    Agree 48 s (State.modPlayhead s u f) := by
  unfold State.modPlayhead
  exact ((Agree.refl 48 s).step (State.setPlayhead_agree _ _ _) rfl)

theorem State.latch_agree (s : State) (u : SeqUnit) (what : Latched) (hop : ℕ) :
    Agree 48 s (State.latch s u what hop) := by
  unfold State.latch
  extract_lets -underBinder -merge c0
  try clear_value c0
  exact ((Agree.refl 48 s).step (State.modPlayhead_agree _ _ _) rfl)

theorem State.takeHeld_agree (s : State) (n : ℕ) (mask : Word) : Agree 16 s (State.takeHeld s n mask) := by
  unfold State.takeHeld
  extract_lets -underBinder -merge c0 c1 c2 c3 c4 c5 c6 c7 c8 c9 c10
  try clear_value c0
  try clear_value c1
  try clear_value c2
  try clear_value c3
  try clear_value c4
  try clear_value c5
  subst c6
  try clear_value c7
  try clear_value c8
  try clear_value c9
  try clear_value c10
  exact ((Agree.refl 16 s).step (State.setPort_agree _ _ _) rfl)

theorem State.applyHeld_agree (s : State) (n : ℕ) : Agree 16 s (State.applyHeld s n) := by
  unfold State.applyHeld
  refine Agree.ite ?_ ?_
  · exact (Agree.refl 16 s)
  · exact ((Agree.refl 16 s).step (State.takeHeld_agree _ _ _) rfl)

theorem State.takeHeldNow_agree (s : State) (n : ℕ) : Agree 16 s (State.takeHeldNow s n) := by
  unfold State.takeHeldNow
  refine Agree.ite ?_ ?_
  · exact ((Agree.refl 16 s).step (State.applyHeld_agree _ _) rfl)
  · exact (Agree.refl 16 s)

theorem State.transfer_agree (s : State) (n : ℕ) (ncoOnly : Bool) : Agree 16 s (State.transfer s n ncoOnly) := by
  unfold State.transfer
  extract_lets -underBinder -merge c0 c1 c2 c3 c4 c5 t6 c7 c8 c9 c10
  try clear_value c0
  try clear_value c1
  try clear_value c2
  try clear_value c3
  try clear_value c4
  try clear_value c5
  have ht6 : Agree 16 s t6 := by
    unfold t6
    refine Agree.ite ?_ ?_
    · exact (Agree.refl 16 s)
    · exact ((Agree.refl 16 s).step (State.setPort_agree _ _ _) rfl)
  try clear_value t6
  try clear_value c7
  try clear_value c8
  try clear_value c9
  try clear_value c10
  refine Agree.ite ?_ ?_
  · exact ht6
  · exact (ht6.step (State.setPort_agree _ _ _) rfl)

theorem State.transferNow_agree (s : State) (n : ℕ) : Agree 16 s (State.transferNow s n) := by
  unfold State.transferNow
  extract_lets -underBinder -merge c0
  try clear_value c0
  refine Agree.step ?_ (State.modPort_agree _ _ _) rfl
  refine Agree.foldl (fun t1 x1 h1 => ?_) ?_
  · exact (h1.step (State.transfer_agree _ _ _) rfl)
  · exact (Agree.refl 16 s)

theorem State.leaveGroup_agree (s : State) (n : ℕ) : Agree 48 s (State.leaveGroup s n) := by
  unfold State.leaveGroup
  split
  · exact (Agree.refl 48 s)
  · extract_lets -underBinder -merge c0 t1
    try clear_value c0
    have ht1 : Agree 48 s t1 := (((Agree.refl 48 s).step (State.modPort_agree _ _ _) rfl).step (State.modGroup_agree _ _ _) rfl)
    try clear_value t1
    refine Agree.ite ?_ ?_
    · exact (ht1.step (State.modGroup_agree _ _ _) rfl)
    · exact ht1

theorem State.toParked_agree (s : State) (n : ℕ) (st : UState) : Agree 2096 s (State.toParked s n st) := by
  unfold State.toParked
  extract_lets -underBinder -merge t0
  have ht0 : Agree 2096 s t0 := (((Agree.refl 2096 s).step (State.leaveGroup_agree _ _) rfl).step (State.releaseData_agree _ _) rfl)
  try clear_value t0
  exact (ht0.step (State.modPort_agree _ _ _) rfl)

theorem State.parkAt_agree (s : State) (n : ℕ) (kind : ParkKind) : Agree 2096 s (State.parkAt s n kind) := by
  unfold State.parkAt
  extract_lets -underBinder -merge c0 c1
  try clear_value c0
  try clear_value c1
  exact ((((Agree.refl 2096 s).step (State.toParked_agree _ _ _) rfl).step (State.modPort_agree _ _ _) rfl).step (State.applyHeld_agree _ _) rfl)

theorem State.stepOutput_agree (s : State) (n : ℕ) : Agree 98328 s (State.stepOutput s n) := by
  unfold State.stepOutput
  extract_lets -underBinder -merge c0 c1 t2 c3
  try clear_value c0
  try clear_value c1
  have ht2 : Agree 98328 s t2 := ((Agree.refl 98328 s).step (State.setPort_agree _ _ _) rfl)
  try clear_value t2
  try clear_value c3
  exact ((ht2.step (State.setPort_agree _ _ _) rfl).step (State.settleOver_agree _ _) rfl)

theorem State.countLate_agree (s : State) (u : SeqUnit) : Agree 98312 s (State.countLate s u) := by
  unfold State.countLate
  extract_lets -underBinder -merge c0
  try clear_value c0
  exact (((Agree.refl 98312 s).step (State.count_agree _ _ _) rfl).step (State.flag_agree _ _ _) rfl)

theorem State.settleJudged_agree (s : State) (u : SeqUnit) : Agree 98360 s (State.settleJudged s u) := by
  unfold State.settleJudged
  refine Agree.ite ?_ ?_
  · exact (((Agree.refl 98360 s).step (State.countLate_agree _ _) rfl).step (State.modPlayhead_agree _ _ _) rfl)
  · exact (Agree.refl 98360 s)

theorem State.cutPass_agree (s : State) (n : ℕ) : Agree 8192 s (State.cutPass s n) := by
  unfold State.cutPass
  refine Agree.ite ?_ ?_
  · exact ((Agree.refl 8192 s).step (State.emit_agree _ _ _) rfl)
  · exact (Agree.refl 8192 s)

theorem State.parkAtOnce_agree (s : State) (n : ℕ) : Agree 108600 s (State.parkAtOnce s n) := by
  unfold State.parkAtOnce
  split
  · exact (Agree.refl 108600 s)
  · exact (Agree.refl 108600 s)
  · exact (Agree.refl 108600 s)
  · exact ((((((Agree.refl 108600 s).step (State.settleJudged_agree _ _) rfl).step (State.cutPass_agree _ _) rfl).step (State.transferNow_agree _ _) rfl).step (State.toParked_agree _ _ _) rfl).step (State.stepOutput_agree _ _) rfl)

theorem State.settleRequest_agree (s : State) (u : SeqUnit) : Agree 48 s (State.settleRequest s u) := by
  unfold State.settleRequest
  extract_lets -underBinder -merge t0
  have ht0 : Agree 48 s t0 := by
    unfold t0
    refine Agree.foldl (fun t1 x1 h1 => ?_) ?_
    · exact (h1.step (State.modPort_agree _ _ _) rfl)
    · exact (Agree.refl 48 s)
  try clear_value t0
  refine Agree.ite ?_ ?_
  · exact (Agree.refl 48 s)
  · split
    · exact ht0
    · exact (ht0.step (State.modGroup_agree _ _ _) rfl)

theorem State.handedOver_agree (s : State) (g : ℕ) (n : ℕ) : Agree 98312 s (State.handedOver s g n) := by
  unfold State.handedOver
  exact ((((Agree.refl 98312 s).step (State.flag_agree _ _ _) rfl).step (State.count_agree _ _ _) rfl).step (State.flag_agree _ _ _) rfl)

theorem State.spareReturns_agree (s : State) (n : ℕ) : Agree 98376 s (State.spareReturns s n) := by
  unfold State.spareReturns
  extract_lets -underBinder -merge c0 c1
  try clear_value c0
  try clear_value c1
  refine Agree.ite ?_ ?_
  · exact (((Agree.refl 98376 s).step (State.setSpare_agree _ _ _) rfl).step (State.handedOver_agree _ _ _) rfl)
  · exact (Agree.refl 98376 s)

theorem State.passSlot_agree (s : State) (u : SeqUnit) (frozen : Bool) :
    Agree 98424 s (State.passSlot s u frozen) := by
  unfold State.passSlot
  extract_lets -underBinder -merge t0 c1 c2 t3 t4
  have ht0 : Agree 98424 s t0 := ((Agree.refl 98424 s).step (State.settleJudged_agree _ _) rfl)
  try clear_value t0
  try clear_value c1
  subst c2
  have ht3 : Agree 98424 s t3 := by
    unfold t3
    beta_reduce
    refine Agree.foldl (fun t5 x5 h5 => ?_) ?_
    · exact ((h5.step (State.modPort_agree _ _ _) rfl).step (State.spareReturns_agree _ _) rfl)
    · exact ht0
  try clear_value t3
  have ht4 : Agree 98424 s t4 := by
    unfold t4
    beta_reduce
    split
    · exact ht3
    · exact (ht3.step (State.modGroup_agree _ _ _) rfl)
  try clear_value t4
  refine Agree.ite ?_ ?_
  · exact (ht4.step (State.settleRequest_agree _ _) rfl)
  · exact ht4

theorem State.endMerge_agree (s : State) (u : SeqUnit) : Agree 16 s (State.endMerge s u) := by
  unfold State.endMerge
  refine Agree.foldl (fun t0 x0 h0 => ?_) ?_
  · exact (h0.step (State.modPort_agree _ _ _) rfl)
  · exact (Agree.refl 16 s)

theorem Played.slot_agree (r : Played) (n : ℕ) (c : Content) (acts : Acts) (lost : Bool) :
    Agree 134316056 r.1 (Played.slot r n c acts lost).1 := by
  unfold Played.slot
  extract_lets -underBinder -merge t0
  have ht0 : Agree 134316056 r.1 t0.1 := ((Agree.refl 134316056 r.1).step (State.playSlot_agree _ _ _ _ _) rfl)
  try clear_value t0
  exact ht0.fst

theorem Played.rest_agree (r : Played) (n : ℕ) (c : Content) (acts : Acts) (errs : SlotErrors) :
    Agree 134316056 r.1 (Played.rest r n c acts errs).1 := by
  unfold Played.rest
  extract_lets -underBinder -merge c0
  try clear_value c0
  refine Agree.step ?_ (Played.slot_agree _ _ _ _ _) rfl
  refine Agree.ite1 ?_ ?_
  · exact ((Agree.refl 134316056 r.1).step (State.bridgeFault_agree _ _ _) rfl).fst
  · exact (Agree.refl 134316056 r.1)

theorem State.episodeOver_agree (s : State) (n : ℕ) : Agree 16 s (State.episodeOver s n) := by
  unfold State.episodeOver
  exact ((Agree.refl 16 s).step (State.modPort_agree _ _ _) rfl)

theorem Played.underrun_agree (r : Played) (n : ℕ) (i : ℕ) (member : Bool) :
    Agree 100408 r.1 (Played.underrun r n i member).1.1 := by
  unfold Played.underrun
  extract_lets -underBinder -merge t0 c1 c2 c3 t4 c5
  have ht0 : Agree 100408 r.1 t0 := (Agree.refl 100408 r.1)
  try clear_value t0
  try clear_value c1
  try clear_value c2
  try clear_value c3
  have ht4 : Agree 100408 r.1 t4.1 := by
    unfold t4
    refine Agree.ite1 ?_ ?_
    · exact (Agree.refl 100408 r.1)
    · exact (((ht0.step (State.count_agree _ _ _) rfl).step (State.flag_agree _ _ _) rfl).step (State.modPort_agree _ _ _) rfl).fst
  try clear_value t4
  try clear_value c5
  refine Agree.ite11 ?_ ?_
  · exact (Agree.refl 100408 r.1)
  · refine Agree.ite11 ?_ ?_
    · exact (ht4.step (State.parkAt_agree _ _ _) rfl).fst
    · refine Agree.ite11 ?_ ?_
      · exact (ht4.step (State.modPort_agree _ _ _) rfl).fst
      · exact ht4

theorem Played.granule_agree (r : Played) (n : ℕ) (i : ℕ) (acts : Acts) (errs : SlotErrors) (member : Bool) :
    Agree 136423480 r.1 (Played.granule r n i acts errs member).1 := by
  unfold Played.granule
  extract_lets -underBinder -merge c0 c1 c2 c3 t4 c5 c6 c7
  try clear_value c0
  try clear_value c1
  try clear_value c2
  try clear_value c3
  have ht4 : Agree 136423480 r.1 t4 := by
    unfold t4
    refine Agree.ite ?_ ?_
    · exact ((Agree.refl 136423480 r.1).step (State.bridgeFault_agree _ _ _) rfl)
    · exact (Agree.refl 136423480 r.1)
  try clear_value t4
  try clear_value c5
  subst c6
  subst c7
  beta_reduce
  refine Agree.ite1 ?_ ?_
  · refine Agree.step ?_ (Played.slot_agree _ _ _ _ _) rfl
    refine Agree.fst ?_
    refine Agree.step ?_ (State.episodeOver_agree _ _) rfl
    refine Agree.ite ?_ ?_
    · exact (ht4.step (State.dataFault_agree _ _ _ _) rfl)
    · exact ht4
  · refine Agree.ite1 ?_ ?_
    · exact ((ht4.step (State.episodeOver_agree _ _) rfl).fst.step (Played.slot_agree _ _ _ _ _) rfl)
    · split
      · split
        · extract_lets -underBinder -merge c8
          try clear_value c8
          refine Agree.ite1 ?_ ?_
          · exact ((((ht4.step (State.granuleFault_agree _ _ _) rfl).step (State.fault_agree _ _ _ _) rfl).step (State.episodeOver_agree _ _) rfl).fst.step (Played.slot_agree _ _ _ _ _) rfl)
          · exact (((ht4.step (State.episodeOver_agree _ _) rfl).step (State.modPort_agree _ _ _) rfl).fst.step (Played.slot_agree _ _ _ _ _) rfl)
        · exact (((ht4.step (State.granuleFault_agree _ _ _) rfl).step (State.episodeOver_agree _ _) rfl).fst.step (Played.slot_agree _ _ _ _ _) rfl)
      · split
        · extract_lets -underBinder -merge t9
          have ht9 : Agree 136423480 r.1 t9 := (ht4.step (State.modPort_agree _ _ _) rfl)
          try clear_value t9
          split
          · extract_lets -underBinder -merge c10
            try clear_value c10
            refine Agree.ite1 ?_ ?_
            · exact ((((ht9.step (State.granuleFault_agree _ _ _) rfl).step (State.fault_agree _ _ _ _) rfl).step (State.episodeOver_agree _ _) rfl).fst.step (Played.slot_agree _ _ _ _ _) rfl)
            · exact (((ht9.step (State.episodeOver_agree _ _) rfl).step (State.modPort_agree _ _ _) rfl).fst.step (Played.slot_agree _ _ _ _ _) rfl)
          · exact (((ht9.step (State.granuleFault_agree _ _ _) rfl).step (State.episodeOver_agree _ _) rfl).fst.step (Played.slot_agree _ _ _ _ _) rfl)
        · extract_lets -underBinder -merge c11 t12 c13
          try clear_value c11
          have ht12 : Agree 136423480 r.1 t12.1.1 := (ht4.fst.step (Played.underrun_agree _ _ _ _) rfl)
          try clear_value t12
          try clear_value c13
          refine Agree.ite1 ?_ ?_
          · exact (((ht4.step (State.granuleFault_agree _ _ _) rfl).step (State.episodeOver_agree _ _) rfl).fst.step (Played.slot_agree _ _ _ _ _) rfl)
          · exact (ht12.step (Played.slot_agree _ _ _ _ _) rfl)

theorem State.playGranule_agree (s : State) (u : SeqUnit) (acts : Acts) (errs : SlotErrors) (evs : List (ℕ × ℕ)) :
    Agree 136423480 s (State.playGranule s u acts errs evs).1 := by
  unfold State.playGranule
  extract_lets -underBinder -merge c0 c1 c2 c3 t4
  try clear_value c0
  try clear_value c1
  try clear_value c2
  try clear_value c3
  have ht4 : Agree 136423480 s t4.1 := by
    unfold t4
    refine Agree.foldl1 (fun t5 x5 h5 => ?_) ?_
    · exact (h5.step (Played.granule_agree _ _ _ _ _ _) rfl)
    · exact (Agree.refl 136423480 s).fst
  try clear_value t4
  refine Agree.foldl1 (fun t6 x6 h6 => ?_) ?_
  · extract_lets -underBinder -merge c7
    try clear_value c7
    exact h6.fst
  · exact ht4

theorem State.playAll_agree (s : State) (u : SeqUnit) (c : Content) (acts : Acts) (errs : SlotErrors) (evs : List (ℕ × ℕ)) : Agree 134316056 s (State.playAll s u c acts errs evs).1 := by
  unfold State.playAll
  refine Agree.foldl1 (fun t0 x0 h0 => ?_) ?_
  · refine Agree.step ?_ (Played.rest_agree _ _ _ _ _) rfl
    refine Agree.ite1 ?_ ?_
    · exact h0
    · exact (h0.step (State.episodeOver_agree _ _) rfl).fst
  · exact (Agree.refl 134316056 s).fst

theorem Played.done_agree (r : Played) (hop : ℕ) : Agree 8192 r.1 (Played.done r hop) := by
  unfold Played.done
  exact ((Agree.refl 8192 r.1).step (State.emitAll_agree _ _) rfl)

theorem State.parkUnit_agree (s : State) (u : SeqUnit) (kind : ℕ → ParkKind) :
    Agree 2096 s (State.parkUnit s u kind) := by
  unfold State.parkUnit
  extract_lets -underBinder -merge c0 c1 t2
  try clear_value c0
  try clear_value c1
  have ht2 : Agree 2096 s t2 := by
    unfold t2
    refine Agree.foldl (fun t3 x3 h3 => ?_) ?_
    · exact (h3.step (State.parkAt_agree _ _ _) rfl)
    · exact (Agree.refl 2096 s)
  try clear_value t2
  split
  · exact ht2
  · exact (ht2.step (State.modGroup_agree _ _ _) rfl)

theorem State.beginPass_agree (s : State) (u : SeqUnit) (entry : ℕ) (pass : ℕ) (word : BitVec 256) (acts : Acts) (errs : SlotErrors) (evs : List (ℕ × ℕ)) : Agree 136423480 s (State.beginPass s u entry pass word acts errs evs).1 := by
  unfold State.beginPass
  extract_lets -underBinder -merge c0 c1 c2 t3 c4 t5
  try clear_value c0
  try clear_value c1
  try clear_value c2
  have ht3 : Agree 136423480 s t3 := by
    unfold t3
    refine Agree.foldl (fun t6 x6 h6 => ?_) ?_
    · extract_lets -underBinder -merge c7 t8
      try clear_value c7
      have ht8 : Agree 136423480 s t8 := by
        unfold t8
        refine Agree.ite ?_ ?_
        · exact (h6.step (State.refetchPass_agree _ _ _ _ _ _) rfl)
        · exact h6
      try clear_value t8
      exact (ht8.step (State.modPort_agree _ _ _) rfl)
    · exact (Agree.refl 136423480 s)
  try clear_value t3
  try clear_value c4
  have ht5 : Agree 136423480 s t5 := (ht3.step (State.modPlayhead_agree _ _ _) rfl)
  try clear_value t5
  exact (ht5.step (State.playGranule_agree _ _ _ _ _) rfl)

theorem State.follow_agree (s : State) (u : SeqUnit) (f : Follow) (acts : Acts) (errs : SlotErrors) (evs : List (ℕ × ℕ)) : Agree 136423480 s (State.follow s u f acts errs evs).1 := by
  unfold State.follow
  extract_lets -underBinder -merge c0
  try clear_value c0
  split
  · extract_lets -underBinder -merge c1 t2 t3
    try clear_value c1
    have ht2 : Agree 136423480 s t2 := by
      unfold t2
      refine Agree.foldl (fun t4 x4 h4 => ?_) ?_
      · exact ((h4.step (State.count_agree _ _ _) rfl).step (State.flag_agree _ _ _) rfl)
      · exact (Agree.refl 136423480 s)
    try clear_value t2
    have ht3 : Agree 136423480 s t3 := (ht2.step (State.modPlayhead_agree _ _ _) rfl)
    try clear_value t3
    refine Agree.ite1 ?_ ?_
    · exact ((Agree.refl 136423480 s).step (State.beginPass_agree _ _ _ _ _ _ _ _) rfl)
    · exact (ht3.step (State.playAll_agree _ _ _ _ _ _) rfl)
  · exact (((Agree.refl 136423480 s).step (State.modPlayhead_agree _ _ _) rfl).step (State.playAll_agree _ _ _ _ _ _) rfl)
  · exact (((Agree.refl 136423480 s).step (State.modPlayhead_agree _ _ _) rfl).step (State.playAll_agree _ _ _ _ _ _) rfl)
  · extract_lets -underBinder -merge t5 c6 c7
    have ht5 : Agree 136423480 s t5 := by
      unfold t5
      refine Agree.foldl (fun t8 x8 h8 => ?_) ?_
      · exact (h8.step (State.flag_agree _ _ _) rfl)
      · exact (Agree.refl 136423480 s)
    try clear_value t5
    subst c6
    try clear_value c7
    refine Agree.foldl1 (fun t9 x9 h9 => ?_) ?_
    · exact (h9.step (Played.rest_agree _ _ _ _ _) rfl)
    · exact (ht5.step (State.parkUnit_agree _ _ _) rfl).fst

theorem State.redirect_agree (s : State) (u : SeqUnit) (f : Follow) (rows : Vector (BitVec 16) 4) :
    Agree 16 s (State.redirect s u f rows) := by
  unfold State.redirect
  refine Agree.foldl (fun t0 x0 h0 => ?_) ?_
  · exact (h0.step (State.modPort_agree _ _ _) rfl)
  · exact (Agree.refl 16 s)

theorem State.retrack_agree (s : State) (u : SeqUnit) (f : Follow) (rows : Vector (BitVec 16) 4) :
    Agree 16 s (State.retrack s u f rows) := by
  unfold State.retrack
  split
  · exact (Agree.refl 16 s)
  · refine Agree.foldl (fun t0 x0 h0 => ?_) ?_
    · extract_lets -underBinder -merge c1
      try clear_value c1
      exact (h0.step (State.modPort_agree _ _ _) rfl)
    · exact (Agree.refl 16 s)

theorem State.carryOut_agree (s : State) (u : SeqUnit) (pl : Plan) (rows : Vector (BitVec 16) 4) (hop : Option ℕ) (errs : SlotErrors) : Agree 136423544 s (State.carryOut s u pl rows hop errs) := by
  unfold State.carryOut
  extract_lets -underBinder -merge c0 t1 c2 t3 t4 t5 c6
  try clear_value c0
  have ht1 : Agree 136423544 s t1 := ((Agree.refl 136423544 s).step (State.passSlot_agree _ _ _) rfl)
  try clear_value t1
  try clear_value c2
  have ht3 : Agree 136423544 s t3 := (ht1.step (State.modPlayhead_agree _ _ _) rfl)
  try clear_value t3
  have ht4 : Agree 136423544 s t4 := by
    unfold t4
    refine Agree.ite ?_ ?_
    · exact (ht3.step (State.redirect_agree _ _ _ _) rfl)
    · refine Agree.ite ?_ ?_
      · exact (ht3.step (State.retrack_agree _ _ _ _) rfl)
      · exact ht3
  try clear_value t4
  have ht5 : Agree 136423544 s t5 := by
    unfold t5
    refine Agree.foldl (fun t7 x7 h7 => ?_) ?_
    · exact (h7.step (State.modPort_agree _ _ _) rfl)
    · exact ht4
  try clear_value t5
  try clear_value c6
  exact ((ht5.step (State.follow_agree _ _ _ _ _ _) rfl).step (Played.done_agree _ _) rfl)

theorem State.chainFault_agree (s : State) (u : SeqUnit) (pl : Plan) : Agree 2203656 s (State.chainFault s u pl) := by
  unfold State.chainFault
  refine Agree.ite ?_ ?_
  · exact ((Agree.refl 2203656 s).step (State.fault_agree _ _ _ _) rfl)
  · exact (Agree.refl 2203656 s)

theorem State.commitNow_agree (s : State) (u : SeqUnit) (bad : List ℕ) :
    Agree 2203704 s (State.commitNow s u bad) := by
  unfold State.commitNow
  extract_lets -underBinder -merge c0 c1
  try clear_value c0
  try clear_value c1
  exact (((Agree.refl 2203704 s).step (State.setPlayhead_agree _ _ _) rfl).step (State.chainFault_agree _ _ _) rfl)

theorem State.endPass_agree (s : State) (u : SeqUnit) (errs : SlotErrors) :
    Agree 136423544 s (State.endPass s u errs) := by
  unfold State.endPass
  extract_lets -underBinder -merge t0 c1
  have ht0 : Agree 136423544 s t0 := by
    unfold t0
    refine Agree.ite ?_ ?_
    · exact ((Agree.refl 136423544 s).step (State.commitNow_agree _ _ _) rfl)
    · exact (Agree.refl 136423544 s)
  try clear_value t0
  try clear_value c1
  split
  · exact ht0
  · exact (ht0.step (State.carryOut_agree _ _ _ _ _ _) rfl)

theorem State.continueAt_agree (s : State) (u : SeqUnit) (e : ℕ) (hop : Option ℕ) (errs : SlotErrors) :
    Agree 136423544 s (State.continueAt s u e hop errs) := by
  unfold State.continueAt
  extract_lets -underBinder -merge c0
  try clear_value c0
  exact (((Agree.refl 136423544 s).step (State.chainFault_agree _ _ _) rfl).step (State.carryOut_agree _ _ _ _ _ _) rfl)

theorem State.jumpTo_agree (s : State) (u : SeqUnit) (e : ℕ) (rows : Vector (BitVec 16) 4) (hop : Option ℕ) (errs : SlotErrors) : Agree 136423544 s (State.jumpTo s u e rows hop errs) := by
  unfold State.jumpTo
  extract_lets -underBinder -merge t0 c1 c2
  have ht0 : Agree 136423544 s t0 := (((Agree.refl 136423544 s).step (State.settleJudged_agree _ _) rfl).step (State.modPlayhead_agree _ _ _) rfl)
  try clear_value t0
  try clear_value c1
  try clear_value c2
  exact ((ht0.step (State.chainFault_agree _ _ _) rfl).step (State.carryOut_agree _ _ _ _ _ _) rfl)

theorem State.recoverNow_agree (s : State) (n : ℕ) (errs : SlotErrors) :
    Agree 136423544 s (State.recoverNow s n errs) := by
  unfold State.recoverNow
  exact ((Agree.refl 136423544 s).step (State.jumpTo_agree _ _ _ _ _ _) rfl)

theorem State.goOn_agree (s : State) (u : SeqUnit) (errs : SlotErrors) : Agree 136423544 s (State.goOn s u errs) := by
  unfold State.goOn
  extract_lets -underBinder -merge t0 c1 t2 t3
  have ht0 : Agree 136423544 s t0 := ((Agree.refl 136423544 s).step (State.passSlot_agree _ _ _) rfl)
  try clear_value t0
  try clear_value c1
  have ht2 : Agree 136423544 s t2 := ((ht0.step (State.modPlayhead_agree _ _ _) rfl).step (State.endMerge_agree _ _) rfl)
  try clear_value t2
  have ht3 : Agree 136423544 s t3.1 := by
    unfold t3
    split
    · refine Agree.ite1 ?_ ?_
      · exact (ht2.step (State.playAll_agree _ _ _ _ _ _) rfl)
      · exact (ht2.step (State.playGranule_agree _ _ _ _ _) rfl)
    · exact (ht2.step (State.playAll_agree _ _ _ _ _ _) rfl)
    · exact (ht2.step (State.playAll_agree _ _ _ _ _ _) rfl)
    · exact (ht2.step (State.playAll_agree _ _ _ _ _ _) rfl)
    · exact (ht2.step (State.playAll_agree _ _ _ _ _ _) rfl)
  try clear_value t3
  exact (ht3.step (Played.done_agree _ _) rfl)

theorem State.runBoundary_agree (s : State) (u : SeqUnit) (errs : SlotErrors) :
    Agree 136423544 s (State.runBoundary s u errs) := by
  unfold State.runBoundary
  extract_lets -underBinder -merge t0 c1
  have ht0 : Agree 136423544 s t0 := by
    unfold t0
    refine Agree.ite ?_ ?_
    · exact ((Agree.refl 136423544 s).step (State.commitNow_agree _ _ _) rfl)
    · exact (Agree.refl 136423544 s)
  try clear_value t0
  try clear_value c1
  split
  · exact (ht0.step (State.endPass_agree _ _ _) rfl)
  · exact (ht0.step (State.continueAt_agree _ _ _ _ _) rfl)
  · extract_lets -underBinder -merge t2
    have ht2 : Agree 136423544 s t2 := ((ht0.step (State.passSlot_agree _ _ _) rfl).step (State.endMerge_agree _ _) rfl)
    try clear_value t2
    exact ((ht2.step (State.beginPass_agree _ _ _ _ _ _ _ _) rfl).step (Played.done_agree _ _) rfl)
  · extract_lets -underBinder -merge t3
    have ht3 : Agree 136423544 s t3 := (ht0.step (State.flag_agree _ _ _) rfl)
    try clear_value t3
    refine Agree.ite ?_ ?_
    · exact (ht3.step (State.jumpTo_agree _ _ _ _ _ _) rfl)
    · exact (ht3.step (State.continueAt_agree _ _ _ _ _) rfl)
  · exact (ht0.step (State.goOn_agree _ _ _) rfl)

theorem State.setUnitState_agree (s : State) (u : SeqUnit) (st : UState) :
    Agree 48 s (State.setUnitState s u st) := by
  unfold State.setUnitState
  extract_lets -underBinder -merge t0
  have ht0 : Agree 48 s t0 := by
    unfold t0
    refine Agree.foldl (fun t1 x1 h1 => ?_) ?_
    · exact (h1.step (State.modPort_agree _ _ _) rfl)
    · exact (Agree.refl 48 s)
  try clear_value t0
  refine Agree.step ?_ (State.settleRequest_agree _ _) rfl
  split
  · exact ht0
  · exact (ht0.step (State.modGroup_agree _ _ _) rfl)

theorem State.abortUnit_agree (s : State) (u : SeqUnit) : Agree 5341272 s (State.abortUnit s u) := by
  unfold State.abortUnit
  refine Agree.foldl (fun t0 x0 h0 => ?_) ?_
  · exact (h0.step (State.abortWhere_agree _ _ _) rfl)
  · exact (Agree.refl 5341272 s)

theorem State.idleBoundary_agree (s : State) (u : SeqUnit) (errs : SlotErrors) :
    Agree 134316152 s (State.idleBoundary s u errs) := by
  unfold State.idleBoundary
  extract_lets -underBinder -merge t0
  have ht0 : Agree 134316152 s t0 := ((Agree.refl 134316152 s).step (State.passSlot_agree _ _ _) rfl)
  try clear_value t0
  refine Agree.foldl1 (fun t1 x1 h1 => ?_) ?_
  · extract_lets -underBinder -merge t2
    have ht2 : Agree 134316152 s t2 := (((h1.step (State.episodeOver_agree _ _) rfl).step (State.modPort_agree _ _ _) rfl).step (State.takeHeldNow_agree _ _) rfl)
    try clear_value t2
    exact (ht2.fst.step (Played.rest_agree _ _ _ _ _) rfl)
  · exact ht0.fst

theorem State.safeAt_agree (s : State) (n : ℕ) (counted : Bool) : Agree 5343352 s (State.safeAt s n counted) := by
  unfold State.safeAt
  extract_lets -underBinder -merge c0 c1 t2
  try clear_value c0
  try clear_value c1
  have ht2 : Agree 5343352 s t2 := (((Agree.refl 5343352 s).step (State.abortPort_agree _ _ _) rfl).step (State.toParked_agree _ _ _) rfl)
  try clear_value t2
  refine Agree.ite ?_ ?_
  · exact (Agree.refl 5343352 s)
  · exact ((ht2.step (State.modPort_agree _ _ _) rfl).step (State.stepOutput_agree _ _) rfl)

theorem State.portSafe_agree (s : State) (n : ℕ) (counted : Bool) : Agree 5351544 s (State.portSafe s n counted) := by
  unfold State.portSafe
  exact ((((Agree.refl 5351544 s).step (State.settleJudged_agree _ _) rfl).step (State.cutPass_agree _ _) rfl).step (State.safeAt_agree _ _ _) rfl)

theorem State.dataFaultSafe_agree (s : State) (n : ℕ) (errs : SlotErrors) :
    Agree 141666424 s (State.dataFaultSafe s n errs) := by
  unfold State.dataFaultSafe
  extract_lets -underBinder -merge t0
  have ht0 : Agree 141666424 s t0 := ((((Agree.refl 141666424 s).step (State.passSlot_agree _ _ _) rfl).step (State.safeAt_agree _ _ _) rfl).step (State.fault_agree _ _ _ _) rfl)
  try clear_value t0
  exact (ht0.fst.step (Played.rest_agree _ _ _ _ _) rfl)

/-! ### Boundary -/

theorem execCommitPoint_agree (u : SeqUnit) (bad : List ℕ) (s : State) :
    Result.Agrees 2203704 s (execCommitPoint u bad s) := by
  unfold execCommitPoint
  refine Result.Agrees.next ?_
  refine Agree.whenMoment ?_ ?_
  · exact (Agree.refl 2203704 s)
  · exact ((Agree.refl 2203704 s).step (State.commitNow_agree _ _ _) rfl)

theorem execPassEnd_agree (u : SeqUnit) (errs : SlotErrors) (s : State) :
    Result.Agrees 136423544 s (execPassEnd u errs s) := by
  unfold execPassEnd
  refine Result.Agrees.next ?_
  refine Agree.whenMoment ?_ ?_
  · exact (Agree.refl 136423544 s)
  · exact ((Agree.refl 136423544 s).step (State.endPass_agree _ _ _) rfl)

theorem State.startNow_agree (s : State) (u : SeqUnit) (hop : ℕ) (errs : SlotErrors) :
    Agree 136423544 s (State.startNow s u hop errs) := by
  unfold State.startNow
  extract_lets -underBinder -merge c0 t1 t2 c3
  try clear_value c0
  have ht1 : Agree 136423544 s t1 := (((Agree.refl 136423544 s).step (State.setUnitState_agree _ _ _) rfl).step (State.modPlayhead_agree _ _ _) rfl)
  try clear_value t1
  have ht2 : Agree 136423544 s t2 := by
    unfold t2
    refine Agree.foldl (fun t4 x4 h4 => ?_) ?_
    · exact (h4.step (State.modPort_agree _ _ _) rfl)
    · exact ht1
  try clear_value t2
  try clear_value c3
  split
  · refine Agree.ite ?_ ?_
    · refine Agree.step ?_ (State.goOn_agree _ _ _) rfl
      refine Agree.ite ?_ ?_
      · exact (ht2.step (State.modPort_agree _ _ _) rfl)
      · exact ht2
    · refine Agree.ite ?_ ?_
      · exact (ht2.step (State.continueAt_agree _ _ _ _ _) rfl)
      · refine Agree.ite ?_ ?_
        · exact (ht2.step (State.recoverNow_agree _ _ _) rfl)
        · exact (ht2.step (State.runBoundary_agree _ _ _) rfl)
  · refine Agree.ite ?_ ?_
    · exact (ht2.step (State.continueAt_agree _ _ _ _ _) rfl)
    · exact (ht2.step (State.runBoundary_agree _ _ _) rfl)

theorem execStartEffect_agree (u : SeqUnit) (errs : SlotErrors) (s : State) :
    Result.Agrees 136423544 s (execStartEffect u errs s) := by
  unfold execStartEffect
  extract_lets -underBinder -merge c0
  try clear_value c0
  refine Result.Agrees.next ?_
  refine Agree.whenMoment ?_ ?_
  · exact (Agree.refl 136423544 s)
  · exact ((Agree.refl 136423544 s).step (State.startNow_agree _ _ _ _) rfl)

theorem State.pauseNow_agree (s : State) (u : SeqUnit) (errs : SlotErrors) :
    Agree 139567224 s (State.pauseNow s u errs) := by
  unfold State.pauseNow
  extract_lets -underBinder -merge t0
  have ht0 : Agree 139567224 s t0 := (((((Agree.refl 139567224 s).step (State.abortUnit_agree _ _) rfl).step (State.passSlot_agree _ _ _) rfl).step (State.setUnitState_agree _ _ _) rfl).step (State.endMerge_agree _ _) rfl)
  try clear_value t0
  exact ((ht0.step (State.playAll_agree _ _ _ _ _ _) rfl).step (Played.done_agree _ _) rfl)

theorem execPauseEffect_agree (u : SeqUnit) (errs : SlotErrors) (s : State) :
    Result.Agrees 139567224 s (execPauseEffect u errs s) := by
  unfold execPauseEffect
  refine Result.Agrees.next ?_
  refine Agree.whenMoment ?_ ?_
  · exact (Agree.refl 139567224 s)
  · exact ((Agree.refl 139567224 s).step (State.pauseNow_agree _ _ _) rfl)

theorem State.stopNow_agree (s : State) (u : SeqUnit) (errs : SlotErrors) :
    Agree 139569272 s (State.stopNow s u errs) := by
  unfold State.stopNow
  extract_lets -underBinder -merge c0 c1 c2 c3 t4 t5
  try clear_value c0
  try clear_value c1
  try clear_value c2
  try clear_value c3
  have ht4 : Agree 139569272 s t4 := (((((Agree.refl 139569272 s).step (State.abortUnit_agree _ _) rfl).step (State.passSlot_agree _ _ _) rfl).step (State.modPlayhead_agree _ _ _) rfl).step (State.endMerge_agree _ _) rfl)
  try clear_value t4
  have ht5 : Agree 139569272 s t5 := (ht4.step (State.parkUnit_agree _ _ _) rfl)
  try clear_value t5
  refine Agree.step ?_ (Played.done_agree _ _) rfl
  refine Agree.foldl1 (fun t6 x6 h6 => ?_) ?_
  · exact (h6.step (Played.rest_agree _ _ _ _ _) rfl)
  · exact ht5.fst

theorem execStopEffect_agree (u : SeqUnit) (errs : SlotErrors) (s : State) :
    Result.Agrees 139569272 s (execStopEffect u errs s) := by
  unfold execStopEffect
  refine Result.Agrees.next ?_
  refine Agree.whenMoment ?_ ?_
  · exact (Agree.refl 139569272 s)
  · exact ((Agree.refl 139569272 s).step (State.stopNow_agree _ _ _) rfl)

theorem State.jumpNow_agree (s : State) (u : SeqUnit) (errs : SlotErrors) :
    Agree 141666424 s (State.jumpNow s u errs) := by
  unfold State.jumpNow
  extract_lets -underBinder -merge c0
  try clear_value c0
  split
  · exact (((Agree.refl 141666424 s).step (State.abortUnit_agree _ _) rfl).step (State.jumpTo_agree _ _ _ _ _ _) rfl)
  · exact (Agree.refl 141666424 s)

theorem execImmediateJumpEffect_agree (u : SeqUnit) (errs : SlotErrors) (s : State) :
    Result.Agrees 141666424 s (execImmediateJumpEffect u errs s) := by
  unfold execImmediateJumpEffect
  refine Result.Agrees.next ?_
  refine Agree.whenMoment ?_ ?_
  · exact (Agree.refl 141666424 s)
  · exact ((Agree.refl 141666424 s).step (State.jumpNow_agree _ _ _) rfl)

theorem execWaitRelease_agree (u : SeqUnit) (errs : SlotErrors) (s : State) :
    Result.Agrees 136423544 s (execWaitRelease u errs s) := by
  unfold execWaitRelease
  extract_lets -underBinder -merge c0 c1
  try clear_value c0
  try clear_value c1
  refine Result.Agrees.next ?_
  refine Agree.whenMoment ?_ ?_
  · exact (Agree.refl 136423544 s)
  · exact ((Agree.refl 136423544 s).step (State.continueAt_agree _ _ _ _ _) rfl)

theorem execWaitTimeout_agree (u : SeqUnit) (errs : SlotErrors) (s : State) :
    Result.Agrees 136423544 s (execWaitTimeout u errs s) := by
  unfold execWaitTimeout
  refine Result.Agrees.next ?_
  refine Agree.whenMoment ?_ ?_
  · exact (Agree.refl 136423544 s)
  · exact ((Agree.refl 136423544 s).step (State.runBoundary_agree _ _ _) rfl)

theorem execGapEnd_agree (u : SeqUnit) (errs : SlotErrors) (s : State) :
    Result.Agrees 141666424 s (execGapEnd u errs s) := by
  unfold execGapEnd
  refine Result.Agrees.next ?_
  refine Agree.whenMoment ?_ ?_
  · exact (Agree.refl 141666424 s)
  · exact (((Agree.refl 141666424 s).step (State.abortUnit_agree _ _) rfl).step (State.runBoundary_agree _ _ _) rfl)

theorem execSelvedgeEnd_agree (u : SeqUnit) (errs : SlotErrors) (s : State) :
    Result.Agrees 136423544 s (execSelvedgeEnd u errs s) := by
  unfold execSelvedgeEnd
  refine Result.Agrees.next ?_
  refine Agree.whenMoment ?_ ?_
  · exact (Agree.refl 136423544 s)
  · exact ((Agree.refl 136423544 s).step (State.runBoundary_agree _ _ _) rfl)

theorem execMissingSlot_agree (u : SeqUnit) (errs : SlotErrors) (s : State) :
    Result.Agrees 136423544 s (execMissingSlot u errs s) := by
  unfold execMissingSlot
  refine Result.Agrees.next ?_
  refine Agree.whenMoment ?_ ?_
  · exact (Agree.refl 136423544 s)
  · exact ((Agree.refl 136423544 s).step (State.goOn_agree _ _ _) rfl)

theorem execUnderrunRecovery_agree (n : ℕ) (errs : SlotErrors) (s : State) :
    Result.Agrees 136423544 s (execUnderrunRecovery n errs s) := by
  unfold execUnderrunRecovery
  refine Result.Agrees.next ?_
  refine Agree.whenMoment ?_ ?_
  · exact (Agree.refl 136423544 s)
  · exact ((Agree.refl 136423544 s).step (State.recoverNow_agree _ _ _) rfl)

theorem execSlotBoundary_agree (u : SeqUnit) (errs : SlotErrors) (s : State) :
    Result.Agrees 141666424 s (execSlotBoundary u errs s) := by
  unfold execSlotBoundary
  refine Result.Agrees.next ?_
  split
  · refine Agree.ite ?_ ?_
    · exact ((Agree.refl 141666424 s).step (State.goOn_agree _ _ _) rfl)
    · exact ((Agree.refl 141666424 s).step (State.idleBoundary_agree _ _ _) rfl)
  · exact ((Agree.refl 141666424 s).step (State.dataFaultSafe_agree _ _ _) rfl)
  · exact (Agree.refl 141666424 s)

theorem execTransferEffect_agree (n : ℕ) (s : State) : Result.Agrees 16 s (execTransferEffect n s) := by
  unfold execTransferEffect
  extract_lets -underBinder -merge c0 c1
  try clear_value c0
  try clear_value c1
  refine Result.Agrees.next ?_
  refine Agree.ite ?_ ?_
  · exact (Agree.refl 16 s)
  · exact (((Agree.refl 16 s).step (State.modPort_agree _ _ _) rfl).step (State.transfer_agree _ _ _) rfl)

theorem State.latchTransfer_agree (s : State) (n : ℕ) (ncoOnly : Bool) :
    Agree 16 s (State.latchTransfer s n ncoOnly) := by
  unfold State.latchTransfer
  exact ((Agree.refl 16 s).step (State.modPort_agree _ _ _) rfl)

/-! ### Levels -/

theorem State.settle_agree (s : State) : Agree 536977416 s (State.settle s) := by
  unfold State.settle
  extract_lets -underBinder -merge c0 t1 c2 c3 t4
  try clear_value c0
  have ht1 : Agree 536977416 s t1 := by
    unfold t1
    refine Agree.ite ?_ ?_
    · exact (Agree.refl 536977416 s)
    · exact (((Agree.refl 536977416 s).setLife rfl).step (State.flag_agree _ _ _) rfl)
  try clear_value t1
  try clear_value c2
  try clear_value c3
  have ht4 : Agree 536977416 s t4 := (ht1.setFabric rfl)
  try clear_value t4
  refine Agree.ite ?_ ?_
  · exact ht1
  · refine Agree.ite ?_ ?_
    · exact ht4
    · exact (ht4.step (State.flag_agree _ _ _) rfl)

theorem State.setDegraded_agree (s : State) (i : ℕ) (v : Bool) : Agree 536977416 s (State.setDegraded s i v) := by
  unfold State.setDegraded
  extract_lets -underBinder -merge c0 t1
  try clear_value c0
  have ht1 : Agree 536977416 s t1 := ((Agree.refl 536977416 s).step (State.wr_agree _ _ _ _) rfl)
  try clear_value t1
  refine Agree.step ?_ (State.settle_agree _) rfl
  refine Agree.ite ?_ ?_
  · exact (ht1.step (State.flag_agree _ _ _) rfl)
  · exact ht1

end Machine
end Sys2Proof
end

