-- ==== Sys2Proof/Laws/FootprintEvents.lean ====
section
/-! SUPPORT. What each operation can change (Laws/Footprint.lean), for monitors, trips, the event fabric, timers and hooks: every field of State outside the mask
is as it was. -/

namespace Sys2Proof
namespace Machine

/-! ### Monitors -/

theorem State.publish_agree (s : State) (m : ℕ) (b : MonState) : Agree 8495112 s (State.publish s m b) := by
  unfold State.publish
  extract_lets -underBinder -merge c0 t1 c2
  try clear_value c0
  have ht1 : Agree 8495112 s t1 := ((Agree.refl 8495112 s).step (State.setMonitor_agree _ _ _) rfl)
  try clear_value t1
  try clear_value c2
  refine Agree.ite ?_ ?_
  · exact ht1
  · exact (((ht1.step (State.countMod_agree _ _ _ _ _ _) rfl).step (State.flag_agree _ _ _) rfl).step (State.emitAll_agree _ _) rfl)

theorem State.syncPath_agree (s : State) (m : ℕ) (a : MonState) (b : MonState) :
    Agree 8495112 s (State.syncPath s m a b) := by
  unfold State.syncPath
  extract_lets -underBinder -merge c0
  try clear_value c0
  refine Agree.ite ?_ ?_
  · exact (Agree.refl 8495112 s)
  · refine Agree.ite ?_ ?_
    · exact ((Agree.refl 8495112 s).step (State.setMonitor_agree _ _ _) rfl)
    · refine Agree.ite ?_ ?_
      · refine Agree.ite ?_ ?_
        · exact (Agree.refl 8495112 s)
        · exact ((Agree.refl 8495112 s).step (State.countMod_agree _ _ _ _ _ _) rfl)
      · exact (((Agree.refl 8495112 s).step (State.publish_agree _ _ _) rfl).step (State.publish_agree _ _ _) rfl)

theorem State.evaluate_agree (s : State) (m : ℕ) : Agree 8495112 s (State.evaluate s m) := by
  unfold State.evaluate
  extract_lets -underBinder -merge c0 c1 t2
  try clear_value c0
  try clear_value c1
  have ht2 : Agree 8495112 s t2 := ((Agree.refl 8495112 s).step (State.setMonitor_agree _ _ _) rfl)
  try clear_value t2
  refine Agree.ite ?_ ?_
  · exact ht2
  · exact (ht2.step (State.syncPath_agree _ _ _ _) rfl)

theorem State.startMonitor_agree (s : State) (m : ℕ) : Agree 8388608 s (State.startMonitor s m) := by
  unfold State.startMonitor
  extract_lets -underBinder -merge c0 c1 c2 c3
  try clear_value c0
  try clear_value c1
  try clear_value c2
  try clear_value c3
  exact ((Agree.refl 8388608 s).step (State.setMonitor_agree _ _ _) rfl)

theorem State.stopMonitor_agree (s : State) (m : ℕ) : Agree 8388608 s (State.stopMonitor s m) := by
  unfold State.stopMonitor
  extract_lets -underBinder -merge c0
  try clear_value c0
  exact ((Agree.refl 8388608 s).step (State.setMonitor_agree _ _ _) rfl)

theorem State.writeMonCfg_agree (s : State) (m : ℕ) (w : Word) : Agree 8388616 s (State.writeMonCfg s m w) := by
  unfold State.writeMonCfg
  extract_lets -underBinder -merge c0 c1 t2 c3
  try clear_value c0
  try clear_value c1
  have ht2 : Agree 8388616 s t2 := ((Agree.refl 8388616 s).step (State.setReg_agree _ _ _) rfl)
  try clear_value t2
  try clear_value c3
  refine Agree.ite ?_ ?_
  · exact (Agree.refl 8388616 s)
  · refine Agree.ite ?_ ?_
    · exact (ht2.step (State.stopMonitor_agree _ _) rfl)
    · refine Agree.ite ?_ ?_
      · refine Agree.ite ?_ ?_
        · exact (ht2.step (State.startMonitor_agree _ _) rfl)
        · exact ht2
      · refine Agree.ite ?_ ?_
        · exact (ht2.step (State.setMonitor_agree _ _ _) rfl)
        · exact ht2

theorem execMonitorEnable_agree (m : ℕ) (s : State) : Result.Agrees 8388616 s (execMonitorEnable m s) := by
  unfold execMonitorEnable
  exact Result.Agrees.next ((Agree.refl 8388616 s).step (State.writeMonCfg_agree _ _ _) rfl)

theorem execMonitorDisable_agree (m : ℕ) (s : State) : Result.Agrees 8388616 s (execMonitorDisable m s) := by
  unfold execMonitorDisable
  exact Result.Agrees.next ((Agree.refl 8388616 s).step (State.writeMonCfg_agree _ _ _) rfl)

theorem execSyncEnWrite_agree (m : ℕ) (on : Bool) (s : State) : Result.Agrees 8388616 s (execSyncEnWrite m on s) := by
  unfold execSyncEnWrite
  exact Result.Agrees.next ((Agree.refl 8388616 s).step (State.writeMonCfg_agree _ _ _) rfl)

theorem execComparatorChange_agree (m : ℕ) (microvolts : ℤ) (s : State) :
    Result.Agrees 8495112 s (execComparatorChange m microvolts s) := by
  unfold execComparatorChange
  extract_lets -underBinder -merge c0 t1 c2
  try clear_value c0
  have ht1 : Agree 8495112 s t1 := ((Agree.refl 8495112 s).step (State.setMonitor_agree _ _ _) rfl)
  try clear_value t1
  try clear_value c2
  refine Result.Agrees.next ?_
  refine Agree.ite ?_ ?_
  · exact (Agree.refl 8495112 s)
  · refine Agree.ite ?_ ?_
    · exact (ht1.step (State.evaluate_agree _ _) rfl)
    · exact ht1

theorem execSampledTick_agree (m : ℕ) (microvolts : ℤ) (s : State) :
    Result.Agrees 8495112 s (execSampledTick m microvolts s) := by
  unfold execSampledTick
  extract_lets -underBinder -merge c0 t1 c2
  try clear_value c0
  have ht1 : Agree 8495112 s t1 := ((Agree.refl 8495112 s).step (State.setMonitor_agree _ _ _) rfl)
  try clear_value t1
  try clear_value c2
  refine Result.Agrees.next ?_
  refine Agree.ite ?_ ?_
  · exact (Agree.refl 8495112 s)
  · refine Agree.ite ?_ ?_
    · exact (ht1.step (State.evaluate_agree _ _) rfl)
    · exact ht1

theorem execThresholdStep_agree (m : ℕ) (upper : Bool) (s : State) :
    Result.Agrees 8495112 s (execThresholdStep m upper s) := by
  unfold execThresholdStep
  extract_lets -underBinder -merge c0 c1 c2 t3
  try clear_value c0
  try clear_value c1
  try clear_value c2
  have ht3 : Agree 8495112 s t3 := ((Agree.refl 8495112 s).step (State.setMonitor_agree _ _ _) rfl)
  try clear_value t3
  refine Result.Agrees.next ?_
  refine Agree.ite ?_ ?_
  · exact (Agree.refl 8495112 s)
  · refine Agree.ite ?_ ?_
    · exact (ht3.step (State.evaluate_agree _ _) rfl)
    · exact ht3

theorem execBlankingEnd_agree (m : ℕ) (s : State) : Result.Agrees 8495112 s (execBlankingEnd m s) := by
  unfold execBlankingEnd
  refine Result.Agrees.next ?_
  refine Agree.ite ?_ ?_
  · exact ((Agree.refl 8495112 s).step (State.publish_agree _ _ _) rfl)
  · exact (Agree.refl 8495112 s)

/-! ### Trips -/

theorem State.refreshForce_agree (s : State) (n : ℕ) : Agree 5341272 s (State.refreshForce s n) := by
  unfold State.refreshForce
  extract_lets -underBinder -merge c0 c1 t2
  try clear_value c0
  try clear_value c1
  have ht2 : Agree 5341272 s t2 := ((Agree.refl 5341272 s).step (State.setPort_agree _ _ _) rfl)
  try clear_value t2
  refine Agree.ite ?_ ?_
  · exact (Agree.refl 5341272 s)
  · split
    · exact ht2
    · exact ht2
    · exact (ht2.step (State.stepOutput_agree _ _) rfl)
    · exact (ht2.step (State.stepOutput_agree _ _) rfl)
    · exact (ht2.step (State.stepOutput_agree _ _) rfl)
    · exact (ht2.step (State.stepOutput_agree _ _) rfl)
    · extract_lets -underBinder -merge t3
      have ht3 : Agree 5341272 s t3 := by
        unfold t3
        refine Agree.ite ?_ ?_
        · exact (ht2.step (State.abortPort_agree _ _ _) rfl)
        · exact ht2
      try clear_value t3
      refine Agree.ite ?_ ?_
      · exact ((ht3.step (State.modPort_agree _ _ _) rfl).step (State.settleOver_agree _ _) rfl)
      · exact ht2

theorem State.rotationTrip_agree (s : State) (n : ℕ) : Agree 4194368 s (State.rotationTrip s n) := by
  unfold State.rotationTrip
  extract_lets -underBinder -merge c0 c1
  try clear_value c0
  try clear_value c1
  refine Agree.ite ?_ ?_
  · exact (((Agree.refl 4194368 s).step (State.modSpare_agree _ _ _) rfl).step (State.setRotation_agree _ _ _ _) rfl)
  · exact (Agree.refl 4194368 s)

theorem State.tripPort_agree (s : State) (n : ℕ) : Agree 5349464 s (State.tripPort s n) := by
  unfold State.tripPort
  extract_lets -underBinder -merge t0 c1
  have ht0 : Agree 5349464 s t0 := ((((Agree.refl 5349464 s).step (State.abortWhere_agree _ _ _) rfl).step (State.rotationTrip_agree _ _) rfl).step (State.cutPass_agree _ _) rfl)
  try clear_value t0
  try clear_value c1
  split
  · exact (Agree.refl 5349464 s)
  · exact (ht0.step (State.flag_agree _ _ _) rfl)
  · exact (ht0.step (State.flag_agree _ _ _) rfl)
  · exact ((ht0.step (State.setPort_agree _ _ _) rfl).step (State.flag_agree _ _ _) rfl)
  · extract_lets -underBinder -merge c2
    try clear_value c2
    exact ((ht0.step (State.setPort_agree _ _ _) rfl).step (State.flag_agree _ _ _) rfl)

theorem execTripLineAssert_agree (k : ℕ) (s : State) : Result.Agrees 22118488 s (execTripLineAssert k s) := by
  unfold execTripLineAssert
  extract_lets -underBinder -merge c0 t1
  try clear_value c0
  have ht1 : Agree 22118488 s t1 := ((Agree.refl 22118488 s).setTrips rfl)
  try clear_value t1
  refine Result.Agrees.next ?_
  refine Agree.ite ?_ ?_
  · refine Agree.foldl (fun t2 x2 h2 => ?_) ?_
    · refine Agree.ite ?_ ?_
      · exact (h2.step (State.refreshForce_agree _ _) rfl)
      · exact h2
    · exact ht1
  · exact (Agree.refl 22118488 s)

theorem State.abortLine_agree (s : State) (k : ℕ) : Agree 5341272 s (State.abortLine s k) := by
  unfold State.abortLine
  exact ((Agree.refl 5341272 s).step (State.abortWhere_agree _ _ _) rfl)

theorem State.recordTrip_agree (s : State) (k : ℕ) : Agree 1671176 s (State.recordTrip s k) := by
  unfold State.recordTrip
  extract_lets -underBinder -merge c0
  try clear_value c0
  refine Agree.ite ?_ ?_
  · exact ((Agree.refl 1671176 s).setSecurity rfl)
  · exact (((Agree.refl 1671176 s).step (State.count_agree _ _ _) rfl).step (State.ledgerNote_agree _ _ _) rfl)

theorem State.recordLate_agree (s : State) (x : ℕ × ℕ × ℕ) : Agree 1146888 s (State.recordLate s x) := by
  unfold State.recordLate
  extract_lets -underBinder -merge c0 t1 c2
  try clear_value c0
  have ht1 : Agree 1146888 s t1 := (((Agree.refl 1146888 s).step (State.count_agree _ _ _) rfl).step (State.ledgerNote_agree _ _ _) rfl)
  try clear_value t1
  try clear_value c2
  exact (ht1.setLedger rfl)

theorem execTripLatch_agree (k : ℕ) (s : State) : Result.Agrees 22650968 s (execTripLatch k s) := by
  unfold execTripLatch
  extract_lets -underBinder -merge c0 t1 t2
  try clear_value c0
  have ht1 : Agree 22650968 s t1 := ((Agree.refl 22650968 s).setTrips rfl)
  try clear_value t1
  have ht2 : Agree 22650968 s t2 := (((ht1.step (State.flag_agree _ _ _) rfl).step (State.recordTrip_agree _ _) rfl).step (State.abortLine_agree _ _) rfl)
  try clear_value t2
  refine Result.Agrees.next ?_
  refine Agree.ite ?_ ?_
  · refine Agree.ite ?_ ?_
    · exact ht2
    · refine Agree.foldl (fun t3 x3 h3 => ?_) ?_
      · refine Agree.ite ?_ ?_
        · exact (h3.step (State.tripPort_agree _ _) rfl)
        · exact h3
      · exact ht2
  · exact (Agree.refl 22650968 s)

theorem State.tripParkNow_agree (s : State) (n : ℕ) (errs : SlotErrors) :
    Agree 134318200 s (State.tripParkNow s n errs) := by
  unfold State.tripParkNow
  extract_lets -underBinder -merge t0
  have ht0 : Agree 134318200 s t0 := (((Agree.refl 134318200 s).step (State.passSlot_agree _ _ _) rfl).step (State.modPort_agree _ _ _) rfl)
  try clear_value t0
  exact ((ht0.step (State.parkAt_agree _ _ _) rfl).fst.step (Played.rest_agree _ _ _ _ _) rfl)

theorem execTripPark_agree (n : ℕ) (errs : SlotErrors) (s : State) :
    Result.Agrees 134318200 s (execTripPark n errs s) := by
  unfold execTripPark
  refine Result.Agrees.next ?_
  refine Agree.whenMoment ?_ ?_
  · exact (Agree.refl 134318200 s)
  · exact ((Agree.refl 134318200 s).step (State.tripParkNow_agree _ _ _) rfl)

theorem State.clearLine_agree (s : State) (k : ℕ) : Agree 22118488 s (State.clearLine s k) := by
  unfold State.clearLine
  extract_lets -underBinder -merge c0 t1
  try clear_value c0
  have ht1 : Agree 22118488 s t1 := ((Agree.refl 22118488 s).setTrips rfl)
  try clear_value t1
  refine Agree.ite ?_ ?_
  · exact ((Agree.refl 22118488 s).step (State.flag_agree _ _ _) rfl)
  · refine Agree.ite ?_ ?_
    · refine Agree.foldl (fun t2 x2 h2 => ?_) ?_
      · refine Agree.ite ?_ ?_
        · exact (h2.step (State.refreshForce_agree _ _) rfl)
        · exact h2
      · exact (ht1.step (State.ledgerNote_agree _ _ _) rfl)
    · exact (Agree.refl 22118488 s)

theorem State.tripClear_agree (s : State) (value : Word) : Agree 22118488 s (State.tripClear s value) := by
  unfold State.tripClear
  refine Agree.foldl (fun t0 x0 h0 => ?_) ?_
  · exact (h0.step (State.clearLine_agree _ _) rfl)
  · exact (Agree.refl 22118488 s)

theorem execTripForce_agree (value : Word) (s : State) : Result.Agrees 8 s (execTripForce value s) := by
  unfold execTripForce
  exact Result.Agrees.next ((Agree.refl 8 s).step (State.wr_agree _ _ _ _) rfl)

theorem State.writeTripSel_agree (s : State) (n : ℕ) (w : Word) : Agree 5349464 s (State.writeTripSel s n w) := by
  unfold State.writeTripSel
  extract_lets -underBinder -merge c0 c1 t2 c3
  try clear_value c0
  try clear_value c1
  have ht2 : Agree 5349464 s t2 := (((Agree.refl 5349464 s).step (State.setReg_agree _ _ _) rfl).step (State.refreshForce_agree _ _) rfl)
  try clear_value t2
  try clear_value c3
  refine Agree.ite ?_ ?_
  · exact (Agree.refl 5349464 s)
  · refine Agree.ite ?_ ?_
    · exact (ht2.step (State.tripPort_agree _ _) rfl)
    · exact ht2

theorem execTripSelWrite_agree (n : ℕ) (mask : Word) (value : Word) (s : State) :
    Result.Agrees 5349464 s (execTripSelWrite n mask value s) := by
  unfold execTripSelWrite
  exact Result.Agrees.next ((Agree.refl 5349464 s).step (State.writeTripSel_agree _ _ _) rfl)

/-! ### Fabric -/

theorem State.writeHook_agree (s : State) (a : ℕ) (w : Word) (set : Word) :
    Agree 8200 s (State.writeHook s a w set) := by
  unfold State.writeHook
  extract_lets -underBinder -merge c0 c1 c2 c3 c4 c5 c6 c7 t8 c9 c10
  try clear_value c0
  try clear_value c1
  try clear_value c2
  try clear_value c3
  try clear_value c4
  subst c5
  try clear_value c6
  try clear_value c7
  have ht8 : Agree 8200 s t8 := ((Agree.refl 8200 s).step (State.setReg_agree _ _ _) rfl)
  try clear_value t8
  try clear_value c9
  try clear_value c10
  exact (ht8.setFabric rfl)

theorem State.resetHooks_agree (s : State) (page : ℕ) : Agree 8192 s (State.resetHooks s page) := by
  unfold State.resetHooks
  extract_lets -underBinder -merge c0
  try clear_value c0
  exact ((Agree.refl 8192 s).setFabric rfl)

theorem State.disarmHooks_agree (s : State) (page : ℕ) : Agree 8192 s (State.disarmHooks s page) := by
  unfold State.disarmHooks
  extract_lets -underBinder -merge c0
  try clear_value c0
  exact ((Agree.refl 8192 s).setFabric rfl)

theorem State.firstQuery_agree (s : State) (channel : ℕ) : Agree 8 s (State.firstQuery s channel) := by
  unfold State.firstQuery
  extract_lets -underBinder -merge c0 c1
  try clear_value c0
  try clear_value c1
  exact (((Agree.refl 8 s).step (State.wr_agree _ _ _ _) rfl).step (State.wr_agree _ _ _ _) rfl)

theorem execFirstQuery_agree (channel : ℕ) (s : State) : Result.Agrees 8 s (execFirstQuery channel s) := by
  unfold execFirstQuery
  exact Result.Agrees.next ((Agree.refl 8 s).step (State.firstQuery_agree _ _) rfl)

theorem State.hopDrop_agree (s : State) (e : Emission) : Agree 98312 s (State.hopDrop s e) := by
  unfold State.hopDrop
  exact ((((Agree.refl 98312 s).step (State.count_agree _ _ _) rfl).step (State.wr_agree _ _ _ _) rfl).step (State.flag_agree _ _ _) rfl)

theorem State.chanStat_agree (s : State) (x : ℕ × ℕ) : Agree 98312 s (State.chanStat s x) := by
  unfold State.chanStat
  extract_lets -underBinder -merge c0 c1
  try clear_value c0
  try clear_value c1
  exact ((Agree.refl 98312 s).step (State.setChanStat_agree _ _ _) rfl)

theorem State.combine_agree (s : State) (outs : Outputs) (a : ℕ) : Agree 106504 s (State.combine s outs a) := by
  unfold State.combine
  extract_lets -underBinder -merge c0 c1 c2 c3 c4 c5 c6 c7 c8 t9 c10 c11
  try clear_value c0
  try clear_value c1
  try clear_value c2
  try clear_value c3
  try clear_value c4
  try clear_value c5
  try clear_value c6
  try clear_value c7
  try clear_value c8
  have ht9 : Agree 106504 s t9 := by
    unfold t9
    refine Agree.ite ?_ ?_
    · exact ((((Agree.refl 106504 s).step (State.setReg_agree _ _ _) rfl).step (State.count_agree _ _ _) rfl).step (State.flag_agree _ _ _) rfl)
    · exact (Agree.refl 106504 s)
  try clear_value t9
  try clear_value c10
  subst c11
  beta_reduce
  split
  · extract_lets -underBinder -merge t12 c13
    have ht12 : Agree 106504 s t12 := by
      unfold t12
      refine Agree.ite ?_ ?_
      · exact (ht9.step (State.setHook_agree _ _ _) rfl)
      · refine Agree.ite ?_ ?_
        · exact (ht9.step (State.setHook_agree _ _ _) rfl)
        · refine Agree.ite ?_ ?_
          · exact (ht9.step (State.setHook_agree _ _ _) rfl)
          · exact ht9
    try clear_value t12
    try clear_value c13
    refine Agree.ite ?_ ?_
    · exact (ht12.setFabric rfl)
    · exact ht12
  · extract_lets -underBinder -merge c14
    try clear_value c14
    refine Agree.ite ?_ ?_
    · exact (ht9.setFabric rfl)
    · exact ht9
  · extract_lets -underBinder -merge c15
    try clear_value c15
    refine Agree.ite ?_ ?_
    · exact (ht9.setFabric rfl)
    · exact ht9

theorem State.fabricCycle_agree (s : State) (es : List Emission) : Agree 106504 s (State.fabricCycle s es) := by
  unfold State.fabricCycle
  extract_lets -underBinder -merge c0 t1 t2 c3 c4 t5
  try clear_value c0
  have ht1 : Agree 106504 s t1 := ((Agree.refl 106504 s).setFabric rfl)
  try clear_value t1
  have ht2 : Agree 106504 s t2 := by
    unfold t2
    refine Agree.foldl (fun t6 x6 h6 => ?_) ?_
    · exact (h6.step (State.hopDrop_agree _ _) rfl)
    · exact ht1
  try clear_value t2
  try clear_value c3
  try clear_value c4
  have ht5 : Agree 106504 s t5 := by
    unfold t5
    refine Agree.foldl (fun t7 x7 h7 => ?_) ?_
    · exact (h7.step (State.chanStat_agree _ _) rfl)
    · exact ht2
  try clear_value t5
  refine Agree.foldl (fun t8 x8 h8 => ?_) ?_
  · exact (h8.step (State.combine_agree _ _ _) rfl)
  · exact ht5

theorem execFabricEvent_agree (more : ℕ) (s : State) : Result.Agrees 106504 s (execFabricEvent more s) := by
  unfold execFabricEvent
  extract_lets -underBinder -merge c0 c1
  try clear_value c0
  try clear_value c1
  exact Result.Agrees.next (((Agree.refl 106504 s).setFabric rfl).step (State.fabricCycle_agree _ _) rfl)

theorem State.emitPin_agree (s : State) (code : ℕ) : Agree 8192 s (State.emitPin s code) := by
  unfold State.emitPin
  refine Agree.ite ?_ ?_
  · exact (Agree.refl 8192 s)
  · exact ((Agree.refl 8192 s).step (State.emit_agree _ _ _) rfl)

theorem execTrigEdge_agree (i : ℕ) (level : Bool) (s : State) :
    Result.Agrees 2147491840 s (execTrigEdge i level s) := by
  unfold execTrigEdge
  extract_lets -underBinder -merge c0 c1 c2 t3
  try clear_value c0
  try clear_value c1
  try clear_value c2
  have ht3 : Agree 2147491840 s t3 := ((Agree.refl 2147491840 s).setPins rfl)
  try clear_value t3
  refine Result.Agrees.next ?_
  refine Agree.ite ?_ ?_
  · exact (Agree.refl 2147491840 s)
  · refine Agree.ite ?_ ?_
    · exact (ht3.step (State.emitPin_agree _ _) rfl)
    · exact ht3

theorem State.secondBoundary_agree (s : State) : Agree 1146888 s (State.secondBoundary s) := by
  unfold State.secondBoundary
  extract_lets -underBinder -merge c0
  try clear_value c0
  split
  · exact ((((Agree.refl 1146888 s).setLedger rfl).step (State.ledgerNote_agree _ _ _) rfl).step (State.flag_agree _ _ _) rfl)
  · exact ((Agree.refl 1146888 s).setLedger rfl)

theorem execPpsEdge_agree (level : Bool) (s : State) : Result.Agrees 2148638728 s (execPpsEdge level s) := by
  unfold execPpsEdge
  extract_lets -underBinder -merge c0 c1 t2 t3 c4
  try clear_value c0
  try clear_value c1
  have ht2 : Agree 2148638728 s t2 := ((Agree.refl 2148638728 s).setPins rfl)
  try clear_value t2
  have ht3 : Agree 2148638728 s t3 := (ht2.step (State.emitPin_agree _ _) rfl)
  try clear_value t3
  try clear_value c4
  refine Result.Agrees.next ?_
  refine Agree.ite ?_ ?_
  · exact ((ht3.setLedger rfl).step (State.secondBoundary_agree _) rfl)
  · exact ht2

theorem State.strobe_agree (s : State) (value : Word) : Agree 8192 s (State.strobe s value) := by
  unfold State.strobe
  exact ((Agree.refl 8192 s).step (State.emitAll_agree _ _) rfl)

theorem execSwStrobe_agree (value : Word) (s : State) : Result.Agrees 8192 s (execSwStrobe value s) := by
  unfold execSwStrobe
  exact Result.Agrees.next ((Agree.refl 8192 s).step (State.strobe_agree _ _) rfl)

theorem State.testCtrl_agree (s : State) (on : Bool) : Agree 536977416 s (State.testCtrl s on) := by
  unfold State.testCtrl
  refine Agree.ite ?_ ?_
  · exact (Agree.refl 536977416 s)
  · exact (((Agree.refl 536977416 s).step (State.wr_agree _ _ _ _) rfl).step (State.settle_agree _) rfl)

theorem execTestCtrlSingle_agree (on : Bool) (s : State) : Result.Agrees 536977416 s (execTestCtrlSingle on s) := by
  unfold execTestCtrlSingle
  exact Result.Agrees.next ((Agree.refl 536977416 s).step (State.testCtrl_agree _ _) rfl)

theorem State.writeChannel_agree (s : State) (who : Writer) (a : ℕ) (mask : Word) (value : Word) :
    Agree 98312 s (State.writeChannel s who a mask value) := by
  unfold State.writeChannel
  split
  · exact (Agree.refl 98312 s)
  · extract_lets -underBinder -merge c0 c1 c2 c3
    try clear_value c0
    try clear_value c1
    try clear_value c2
    try clear_value c3
    refine Agree.ite ?_ ?_
    · exact ((Agree.refl 98312 s).step (State.flag_agree _ _ _) rfl)
    · exact ((Agree.refl 98312 s).step (State.setReg_agree _ _ _) rfl)

theorem execChannelConfigWrite_agree (who : Writer) (addr : ℕ) (mask : Word) (value : Word) (s : State) :
    Result.Agrees 98312 s (execChannelConfigWrite who addr mask value s) := by
  unfold execChannelConfigWrite
  exact Result.Agrees.next ((Agree.refl 98312 s).step (State.writeChannel_agree _ _ _ _ _) rfl)

theorem State.gcConsume_agree (s : State) (x : Activation) : Agree 8200 s (State.gcConsume s x) := by
  unfold State.gcConsume
  extract_lets -underBinder -merge c0 t1
  try clear_value c0
  have ht1 : Agree 8200 s t1 := ((Agree.refl 8200 s).setFabric rfl)
  try clear_value t1
  refine Agree.ite ?_ ?_
  · exact (ht1.step (State.wr_agree _ _ _ _) rfl)
  · exact ht1

theorem execGcHook_agree (u : ℕ) (s : State) : Result.Agrees 8200 s (execGcHook u s) := by
  unfold execGcHook
  refine Result.Agrees.next ?_
  split
  · exact (Agree.refl 8200 s)
  · extract_lets -underBinder -merge c0
    try clear_value c0
    refine Agree.foldl (fun t1 x1 h1 => ?_) ?_
    · exact (h1.step (State.gcConsume_agree _ _) rfl)
    · exact (Agree.refl 8200 s)

/-! ### Timers -/

theorem State.timerStart_agree (s : State) (hop : ℕ) (t : ℕ) : Agree 16384 s (State.timerStart s hop t) := by
  unfold State.timerStart
  extract_lets -underBinder -merge c0 c1 c2
  try clear_value c0
  try clear_value c1
  try clear_value c2
  refine Agree.ite ?_ ?_
  · exact (Agree.refl 16384 s)
  · exact ((Agree.refl 16384 s).step (State.setTimer_agree _ _ _) rfl)

theorem State.timerStop_agree (s : State) (t : ℕ) : Agree 16384 s (State.timerStop s t) := by
  unfold State.timerStop
  extract_lets -underBinder -merge c0
  try clear_value c0
  exact ((Agree.refl 16384 s).step (State.setTimer_agree _ _ _) rfl)

theorem execTimerStart_agree (value : Word) (s : State) : Result.Agrees 16384 s (execTimerStart value s) := by
  unfold execTimerStart
  refine Result.Agrees.next ?_
  refine Agree.foldl (fun t0 x0 h0 => ?_) ?_
  · exact (h0.step (State.timerStart_agree _ _ _) rfl)
  · exact (Agree.refl 16384 s)

theorem execTimerStop_agree (value : Word) (s : State) : Result.Agrees 16384 s (execTimerStop value s) := by
  unfold execTimerStop
  refine Result.Agrees.next ?_
  refine Agree.foldl (fun t0 x0 h0 => ?_) ?_
  · exact (h0.step (State.timerStop_agree _ _) rfl)
  · exact (Agree.refl 16384 s)

theorem execHookTstart_agree (t : ℕ) (s : State) : Result.Agrees 24576 s (execHookTstart t s) := by
  unfold execHookTstart
  refine Result.Agrees.next ?_
  refine Agree.ite ?_ ?_
  · refine Agree.onAct ?_ rfl ?_
    · exact (Agree.refl 24576 s)
    · intro a0 t0 h0
      refine Agree.ite ?_ ?_
      · exact h0
      · exact (h0.step (State.timerStart_agree _ _ _) rfl)
  · exact (Agree.refl 24576 s)

theorem execHookTstop_agree (t : ℕ) (s : State) : Result.Agrees 24576 s (execHookTstop t s) := by
  unfold execHookTstop
  refine Result.Agrees.next ?_
  refine Agree.ite ?_ ?_
  · refine Agree.onAct ?_ rfl ?_
    · exact (Agree.refl 24576 s)
    · intro a0 t0 h0
      extract_lets -underBinder -merge t1 c2
      have ht1 : Agree 24576 s t1 := (h0.step (State.timerStop_agree _ _) rfl)
      try clear_value t1
      try clear_value c2
      exact (ht1.step (State.setTimer_agree _ _ _) rfl)
  · exact (Agree.refl 24576 s)

theorem State.timerExpire_agree (s : State) (t : ℕ) (hop : ℕ) (completed : ℕ) :
    Agree 122888 s (State.timerExpire s t hop completed) := by
  unfold State.timerExpire
  extract_lets -underBinder -merge c0
  try clear_value c0
  exact ((((Agree.refl 122888 s).step (State.setTimer_agree _ _ _) rfl).step (State.flag_agree _ _ _) rfl).step (State.emit_agree _ _ _) rfl)

theorem execHookTcapt_agree (t : ℕ) (s : State) : Result.Agrees 122888 s (execHookTcapt t s) := by
  unfold execHookTcapt
  refine Result.Agrees.next ?_
  refine Agree.ite ?_ ?_
  · refine Agree.onAct ?_ rfl ?_
    · exact (Agree.refl 122888 s)
    · intro a0 t0 h0
      extract_lets -underBinder -merge c1 c2 t3
      try clear_value c1
      try clear_value c2
      have ht3 : Agree 122888 s t3 := (h0.step (State.setTimer_agree _ _ _) rfl)
      try clear_value t3
      refine Agree.ite ?_ ?_
      · exact h0
      · refine Agree.ite ?_ ?_
        · refine Agree.ite ?_ ?_
          · exact (ht3.step (State.timerExpire_agree _ _ _ _) rfl)
          · exact ht3
        · exact ((h0.step (State.setTimer_agree _ _ _) rfl).step (State.emit_agree _ _ _) rfl)
  · exact (Agree.refl 122888 s)

theorem execTimerWindowOpen_agree (t : ℕ) (s : State) : Result.Agrees 16384 s (execTimerWindowOpen t s) := by
  unfold execTimerWindowOpen
  extract_lets -underBinder -merge c0
  try clear_value c0
  refine Result.Agrees.next ?_
  refine Agree.ite ?_ ?_
  · exact ((Agree.refl 16384 s).step (State.setTimer_agree _ _ _) rfl)
  · exact (Agree.refl 16384 s)

theorem execTimerExpire_agree (t : ℕ) (s : State) : Result.Agrees 122888 s (execTimerExpire t s) := by
  unfold execTimerExpire
  extract_lets -underBinder -merge c0
  try clear_value c0
  refine Result.Agrees.next ?_
  refine Agree.ite ?_ ?_
  · exact (Agree.refl 122888 s)
  · split
    · exact (((Agree.refl 122888 s).step (State.setTimer_agree _ _ _) rfl).step (State.timerExpire_agree _ _ _ _) rfl)
    · exact (((Agree.refl 122888 s).step (State.setTimer_agree _ _ _) rfl).step (State.timerExpire_agree _ _ _ _) rfl)
    · exact (((Agree.refl 122888 s).step (State.setTimer_agree _ _ _) rfl).step (State.timerExpire_agree _ _ _ _) rfl)
    · exact (((Agree.refl 122888 s).step (State.setTimer_agree _ _ _) rfl).step (State.timerExpire_agree _ _ _ _) rfl)
    · exact (Agree.refl 122888 s)

theorem State.snapTimer_agree (s : State) (t : ℕ) : Agree 16392 s (State.snapTimer s t) := by
  unfold State.snapTimer
  extract_lets -underBinder -merge c0 c1 c2 t3
  try clear_value c0
  try clear_value c1
  try clear_value c2
  have ht3 : Agree 16392 s t3 := (((Agree.refl 16392 s).step (State.wr_agree _ _ _ _) rfl).step (State.setTimer_agree _ _ _) rfl)
  try clear_value t3
  exact ((((ht3.step (State.wr_agree _ _ _ _) rfl).step (State.wr_agree _ _ _ _) rfl).step (State.wr_agree _ _ _ _) rfl).step (State.wr_agree _ _ _ _) rfl)

theorem execSnapSel_agree (t : ℕ) (s : State) : Result.Agrees 16392 s (execSnapSel t s) := by
  unfold execSnapSel
  exact Result.Agrees.next ((Agree.refl 16392 s).step (State.snapTimer_agree _ _) rfl)

/-! ### Hooks -/

theorem State.jumpEvent_agree (s : State) (u : SeqUnit) (j : ℕ) (hop : ℕ) :
    Agree 48 s (State.jumpEvent s u j hop) := by
  unfold State.jumpEvent
  refine Agree.ite ?_ ?_
  · exact (Agree.refl 48 s)
  · exact ((Agree.refl 48 s).step (State.setPlayhead_agree _ _ _) rfl)

theorem execHookJump_agree (n : ℕ) (j : ℕ) (s : State) : Result.Agrees 8240 s (execHookJump n j s) := by
  unfold execHookJump
  refine Result.Agrees.next ?_
  refine Agree.ite ?_ ?_
  · refine Agree.onAct ?_ rfl ?_
    · exact (Agree.refl 8240 s)
    · intro a0 t0 h0
      split
      · refine Agree.ite ?_ ?_
        · exact (h0.step (State.jumpEvent_agree _ _ _ _) rfl)
        · exact h0
      · exact h0
  · exact (Agree.refl 8240 s)

theorem State.pulseMissed_agree (s : State) (n : ℕ) : Agree 8 s (State.pulseMissed s n) := by
  unfold State.pulseMissed
  exact ((Agree.refl 8 s).step (State.count_agree _ _ _) rfl)

theorem State.fire_agree (s : State) (n : ℕ) (hop : ℕ) : Agree 24 s (State.fire s n hop) := by
  unfold State.fire
  extract_lets -underBinder -merge c0
  try clear_value c0
  refine Agree.ite ?_ ?_
  · exact ((Agree.refl 24 s).step (State.pulseMissed_agree _ _) rfl)
  · split
    · extract_lets -underBinder -merge c1 c2 c3 c4
      try clear_value c1
      try clear_value c2
      try clear_value c3
      try clear_value c4
      exact ((Agree.refl 24 s).step (State.setPort_agree _ _ _) rfl)
    · refine Agree.ite ?_ ?_
      · exact (Agree.refl 24 s)
      · exact ((Agree.refl 24 s).step (State.pulseMissed_agree _ _) rfl)

theorem State.fireByRegister_agree (s : State) (n : ℕ) : Agree 24 s (State.fireByRegister s n) := by
  unfold State.fireByRegister
  refine Agree.ite ?_ ?_
  · exact (Agree.refl 24 s)
  · refine Agree.ite ?_ ?_
    · exact ((Agree.refl 24 s).step (State.pulseMissed_agree _ _) rfl)
    · exact ((Agree.refl 24 s).step (State.fire_agree _ _ _) rfl)

theorem execPulseFire_agree (n : ℕ) (s : State) : Result.Agrees 24 s (execPulseFire n s) := by
  unfold execPulseFire
  exact Result.Agrees.next ((Agree.refl 24 s).step (State.fireByRegister_agree _ _) rfl)

theorem execPulseLeadingEdge_agree (n : ℕ) (s : State) : Result.Agrees 24 s (execPulseLeadingEdge n s) := by
  unfold execPulseLeadingEdge
  refine Result.Agrees.next ?_
  split
  · refine Agree.ite ?_ ?_
    · exact (((Agree.refl 24 s).step (State.modPort_agree _ _ _) rfl).step (State.count_agree _ _ _) rfl)
    · exact (Agree.refl 24 s)
  · exact (Agree.refl 24 s)

theorem execPulseEnd_agree (n : ℕ) (s : State) : Result.Agrees 16 s (execPulseEnd n s) := by
  unfold execPulseEnd
  refine Result.Agrees.next ?_
  split
  · refine Agree.ite ?_ ?_
    · exact (Agree.refl 16 s)
    · exact ((Agree.refl 16 s).step (State.modPort_agree _ _ _) rfl)
  · exact (Agree.refl 16 s)

theorem State.hookLatch_agree (s : State) (n : ℕ) (what : Latched) (hop : ℕ) :
    Agree 48 s (State.hookLatch s n what hop) := by
  unfold State.hookLatch
  split
  · refine Agree.ite ?_ ?_
    · exact ((Agree.refl 48 s).step (State.latch_agree _ _ _ _) rfl)
    · exact (Agree.refl 48 s)
  · exact (Agree.refl 48 s)

theorem execHookStart_agree (n : ℕ) (s : State) : Result.Agrees 8248 s (execHookStart n s) := by
  unfold execHookStart
  refine Result.Agrees.next ?_
  refine Agree.ite ?_ ?_
  · refine Agree.onAct ?_ rfl ?_
    · exact (Agree.refl 8248 s)
    · intro a0 t0 h0
      refine Agree.ite ?_ ?_
      · exact (h0.step (State.fire_agree _ _ _) rfl)
      · exact (h0.step (State.hookLatch_agree _ _ _ _) rfl)
  · exact (Agree.refl 8248 s)

theorem execHookStop_agree (n : ℕ) (s : State) : Result.Agrees 8240 s (execHookStop n s) := by
  unfold execHookStop
  refine Result.Agrees.next ?_
  refine Agree.ite ?_ ?_
  · refine Agree.onAct ?_ rfl ?_
    · exact (Agree.refl 8240 s)
    · intro a0 t0 h0; exact (h0.step (State.hookLatch_agree _ _ _ _) rfl)
  · exact (Agree.refl 8240 s)

theorem execHookPause_agree (n : ℕ) (s : State) : Result.Agrees 8240 s (execHookPause n s) := by
  unfold execHookPause
  refine Result.Agrees.next ?_
  refine Agree.ite ?_ ?_
  · refine Agree.onAct ?_ rfl ?_
    · exact (Agree.refl 8240 s)
    · intro a0 t0 h0; exact (h0.step (State.hookLatch_agree _ _ _ _) rfl)
  · exact (Agree.refl 8240 s)

theorem execHookNco_agree (n : ℕ) (s : State) : Result.Agrees 8208 s (execHookNco n s) := by
  unfold execHookNco
  refine Result.Agrees.next ?_
  refine Agree.ite ?_ ?_
  · refine Agree.onAct ?_ rfl ?_
    · exact (Agree.refl 8208 s)
    · intro a0 t0 h0
      refine Agree.ite ?_ ?_
      · exact (h0.step (State.latchTransfer_agree _ _ _) rfl)
      · exact h0
  · exact (Agree.refl 8208 s)

theorem execHookCommit_agree (n : ℕ) (s : State) : Result.Agrees 8208 s (execHookCommit n s) := by
  unfold execHookCommit
  refine Result.Agrees.next ?_
  refine Agree.ite ?_ ?_
  · refine Agree.onAct ?_ rfl ?_
    · exact (Agree.refl 8208 s)
    · intro a0 t0 h0
      refine Agree.ite ?_ ?_
      · exact (h0.step (State.latchTransfer_agree _ _ _) rfl)
      · exact h0
  · exact (Agree.refl 8208 s)

/-! ### Pair -/

theorem State.settleSwitches_agree (s : State) (n : ℕ) : Agree 16 s (State.settleSwitches s n) := by
  unfold State.settleSwitches
  extract_lets -underBinder -merge c0 c1 c2
  try clear_value c0
  try clear_value c1
  try clear_value c2
  split
  · extract_lets -underBinder -merge c3 c4 c5
    try clear_value c3
    try clear_value c4
    try clear_value c5
    refine Agree.ite ?_ ?_
    · exact (Agree.refl 16 s)
    · exact ((Agree.refl 16 s).step (State.setPort_agree _ _ _) rfl)
  · exact ((Agree.refl 16 s).step (State.setPort_agree _ _ _) rfl)

theorem State.settleAllSwitches_agree (s : State) : Agree 16 s (State.settleAllSwitches s) := by
  unfold State.settleAllSwitches
  refine Agree.foldl (fun t0 x0 h0 => ?_) ?_
  · exact (h0.step (State.settleSwitches_agree _ _) rfl)
  · exact (Agree.refl 16 s)

theorem State.failover_agree (s : State) (event : ℕ) (fault : ℕ) (page : ℕ) :
    Agree 1146892 s (State.failover s event fault page) := by
  unfold State.failover
  extract_lets -underBinder -merge c0 c1 c2 c3
  try clear_value c0
  try clear_value c1
  try clear_value c2
  try clear_value c3
  exact (((((Agree.refl 1146892 s).step (State.spend_agree _) rfl).step (State.spend_agree _) rfl).step (State.spend_agree _) rfl).step (State.ledgerWrite_agree _ _ _ _ _) rfl)

theorem State.setRole_agree (s : State) (r : Role) : Agree 671195160 s (State.setRole s r) := by
  unfold State.setRole
  extract_lets -underBinder -merge c0
  try clear_value c0
  exact ((((Agree.refl 671195160 s).setTwin rfl).step (State.settle_agree _) rfl).step (State.settleAllSwitches_agree _) rfl)

theorem State.releaseLead_agree (s : State) (byRequest : Option Role) :
    Agree 674340892 s (State.releaseLead s byRequest) := by
  unfold State.releaseLead
  extract_lets -underBinder -merge c0 c1 c2 t3
  try clear_value c0
  try clear_value c1
  try clear_value c2
  have ht3 : Agree 674340892 s t3 := ((Agree.refl 674340892 s).setTwin rfl)
  try clear_value t3
  refine Agree.ite ?_ ?_
  · exact (Agree.refl 674340892 s)
  · exact ((((ht3.step (State.setRole_agree _ _) rfl).step (State.fault_agree _ _ _ _) rfl).step (State.flag_agree _ _ _) rfl).step (State.failover_agree _ _ _ _) rfl)

theorem State.requestSwap_agree (s : State) : Agree 134217728 s (State.requestSwap s) := by
  unfold State.requestSwap
  extract_lets -underBinder -merge c0 c1 c2
  try clear_value c0
  try clear_value c1
  try clear_value c2
  refine Agree.ite ?_ ?_
  · exact ((Agree.refl 134217728 s).setTwin rfl)
  · exact ((Agree.refl 134217728 s).setTwin rfl)

theorem State.escalate_agree (s : State) (fault : ℕ) (page : ℕ) (timing : Bool) :
    Agree 674340892 s (State.escalate s fault page timing) := by
  unfold State.escalate
  extract_lets -underBinder -merge c0 t1 t2
  try clear_value c0
  have ht1 : Agree 674340892 s t1 := ((Agree.refl 674340892 s).step (State.requestSwap_agree _) rfl)
  try clear_value t1
  have ht2 : Agree 674340892 s t2 := (ht1.step (State.failover_agree _ _ _ _) rfl)
  try clear_value t2
  refine Agree.ite ?_ ?_
  · refine Agree.ite ?_ ?_
    · exact ht1
    · refine Agree.ite ?_ ?_
      · exact (ht2.step (State.releaseLead_agree _ _) rfl)
      · exact ht2
  · exact (Agree.refl 674340892 s)

end Machine
end Sys2Proof
end

