-- ==== Sys2Proof/Laws/FootprintMemory.lean ====
section
/-! SUPPORT. What each operation can change (Laws/Footprint.lean), for the stacks, staging, requests and stages: every field of State outside the mask
is as it was. -/

namespace Sys2Proof
namespace Machine

/-! ### Memory -/

theorem State.modStack_agree (s : State) (k : ℕ) (f : Stack → Stack) : Agree 1024 s (State.modStack s k f) := by
  unfold State.modStack
  exact ((Agree.refl 1024 s).step (State.setStack_agree _ _ _) rfl)

theorem execRefreshTick_agree (k : ℕ) (s : State) : Result.Agrees 1024 s (execRefreshTick k s) := by
  unfold execRefreshTick
  refine Result.Agrees.next ?_
  refine Agree.ite ?_ ?_
  · exact ((Agree.refl 1024 s).step (State.modStack_agree _ _ _) rfl)
  · exact (Agree.refl 1024 s)

theorem execRefreshIssue_agree (k : ℕ) (tapSteps : ℕ) (s : State) :
    Result.Agrees 1024 s (execRefreshIssue k tapSteps s) := by
  unfold execRefreshIssue
  extract_lets -underBinder -merge c0
  try clear_value c0
  refine Result.Agrees.next ?_
  refine Agree.ite ?_ ?_
  · exact ((Agree.refl 1024 s).step (State.modStack_agree _ _ _) rfl)
  · exact (Agree.refl 1024 s)

theorem execForcedBatch_agree (k : ℕ) (tapSteps : ℕ) (s : State) :
    Result.Agrees 99336 s (execForcedBatch k tapSteps s) := by
  unfold execForcedBatch
  extract_lets -underBinder -merge c0
  try clear_value c0
  refine Result.Agrees.next ?_
  refine Agree.ite ?_ ?_
  · exact ((((Agree.refl 99336 s).step (State.modStack_agree _ _ _) rfl).step (State.count_agree _ _ _) rfl).step (State.flag_agree _ _ _) rfl)
  · exact (Agree.refl 99336 s)

theorem State.crossUp_agree (s : State) (k : ℕ) : Agree 99336 s (State.crossUp s k) := by
  unfold State.crossUp
  refine Agree.ite ?_ ?_
  · exact (Agree.refl 99336 s)
  · exact ((((Agree.refl 99336 s).step (State.modStack_agree _ _ _) rfl).step (State.countField_agree _ _ _ _ _ _) rfl).step (State.flag_agree _ _ _) rfl)

theorem State.crossDown_agree (s : State) (k : ℕ) : Agree 99336 s (State.crossDown s k) := by
  unfold State.crossDown
  exact ((((Agree.refl 99336 s).step (State.modStack_agree _ _ _) rfl).step (State.countField_agree _ _ _ _ _ _) rfl).step (State.flag_agree _ _ _) rfl)

theorem execStackTempReading_agree (k : ℕ) (celsius : ℤ) (s : State) :
    Result.Agrees 99336 s (execStackTempReading k celsius s) := by
  unfold execStackTempReading
  extract_lets -underBinder -merge c0 t1
  try clear_value c0
  have ht1 : Agree 99336 s t1 := ((Agree.refl 99336 s).step (State.setStack_agree _ _ _) rfl)
  try clear_value t1
  refine Result.Agrees.next ?_
  refine Agree.ite ?_ ?_
  · refine Agree.ite ?_ ?_
    · exact ht1
    · refine Agree.ite ?_ ?_
      · exact (ht1.step (State.crossUp_agree _ _) rfl)
      · refine Agree.ite ?_ ?_
        · exact (ht1.step (State.crossDown_agree _ _) rfl)
        · exact ht1
  · exact (Agree.refl 99336 s)

theorem execCrossingBatch_agree (k : ℕ) (tapSteps : ℕ) (s : State) :
    Result.Agrees 1024 s (execCrossingBatch k tapSteps s) := by
  unfold execCrossingBatch
  refine Result.Agrees.next ?_
  refine Agree.ite ?_ ?_
  · exact ((Agree.refl 1024 s).step (State.modStack_agree _ _ _) rfl)
  · exact (Agree.refl 1024 s)

theorem State.writeForceDouble_agree (s : State) (k : ℕ) (on : Bool) :
    Agree 99336 s (State.writeForceDouble s k on) := by
  unfold State.writeForceDouble
  extract_lets -underBinder -merge c0 t1 c2
  try clear_value c0
  have ht1 : Agree 99336 s t1 := (((Agree.refl 99336 s).step (State.setStack_agree _ _ _) rfl).step (State.wr_agree _ _ _ _) rfl)
  try clear_value t1
  try clear_value c2
  refine Agree.ite ?_ ?_
  · exact (Agree.refl 99336 s)
  · refine Agree.ite ?_ ?_
    · exact (ht1.step (State.crossUp_agree _ _) rfl)
    · refine Agree.ite ?_ ?_
      · exact (ht1.step (State.crossDown_agree _ _) rfl)
      · exact ht1

theorem execForceDoubleWrite_agree (k : ℕ) (on : Bool) (s : State) :
    Result.Agrees 99336 s (execForceDoubleWrite k on s) := by
  unfold execForceDoubleWrite
  exact Result.Agrees.next ((Agree.refl 99336 s).step (State.writeForceDouble_agree _ _ _) rfl)

theorem execParityAlert_agree (k : ℕ) (pc : ℕ) (failures : ℕ) (errorsInMs : ℕ) (s : State) :
    Result.Agrees 674341916 s (execParityAlert k pc failures errorsInMs s) := by
  unfold execParityAlert
  extract_lets -underBinder -merge c0 t1 t2
  try clear_value c0
  have ht1 : Agree 674341916 s t1 := ((((Agree.refl 674341916 s).step (State.count_agree _ _ _) rfl).step (State.count_agree _ _ _) rfl).step (State.setFlags_agree _ _ _) rfl)
  try clear_value t1
  have ht2 : Agree 674341916 s t2 := by
    unfold t2
    refine Agree.ite ?_ ?_
    · exact ((((ht1.step (State.modStack_agree _ _ _) rfl).step (State.fault_agree _ _ _ _) rfl).step (State.setDegraded_agree _ _ _) rfl).step (State.escalate_agree _ _ _ _) rfl)
    · exact ht1
  try clear_value t2
  refine Result.Agrees.next ?_
  refine Agree.ite ?_ ?_
  · refine Agree.ite ?_ ?_
    · exact ((ht2.step (State.fault_agree _ _ _ _) rfl).step (State.flag_agree _ _ _) rfl)
    · exact ht2
  · exact (Agree.refl 674341916 s)

theorem execTrainingComplete_agree (k : ℕ) (ok : Bool) (s : State) :
    Result.Agrees 1024 s (execTrainingComplete k ok s) := by
  unfold execTrainingComplete
  extract_lets -underBinder -merge c0
  try clear_value c0
  refine Result.Agrees.next ?_
  refine Agree.ite ?_ ?_
  · refine Agree.ite ?_ ?_
    · exact ((Agree.refl 1024 s).step (State.setStack_agree _ _ _) rfl)
    · refine Agree.ite ?_ ?_
      · exact ((Agree.refl 1024 s).step (State.setStack_agree _ _ _) rfl)
      · exact ((Agree.refl 1024 s).step (State.setStack_agree _ _ _) rfl)
  · exact (Agree.refl 1024 s)

theorem State.eccUncorr_agree (s : State) (a : ℕ) : Agree 98312 s (State.eccUncorr s a) := by
  unfold State.eccUncorr
  extract_lets -underBinder -merge c0
  try clear_value c0
  exact (((((Agree.refl 98312 s).step (State.count_agree _ _ _) rfl).step (State.wr_agree _ _ _ _) rfl).step (State.wr_agree _ _ _ _) rfl).step (State.flag_agree _ _ _) rfl)

theorem State.eccCorr_agree (s : State) (a : ℕ) : Agree 98312 s (State.eccCorr s a) := by
  unfold State.eccCorr
  extract_lets -underBinder -merge c0
  try clear_value c0
  exact (((Agree.refl 98312 s).step (State.count_agree _ _ _) rfl).step (State.flag_agree _ _ _) rfl)

theorem State.fetchLatency_agree (s : State) (n : ℕ) (a : ℕ) (overBound : Bool) :
    Agree 2203660 s (State.fetchLatency s n a overBound) := by
  unfold State.fetchLatency
  extract_lets -underBinder -merge c0 c1 c2 c3 t4
  try clear_value c0
  try clear_value c1
  try clear_value c2
  try clear_value c3
  have ht4 : Agree 2203660 s t4 := (((Agree.refl 2203660 s).step (State.spend_agree _) rfl).step (State.wr_agree _ _ _ _) rfl)
  try clear_value t4
  refine Agree.ite ?_ ?_
  · exact (Agree.refl 2203660 s)
  · refine Agree.ite ?_ ?_
    · exact (((ht4.step (State.countField_agree _ _ _ _ _ _) rfl).step (State.flag_agree _ _ _) rfl).step (State.fault_agree _ _ _ _) rfl)
    · exact ht4

theorem State.deliver_agree (s : State) (n : ℕ) (f : Fetched) : Agree 98332 s (State.deliver s n f) := by
  unfold State.deliver
  extract_lets -underBinder -merge t0
  have ht0 : Agree 98332 s t0 := ((Agree.refl 98332 s).step (State.crcArrive_agree _ _ _) rfl)
  try clear_value t0
  refine Agree.ite ?_ ?_
  · exact ht0
  · exact (ht0.step (State.modPort_agree _ _ _) rfl)

theorem State.readSeverity_agree (s : State) (a : ℕ) (severity : Severity) :
    Agree 98312 s (State.readSeverity s a severity).1 := by
  unfold State.readSeverity
  refine Agree.ite1 ?_ ?_
  · exact ((Agree.refl 98312 s).step (State.eccUncorr_agree _ _) rfl).fst
  · refine Agree.ite1 ?_ ?_
    · exact ((Agree.refl 98312 s).step (State.eccCorr_agree _ _) rfl).fst
    · exact (Agree.refl 98312 s).fst

theorem State.countService_agree (s : State) (reads : ReadErrors) (gs : List ℕ) :
    Agree 98312 s (State.countService s reads gs) := by
  unfold State.countService
  refine Agree.foldl (fun t0 x0 h0 => ?_) ?_
  · exact (h0.step (State.readSeverity_agree _ _ _) rfl)
  · exact (Agree.refl 98312 s)

theorem execReadComplete_agree (n : ℕ) (severity : Severity) (overBound : Bool) (s : State) :
    Result.Agrees 2203676 s (execReadComplete n severity overBound s) := by
  unfold execReadComplete
  extract_lets -underBinder -merge c0
  try clear_value c0
  refine Result.Agrees.next ?_
  split
  · exact (Agree.refl 2203676 s)
  · extract_lets -underBinder -merge c1 t2 t3
    try clear_value c1
    have ht2 : Agree 2203676 s t2 := (((Agree.refl 2203676 s).step (State.setPort_agree _ _ _) rfl).step (State.fetchLatency_agree _ _ _ _) rfl)
    try clear_value t2
    have ht3 : Agree 2203676 s t3.1 := (ht2.step (State.readSeverity_agree _ _ _) rfl)
    try clear_value t3
    refine Agree.ite ?_ ?_
    · exact ht3
    · refine Agree.ite ?_ ?_
      · exact (ht3.step (State.deliver_agree _ _ _) rfl)
      · refine Agree.ite ?_ ?_
        · exact (ht3.step (State.deliver_agree _ _ _) rfl)
        · exact (ht3.step (State.modPort_agree _ _ _) rfl)

theorem execRefetchComplete_agree (n : ℕ) (severity : Severity) (late : Bool) (overBound : Bool) (s : State) :
    Result.Agrees 2203676 s (execRefetchComplete n severity late overBound s) := by
  unfold execRefetchComplete
  extract_lets -underBinder -merge c0
  try clear_value c0
  refine Result.Agrees.next ?_
  split
  · exact (Agree.refl 2203676 s)
  · extract_lets -underBinder -merge c1 t2 t3
    try clear_value c1
    have ht2 : Agree 2203676 s t2 := (((Agree.refl 2203676 s).step (State.setPort_agree _ _ _) rfl).step (State.fetchLatency_agree _ _ _ _) rfl)
    try clear_value t2
    have ht3 : Agree 2203676 s t3.1 := (ht2.step (State.readSeverity_agree _ _ _) rfl)
    try clear_value t3
    refine Agree.ite ?_ ?_
    · exact (ht3.step (State.deliver_agree _ _ _) rfl)
    · exact (ht3.step (State.deliver_agree _ _ _) rfl)

theorem execFetchRequest_agree (n : ℕ) (s : State) : Result.Agrees 24 s (execFetchRequest n s) := by
  unfold execFetchRequest
  exact Result.Agrees.next ((Agree.refl 24 s).step (State.requestGranule_agree _ _) rfl)

theorem State.writeGranule_agree (s : State) (a : ℕ) (bytes : List Byte) (oldUnreadable : Bool) :
    Agree 100872 s (State.writeGranule s a bytes oldUnreadable) := by
  unfold State.writeGranule
  extract_lets -underBinder -merge c0 c1 c2 t3 t4
  try clear_value c0
  try clear_value c1
  try clear_value c2
  have ht3 : Agree 100872 s t3 := by
    unfold t3
    refine Agree.ite ?_ ?_
    · exact (((Agree.refl 100872 s).step (State.eccUncorr_agree _ _) rfl).step (State.writeBytes_agree _ _ _) rfl)
    · exact (Agree.refl 100872 s)
  try clear_value t3
  have ht4 : Agree 100872 s t4 := (ht3.step (State.writeBytes_agree _ _ _) rfl)
  try clear_value t4
  refine Agree.ite ?_ ?_
  · exact (Agree.refl 100872 s)
  · exact (ht4.setCopies rfl)

theorem execPostedWriteDrain_agree (oldUnreadable : Bool) (s : State) :
    Result.Agrees 363016 s (execPostedWriteDrain oldUnreadable s) := by
  unfold execPostedWriteDrain
  refine Result.Agrees.next ?_
  split
  · exact (Agree.refl 363016 s)
  · extract_lets -underBinder -merge c0 c1 c2 c3
    try clear_value c0
    try clear_value c1
    try clear_value c2
    try clear_value c3
    refine Agree.ite ?_ ?_
    · exact (Agree.refl 363016 s)
    · exact (((Agree.refl 363016 s).setBulk rfl).step (State.writeGranule_agree _ _ _ _) rfl)

/-! ### Staging -/

theorem State.countReads_agree (s : State) (reads : ReadErrors) (addrs : List ℕ) :
    Agree 98312 s (State.countReads s reads addrs) := by
  unfold State.countReads
  refine Agree.foldl (fun t0 x0 h0 => ?_) ?_
  · extract_lets -underBinder -merge c1
    try clear_value c1
    refine Agree.ite ?_ ?_
    · exact (h0.step (State.eccUncorr_agree _ _) rfl)
    · refine Agree.ite ?_ ?_
      · exact ((h0.step (State.eccUncorr_agree _ _) rfl).step (State.eccUncorr_agree _ _) rfl)
      · refine Agree.ite ?_ ?_
        · exact (h0.step (State.eccUncorr_agree _ _) rfl)
        · refine Agree.ite ?_ ?_
          · exact (h0.step (State.eccCorr_agree _ _) rfl)
          · exact h0
  · exact (Agree.refl 98312 s)

theorem State.place_agree (s : State) (t : PType) (n d : ℕ) (w : BitVec 256) (need : ℕ) (reads : ReadErrors) (u : State)
    (h : s.place t n d w need reads = some u) : Agree 100360 s u := by
  unfold State.place at h
  split at h
  all_goals (extract_lets at h; split at h)
  all_goals cases h
  all_goals exact ((Agree.refl _ _).setCopies rfl).step (State.countReads_agree _ _ _) rfl

theorem State.dropCopy_agree (s : State) (n : ℕ) (d : ℕ) : Agree 2048 s (State.dropCopy s n d) := by
  unfold State.dropCopy
  exact ((Agree.refl 2048 s).setCopies rfl)

theorem State.dropData_agree (s : State) (n : ℕ) (d : ℕ) : Agree 2048 s (State.dropData s n d) := by
  unfold State.dropData
  split
  · exact (Agree.refl 2048 s)
  · extract_lets -underBinder -merge t0
    have ht0 : Agree 2048 s t0 := ((Agree.refl 2048 s).step (State.dropCopy_agree _ _ _) rfl)
    try clear_value t0
    refine Agree.ite ?_ ?_
    · exact ht0
    · exact (ht0.setCopies rfl)

theorem State.setShort_agree (s : State) (n : ℕ) : Agree 98312 s (State.setShort s n) := by
  unfold State.setShort
  exact (((Agree.refl 98312 s).step (State.mapSet_agree _ _ _ _ _) rfl).step (State.flag_agree _ _ _) rfl)

theorem State.policyZero_agree (s : State) (n : ℕ) : Agree 8 s (State.policyZero s n) := by
  unfold State.policyZero
  extract_lets -underBinder -merge c0
  try clear_value c0
  exact ((Agree.refl 8 s).step (State.setReg_agree _ _ _) rfl)

theorem Staging.crcFail_agree (x : Staging) (n : ℕ) (w : BitVec 256) : Agree 98312 x.s (Staging.crcFail x n w).s := by
  unfold Staging.crcFail
  exact (Agree.stg ((Agree.refl 98312 x.s).step (State.dataFault_agree _ _ _ _) rfl))

theorem Staging.item_agree (x : Staging) (n order : ℕ) (reads : ReadErrors) (d : ℕ) :
    Agree 100360 x.s (Staging.item x n order reads d).s := by
  unfold Staging.item
  extract_lets +onlyGivenNames -merge s t w
  split
  · exact Agree.refl _ _
  have h0 : Agree 100360 x.s s := Agree.refl _ _
  clear_value s
  split
  all_goals split
  all_goals first | exact Agree.refl _ _ | skip
  all_goals split
  all_goals first | exact Agree.refl _ _ | exact h0.step (State.setShort_agree _ _) rfl | skip
  · exact h0.step (State.place_agree _ _ _ _ _ _ _ _ (by assumption)) rfl
  · extract_lets +onlyGivenNames -merge y
    have h1 : Agree 100360 x.s y.s := h0.step (State.place_agree _ _ _ _ _ _ _ _ (by assumption)) rfl
    clear_value y
    split
    · exact h1.step (Staging.crcFail_agree _ _ _) rfl
    · exact h1
  · exact h0.step (State.place_agree _ _ _ _ _ _ _ _ (by assumption)) rfl

theorem Staging.recovery_agree (x : Staging) (n : ℕ) (reads : ReadErrors) :
    Agree 100360 x.s (Staging.recovery x n reads).s := by
  unfold Staging.recovery
  extract_lets +onlyGivenNames -merge s t reg
  split
  · exact Agree.refl _ _
  have h0 : Agree 100360 x.s s := Agree.refl _ _
  clear_value s
  extract_lets +onlyGivenNames -merge e d w
  split
  · exact h0.step (State.policyZero_agree _ _) rfl
  split
  · exact (h0.step (State.policyZero_agree _ _) rfl).step (State.setShort_agree _ _) rfl
  · have h1 := h0.step (State.place_agree _ _ _ _ _ _ _ _ (by assumption)) (B := 100360) rfl
    split
    · exact h1
    split
    · exact Agree.step (Agree.stg (b := x.failed) h1) (Staging.crcFail_agree _ _ _) rfl
    · exact Agree.stg ((((h1.step (State.dropData_agree _ _ _) rfl).step (State.policyZero_agree _ _) rfl).step (State.dataFault_agree _ _ _ _) rfl).step (State.setShort_agree _ _) rfl)

theorem State.takePinned_agree (s : State) (n : ℕ) (ds : List ℕ) : Agree 100360 s (s.takePinned n ds) := by
  unfold State.takePinned
  extract_lets +onlyGivenNames -merge c0
  refine Agree.foldl (fun t x h => ?_) (Agree.refl _ _)
  split
  · cases hp : t.place c0 n x (t.desc x) 0 ReadErrors.none with
    | none => exact h
    | some u => exact h.step (State.place_agree _ _ _ _ _ _ _ _ hp) rfl
  · exact h

theorem Staging.port_agree (x : Staging) (n : ℕ) (ds : List ℕ) (reads : ReadErrors) :
    Agree 100360 x.s (Staging.port x n ds reads).s := by
  unfold Staging.port
  extract_lets -underBinder -merge t0 t1 t2 t3
  have ht0 : Agree 100360 x.s t0.s := (Agree.stg ((Agree.refl 100360 x.s).step (State.takePinned_agree _ _ _) rfl))
  try clear_value t0
  have ht1 : Agree 100360 x.s t1.s := by
    unfold t1
    refine Agree.foldls (fun t4 x4 h4 => ?_) ?_
    · exact (h4.step (Staging.item_agree _ _ _ _ _) rfl)
    · exact ht0
  try clear_value t1
  have ht2 : Agree 100360 x.s t2.s := (ht1.step (Staging.recovery_agree _ _ _) rfl)
  try clear_value t2
  have ht3 : Agree 100360 x.s t3.s := by
    unfold t3
    refine Agree.foldls (fun t5 x5 h5 => ?_) ?_
    · exact (h5.step (Staging.item_agree _ _ _ _ _) rfl)
    · exact ht2
  try clear_value t3
  refine Agree.foldls (fun t6 x6 h6 => ?_) ?_
  · exact (h6.step (Staging.item_agree _ _ _ _ _) rfl)
  · exact ht3

theorem State.takeCommand_agree (s : State) (n : ℕ) (ds : List ℕ) : Agree 98328 s (State.takeCommand s n ds) := by
  unfold State.takeCommand
  extract_lets -underBinder -merge c0 c1 c2 c3 c4 c5 c6 t7 t8 t9
  try clear_value c0
  try clear_value c1
  try clear_value c2
  try clear_value c3
  try clear_value c4
  try clear_value c5
  try clear_value c6
  have ht7 : Agree 98328 s t7 := ((Agree.refl 98328 s).step (State.modPort_agree _ _ _) rfl)
  try clear_value t7
  have ht8 : Agree 98328 s t8 := (ht7.step (State.setReg_agree _ _ _) rfl)
  try clear_value t8
  have ht9 : Agree 98328 s t9 := ((ht8.step (State.mapSet_agree _ _ _ _ _) rfl).step (State.wr_agree _ _ _ _) rfl)
  try clear_value t9
  refine Agree.ite ?_ ?_
  · exact (ht9.step (State.flag_agree _ _ _) rfl)
  · exact ht9

theorem State.fillFirst_agree (s : State) (n : ℕ) (reads : ReadErrors) (k : ℕ) :
    Agree 98332 s (s.fillFirst n reads k) := by
  induction k generalizing s with
  | zero => exact Agree.refl _ _
  | succ k ih =>
    unfold State.fillFirst
    extract_lets +onlyGivenNames -merge t0
    have h0 : Agree 98332 s t0 := (Agree.refl _ _).step (State.requestGranule_agree _ _) rfl
    clear_value t0
    extract_lets +onlyGivenNames -merge b
    split
    · split
      · exact (((h0.step (State.modPort_agree _ _ _) rfl).step (State.countReads_agree _ _ _) rfl).step (State.deliver_agree _ _ _) rfl).step (ih _) rfl
      · exact Agree.refl _ _
    · exact Agree.refl _ _

theorem State.armPort_agree (s : State) (n : ℕ) (start : ℕ) (reads : ReadErrors) :
    Agree 98332 s (State.armPort s n start reads) := by
  unfold State.armPort
  extract_lets -underBinder -merge c0 c1 t2 c3
  try clear_value c0
  try clear_value c1
  have ht2 : Agree 98332 s t2 := ((Agree.refl 98332 s).step (State.modPort_agree _ _ _) rfl)
  try clear_value t2
  try clear_value c3
  refine Agree.ite ?_ ?_
  · exact ht2
  · exact ((ht2.step (State.modPort_agree _ _ _) rfl).step (State.fillFirst_agree _ _ _ _) rfl)

theorem State.abandonStaging_agree (s : State) (u : SeqUnit) : Agree 2096 s (State.abandonStaging s u) := by
  unfold State.abandonStaging
  refine Agree.foldl (fun t0 x0 h0 => ?_) ?_
  · exact (h0.step (State.toParked_agree _ _ _) rfl)
  · exact (Agree.refl 2096 s)

theorem State.restartUnit_agree (s : State) (u : SeqUnit) : Agree 48 s (State.restartUnit s u) := by
  unfold State.restartUnit
  split
  · refine Agree.ite ?_ ?_
    · exact ((Agree.refl 48 s).step (State.modPort_agree _ _ _) rfl)
    · exact (Agree.refl 48 s)
  · refine Agree.ite ?_ ?_
    · exact ((Agree.refl 48 s).step (State.modGroup_agree _ _ _) rfl)
    · exact (Agree.refl 48 s)

theorem State.stagingComplete_agree (s : State) (u : SeqUnit) (reads : ReadErrors) :
    Agree 100412 s (State.stagingComplete s u reads) := by
  unfold State.stagingComplete
  extract_lets -underBinder -merge c0 c1 t2 t3
  try clear_value c0
  try clear_value c1
  have ht2 : Agree 100412 s t2.s := by
    unfold t2
    refine Agree.foldls (fun t4 x4 h4 => ?_) ?_
    · extract_lets -underBinder -merge c5 c6 t7
      try clear_value c5
      try clear_value c6
      have ht7 : Agree 100412 s t7.s := by
        unfold t7
        refine Agree.ites ?_ ?_
        · exact h4
        · exact (h4.step (Staging.port_agree _ _ _ _) rfl)
      try clear_value t7
      refine Agree.ites ?_ ?_
      · exact h4
      · refine Agree.ites ?_ ?_
        · exact ht7
        · exact (Agree.stg (ht7.step (State.takeCommand_agree _ _ _) rfl))
    · exact (Agree.stg (Agree.refl 100412 s))
  try clear_value t2
  have ht3 : Agree 100412 s t3 := by
    unfold t3
    refine Agree.foldl (fun t8 x8 h8 => ?_) ?_
    · exact (h8.step (State.armPort_agree _ _ _ _) rfl)
    · exact ht2
  try clear_value t3
  refine Agree.ite ?_ ?_
  · exact (Agree.refl 100412 s)
  · refine Agree.ite ?_ ?_
    · exact (ht2.step (State.abandonStaging_agree _ _) rfl)
    · exact (((ht3.step (State.modPlayhead_agree _ _ _) rfl).step (State.setUnitState_agree _ _ _) rfl).step (State.restartUnit_agree _ _) rfl)

theorem execStagingComplete_agree (u : SeqUnit) (reads : ReadErrors) (s : State) :
    Result.Agrees 100412 s (execStagingComplete u reads s) := by
  unfold execStagingComplete
  refine Result.Agrees.next ?_
  refine Agree.ite ?_ ?_
  · exact (((Agree.refl 100412 s).step (State.lowReads_agree _) rfl).step (State.stagingComplete_agree _ _ _) rfl)
  · exact (Agree.refl 100412 s)

theorem State.pinStart_agree (s : State) (desc : ℕ) (unpin : Bool) :
    Agree 524296 s (State.pinStart s desc unpin) := by
  unfold State.pinStart
  extract_lets -underBinder -merge t0 c1
  have ht0 : Agree 524296 s t0 := ((Agree.refl 524296 s).step (State.wr_agree _ _ _ _) rfl)
  try clear_value t0
  try clear_value c1
  refine Agree.ite ?_ ?_
  · exact (Agree.refl 524296 s)
  · exact (ht0.setSecurity rfl)

theorem execPin_agree (desc : ℕ) (s : State) : Result.Agrees 524296 s (execPin desc s) := by
  unfold execPin
  exact Result.Agrees.next ((Agree.refl 524296 s).step (State.pinStart_agree _ _ _) rfl)

theorem execUnpin_agree (desc : ℕ) (s : State) : Result.Agrees 524296 s (execUnpin desc s) := by
  unfold execUnpin
  exact Result.Agrees.next ((Agree.refl 524296 s).step (State.pinStart_agree _ _ _) rfl)

theorem State.pinResult_agree (s : State) (result : ℕ) : Agree 98312 s (State.pinResult s result) := by
  unfold State.pinResult
  exact ((((Agree.refl 98312 s).step (State.wr_agree _ _ _ _) rfl).step (State.wr_agree _ _ _ _) rfl).step (State.flag_agree _ _ _) rfl)

theorem State.pinComplete_agree (s : State) (reads : ReadErrors) : Agree 100360 s (State.pinComplete s reads) := by
  unfold State.pinComplete
  extract_lets -underBinder -merge c0 c1 c2 c3 c4 c5 c6 c7 c8 c9 c10 c11 c12 c13
  try clear_value c0
  try clear_value c1
  try clear_value c2
  try clear_value c3
  try clear_value c4
  try clear_value c5
  try clear_value c6
  try clear_value c7
  try clear_value c8
  try clear_value c9
  try clear_value c10
  try clear_value c11
  try clear_value c12
  try clear_value c13
  refine Agree.ite ?_ ?_
  · exact (Agree.refl 100360 s)
  · refine Agree.ite ?_ ?_
    · exact ((Agree.refl 100360 s).step (State.pinResult_agree _ _) rfl)
    · refine Agree.ite ?_ ?_
      · split
        · exact ((Agree.refl 100360 s).step (State.pinResult_agree _ _) rfl)
        · exact (((Agree.refl 100360 s).setCopies rfl).step (State.pinResult_agree _ _) rfl)
      · refine Agree.ite ?_ ?_
        · exact ((Agree.refl 100360 s).step (State.pinResult_agree _ _) rfl)
        · exact ((((Agree.refl 100360 s).setCopies rfl).step (State.countReads_agree _ _ _) rfl).step (State.pinResult_agree _ _) rfl)

theorem execPinComplete_agree (reads : ReadErrors) (s : State) :
    Result.Agrees 100364 s (execPinComplete reads s) := by
  unfold execPinComplete
  refine Result.Agrees.next ?_
  refine Agree.ite ?_ ?_
  · exact (((Agree.refl 100364 s).step (State.lowReads_agree _) rfl).step (State.pinComplete_agree _ _) rfl)
  · exact (Agree.refl 100364 s)

/-! ### Request -/

theorem State.request_agree (s : State) (page : ℕ) (st : UState) : Agree 48 s (State.request s page st) := by
  unfold State.request
  split
  · extract_lets -underBinder -merge c0
    try clear_value c0
    refine Agree.ite ?_ ?_
    · exact (Agree.refl 48 s)
    · refine Agree.ite ?_ ?_
      · exact ((Agree.refl 48 s).step (State.setPort_agree _ _ _) rfl)
      · refine Agree.ite ?_ ?_
        · exact ((Agree.refl 48 s).step (State.setPort_agree _ _ _) rfl)
        · refine Agree.ite ?_ ?_
          · exact (Agree.refl 48 s)
          · exact ((Agree.refl 48 s).step (State.setPort_agree _ _ _) rfl)
  · extract_lets -underBinder -merge c1
    try clear_value c1
    refine Agree.ite ?_ ?_
    · exact ((Agree.refl 48 s).step (State.setGroup_agree _ _ _) rfl)
    · refine Agree.ite ?_ ?_
      · exact ((Agree.refl 48 s).step (State.setGroup_agree _ _ _) rfl)
      · refine Agree.ite ?_ ?_
        · exact (Agree.refl 48 s)
        · exact ((Agree.refl 48 s).step (State.setGroup_agree _ _ _) rfl)
  · exact (Agree.refl 48 s)

theorem State.requestNone_agree (s : State) (page : ℕ) : Agree 48 s (State.requestNone s page) := by
  unfold State.requestNone
  split
  · extract_lets -underBinder -merge c0
    try clear_value c0
    refine Agree.ite ?_ ?_
    · exact (Agree.refl 48 s)
    · exact ((Agree.refl 48 s).step (State.setPort_agree _ _ _) rfl)
  · refine Agree.ite ?_ ?_
    · exact (Agree.refl 48 s)
    · exact ((Agree.refl 48 s).step (State.modGroup_agree _ _ _) rfl)
  · exact (Agree.refl 48 s)

theorem State.requestValue_agree (s : State) (page : ℕ) (v : ℕ) : Agree 48 s (State.requestValue s page v) := by
  unfold State.requestValue
  split
  · exact ((Agree.refl 48 s).step (State.request_agree _ _ _) rfl)
  · exact ((Agree.refl 48 s).step (State.requestNone_agree _ _) rfl)

theorem execRequestOff_agree (page : ℕ) (s : State) : Result.Agrees 48 s (execRequestOff page s) := by
  unfold execRequestOff
  exact Result.Agrees.next ((Agree.refl 48 s).step (State.request_agree _ _ _) rfl)

theorem execRequestParked_agree (page : ℕ) (s : State) : Result.Agrees 48 s (execRequestParked page s) := by
  unfold execRequestParked
  exact Result.Agrees.next ((Agree.refl 48 s).step (State.request_agree _ _ _) rfl)

theorem execRequestArmed_agree (page : ℕ) (s : State) : Result.Agrees 48 s (execRequestArmed page s) := by
  unfold execRequestArmed
  exact Result.Agrees.next ((Agree.refl 48 s).step (State.request_agree _ _ _) rfl)

theorem execRequestRun_agree (page : ℕ) (s : State) : Result.Agrees 48 s (execRequestRun page s) := by
  unfold execRequestRun
  exact Result.Agrees.next ((Agree.refl 48 s).step (State.request_agree _ _ _) rfl)

theorem execRequestPaused_agree (page : ℕ) (s : State) : Result.Agrees 48 s (execRequestPaused page s) := by
  unfold execRequestPaused
  exact Result.Agrees.next ((Agree.refl 48 s).step (State.request_agree _ _ _) rfl)

theorem State.clearAdmission_agree (s : State) (n : ℕ) : Agree 8 s (State.clearAdmission s n) := by
  unfold State.clearAdmission
  exact ((((Agree.refl 8 s).step (State.setReg_agree _ _ _) rfl).step (State.mapSet_agree _ _ _ _ _) rfl).step (State.mapSet_agree _ _ _ _ _) rfl)

theorem State.beginStaging_agree (s : State) (n : ℕ) : Agree 5341276 s (State.beginStaging s n) := by
  unfold State.beginStaging
  exact ((((Agree.refl 5341276 s).step (State.clearAdmission_agree _ _) rfl).step (State.endDelaySwatch_agree _ _) rfl).step (State.modPort_agree _ _ _) rfl)

theorem State.writeMap_agree (s : State) (page : ℕ) (off : ℕ) (l : List ℕ) :
    Agree 8 s (State.writeMap s page off l) := by
  unfold State.writeMap
  refine Agree.foldl (fun t0 x0 h0 => ?_) ?_
  · exact (h0.step (State.wr_agree _ _ _ _) rfl)
  · exact (Agree.refl 8 s)

theorem State.armGroup_agree (s : State) (g : ℕ) : Agree 5341308 s (State.armGroup s g) := by
  unfold State.armGroup
  extract_lets -underBinder -merge c0 c1 c2 t3 t4
  try clear_value c0
  try clear_value c1
  try clear_value c2
  have ht3 : Agree 5341308 s t3 := by
    unfold t3
    refine Agree.foldl (fun t5 x5 h5 => ?_) ?_
    · exact (h5.step (State.flag_agree _ _ _) rfl)
    · exact (Agree.refl 5341308 s)
  try clear_value t3
  have ht4 : Agree 5341308 s t4 := by
    unfold t4
    refine Agree.ite ?_ ?_
    · exact ht3
    · exact (ht3.step (State.flag_agree _ _ _) rfl)
  try clear_value t4
  split
  · exact (ht4.step (State.modGroup_agree _ _ _) rfl)
  · extract_lets -underBinder -merge t6
    have ht6 : Agree 5341308 s t6 := by
      unfold t6
      refine Agree.foldl (fun t7 x7 h7 => ?_) ?_
      · extract_lets -underBinder -merge t8 t9
        have ht8 : Agree 5341308 s t8 := (h7.step (State.beginStaging_agree _ _) rfl)
        try clear_value t8
        have ht9 : Agree 5341308 s t9 := by
          unfold t9
          refine Agree.ite ?_ ?_
          · exact (ht8.step (State.policyZero_agree _ _) rfl)
          · exact ht8
        try clear_value t9
        exact (ht9.step (State.modPort_agree _ _ _) rfl)
      · exact ht4
    try clear_value t6
    exact (ht6.step (State.modGroup_agree _ _ _) rfl)

theorem State.showRequest_agree (s : State) (n : ℕ) (st : UState) : Agree 16 s (State.showRequest s n st) := by
  unfold State.showRequest
  exact ((Agree.refl 16 s).step (State.modPort_agree _ _ _) rfl)

theorem State.deliverWalk_agree (s : State) (u : SeqUnit) (st : UState) : Agree 48 s (State.deliverWalk s u st) := by
  unfold State.deliverWalk
  split
  · exact ((Agree.refl 48 s).step (State.latch_agree _ _ _ _) rfl)
  · exact ((Agree.refl 48 s).step (State.latch_agree _ _ _ _) rfl)
  · exact ((Agree.refl 48 s).step (State.latch_agree _ _ _ _) rfl)
  · exact ((Agree.refl 48 s).step (State.latch_agree _ _ _ _) rfl)

theorem State.deliverParked_agree (s : State) (n : ℕ) (st : UState) :
    Agree 5341276 s (State.deliverParked s n st) := by
  unfold State.deliverParked
  refine Agree.ite ?_ ?_
  · exact ((Agree.refl 5341276 s).step (State.showRequest_agree _ _ _) rfl)
  · split
    · exact ((Agree.refl 5341276 s).step (State.beginStaging_agree _ _) rfl)
    · refine Agree.ite ?_ ?_
      · exact ((Agree.refl 5341276 s).step (State.showRequest_agree _ _ _) rfl)
      · exact ((((Agree.refl 5341276 s).step (State.endDelaySwatch_agree _ _) rfl).step (State.modPort_agree _ _ _) rfl).step (State.settleSwitches_agree _ _) rfl)
    · exact ((Agree.refl 5341276 s).step (State.showRequest_agree _ _ _) rfl)

theorem State.deliverPort_agree (s : State) (n : ℕ) (st : UState) : Agree 5343356 s (State.deliverPort s n st) := by
  unfold State.deliverPort
  extract_lets -underBinder -merge c0
  try clear_value c0
  refine Agree.ite ?_ ?_
  · exact ((Agree.refl 5343356 s).step (State.showRequest_agree _ _ _) rfl)
  · split
    · exact ((Agree.refl 5343356 s).step (State.showRequest_agree _ _ _) rfl)
    · exact ((Agree.refl 5343356 s).step (State.showRequest_agree _ _ _) rfl)
    · split
      · exact ((Agree.refl 5343356 s).step (State.showRequest_agree _ _ _) rfl)
      · exact ((Agree.refl 5343356 s).step (State.showRequest_agree _ _ _) rfl)
      · exact ((Agree.refl 5343356 s).step (State.showRequest_agree _ _ _) rfl)
      · refine Agree.ite ?_ ?_
        · exact ((Agree.refl 5343356 s).step (State.modPort_agree _ _ _) rfl)
        · exact ((Agree.refl 5343356 s).step (State.showRequest_agree _ _ _) rfl)
      · refine Agree.ite ?_ ?_
        · exact (Agree.refl 5343356 s)
        · exact ((Agree.refl 5343356 s).step (State.deliverParked_agree _ _ _) rfl)
      · refine Agree.ite ?_ ?_
        · exact (Agree.refl 5343356 s)
        · exact (((Agree.refl 5343356 s).step (State.abortPort_agree _ _ _) rfl).step (State.deliverParked_agree _ _ _) rfl)
      · refine Agree.ite ?_ ?_
        · exact ((Agree.refl 5343356 s).step (State.abandonStaging_agree _ _) rfl)
        · exact ((Agree.refl 5343356 s).step (State.showRequest_agree _ _ _) rfl)
      · exact ((Agree.refl 5343356 s).step (State.deliverWalk_agree _ _ _) rfl)
      · exact ((Agree.refl 5343356 s).step (State.deliverWalk_agree _ _ _) rfl)
      · exact ((Agree.refl 5343356 s).step (State.deliverWalk_agree _ _ _) rfl)

theorem State.deliverGroup_agree (s : State) (g : ℕ) (st : UState) : Agree 5343356 s (State.deliverGroup s g st) := by
  unfold State.deliverGroup
  extract_lets -underBinder -merge c0
  subst c0
  beta_reduce
  split
  · refine Agree.ite ?_ ?_
    · exact ((Agree.refl 5343356 s).step (State.armGroup_agree _ _) rfl)
    · exact ((Agree.refl 5343356 s).step (State.modGroup_agree _ _ _) rfl)
  · refine Agree.ite ?_ ?_
    · exact ((Agree.refl 5343356 s).step (State.abandonStaging_agree _ _) rfl)
    · exact ((Agree.refl 5343356 s).step (State.modGroup_agree _ _ _) rfl)
  · exact ((Agree.refl 5343356 s).step (State.deliverWalk_agree _ _ _) rfl)
  · exact ((Agree.refl 5343356 s).step (State.deliverWalk_agree _ _ _) rfl)
  · exact ((Agree.refl 5343356 s).step (State.deliverWalk_agree _ _ _) rfl)
  · exact ((Agree.refl 5343356 s).step (State.modGroup_agree _ _ _) rfl)

theorem State.deliverRequest_agree (s : State) (page : ℕ) : Agree 5343356 s (State.deliverRequest s page) := by
  unfold State.deliverRequest
  split
  · split
    · exact (((Agree.refl 5343356 s).step (State.modPort_agree _ _ _) rfl).step (State.deliverPort_agree _ _ _) rfl)
    · exact (Agree.refl 5343356 s)
  · split
    · exact (((Agree.refl 5343356 s).step (State.modGroup_agree _ _ _) rfl).step (State.deliverGroup_agree _ _ _) rfl)
    · exact (Agree.refl 5343356 s)
  · exact (Agree.refl 5343356 s)

theorem execRequestDelivery_agree (page : ℕ) (s : State) : Result.Agrees 5343356 s (execRequestDelivery page s) := by
  unfold execRequestDelivery
  extract_lets -underBinder -merge c0
  try clear_value c0
  refine Result.Agrees.next ?_
  refine Agree.ite ?_ ?_
  · exact (Agree.refl 5343356 s)
  · exact ((Agree.refl 5343356 s).step (State.deliverRequest_agree _ _) rfl)

theorem State.commitGroup_agree (s : State) (g : ℕ) : Agree 32 s (State.commitGroup s g) := by
  unfold State.commitGroup
  exact ((Agree.refl 32 s).step (State.modGroup_agree _ _ _) rfl)

theorem State.orderCommit_agree (s : State) (page : ℕ) : Agree 33554480 s (State.orderCommit s page) := by
  unfold State.orderCommit
  split
  · refine Agree.ite ?_ ?_
    · exact (Agree.refl 33554480 s)
    · exact ((Agree.refl 33554480 s).step (State.modPort_agree _ _ _) rfl)
  · exact ((Agree.refl 33554480 s).step (State.commitGroup_agree _ _) rfl)
  · extract_lets -underBinder -merge c0
    try clear_value c0
    exact ((Agree.refl 33554480 s).setClock rfl)
  · exact (Agree.refl 33554480 s)

theorem State.pageCommit_agree (s : State) (page : ℕ) : Agree 34701368 s (State.pageCommit s page) := by
  unfold State.pageCommit
  refine Agree.ite ?_ ?_
  · exact (Agree.refl 34701368 s)
  · split
    · exact (((Agree.refl 34701368 s).step (State.orderCommit_agree _ _) rfl).step (State.ledgerCommit_agree _ _) rfl)
    · exact (((Agree.refl 34701368 s).step (State.orderCommit_agree _ _) rfl).step (State.ledgerCommit_agree _ _) rfl)
    · exact (((Agree.refl 34701368 s).step (State.orderCommit_agree _ _) rfl).step (State.ledgerCommit_agree _ _) rfl)
    · exact (Agree.refl 34701368 s)

theorem execPageCommit_agree (page : ℕ) (s : State) : Result.Agrees 34701368 s (execPageCommit page s) := by
  unfold execPageCommit
  refine Result.Agrees.next ?_
  refine Agree.ite ?_ ?_
  · exact (Agree.refl 34701368 s)
  · exact ((Agree.refl 34701368 s).step (State.pageCommit_agree _ _) rfl)

theorem State.commitOn_agree (s : State) : Agree 40 s (State.commitOn s) := by
  unfold State.commitOn
  extract_lets -underBinder -merge t0
  have ht0 : Agree 40 s t0 := by
    unfold t0
    refine Agree.foldl (fun t1 x1 h1 => ?_) ?_
    · refine Agree.ite ?_ ?_
      · exact (h1.step (State.commitGroup_agree _ _) rfl)
      · exact h1
    · exact (Agree.refl 40 s)
  try clear_value t0
  refine Agree.ite ?_ ?_
  · exact (Agree.refl 40 s)
  · refine Agree.ite ?_ ?_
    · exact ht0
    · exact (ht0.step (State.wr_agree _ _ _ _) rfl)

theorem State.commitAll_agree (s : State) : Agree 34701368 s (State.commitAll s) := by
  unfold State.commitAll
  extract_lets -underBinder -merge c0 t1
  try clear_value c0
  have ht1 : Agree 34701368 s t1 := (((Agree.refl 34701368 s).step (State.ledgerCommit_agree _ _) rfl).step (State.wr_agree _ _ _ _) rfl)
  try clear_value t1
  refine Agree.step ?_ (State.commitOn_agree _) rfl
  refine Agree.foldl (fun t2 x2 h2 => ?_) ?_
  · split
    · exact h2
    · exact (h2.step (State.orderCommit_agree _ _) rfl)
  · exact ht1

theorem execCommitAll_agree (s : State) : Result.Agrees 34701368 s (execCommitAll s) := by
  unfold execCommitAll
  refine Result.Agrees.next ?_
  refine Agree.ite ?_ ?_
  · exact (Agree.refl 34701368 s)
  · exact ((Agree.refl 34701368 s).step (State.commitAll_agree _) rfl)

theorem execCommitDelivery_agree (n : ℕ) (s : State) : Result.Agrees 56 s (execCommitDelivery n s) := by
  unfold execCommitDelivery
  extract_lets -underBinder -merge c0
  try clear_value c0
  refine Result.Agrees.next ?_
  refine Agree.ite ?_ ?_
  · exact ((((Agree.refl 56 s).step (State.modPort_agree _ _ _) rfl).step (State.latchTransfer_agree _ _ _) rfl).step (State.commitOn_agree _) rfl)
  · exact (Agree.refl 56 s)

/-! ### Stage -/

theorem execPowerDownComplete_agree (n : ℕ) (s : State) : Result.Agrees 16 s (execPowerDownComplete n s) := by
  unfold execPowerDownComplete
  extract_lets -underBinder -merge c0 c1
  try clear_value c0
  try clear_value c1
  refine Result.Agrees.next ?_
  refine Agree.ite ?_ ?_
  · exact ((Agree.refl 16 s).step (State.modPort_agree _ _ _) rfl)
  · exact (Agree.refl 16 s)

theorem State.poweredUp_agree (s : State) (n : ℕ) : Agree 98328 s (State.poweredUp s n) := by
  unfold State.poweredUp
  exact ((((Agree.refl 98328 s).step (State.modPort_agree _ _ _) rfl).step (State.stepOutput_agree _ _) rfl).step (State.settleSwitches_agree _ _) rfl)

theorem execPowerUpComplete_agree (n : ℕ) (s : State) : Result.Agrees 98328 s (execPowerUpComplete n s) := by
  unfold execPowerUpComplete
  refine Result.Agrees.next ?_
  refine Agree.ite ?_ ?_
  · exact ((Agree.refl 98328 s).step (State.poweredUp_agree _ _) rfl)
  · exact (Agree.refl 98328 s)

theorem State.writeOutSwitch_agree (s : State) (n : ℕ) (close : Bool) :
    Agree 5341276 s (State.writeOutSwitch s n close) := by
  unfold State.writeOutSwitch
  extract_lets -underBinder -merge t0 t1 t2
  have ht0 : Agree 5341276 s t0 := ((Agree.refl 5341276 s).step (State.setReg_agree _ _ _) rfl)
  try clear_value t0
  have ht1 : Agree 5341276 s t1 := by
    unfold t1
    refine Agree.ite ?_ ?_
    · exact (ht0.step (State.abortPort_agree _ _ _) rfl)
    · exact ht0
  try clear_value t1
  have ht2 : Agree 5341276 s t2 := by
    unfold t2
    refine Agree.ite ?_ ?_
    · exact (ht1.step (State.endDelaySwatch_agree _ _) rfl)
    · exact ht1
  try clear_value t2
  refine Agree.ite ?_ ?_
  · exact (Agree.refl 5341276 s)
  · exact (ht2.step (State.settleSwitches_agree _ _) rfl)

theorem execOutSwitchWrite_agree (n : ℕ) (close : Bool) (s : State) :
    Result.Agrees 5341276 s (execOutSwitchWrite n close s) := by
  unfold execOutSwitchWrite
  exact Result.Agrees.next ((Agree.refl 5341276 s).step (State.writeOutSwitch_agree _ _ _) rfl)

theorem execIsolationSwitchStep_agree (n : ℕ) (s : State) : Result.Agrees 16 s (execIsolationSwitchStep n s) := by
  unfold execIsolationSwitchStep
  extract_lets -underBinder -merge c0
  try clear_value c0
  refine Result.Agrees.next ?_
  split
  · exact ((Agree.refl 16 s).step (State.modPort_agree _ _ _) rfl)
  · exact ((Agree.refl 16 s).step (State.modPort_agree _ _ _) rfl)
  · exact (Agree.refl 16 s)

theorem execDelayTapMove_agree (n : ℕ) (s : State) : Result.Agrees 16 s (execDelayTapMove n s) := by
  unfold execDelayTapMove
  refine Result.Agrees.next ?_
  split
  · exact (Agree.refl 16 s)
  · refine Agree.ite ?_ ?_
    · exact ((Agree.refl 16 s).step (State.modPort_agree _ _ _) rfl)
    · exact (Agree.refl 16 s)

theorem execSenseOpen_agree (n : ℕ) (s : State) : Result.Agrees 98312 s (execSenseOpen n s) := by
  unfold execSenseOpen
  refine Result.Agrees.next ?_
  refine Agree.ite ?_ ?_
  · exact ((Agree.refl 98312 s).step (State.flag_agree _ _ _) rfl)
  · exact (Agree.refl 98312 s)

theorem execCurrentLimit_agree (n : ℕ) (s : State) : Result.Agrees 98312 s (execCurrentLimit n s) := by
  unfold execCurrentLimit
  refine Result.Agrees.next ?_
  refine Agree.ite ?_ ?_
  · exact ((Agree.refl 98312 s).step (State.flag_agree _ _ _) rfl)
  · exact (Agree.refl 98312 s)

theorem State.stopRotation_agree (s : State) (g : ℕ) : Agree 4194312 s (State.stopRotation s g) := by
  unfold State.stopRotation
  extract_lets -underBinder -merge t0 c1
  have ht0 : Agree 4194312 s t0 := ((Agree.refl 4194312 s).step (State.wr_agree _ _ _ _) rfl)
  try clear_value t0
  try clear_value c1
  refine Agree.ite ?_ ?_
  · exact (ht0.setCal rfl)
  · exact (Agree.refl 4194312 s)

theorem State.refuseSpare_agree (s : State) (g : ℕ) : Agree 98376 s (State.refuseSpare s g) := by
  unfold State.refuseSpare
  exact (((Agree.refl 98376 s).step (State.modSpare_agree _ _ _) rfl).step (State.flag_agree _ _ _) rfl)

theorem State.setSpareTarget_agree (s : State) (g : ℕ) (w : Word) : Agree 5341276 s (State.setSpareTarget s g w) := by
  unfold State.setSpareTarget
  extract_lets -underBinder -merge c0 c1 c2 t3 t4
  try clear_value c0
  try clear_value c1
  try clear_value c2
  have ht3 : Agree 5341276 s t3 := (((Agree.refl 5341276 s).step (State.wr_agree _ _ _ _) rfl).step (State.modSpare_agree _ _ _) rfl)
  try clear_value t3
  have ht4 : Agree 5341276 s t4 := by
    unfold t4
    refine Agree.ite ?_ ?_
    · exact ((ht3.step (State.abortSpare_agree _ _ _) rfl).step (State.spend_agree _) rfl)
    · exact ht3
  try clear_value t4
  refine Agree.ite ?_ ?_
  · exact (Agree.refl 5341276 s)
  · refine Agree.ite ?_ ?_
    · exact ht3
    · exact (ht4.step (State.modSpare_agree _ _ _) rfl)

theorem State.writeSpareTarget_agree (s : State) (g : ℕ) (w : Word) :
    Agree 5341276 s (State.writeSpareTarget s g w) := by
  unfold State.writeSpareTarget
  refine Agree.ite ?_ ?_
  · exact (Agree.refl 5341276 s)
  · refine Agree.ite ?_ ?_
    · exact ((Agree.refl 5341276 s).step (State.refuseSpare_agree _ _) rfl)
    · exact ((Agree.refl 5341276 s).step (State.setSpareTarget_agree _ _ _) rfl)

theorem execSpareTargetWrite_agree (g : ℕ) (value : Word) (s : State) :
    Result.Agrees 5341276 s (execSpareTargetWrite g value s) := by
  unfold execSpareTargetWrite
  exact Result.Agrees.next ((Agree.refl 5341276 s).step (State.writeSpareTarget_agree _ _ _) rfl)

theorem State.beginHandover_agree (s : State) (g : ℕ) (toSpare : Bool) :
    Agree 64 s (State.beginHandover s g toSpare) := by
  unfold State.beginHandover
  exact ((Agree.refl 64 s).step (State.modSpare_agree _ _ _) rfl)

theorem State.endSpareSwatch_agree (s : State) (g : ℕ) : Agree 5341276 s (State.endSpareSwatch s g) := by
  unfold State.endSpareSwatch
  refine Agree.ite ?_ ?_
  · exact (((Agree.refl 5341276 s).step (State.abortSpare_agree _ _ _) rfl).step (State.spend_agree _) rfl)
  · exact (Agree.refl 5341276 s)

theorem State.acceptSpare_agree (s : State) (g : ℕ) : Agree 64 s (State.acceptSpare s g) := by
  unfold State.acceptSpare
  exact ((Agree.refl 64 s).step (State.modSpare_agree _ _ _) rfl)

theorem State.substitute_agree (s : State) (g : ℕ) : Agree 5341276 s (State.substitute s g) := by
  unfold State.substitute
  refine Agree.ite ?_ ?_
  · exact (Agree.refl 5341276 s)
  · refine Agree.ite ?_ ?_
    · exact ((Agree.refl 5341276 s).step (State.refuseSpare_agree _ _) rfl)
    · exact ((((Agree.refl 5341276 s).step (State.acceptSpare_agree _ _) rfl).step (State.beginHandover_agree _ _ _) rfl).step (State.endSpareSwatch_agree _ _) rfl)

theorem execSubstitute_agree (g : ℕ) (s : State) : Result.Agrees 5341276 s (execSubstitute g s) := by
  unfold execSubstitute
  exact Result.Agrees.next ((Agree.refl 5341276 s).step (State.substitute_agree _ _) rfl)

theorem State.returnSpare_agree (s : State) (g : ℕ) : Agree 98376 s (State.returnSpare s g) := by
  unfold State.returnSpare
  refine Agree.ite ?_ ?_
  · exact (Agree.refl 98376 s)
  · refine Agree.ite ?_ ?_
    · exact ((Agree.refl 98376 s).step (State.refuseSpare_agree _ _) rfl)
    · exact (((Agree.refl 98376 s).step (State.acceptSpare_agree _ _) rfl).step (State.beginHandover_agree _ _ _) rfl)

theorem execReturnPort_agree (g : ℕ) (s : State) : Result.Agrees 98376 s (execReturnPort g s) := by
  unfold execReturnPort
  exact Result.Agrees.next ((Agree.refl 98376 s).step (State.returnSpare_agree _ _) rfl)

theorem State.resetSpare_agree (s : State) (g : ℕ) : Agree 5341272 s (State.resetSpare s g) := by
  unfold State.resetSpare
  extract_lets -underBinder -merge c0 t1
  try clear_value c0
  have ht1 : Agree 5341272 s t1 := ((Agree.refl 5341272 s).step (State.abortSpare_agree _ _ _) rfl)
  try clear_value t1
  exact (((ht1.step (State.resetPage_agree _ _ _) rfl).step (State.modSpare_agree _ _ _) rfl).step (State.updateIbis_agree _ _) rfl)

theorem execSpareSettled_agree (g : ℕ) (s : State) : Result.Agrees 98376 s (execSpareSettled g s) := by
  unfold execSpareSettled
  refine Result.Agrees.next ?_
  refine Agree.ite ?_ ?_
  · exact (((Agree.refl 98376 s).step (State.modSpare_agree _ _ _) rfl).step (State.flag_agree _ _ _) rfl)
  · exact (Agree.refl 98376 s)

theorem execHandoverConnect_agree (g : ℕ) (s : State) : Result.Agrees 64 s (execHandoverConnect g s) := by
  unfold execHandoverConnect
  refine Result.Agrees.next ?_
  split
  · refine Agree.ite ?_ ?_
    · exact (Agree.refl 64 s)
    · exact ((Agree.refl 64 s).step (State.modSpare_agree _ _ _) rfl)
  · exact (Agree.refl 64 s)

theorem execHandoverComplete_agree (g : ℕ) (s : State) : Result.Agrees 5341272 s (execHandoverComplete g s) := by
  unfold execHandoverComplete
  refine Result.Agrees.next ?_
  split
  · extract_lets -underBinder -merge t0 t1
    have ht0 : Agree 5341272 s t0 := ((Agree.refl 5341272 s).step (State.modSpare_agree _ _ _) rfl)
    try clear_value t0
    have ht1 : Agree 5341272 s t1 := (ht0.step (State.handedOver_agree _ _ _) rfl)
    try clear_value t1
    refine Agree.ite ?_ ?_
    · exact (Agree.refl 5341272 s)
    · refine Agree.ite ?_ ?_
      · exact ht1
      · refine Agree.ite ?_ ?_
        · exact (ht1.step (State.resetSpare_agree _ _) rfl)
        · refine Agree.ite ?_ ?_
          · exact (ht1.step (State.beginHandover_agree _ _ _) rfl)
          · exact ht1
  · exact (Agree.refl 5341272 s)

theorem State.spareFault_agree (s : State) (g : ℕ) : Agree 7446616 s (State.spareFault s g) := by
  unfold State.spareFault
  extract_lets -underBinder -merge c0 t1 t2
  try clear_value c0
  have ht1 : Agree 7446616 s t1 := ((((Agree.refl 7446616 s).step (State.abortSpare_agree _ _ _) rfl).step (State.abortWhere_agree _ _ _) rfl).step (State.modSpare_agree _ _ _) rfl)
  try clear_value t1
  have ht2 : Agree 7446616 s t2 := by
    unfold t2
    split
    · refine Agree.ite ?_ ?_
      · exact (ht1.step (State.flag_agree _ _ _) rfl)
      · exact ht1
    · exact ht1
  try clear_value t2
  exact (((ht2.step (State.flag_agree _ _ _) rfl).step (State.fault_agree _ _ _ _) rfl).step (State.stopRotation_agree _ _) rfl)

theorem execSpareStageFault_agree (g : ℕ) (s : State) : Result.Agrees 7446616 s (execSpareStageFault g s) := by
  unfold execSpareStageFault
  refine Result.Agrees.next ?_
  refine Agree.ite ?_ ?_
  · exact ((Agree.refl 7446616 s).step (State.spareFault_agree _ _) rfl)
  · exact (Agree.refl 7446616 s)

theorem State.stageFault_agree (s : State) (n : ℕ) : Agree 7448696 s (State.stageFault s n) := by
  unfold State.stageFault
  extract_lets -underBinder -merge c0 c1 c2 t3
  try clear_value c0
  try clear_value c1
  try clear_value c2
  have ht3 : Agree 7448696 s t3 := ((((Agree.refl 7448696 s).step (State.abortPort_agree _ _ _) rfl).step (State.flag_agree _ _ _) rfl).step (State.fault_agree _ _ _ _) rfl)
  try clear_value t3
  refine Agree.ite ?_ ?_
  · exact (ht3.step (State.stopRotation_agree _ _) rfl)
  · refine Agree.ite ?_ ?_
    · exact (((ht3.step (State.stopRotation_agree _ _) rfl).step (State.beginHandover_agree _ _ _) rfl).step (State.abortSpare_agree _ _ _) rfl)
    · exact (ht3.step (State.portSafe_agree _ _ _) rfl)

theorem execStageFault_agree (n : ℕ) (s : State) : Result.Agrees 7448696 s (execStageFault n s) := by
  unfold execStageFault
  refine Result.Agrees.next ?_
  refine Agree.ite ?_ ?_
  · exact ((Agree.refl 7448696 s).step (State.stageFault_agree _ _) rfl)
  · exact (Agree.refl 7448696 s)

end Machine
end Sys2Proof
end

