-- ==== Sys2Proof/Laws/FootprintClock.lean ====
section
/-! SUPPORT. What each operation can change (Laws/Footprint.lean), for the clock, calibration, the lifeline and the ledger: every field of State outside the mask
is as it was. -/

namespace Sys2Proof
namespace Machine

/-! ### Clock -/

theorem State.modClock_agree (s : State) (f : Clock → Clock) : Agree 33554432 s (State.modClock s f) := by
  unfold State.modClock
  exact ((Agree.refl 33554432 s).setClock rfl)

theorem State.setRatio_agree (s : State) (x : ℕ × ℕ × ℕ) : Agree 33554456 s (State.setRatio s x) := by
  unfold State.setRatio
  extract_lets -underBinder -merge t0 t1
  have ht0 : Agree 33554456 s t0 := ((((Agree.refl 33554456 s).step (State.wr_agree _ _ _ _) rfl).step (State.wr_agree _ _ _ _) rfl).step (State.wr_agree _ _ _ _) rfl)
  try clear_value t0
  have ht1 : Agree 33554456 s t1 := (ht0.step (State.modClock_agree _ _) rfl)
  try clear_value t1
  refine Agree.ite ?_ ?_
  · exact ht1
  · refine Agree.foldl (fun t2 x2 h2 => ?_) ?_
    · exact (h2.step (State.modPort_agree _ _ _) rfl)
    · exact ht1

theorem State.storeBand_agree (s : State) : Agree 33554440 s (State.storeBand s) := by
  unfold State.storeBand
  extract_lets -underBinder -merge c0 c1 c2 c3
  try clear_value c0
  try clear_value c1
  try clear_value c2
  try clear_value c3
  exact (((Agree.refl 33554440 s).step (State.modClock_agree _ _) rfl).step (State.wr_agree _ _ _ _) rfl)

theorem State.clearBands_agree (s : State) : Agree 33554432 s (State.clearBands s) := by
  unfold State.clearBands
  exact ((Agree.refl 33554432 s).step (State.modClock_agree _ _) rfl)

theorem execBandTableClear_agree (s : State) : Result.Agrees 33554432 s (execBandTableClear s) := by
  unfold execBandTableClear
  exact Result.Agrees.next ((Agree.refl 33554432 s).step (State.clearBands_agree _) rfl)

theorem State.taint_agree (s : State) : Agree 33554432 s (State.taint s) := by
  unfold State.taint
  refine Agree.foldl (fun t0 x0 h0 => ?_) ?_
  · refine Agree.ite ?_ ?_
    · exact (h0.step (State.modClock_agree _ _) rfl)
    · exact h0
  · exact (Agree.refl 33554432 s)

theorem State.domainWindow_agree (s : State) (r : DomainReading) : Agree 707895324 s (State.domainWindow s r) := by
  unfold State.domainWindow
  extract_lets -underBinder -merge c0 c1 c2 c3 c4 t5 c6 t7 t8
  try clear_value c0
  try clear_value c1
  try clear_value c2
  try clear_value c3
  try clear_value c4
  have ht5 : Agree 707895324 s t5 := ((Agree.refl 707895324 s).step (State.modClock_agree _ _) rfl)
  try clear_value t5
  try clear_value c6
  have ht7 : Agree 707895324 s t7 := by
    unfold t7
    refine Agree.ite ?_ ?_
    · exact ((ht5.step (State.flag_agree _ _ _) rfl).step (State.fault_agree _ _ _ _) rfl)
    · exact ht5
  try clear_value t7
  have ht8 : Agree 707895324 s t8 := by
    unfold t8
    refine Agree.ite ?_ ?_
    · exact ht7
    · exact (ht7.step (State.setDegraded_agree _ _ _) rfl)
  try clear_value t8
  refine Agree.ite ?_ ?_
  · exact (Agree.refl 707895324 s)
  · refine Agree.ite ?_ ?_
    · exact (ht8.step (State.escalate_agree _ _ _ _) rfl)
    · exact ht8

theorem execClockmonWindowEnd_agree (readings : List DomainReading) (s : State) :
    Result.Agrees 707895324 s (execClockmonWindowEnd readings s) := by
  unfold execClockmonWindowEnd
  refine Result.Agrees.next ?_
  refine Agree.foldl (fun t0 x0 h0 => ?_) ?_
  · exact (h0.step (State.domainWindow_agree _ _) rfl)
  · exact (Agree.refl 707895324 s)

theorem State.endCoast_agree (s : State) : Agree 8 s (State.endCoast s) := by
  unfold State.endCoast
  refine Agree.ite ?_ ?_
  · exact ((Agree.refl 8 s).step (State.wr_agree _ _ _ _) rfl)
  · exact (Agree.refl 8 s)

theorem State.beginCoast_agree (s : State) : Agree 33554432 s (State.beginCoast s) := by
  unfold State.beginCoast
  exact ((Agree.refl 33554432 s).step (State.modClock_agree _ _) rfl)

theorem State.failAlignment_agree (s : State) : Agree 34701320 s (State.failAlignment s) := by
  unfold State.failAlignment
  refine Agree.ite ?_ ?_
  · exact ((((Agree.refl 34701320 s).step (State.modClock_agree _ _) rfl).step (State.flag_agree _ _ _) rfl).step (State.ledgerNote_agree _ _ _) rfl)
  · exact (Agree.refl 34701320 s)

theorem State.loopStep_agree (s : State) : Agree 33554440 s (State.loopStep s) := by
  unfold State.loopStep
  extract_lets -underBinder -merge t0 c1
  have ht0 : Agree 33554440 s t0 := ((Agree.refl 33554440 s).step (State.modClock_agree _ _) rfl)
  try clear_value t0
  try clear_value c1
  refine Agree.ite ?_ ?_
  · exact (ht0.step (State.modClock_agree _ _) rfl)
  · split
    · extract_lets -underBinder -merge c2
      try clear_value c2
      exact ((ht0.step (State.modClock_agree _ _) rfl).step (State.wr_agree _ _ _ _) rfl)
    · exact (ht0.step (State.modClock_agree _ _) rfl)

theorem State.stopLink_agree (s : State) : Agree 134217728 s (State.stopLink s) := by
  unfold State.stopLink
  extract_lets -underBinder -merge c0
  try clear_value c0
  exact ((Agree.refl 134217728 s).setTwin rfl)

theorem State.startRelock_agree (s : State) (full : Bool) (measure : Bool) :
    Agree 709994616 s (State.startRelock s full measure) := by
  unfold State.startRelock
  extract_lets -underBinder -merge c0 t1 t2 t3 t4
  try clear_value c0
  have ht1 : Agree 709994616 s t1 := ((((Agree.refl 709994616 s).step (State.failAlignment_agree _) rfl).step (State.endCoast_agree _) rfl).step (State.modClock_agree _ _) rfl)
  try clear_value t1
  have ht2 : Agree 709994616 s t2 := by
    unfold t2
    refine Agree.ite ?_ ?_
    · refine Agree.foldl (fun t5 x5 h5 => ?_) ?_
      · exact (h5.step (State.parkAtOnce_agree _ _) rfl)
      · exact (ht1.step (State.abortAll_agree _ _) rfl)
    · exact ht1
  try clear_value t2
  have ht3 : Agree 709994616 s t3 := by
    unfold t3
    refine Agree.ite ?_ ?_
    · exact (ht2.step (State.stopLink_agree _) rfl)
    · exact ht2
  try clear_value t3
  have ht4 : Agree 709994616 s t4 := ((ht3.step (State.taint_agree _) rfl).step (State.settle_agree _) rfl)
  try clear_value t4
  refine Agree.ite ?_ ?_
  · exact ht4
  · refine Agree.ite ?_ ?_
    · exact (ht4.step (State.modClock_agree _ _) rfl)
    · exact (ht4.step (State.loopStep_agree _) rfl)

theorem State.takeRatio_agree (s : State) : Agree 709994616 s (State.takeRatio s) := by
  unfold State.takeRatio
  extract_lets -underBinder -merge c0 c1 c2 c3 t4
  try clear_value c0
  try clear_value c1
  try clear_value c2
  try clear_value c3
  have ht4 : Agree 709994616 s t4 := (((Agree.refl 709994616 s).step (State.modClock_agree _ _) rfl).step (State.setRatio_agree _ _) rfl)
  try clear_value t4
  split
  · refine Agree.ite ?_ ?_
    · exact ht4
    · split
      · exact ht4
      · exact ht4
      · refine Agree.ite ?_ ?_
        · exact ht4
        · exact (ht4.step (State.loopStep_agree _) rfl)
  · split
    · exact (ht4.step (State.startRelock_agree _ _ _) rfl)
    · exact (ht4.step (State.startRelock_agree _ _ _) rfl)
    · refine Agree.ite ?_ ?_
      · exact ht4
      · exact (ht4.step (State.startRelock_agree _ _ _) rfl)

theorem State.clockTransfer_agree (s : State) : Agree 709994616 s (State.clockTransfer s) := by
  unfold State.clockTransfer
  extract_lets -underBinder -merge t0 c1 t2
  have ht0 : Agree 709994616 s t0 := ((Agree.refl 709994616 s).step (State.modClock_agree _ _) rfl)
  try clear_value t0
  try clear_value c1
  have ht2 : Agree 709994616 s t2 := by
    unfold t2
    refine Agree.ite ?_ ?_
    · exact ht0
    · refine Agree.ite ?_ ?_
      · exact (ht0.step (State.modClock_agree _ _) rfl)
      · exact (ht0.step (State.takeRatio_agree _) rfl)
  try clear_value t2
  exact (ht2.step (State.commitOn_agree _) rfl)

theorem execClockTransfer_agree (s : State) : Result.Agrees 709994616 s (execClockTransfer s) := by
  unfold execClockTransfer
  refine Result.Agrees.next ?_
  refine Agree.ite ?_ ?_
  · exact ((Agree.refl 709994616 s).step (State.clockTransfer_agree _) rfl)
  · exact (Agree.refl 709994616 s)

theorem State.firstSearch_agree (s : State) : Agree 33554440 s (State.firstSearch s) := by
  unfold State.firstSearch
  exact (((Agree.refl 33554440 s).step (State.modClock_agree _ _) rfl).step (State.loopStep_agree _) rfl)

theorem State.clampActive_agree (s : State) (x : ℕ × ℕ × ℕ) : Agree 33554456 s (State.clampActive s x) := by
  unfold State.clampActive
  refine Agree.ite ?_ ?_
  · exact ((Agree.refl 33554456 s).step (State.modClock_agree _ _) rfl)
  · exact ((Agree.refl 33554456 s).step (State.setRatio_agree _ _) rfl)

theorem State.detect_agree (s : State) (khz : ℕ) : Agree 709994616 s (State.detect s khz) := by
  unfold State.detect
  extract_lets -underBinder -merge c0 c1 t2 t3 t4
  try clear_value c0
  try clear_value c1
  have ht2 : Agree 709994616 s t2 := (((Agree.refl 709994616 s).step (State.wr_agree _ _ _ _) rfl).step (State.wr_agree _ _ _ _) rfl)
  try clear_value t2
  have ht3 : Agree 709994616 s t3 := (ht2.step (State.modClock_agree _ _) rfl)
  try clear_value t3
  have ht4 : Agree 709994616 s t4 := by
    unfold t4
    refine Agree.ite ?_ ?_
    · exact (ht3.step (State.takeRatio_agree _) rfl)
    · split
      · extract_lets -underBinder -merge c5
        try clear_value c5
        exact ((ht3.step (State.modClock_agree _ _) rfl).step (State.setRatio_agree _ _) rfl)
      · exact (ht3.step (State.clampActive_agree _ _) rfl)
  try clear_value t4
  refine Agree.ite ?_ ?_
  · exact (ht4.step (State.firstSearch_agree _) rfl)
  · exact ht4

theorem execRefDetected_agree (khz : ℕ) (s : State) : Result.Agrees 709994616 s (execRefDetected khz s) := by
  unfold execRefDetected
  extract_lets -underBinder -merge t0
  have ht0 : Agree 709994616 s t0 := ((Agree.refl 709994616 s).step (State.modClock_agree _ _) rfl)
  try clear_value t0
  refine Result.Agrees.next ?_
  refine Agree.ite ?_ ?_
  · exact (Agree.refl 709994616 s)
  · refine Agree.ite ?_ ?_
    · exact ((Agree.refl 709994616 s).step (State.detect_agree _ _) rfl)
    · refine Agree.ite ?_ ?_
      · exact (ht0.step (State.takeRatio_agree _) rfl)
      · exact ht0

theorem execRefRemeasure_agree (khz : ℕ) (s : State) : Result.Agrees 33554456 s (execRefRemeasure khz s) := by
  unfold execRefRemeasure
  extract_lets -underBinder -merge t0
  have ht0 : Agree 33554456 s t0 := ((Agree.refl 33554456 s).step (State.wr_agree _ _ _ _) rfl)
  try clear_value t0
  refine Result.Agrees.next ?_
  refine Agree.ite ?_ ?_
  · exact ((ht0.step (State.setRatio_agree _ _) rfl).step (State.loopStep_agree _) rfl)
  · exact (Agree.refl 33554456 s)

theorem execLockRunStart_agree (s : State) : Result.Agrees 33554436 s (execLockRunStart s) := by
  unfold execLockRunStart
  refine Result.Agrees.next ?_
  split
  · extract_lets -underBinder -merge c0 t1
    try clear_value c0
    have ht1 : Agree 33554436 s t1 := by
      unfold t1
      refine Agree.ite ?_ ?_
      · exact (((Agree.refl 33554436 s).step (State.spend_agree _) rfl).step (State.modClock_agree _ _) rfl)
      · exact (Agree.refl 33554436 s)
    try clear_value t1
    exact (ht1.step (State.modClock_agree _ _) rfl)
  · exact (Agree.refl 33554436 s)

theorem execBandFallback_agree (s : State) : Result.Agrees 33652744 s (execBandFallback s) := by
  unfold execBandFallback
  refine Result.Agrees.next ?_
  refine Agree.ite ?_ ?_
  · exact ((((Agree.refl 33652744 s).step (State.modClock_agree _ _) rfl).step (State.wr_agree _ _ _ _) rfl).step (State.flag_agree _ _ _) rfl)
  · exact (Agree.refl 33652744 s)

theorem execLockRunComplete_agree (rootCycles : ℕ) (s : State) :
    Result.Agrees 33554432 s (execLockRunComplete rootCycles s) := by
  unfold execLockRunComplete
  refine Result.Agrees.next ?_
  refine Agree.ite ?_ ?_
  · refine Agree.ite ?_ ?_
    · exact ((Agree.refl 33554432 s).step (State.modClock_agree _ _) rfl)
    · exact ((Agree.refl 33554432 s).step (State.modClock_agree _ _) rfl)
  · exact (Agree.refl 33554432 s)

theorem State.epochPort_agree (s : State) (n : ℕ) : Agree 134316056 s (State.epochPort s n) := by
  unfold State.epochPort
  extract_lets -underBinder -merge t0 t1
  have ht0 : Agree 134316056 s t0 := (((Agree.refl 134316056 s).step (State.transferNow_agree _ _) rfl).step (State.modPort_agree _ _ _) rfl)
  try clear_value t0
  have ht1 : Agree 134316056 s t1 := (ht0.step (State.takeHeldNow_agree _ _) rfl)
  try clear_value t1
  exact (ht1.step (State.playSlot_agree _ _ _ _ _) rfl)

theorem State.epoch_agree (s : State) : Agree 167870520 s (State.epoch s) := by
  unfold State.epoch
  extract_lets -underBinder -merge t0
  have ht0 : Agree 167870520 s t0 := by
    unfold t0
    refine Agree.step ?_ (State.modClock_agree _ _) rfl
    refine Agree.foldl (fun t1 x1 h1 => ?_) ?_
    · exact (h1.step (State.epochPort_agree _ _) rfl)
    · exact (Agree.refl 167870520 s)
  try clear_value t0
  refine Agree.foldl (fun t2 x2 h2 => ?_) ?_
  · refine Agree.ite ?_ ?_
    · exact h2
    · exact (h2.step (State.modGroup_agree _ _ _) rfl)
  · exact ht0

theorem State.lockAgain_agree (s : State) (peak : ℕ) : Agree 705798200 s (State.lockAgain s peak) := by
  unfold State.lockAgain
  extract_lets -underBinder -merge c0 c1 t2 t3 t4 t5
  try clear_value c0
  try clear_value c1
  have ht2 : Agree 705798200 s t2 := ((Agree.refl 705798200 s).step (State.wr_agree _ _ _ _) rfl)
  try clear_value t2
  have ht3 : Agree 705798200 s t3 := by
    unfold t3
    refine Agree.ite ?_ ?_
    · exact ((Agree.refl 705798200 s).step (State.wr_agree _ _ _ _) rfl)
    · refine Agree.ite ?_ ?_
      · exact (ht2.step (State.storeBand_agree _) rfl)
      · exact ht2
  try clear_value t3
  have ht4 : Agree 705798200 s t4 := (ht3.step (State.modClock_agree _ _) rfl)
  try clear_value t4
  have ht5 : Agree 705798200 s t5 := ((((ht4.step (State.epoch_agree _) rfl).step (State.count_agree _ _ _) rfl).step (State.flag_agree _ _ _) rfl).step (State.ledgerNote_agree _ _ _) rfl)
  try clear_value t5
  exact (ht5.step (State.settle_agree _) rfl)

theorem execGuardEnd_agree (overshoot : ℕ) (s : State) : Result.Agrees 705798200 s (execGuardEnd overshoot s) := by
  unfold execGuardEnd
  refine Result.Agrees.next ?_
  refine Agree.ite ?_ ?_
  · exact ((Agree.refl 705798200 s).step (State.lockAgain_agree _ _) rfl)
  · exact (Agree.refl 705798200 s)

theorem State.taintAll_agree (s : State) : Agree 33554432 s (State.taintAll s) := by
  unfold State.taintAll
  refine Agree.foldl (fun t0 x0 h0 => ?_) ?_
  · exact (h0.step (State.modClock_agree _ _) rfl)
  · exact (Agree.refl 33554432 s)

theorem State.lockFirst_agree (s : State) : Agree 705799228 s (State.lockFirst s) := by
  unfold State.lockFirst
  extract_lets -underBinder -merge c0 t1 t2 t3 t4 c5 c6
  try clear_value c0
  have ht1 : Agree 705799228 s t1 := by
    unfold t1
    split
    · exact ((Agree.refl 705799228 s).step (State.modClock_agree _ _) rfl)
    · exact (Agree.refl 705799228 s)
  try clear_value t1
  have ht2 : Agree 705799228 s t2 := (((ht1.step (State.spend_agree _) rfl).step (State.modClock_agree _ _) rfl).step (State.lockAgain_agree _ _) rfl)
  try clear_value t2
  have ht3 : Agree 705799228 s t3 := (ht2.step (State.wr_agree _ _ _ _) rfl)
  try clear_value t3
  have ht4 : Agree 705799228 s t4 := by
    unfold t4
    refine Agree.foldl (fun t7 x7 h7 => ?_) ?_
    · exact (h7.step (State.modStack_agree _ _ _) rfl)
    · exact (ht3.step (State.taintAll_agree _) rfl)
  try clear_value t4
  try clear_value c5
  try clear_value c6
  exact ((ht4.setLife rfl).step (State.flag_agree _ _ _) rfl)

theorem execFirstLock_agree (s : State) : Result.Agrees 705799228 s (execFirstLock s) := by
  unfold execFirstLock
  refine Result.Agrees.next ?_
  refine Agree.ite ?_ ?_
  · exact ((Agree.refl 705799228 s).step (State.lockFirst_agree _) rfl)
  · exact (Agree.refl 705799228 s)

theorem execRelockRefLoss_agree (s : State) : Result.Agrees 33554432 s (execRelockRefLoss s) := by
  unfold execRelockRefLoss
  refine Result.Agrees.next ?_
  split
  · exact (Agree.refl 33554432 s)
  · exact ((Agree.refl 33554432 s).step (State.modClock_agree _ _) rfl)
  · exact ((Agree.refl 33554432 s).step (State.modClock_agree _ _) rfl)

theorem execRelockRefResume_agree (s : State) : Result.Agrees 33554440 s (execRelockRefResume s) := by
  unfold execRelockRefResume
  refine Result.Agrees.next ?_
  split
  · extract_lets -underBinder -merge t0
    have ht0 : Agree 33554440 s t0 := ((Agree.refl 33554440 s).step (State.modClock_agree _ _) rfl)
    try clear_value t0
    refine Agree.ite ?_ ?_
    · exact ht0
    · exact (ht0.step (State.loopStep_agree _) rfl)
  · exact ((Agree.refl 33554440 s).step (State.modClock_agree _ _) rfl)
  · exact (Agree.refl 33554440 s)

theorem State.lose_agree (s : State) (present : Bool) : Agree 712089688 s (State.lose s present) := by
  unfold State.lose
  extract_lets -underBinder -merge t0
  have ht0 : Agree 712089688 s t0 := ((Agree.refl 712089688 s).step (State.modClock_agree _ _) rfl)
  try clear_value t0
  refine Agree.ite ?_ ?_
  · exact ht0
  · refine Agree.ite ?_ ?_
    · exact ((((((ht0.step (State.failAlignment_agree _) rfl).step (State.modClock_agree _ _) rfl).step (State.abortAll_agree _ _) rfl).step (State.stopLink_agree _) rfl).step (State.taint_agree _) rfl).step (State.settle_agree _) rfl)
    · refine Agree.ite ?_ ?_
      · exact (((((ht0.step (State.beginCoast_agree _) rfl).step (State.count_agree _ _ _) rfl).step (State.flag_agree _ _ _) rfl).step (State.ledgerNote_agree _ _ _) rfl).step (State.fault_agree _ _ _ _) rfl)
      · exact ht0

theorem execLossOfReference_agree (s : State) : Result.Agrees 712089688 s (execLossOfReference s) := by
  unfold execLossOfReference
  exact Result.Agrees.next ((Agree.refl 712089688 s).step (State.lose_agree _ _) rfl)

theorem execLossOfLock_agree (s : State) : Result.Agrees 712089688 s (execLossOfLock s) := by
  unfold execLossOfLock
  refine Result.Agrees.next ?_
  refine Agree.ite ?_ ?_
  · exact ((Agree.refl 712089688 s).step (State.lose_agree _ _) rfl)
  · exact (Agree.refl 712089688 s)

theorem execReturnQualified_agree (rootMilli : ℕ) (phasePs : ℤ) (s : State) :
    Result.Agrees 34701320 s (execReturnQualified rootMilli phasePs s) := by
  unfold execReturnQualified
  extract_lets -underBinder -merge t0 c1 c2 t3 t4
  have ht0 : Agree 34701320 s t0 := ((Agree.refl 34701320 s).step (State.modClock_agree _ _) rfl)
  try clear_value t0
  try clear_value c1
  try clear_value c2
  have ht3 : Agree 34701320 s t3 := (((ht0.step (State.endCoast_agree _) rfl).step (State.wr_agree _ _ _ _) rfl).step (State.flag_agree _ _ _) rfl)
  try clear_value t3
  have ht4 : Agree 34701320 s t4 := (ht3.step (State.ledgerNote_agree _ _ _) rfl)
  try clear_value t4
  refine Result.Agrees.next ?_
  refine Agree.ite ?_ ?_
  · refine Agree.ite ?_ ?_
    · exact (ht0.step (State.flag_agree _ _ _) rfl)
    · refine Agree.ite ?_ ?_
      · exact ((ht4.step (State.modClock_agree _ _) rfl).step (State.flag_agree _ _ _) rfl)
      · exact (ht4.step (State.modClock_agree _ _) rfl)
  · exact (Agree.refl 34701320 s)

theorem execSlewEnd_agree (s : State) : Result.Agrees 33554432 s (execSlewEnd s) := by
  unfold execSlewEnd
  refine Result.Agrees.next ?_
  refine Agree.ite ?_ ?_
  · exact ((Agree.refl 33554432 s).step (State.modClock_agree _ _) rfl)
  · exact (Agree.refl 33554432 s)

theorem execStepCorrectionEnd_agree (s : State) : Result.Agrees 33652744 s (execStepCorrectionEnd s) := by
  unfold execStepCorrectionEnd
  refine Result.Agrees.next ?_
  refine Agree.ite ?_ ?_
  · exact (((Agree.refl 33652744 s).step (State.modClock_agree _ _) rfl).step (State.flag_agree _ _ _) rfl)
  · exact (Agree.refl 33652744 s)

theorem State.clampDelay_agree (s : State) : Agree 8 s (State.clampDelay s) := by
  unfold State.clampDelay
  extract_lets -underBinder -merge c0
  try clear_value c0
  exact ((Agree.refl 8 s).step (State.wr_agree _ _ _ _) rfl)

theorem State.syncArm_agree (s : State) : Agree 33554440 s (State.syncArm s) := by
  unfold State.syncArm
  refine Agree.ite ?_ ?_
  · exact (Agree.refl 33554440 s)
  · exact (((Agree.refl 33554440 s).step (State.clampDelay_agree _) rfl).step (State.modClock_agree _ _) rfl)

theorem execSyncArm_agree (s : State) : Result.Agrees 33554440 s (execSyncArm s) := by
  unfold execSyncArm
  exact Result.Agrees.next ((Agree.refl 33554440 s).step (State.syncArm_agree _) rfl)

theorem State.syncFire_agree (s : State) : Agree 33554432 s (State.syncFire s) := by
  unfold State.syncFire
  refine Agree.ite ?_ ?_
  · exact ((Agree.refl 33554432 s).step (State.modClock_agree _ _) rfl)
  · exact (Agree.refl 33554432 s)

theorem execSyncFire_agree (s : State) : Result.Agrees 33554432 s (execSyncFire s) := by
  unfold execSyncFire
  exact Result.Agrees.next ((Agree.refl 33554432 s).step (State.syncFire_agree _) rfl)

theorem State.syncRise_agree (s : State) : Agree 570531848 s (State.syncRise s) := by
  unfold State.syncRise
  extract_lets -underBinder -merge t0
  have ht0 : Agree 570531848 s t0 := ((Agree.refl 570531848 s).step (State.emitPin_agree _ _) rfl)
  try clear_value t0
  refine Agree.ite ?_ ?_
  · exact ht0
  · refine Agree.ite ?_ ?_
    · exact (((ht0.step (State.modClock_agree _ _) rfl).step (State.taint_agree _) rfl).step (State.settle_agree _) rfl)
    · exact (ht0.step (State.modClock_agree _ _) rfl)

theorem execSyncEdge_agree (level : Bool) (s : State) : Result.Agrees 570531848 s (execSyncEdge level s) := by
  unfold execSyncEdge
  extract_lets -underBinder -merge t0
  have ht0 : Agree 570531848 s t0 := ((Agree.refl 570531848 s).step (State.modClock_agree _ _) rfl)
  try clear_value t0
  refine Result.Agrees.next ?_
  refine Agree.ite ?_ ?_
  · exact (ht0.step (State.syncRise_agree _) rfl)
  · exact ht0

theorem execAlignmentEpoch_agree (heldLock : Bool) (s : State) :
    Result.Agrees 705798200 s (execAlignmentEpoch heldLock s) := by
  unfold execAlignmentEpoch
  extract_lets -underBinder -merge c0 t1 t2 t3
  try clear_value c0
  have ht1 : Agree 705798200 s t1 := (((Agree.refl 705798200 s).step (State.modClock_agree _ _) rfl).step (State.epoch_agree _) rfl)
  try clear_value t1
  have ht2 : Agree 705798200 s t2 := (ht1.step (State.wr_agree _ _ _ _) rfl)
  try clear_value t2
  have ht3 : Agree 705798200 s t3 := (ht2.step (State.setFlags_agree _ _ _) rfl)
  try clear_value t3
  refine Result.Agrees.next ?_
  refine Agree.ite ?_ ?_
  · exact ((ht3.step (State.ledgerNote_agree _ _ _) rfl).step (State.settle_agree _) rfl)
  · exact (Agree.refl 705798200 s)

theorem State.resetClock_agree (s : State) : Agree 709994616 s (State.resetClock s) := by
  unfold State.resetClock
  extract_lets -underBinder -merge t0 t1 t2
  have ht0 : Agree 709994616 s t0 := ((((((Agree.refl 709994616 s).step (State.wr_agree _ _ _ _) rfl).step (State.wr_agree _ _ _ _) rfl).step (State.wr_agree _ _ _ _) rfl).step (State.clearFlags_agree _ _ _) rfl).step (State.wr_agree _ _ _ _) rfl)
  try clear_value t0
  have ht1 : Agree 709994616 s t1 := (ht0.step (State.wr_agree _ _ _ _) rfl)
  try clear_value t1
  have ht2 : Agree 709994616 s t2 := (ht1.step (State.modClock_agree _ _) rfl)
  try clear_value t2
  refine Agree.ite ?_ ?_
  · exact ht2
  · refine Agree.ite ?_ ?_
    · exact ht2
    · exact (ht2.step (State.startRelock_agree _ _ _) rfl)

/-! ### Calibrate -/

theorem State.apply_agree (s : State) (item : ℕ) (x : Taps) : Agree 8388688 s (State.apply s item x) := by
  unfold State.apply
  extract_lets -underBinder -merge c0 c1
  try clear_value c0
  try clear_value c1
  split
  · exact ((Agree.refl 8388688 s).step (State.modPort_agree _ _ _) rfl)
  · extract_lets -underBinder -merge c2
    try clear_value c2
    exact ((Agree.refl 8388688 s).step (State.modSpare_agree _ _ _) rfl)
  · exact ((Agree.refl 8388688 s).step (State.modPort_agree _ _ _) rfl)
  · extract_lets -underBinder -merge c3 c4 c5
    try clear_value c3
    try clear_value c4
    try clear_value c5
    exact ((Agree.refl 8388688 s).step (State.setMonitor_agree _ _ _) rfl)

theorem State.tapItem_agree (s : State) (item : ℕ) : Agree 8487000 s (State.tapItem s item) := by
  unfold State.tapItem
  extract_lets -underBinder -merge c0 c1 c2 c3 t4 c5
  try clear_value c0
  try clear_value c1
  try clear_value c2
  try clear_value c3
  have ht4 : Agree 8487000 s t4 := by
    unfold t4
    refine Agree.ite ?_ ?_
    · exact (Agree.refl 8487000 s)
    · exact ((Agree.refl 8487000 s).step (State.apply_agree _ _ _) rfl)
  try clear_value t4
  try clear_value c5
  refine Agree.ite ?_ ?_
  · exact (ht4.step (State.flag_agree _ _ _) rfl)
  · exact ht4

theorem execTrimTap_agree (s : State) : Result.Agrees 8487000 s (execTrimTap s) := by
  unfold execTrimTap
  refine Result.Agrees.next ?_
  refine Agree.ite ?_ ?_
  · exact (Agree.refl 8487000 s)
  · refine Agree.foldl (fun t0 x0 h0 => ?_) ?_
    · exact (h0.step (State.tapItem_agree _ _) rfl)
    · exact (Agree.refl 8487000 s)

theorem State.storeChange_agree (s : State) : Agree 4194304 s (State.storeChange s) := by
  unfold State.storeChange
  extract_lets -underBinder -merge c0
  try clear_value c0
  exact ((Agree.refl 4194304 s).setCal rfl)

theorem execTargetRecompute_agree (readings : List (Die × ℤ)) (s : State) :
    Result.Agrees 4194304 s (execTargetRecompute readings s) := by
  unfold execTargetRecompute
  extract_lets -underBinder -merge c0 t1 c2 c3
  try clear_value c0
  have ht1 : Agree 4194304 s t1 := ((Agree.refl 4194304 s).setCal rfl)
  try clear_value t1
  try clear_value c2
  try clear_value c3
  refine Result.Agrees.next ?_
  refine Agree.ite ?_ ?_
  · exact ht1
  · exact ((ht1.setCal rfl).step (State.storeChange_agree _) rfl)

theorem State.beginSwatch_agree (s : State) (adc : ℕ) (item : ℕ) (kind : SwatchKind) (legacy : Bool) (rotation : Bool) (readback : Bool) : Agree 4292696 s (State.beginSwatch s adc item kind legacy rotation readback) := by
  unfold State.beginSwatch
  split
  · exact ((Agree.refl 4292696 s).step (State.calResult_agree _ _ _ _) rfl)
  · extract_lets -underBinder -merge c0 c1 t2
    try clear_value c0
    try clear_value c1
    have ht2 : Agree 4292696 s t2 := ((Agree.refl 4292696 s).step (State.setAdc_agree _ _ _) rfl)
    try clear_value t2
    split
    · refine Agree.ite ?_ ?_
      · exact ht2
      · exact (ht2.step (State.modPort_agree _ _ _) rfl)
    · exact (ht2.step (State.modSpare_agree _ _ _) rfl)
    · refine Agree.ite ?_ ?_
      · exact (ht2.step (State.modPort_agree _ _ _) rfl)
      · exact ht2
    · exact ht2

theorem State.legacyNext_agree (s : State) (adc : ℕ) (readback : Bool) :
    Agree 5341272 s (State.legacyNext s adc readback) := by
  unfold State.legacyNext
  split
  · exact (Agree.refl 5341272 s)
  · split
    · exact (Agree.refl 5341272 s)
    · extract_lets -underBinder -merge c0 c1 t2 c3 t4 t5
      try clear_value c0
      try clear_value c1
      have ht2 : Agree 5341272 s t2 := ((Agree.refl 5341272 s).setCal rfl)
      try clear_value t2
      try clear_value c3
      have ht4 : Agree 5341272 s t4 := (ht2.setCal rfl)
      try clear_value t4
      have ht5 : Agree 5341272 s t5 := (ht4.step (State.beginSwatch_agree _ _ _ _ _ _ _) rfl)
      try clear_value t5
      refine Agree.ite ?_ ?_
      · exact (ht2.step (State.legacyOn_agree _) rfl)
      · refine Agree.ite ?_ ?_
        · exact ht5
        · exact ((ht5.step (State.legacyNote_agree _ _) rfl).step (State.legacyOn_agree _) rfl)

theorem execSwatchStart_agree (adc : ℕ) (readback : Bool) (s : State) :
    Result.Agrees 5341272 s (execSwatchStart adc readback s) := by
  unfold execSwatchStart
  refine Result.Agrees.next ?_
  refine Agree.ite ?_ ?_
  · exact (Agree.refl 5341272 s)
  · refine Agree.ite ?_ ?_
    · exact ((Agree.refl 5341272 s).step (State.legacyNext_agree _ _ _) rfl)
    · split
      · split
        · exact ((Agree.refl 5341272 s).step (State.beginSwatch_agree _ _ _ _ _ _ _) rfl)
        · exact (Agree.refl 5341272 s)
      · exact (Agree.refl 5341272 s)

theorem State.failReadback_agree (s : State) (adc : ℕ) (x : Swatch) :
    Agree 5341272 s (State.failReadback s adc x) := by
  unfold State.failReadback
  extract_lets -underBinder -merge t0
  have ht0 : Agree 5341272 s t0 := ((((Agree.refl 5341272 s).step (State.setAdc_agree _ _ _) rfl).step (State.releaseSwatch_agree _ _) rfl).step (State.calResult_agree _ _ _ _) rfl)
  try clear_value t0
  refine Agree.ite ?_ ?_
  · exact ((ht0.step (State.legacyNote_agree _ _) rfl).step (State.legacyOn_agree _) rfl)
  · exact ht0

theorem execSwatchPoint_agree (adc : ℕ) (readback : Bool) (value : ℤ) (noise : ℕ) (s : State) :
    Result.Agrees 5341272 s (execSwatchPoint adc readback value noise s) := by
  unfold execSwatchPoint
  refine Result.Agrees.next ?_
  split
  · extract_lets -underBinder -merge c0
    try clear_value c0
    refine Agree.ite ?_ ?_
    · exact ((Agree.refl 5341272 s).step (State.failReadback_agree _ _ _) rfl)
    · refine Agree.ite ?_ ?_
      · exact ((Agree.refl 5341272 s).step (State.setAdc_agree _ _ _) rfl)
      · exact (Agree.refl 5341272 s)
  · exact (Agree.refl 5341272 s)

theorem State.acceptSwatch_agree (s : State) (x : Swatch) : Agree 5341192 s (State.acceptSwatch s x) := by
  unfold State.acceptSwatch
  extract_lets -underBinder -merge c0 c1 c2 t3
  try clear_value c0
  try clear_value c1
  try clear_value c2
  have ht3 : Agree 5341192 s t3 := (((((Agree.refl 5341192 s).step (State.setCalItem_agree _ _ _) rfl).step (State.countMod_agree _ _ _ _ _ _) rfl).step (State.calResult_agree _ _ _ _) rfl).step (State.storeChange_agree _) rfl)
  try clear_value t3
  refine Agree.ite ?_ ?_
  · exact (ht3.step (State.ledgerNote_agree _ _ _) rfl)
  · exact ht3

theorem State.rejectSwatch_agree (s : State) (x : Swatch) : Agree 5341192 s (State.rejectSwatch s x) := by
  unfold State.rejectSwatch
  extract_lets -underBinder -merge c0 c1 c2 t3 t4
  try clear_value c0
  try clear_value c1
  try clear_value c2
  have ht3 : Agree 5341192 s t3 := (((((Agree.refl 5341192 s).step (State.setCalItem_agree _ _ _) rfl).step (State.countMod_agree _ _ _ _ _ _) rfl).step (State.calResult_agree _ _ _ _) rfl).step (State.storeChange_agree _) rfl)
  try clear_value t3
  have ht4 : Agree 5341192 s t4 := ((ht3.step (State.flag_agree _ _ _) rfl).step (State.ledgerNote_agree _ _ _) rfl)
  try clear_value t4
  refine Agree.ite ?_ ?_
  · exact ((ht4.step (State.flag_agree _ _ _) rfl).step (State.ledgerNote_agree _ _ _) rfl)
  · exact ht4

theorem execSwatchEnd_agree (adc : ℕ) (s : State) : Result.Agrees 5341276 s (execSwatchEnd adc s) := by
  unfold execSwatchEnd
  refine Result.Agrees.next ?_
  split
  · extract_lets -underBinder -merge c0 t1 t2 t3
    try clear_value c0
    have ht1 : Agree 5341276 s t1 := by
      unfold t1
      refine Agree.ite ?_ ?_
      · exact ((Agree.refl 5341276 s).step (State.setAdc_agree _ _ _) rfl)
      · exact (((Agree.refl 5341276 s).step (State.setAdc_agree _ _ _) rfl).step (State.releaseSwatch_agree _ _) rfl)
    try clear_value t1
    have ht2 : Agree 5341276 s t2 := by
      unfold t2
      refine Agree.ite ?_ ?_
      · exact (ht1.step (State.acceptSwatch_agree _ _) rfl)
      · exact (ht1.step (State.rejectSwatch_agree _ _) rfl)
    try clear_value t2
    have ht3 : Agree 5341276 s t3 := by
      unfold t3
      refine Agree.ite ?_ ?_
      · exact (ht2.step (State.legacyNote_agree _ _) rfl)
      · exact ht2
    try clear_value t3
    refine Agree.ite ?_ ?_
    · refine Agree.ite ?_ ?_
      · exact (ht3.step (State.spend_agree _) rfl)
      · exact ht3
    · exact (Agree.refl 5341276 s)
  · exact (Agree.refl 5341276 s)

theorem State.calRebase_agree (s : State) (item : ℕ) : Agree 4194304 s (State.calRebase s item) := by
  unfold State.calRebase
  extract_lets -underBinder -merge c0 c1 c2
  subst c0
  try clear_value c1
  try clear_value c2
  refine Agree.ite ?_ ?_
  · exact (Agree.refl 4194304 s)
  · exact (((Agree.refl 4194304 s).setCal rfl).step (State.storeChange_agree _) rfl)

theorem execCalRebase_agree (item : ℕ) (s : State) : Result.Agrees 4194312 s (execCalRebase item s) := by
  unfold execCalRebase
  exact Result.Agrees.next (((Agree.refl 4194312 s).step (State.wr_agree _ _ _ _) rfl).step (State.calRebase_agree _ _) rfl)

theorem State.judgeTenfold_agree (s : State) : Agree 4194304 s (State.judgeTenfold s) := by
  unfold State.judgeTenfold
  extract_lets -underBinder -merge c0
  try clear_value c0
  exact ((Agree.refl 4194304 s).setCal rfl)

theorem State.writeRotation_agree (s : State) (w : Word) : Agree 8 s (State.writeRotation s w) := by
  unfold State.writeRotation
  exact ((Agree.refl 8 s).step (State.wr_agree _ _ _ _) rfl)

theorem execGroupEnWrite_agree (value : Word) (s : State) : Result.Agrees 8 s (execGroupEnWrite value s) := by
  unfold execGroupEnWrite
  exact Result.Agrees.next ((Agree.refl 8 s).step (State.writeRotation_agree _ _) rfl)

theorem State.rotationReturn_agree (s : State) (g : ℕ) (item : ℕ) :
    Agree 4194368 s (State.rotationReturn s g item) := by
  unfold State.rotationReturn
  refine Agree.ite ?_ ?_
  · exact (((Agree.refl 4194368 s).step (State.beginHandover_agree _ _ _) rfl).step (State.setRotation_agree _ _ _ _) rfl)
  · exact (Agree.refl 4194368 s)

theorem State.rotationEnd_agree (s : State) (g : ℕ) (r : Rotation × ℕ) :
    Agree 4194368 s (State.rotationEnd s g r) := by
  unfold State.rotationEnd
  refine Agree.ite ?_ ?_
  · exact (Agree.refl 4194368 s)
  · refine Agree.ite ?_ ?_
    · exact ((Agree.refl 4194368 s).step (State.rotationReturn_agree _ _ _) rfl)
    · exact ((Agree.refl 4194368 s).step (State.setRotation_agree _ _ _ _) rfl)

theorem State.rotationSubstitute_agree (s : State) (g : ℕ) (item : ℕ) :
    Agree 4292680 s (State.rotationSubstitute s g item) := by
  unfold State.rotationSubstitute
  refine Agree.ite ?_ ?_
  · exact (((Agree.refl 4292680 s).step (State.calResult_agree _ _ _ _) rfl).step (State.setRotation_agree _ _ _ _) rfl)
  · refine Agree.ite ?_ ?_
    · exact (((Agree.refl 4292680 s).step (State.beginHandover_agree _ _ _) rfl).step (State.setRotation_agree _ _ _ _) rfl)
    · exact (Agree.refl 4292680 s)

theorem State.rotationStep_agree (s : State) (g : ℕ) : Agree 5341276 s (State.rotationStep s g) := by
  unfold State.rotationStep
  extract_lets -underBinder -merge c0 c1
  try clear_value c0
  try clear_value c1
  refine Agree.ite ?_ ?_
  · exact (Agree.refl 5341276 s)
  · refine Agree.ite ?_ ?_
    · exact ((Agree.refl 5341276 s).step (State.rotationEnd_agree _ _ _) rfl)
    · split
      · refine Agree.ite ?_ ?_
        · exact (Agree.refl 5341276 s)
        · split
          · exact (((Agree.refl 5341276 s).step (State.setSpareTarget_agree _ _ _) rfl).step (State.setRotation_agree _ _ _ _) rfl)
          · exact (Agree.refl 5341276 s)
      · extract_lets -underBinder -merge c2
        try clear_value c2
        refine Agree.ite ?_ ?_
        · exact (Agree.refl 5341276 s)
        · refine Agree.ite ?_ ?_
          · exact ((Agree.refl 5341276 s).step (State.setRotation_agree _ _ _ _) rfl)
          · exact ((Agree.refl 5341276 s).step (State.rotationSubstitute_agree _ _ _) rfl)
      · extract_lets -underBinder -merge c3
        try clear_value c3
        refine Agree.ite ?_ ?_
        · exact ((Agree.refl 5341276 s).step (State.rotationSubstitute_agree _ _ _) rfl)
        · exact (Agree.refl 5341276 s)
      · refine Agree.ite ?_ ?_
        · exact ((Agree.refl 5341276 s).step (State.setRotation_agree _ _ _ _) rfl)
        · exact (Agree.refl 5341276 s)
      · refine Agree.ite ?_ ?_
        · refine Agree.ite ?_ ?_
          · exact ((Agree.refl 5341276 s).step (State.rotationReturn_agree _ _ _) rfl)
          · exact ((Agree.refl 5341276 s).step (State.calResult_agree _ _ _ _) rfl)
        · exact (Agree.refl 5341276 s)
      · refine Agree.ite ?_ ?_
        · exact (Agree.refl 5341276 s)
        · refine Agree.ite ?_ ?_
          · refine Agree.ite ?_ ?_
            · exact ((Agree.refl 5341276 s).step (State.rotationReturn_agree _ _ _) rfl)
            · exact (Agree.refl 5341276 s)
          · exact ((Agree.refl 5341276 s).step (State.setRotation_agree _ _ _ _) rfl)

theorem execRotationStep_agree (g : ℕ) (s : State) : Result.Agrees 5341276 s (execRotationStep g s) := by
  unfold execRotationStep
  refine Result.Agrees.next ?_
  refine Agree.ite ?_ ?_
  · exact ((Agree.refl 5341276 s).step (State.rotationStep_agree _ _) rfl)
  · exact (Agree.refl 5341276 s)

theorem State.legacyStart_agree (s : State) : Agree 5341192 s (State.legacyStart s) := by
  unfold State.legacyStart
  extract_lets -underBinder -merge c0 c1 c2
  try clear_value c0
  subst c1
  try clear_value c2
  beta_reduce
  refine Agree.ite ?_ ?_
  · exact (Agree.refl 5341192 s)
  · exact (((Agree.refl 5341192 s).setCal rfl).step (State.legacyOn_agree _) rfl)

theorem execLegacyPass_agree (s : State) : Result.Agrees 5341192 s (execLegacyPass s) := by
  unfold execLegacyPass
  exact Result.Agrees.next ((Agree.refl 5341192 s).step (State.legacyStart_agree _) rfl)

theorem execLegacyCtrlGo_agree (s : State) : Result.Agrees 5341192 s (execLegacyCtrlGo s) := by
  unfold execLegacyCtrlGo
  exact Result.Agrees.next ((Agree.refl 5341192 s).step (State.legacyStart_agree _) rfl)

theorem execLegacyRelease_agree (adc : ℕ) (s : State) : Result.Agrees 13729880 s (execLegacyRelease adc s) := by
  unfold execLegacyRelease
  refine Result.Agrees.next ?_
  split
  · extract_lets -underBinder -merge t0
    have ht0 : Agree 13729880 s t0 := (((Agree.refl 13729880 s).step (State.setAdc_agree _ _ _) rfl).step (State.releaseSwatch_agree _ _) rfl)
    try clear_value t0
    refine Agree.ite ?_ ?_
    · exact ((ht0.step (State.apply_agree _ _ _) rfl).step (State.legacyOn_agree _) rfl)
    · exact (Agree.refl 13729880 s)
  · exact (Agree.refl 13729880 s)

theorem State.writeCalMode_agree (s : State) (w : Word) : Agree 4194312 s (State.writeCalMode s w) := by
  unfold State.writeCalMode
  extract_lets -underBinder -merge t0 c1
  have ht0 : Agree 4194312 s t0 := ((Agree.refl 4194312 s).step (State.wr_agree _ _ _ _) rfl)
  try clear_value t0
  try clear_value c1
  refine Agree.ite ?_ ?_
  · exact ht0
  · exact (ht0.setCal rfl)

/-! ### Lifeline -/

theorem State.eraseSector_agree (s : State) (offset : ℕ) : Agree 1074888712 s (State.eraseSector s offset) := by
  unfold State.eraseSector
  extract_lets -underBinder -merge c0 c1 c2 c3 t4 c5
  subst c0
  try clear_value c1
  try clear_value c2
  try clear_value c3
  have ht4 : Agree 1074888712 s t4 := ((Agree.refl 1074888712 s).setNv rfl)
  try clear_value t4
  try clear_value c5
  refine Agree.ite ?_ ?_
  · exact ht4
  · exact (((ht4.setLedger rfl).step (State.countField_agree _ _ _ _ _ _) rfl).step (State.flag_agree _ _ _) rfl)

theorem State.programEntry_agree (s : State) : Agree 1074888712 s (State.programEntry s) := by
  unfold State.programEntry
  split
  · exact (Agree.refl 1074888712 s)
  · extract_lets -underBinder -merge c0 t1 c2 c3 c4 t5
    try clear_value c0
    have ht1 : Agree 1074888712 s t1 := by
      unfold t1
      refine Agree.ite ?_ ?_
      · exact ((Agree.refl 1074888712 s).step (State.eraseSector_agree _ _) rfl)
      · exact (Agree.refl 1074888712 s)
    try clear_value t1
    try clear_value c2
    try clear_value c3
    try clear_value c4
    have ht5 : Agree 1074888712 s t5 := (ht1.step (B := 1074790400) (by constructor <;> intro hi <;> first | rfl | cases hi) rfl)
    try clear_value t5
    refine Agree.ite ?_ ?_
    · exact (ht5.step (State.flag_agree _ _ _) rfl)
    · exact ht5

theorem execLedgerEntryProgram_agree (s : State) : Result.Agrees 1074888712 s (execLedgerEntryProgram s) := by
  unfold execLedgerEntryProgram
  exact Result.Agrees.next ((Agree.refl 1074888712 s).step (State.programEntry_agree _) rfl)

theorem State.programAll_agree (s : State) : Agree 1074888712 s (State.programAll s) := by
  unfold State.programAll
  refine Agree.foldl (fun t0 x0 h0 => ?_) ?_
  · exact (h0.step (State.programEntry_agree _) rfl)
  · exact (Agree.refl 1074888712 s)

theorem execLedgerSecond_agree (s : State) : Result.Agrees 1146888 s (execLedgerSecond s) := by
  unfold execLedgerSecond
  refine Result.Agrees.next ?_
  refine Agree.ite ?_ ?_
  · exact (Agree.refl 1146888 s)
  · exact ((Agree.refl 1146888 s).step (State.secondBoundary_agree _) rfl)

theorem execPpsLost_agree (s : State) : Result.Agrees 1048576 s (execPpsLost s) := by
  unfold execPpsLost
  extract_lets -underBinder -merge c0
  try clear_value c0
  exact Result.Agrees.next ((Agree.refl 1048576 s).setLedger rfl)

theorem State.timeSet_agree (s : State) (seconds : Word) : Agree 1048584 s (State.timeSet s seconds) := by
  unfold State.timeSet
  extract_lets -underBinder -merge t0 c1
  have ht0 : Agree 1048584 s t0 := ((Agree.refl 1048584 s).step (State.wr_agree _ _ _ _) rfl)
  try clear_value t0
  try clear_value c1
  exact (ht0.setLedger rfl)

theorem execTimeSet_agree (seconds : Word) (s : State) : Result.Agrees 1048584 s (execTimeSet seconds s) := by
  unfold execTimeSet
  exact Result.Agrees.next ((Agree.refl 1048584 s).step (State.timeSet_agree _ _) rfl)

theorem State.resetLedger_agree (s : State) : Agree 1146888 s (State.resetLedger s) := by
  unfold State.resetLedger
  extract_lets -underBinder -merge t0 c1
  have ht0 : Agree 1146888 s t0 := (((Agree.refl 1146888 s).step (State.wr_agree _ _ _ _) rfl).step (State.ledgerCommit_agree _ _) rfl)
  try clear_value t0
  try clear_value c1
  exact (ht0.setLedger rfl)

theorem State.commitBegin_agree (s : State) : Agree 1077936128 s (State.commitBegin s) := by
  unfold State.commitBegin
  extract_lets -underBinder -merge c0 c1 c2
  try clear_value c0
  try clear_value c1
  try clear_value c2
  exact ((Agree.refl 1077936128 s).step (B := 1077936128) (by constructor <;> intro hi <;> first | rfl | cases hi) rfl)

theorem State.commitStart_agree (s : State) : Agree 1077936128 s (State.commitStart s) := by
  unfold State.commitStart
  refine Agree.ite ?_ ?_
  · exact ((Agree.refl 1077936128 s).step (State.commitBegin_agree _) rfl)
  · exact (Agree.refl 1077936128 s)

theorem execLifelineCommitStart_agree (s : State) : Result.Agrees 1077936128 s (execLifelineCommitStart s) := by
  unfold execLifelineCommitStart
  exact Result.Agrees.next ((Agree.refl 1077936128 s).step (State.commitStart_agree _) rfl)

theorem State.commitBindoff_agree (s : State) : Agree 1077936128 s (State.commitBindoff s) := by
  unfold State.commitBindoff
  refine Agree.ite ?_ ?_
  · exact ((Agree.refl 1077936128 s).step (State.commitBegin_agree _) rfl)
  · exact (Agree.refl 1077936128 s)

theorem State.commitDone_agree (s : State) : Agree 1079083016 s (State.commitDone s) := by
  unfold State.commitDone
  extract_lets -underBinder -merge c0 c1 c2 c3 t4 t5 t6 c7 t8
  try clear_value c0
  try clear_value c1
  try clear_value c2
  try clear_value c3
  have ht4 : Agree 1079083016 s t4 := ((Agree.refl 1079083016 s).setNv rfl)
  try clear_value t4
  have ht5 : Agree 1079083016 s t5 := (ht4.step (State.ledgerWrite_agree _ _ _ _ _) rfl)
  try clear_value t5
  have ht6 : Agree 1079083016 s t6 := (ht5.step (State.wr_agree _ _ _ _) rfl)
  try clear_value t6
  try clear_value c7
  have ht8 : Agree 1079083016 s t8 := (ht6.setCal rfl)
  try clear_value t8
  exact ((ht8.step (State.flag_agree _ _ _) rfl).step (State.commitBindoff_agree _) rfl)

theorem State.commitFailed_agree (s : State) : Agree 6397960 s (State.commitFailed s) := by
  unfold State.commitFailed
  extract_lets -underBinder -merge c0 c1
  try clear_value c0
  try clear_value c1
  refine Agree.ite ?_ ?_
  · exact ((Agree.refl 6397960 s).setCal rfl)
  · exact ((((Agree.refl 6397960 s).setCal rfl).step (State.flag_agree _ _ _) rfl).step (State.fault_agree _ _ _ _) rfl)

theorem execLifelineCommitComplete_agree (ok : Bool) (s : State) :
    Result.Agrees 1081188360 s (execLifelineCommitComplete ok s) := by
  unfold execLifelineCommitComplete
  refine Result.Agrees.next ?_
  refine Agree.ite ?_ ?_
  · refine Agree.ite ?_ ?_
    · exact ((Agree.refl 1081188360 s).step (State.commitDone_agree _) rfl)
    · exact ((Agree.refl 1081188360 s).step (State.commitFailed_agree _) rfl)
  · exact (Agree.refl 1081188360 s)

theorem State.commitAdvances_agree (s : State) : Agree 4194308 s (State.commitAdvances s) := by
  unfold State.commitAdvances
  extract_lets -underBinder -merge c0
  try clear_value c0
  split
  · extract_lets -underBinder -merge t1 c2
    have ht1 : Agree 4194308 s t1 := ((Agree.refl 4194308 s).step (State.spend_agree _) rfl)
    try clear_value t1
    try clear_value c2
    exact (ht1.setCal rfl)
  · extract_lets -underBinder -merge t3 c4
    have ht3 : Agree 4194308 s t3 := ((Agree.refl 4194308 s).step (State.spend_agree _) rfl)
    try clear_value t3
    try clear_value c4
    exact (ht3.setCal rfl)
  · exact (Agree.refl 4194308 s)

theorem State.seed_agree (s : State) : Agree 12583000 s (State.seed s) := by
  unfold State.seed
  extract_lets -underBinder -merge c0
  try clear_value c0
  split
  · extract_lets -underBinder -merge t1 c2 t3 c4 t5
    have ht1 : Agree 12583000 s t1 := ((Agree.refl 12583000 s).step (State.wr_agree _ _ _ _) rfl)
    try clear_value t1
    try clear_value c2
    have ht3 : Agree 12583000 s t3 := (ht1.setCal rfl)
    try clear_value t3
    try clear_value c4
    have ht5 : Agree 12583000 s t5 := (ht3.setCal rfl)
    try clear_value t5
    refine Agree.foldl (fun t6 x6 h6 => ?_) ?_
    · exact (h6.step (State.apply_agree _ _ _) rfl)
    · exact ht5
  · extract_lets -underBinder -merge c7
    try clear_value c7
    exact ((Agree.refl 12583000 s).setCal rfl)

end Machine
end Sys2Proof
end

