-- ==== Sys2Proof/Laws/FootprintUnits.lean ====
section
/-! SUPPORT. What each operation can change (Laws/Footprint.lean), for cartridges, ownership, security, attachments, the twin, health: every field of State outside the mask
is as it was. -/

namespace Sys2Proof
namespace Machine

/-! ### Cartridge -/

theorem State.setSlot_agree (s : State) (k : ℕ) (x : CartSlot) : Agree 67108864 s (State.setSlot s k x) := by
  unfold State.setSlot
  extract_lets -underBinder -merge c0 c1
  try clear_value c0
  try clear_value c1
  exact ((Agree.refl 67108864 s).setCart rfl)

theorem State.modCart_agree (s : State) (f : Cart → Cart) : Agree 67108864 s (State.modCart s f) := by
  unfold State.modCart
  exact ((Agree.refl 67108864 s).setCart rfl)

theorem State.cartNote_agree (s : State) (event : ℕ) (k : ℕ) (reason : ℕ) (ratio : ℤ) (cont : ℤ) (points : ℕ) :
    Agree 1146888 s (State.cartNote s event k reason ratio cont points) := by
  unfold State.cartNote
  extract_lets -underBinder -merge c0 c1
  try clear_value c0
  subst c1
  beta_reduce
  exact ((Agree.refl 1146888 s).step (State.ledgerWrite_agree _ _ _ _ _) rfl)

theorem State.updateWindow_agree (s : State) (k : ℕ) (x : CartSlot) :
    Agree 72450136 s (State.updateWindow s k x) := by
  unfold State.updateWindow
  extract_lets -underBinder -merge c0 c1 t2
  try clear_value c0
  try clear_value c1
  have ht2 : Agree 72450136 s t2 := ((Agree.refl 72450136 s).step (State.setSlot_agree _ _ _) rfl)
  try clear_value t2
  refine Agree.ite ?_ ?_
  · refine Agree.ite ?_ ?_
    · exact (ht2.step (State.modCart_agree _ _) rfl)
    · exact ((ht2.step (State.modCart_agree _ _) rfl).step (State.abortAll_agree _ _) rfl)
  · exact ht2

theorem State.windowsNow_agree (s : State) : Agree 72450136 s (State.windowsNow s) := by
  unfold State.windowsNow
  refine Agree.foldl (fun t0 x0 h0 => ?_) ?_
  · extract_lets -underBinder -merge c1
    try clear_value c1
    refine Agree.ite ?_ ?_
    · exact (h0.step (State.updateWindow_agree _ _ _) rfl)
    · exact h0
  · exact (Agree.refl 72450136 s)

theorem State.lifeLog_agree (s : State) (k : ℕ) (log : LifeLog) : Agree 68255752 s (State.lifeLog s k log) := by
  unfold State.lifeLog
  extract_lets -underBinder -merge c0 c1 c2 c3 c4 c5 c6 t7
  try clear_value c0
  try clear_value c1
  try clear_value c2
  try clear_value c3
  try clear_value c4
  try clear_value c5
  try clear_value c6
  have ht7 : Agree 68255752 s t7 := by
    unfold t7
    refine Agree.foldl (fun t8 x8 h8 => ?_) ?_
    · exact (h8.step (State.cartNote_agree _ _ _ _ _ _ _) rfl)
    · exact ((Agree.refl 68255752 s).step (State.setSlot_agree _ _ _) rfl)
  try clear_value t7
  refine Agree.ite ?_ ?_
  · exact ht7
  · exact (ht7.step (State.flag_agree _ _ _) rfl)

theorem execLifeLogUpdate_agree (slot : ℕ) (shocks : ℕ) (peakMilliC : ℤ) (s : State) :
    Result.Agrees 68255752 s (execLifeLogUpdate slot shocks peakMilliC s) := by
  unfold execLifeLogUpdate
  extract_lets -underBinder -merge c0 c1
  try clear_value c0
  try clear_value c1
  refine Result.Agrees.next ?_
  refine Agree.ite ?_ ?_
  · exact (((Agree.refl 68255752 s).step (State.setSlot_agree _ _ _) rfl).step (State.lifeLog_agree _ _ _) rfl)
  · exact (Agree.refl 68255752 s)

theorem State.transferFails_agree (s : State) (reason : ℕ) : Agree 68255752 s (State.transferFails s reason) := by
  unfold State.transferFails
  refine Agree.ite ?_ ?_
  · exact ((((Agree.refl 68255752 s).step (State.modCart_agree _ _) rfl).step (State.flag_agree _ _ _) rfl).step (State.cartNote_agree _ _ _ _ _ _ _) rfl)
  · exact (Agree.refl 68255752 s)

theorem State.authFails_agree (s : State) (k : ℕ) (why : AuthFailure) :
    Agree 72450136 s (State.authFails s k why) := by
  unfold State.authFails
  extract_lets -underBinder -merge c0 c1 t2 t3
  try clear_value c0
  try clear_value c1
  have ht2 : Agree 72450136 s t2 := ((Agree.refl 72450136 s).step (State.updateWindow_agree _ _ _) rfl)
  try clear_value t2
  have ht3 : Agree 72450136 s t3 := by
    unfold t3
    refine Agree.ite ?_ ?_
    · exact ((Agree.refl 72450136 s).step (State.updateWindow_agree _ _ _) rfl)
    · exact (ht2.step (State.transferFails_agree _ _) rfl)
  try clear_value t3
  exact ((ht3.step (State.flag_agree _ _ _) rfl).step (State.cartNote_agree _ _ _ _ _ _ _) rfl)

theorem State.transferStart_agree (s : State) (failure : Option AuthFailure) :
    Agree 72450136 s (State.transferStart s failure) := by
  unfold State.transferStart
  extract_lets -underBinder -merge c0 c1
  subst c0
  subst c1
  beta_reduce
  refine Agree.ite ?_ ?_
  · exact (Agree.refl 72450136 s)
  · split
    · exact ((Agree.refl 72450136 s).step (State.modCart_agree _ _) rfl)
    · refine Agree.ite ?_ ?_
      · split
        · exact (((Agree.refl 72450136 s).step (State.authFails_agree _ _ _) rfl).step (State.modCart_agree _ _) rfl)
        · extract_lets -underBinder -merge c2
          try clear_value c2
          exact (((Agree.refl 72450136 s).step (State.updateWindow_agree _ _ _) rfl).step (State.modCart_agree _ _) rfl)
      · exact ((Agree.refl 72450136 s).step (State.modCart_agree _ _) rfl)

theorem execTransferGo_agree (failure : Option AuthFailure) (s : State) :
    Result.Agrees 72450136 s (execTransferGo failure s) := by
  unfold execTransferGo
  exact Result.Agrees.next ((Agree.refl 72450136 s).step (State.transferStart_agree _ _) rfl)

theorem execTransferAbort_agree (s : State) : Result.Agrees 68255752 s (execTransferAbort s) := by
  unfold execTransferAbort
  exact Result.Agrees.next ((Agree.refl 68255752 s).step (State.transferFails_agree _ _) rfl)

theorem execTransferTimeout_agree (s : State) : Result.Agrees 68255752 s (execTransferTimeout s) := by
  unfold execTransferTimeout
  refine Result.Agrees.next ?_
  refine Agree.ite ?_ ?_
  · exact ((Agree.refl 68255752 s).step (State.transferFails_agree _ _) rfl)
  · exact (Agree.refl 68255752 s)

theorem execTransferPoint_agree (ratioE15 : ℤ) (inWindow : Bool) (s : State) :
    Result.Agrees 67108864 s (execTransferPoint ratioE15 inWindow s) := by
  unfold execTransferPoint
  extract_lets -underBinder -merge c0 c1 c2 c3 c4
  try clear_value c0
  try clear_value c1
  try clear_value c2
  try clear_value c3
  try clear_value c4
  refine Result.Agrees.next ?_
  refine Agree.ite ?_ ?_
  · exact ((Agree.refl 67108864 s).step (State.modCart_agree _ _) rfl)
  · exact (Agree.refl 67108864 s)

theorem State.transferSwitch_agree (s : State) : Agree 68255752 s (State.transferSwitch s) := by
  unfold State.transferSwitch
  split
  · extract_lets -underBinder -merge c0
    try clear_value c0
    split
    · extract_lets -underBinder -merge c1 t2
      try clear_value c1
      have ht2 : Agree 68255752 s t2 := ((Agree.refl 68255752 s).step (State.modCart_agree _ _) rfl)
      try clear_value t2
      exact ((ht2.step (State.flag_agree _ _ _) rfl).step (State.cartNote_agree _ _ _ _ _ _ _) rfl)
    · exact (Agree.refl 68255752 s)
  · exact (Agree.refl 68255752 s)

theorem execTransferSwitch_agree (s : State) : Result.Agrees 68255752 s (execTransferSwitch s) := by
  unfold execTransferSwitch
  refine Result.Agrees.next ?_
  refine Agree.ite ?_ ?_
  · exact ((Agree.refl 68255752 s).step (State.transferSwitch_agree _) rfl)
  · exact (Agree.refl 68255752 s)

theorem State.activate_agree (s : State) (k : ℕ) : Agree 67108864 s (State.activate s k) := by
  unfold State.activate
  exact ((Agree.refl 67108864 s).step (State.modCart_agree _ _) rfl)

theorem State.selectSlot_agree (s : State) (k : ℕ) : Agree 72450056 s (State.selectSlot s k) := by
  unfold State.selectSlot
  extract_lets -underBinder -merge c0
  try clear_value c0
  refine Agree.ite ?_ ?_
  · exact ((((Agree.refl 72450056 s).step (State.activate_agree _ _) rfl).step (State.judgeTenfold_agree _) rfl).step (State.cartNote_agree _ _ _ _ _ _ _) rfl)
  · exact (Agree.refl 72450056 s)

theorem execSelect_agree (slot : ℕ) (s : State) : Result.Agrees 72450056 s (execSelect slot s) := by
  unfold execSelect
  exact Result.Agrees.next ((Agree.refl 72450056 s).step (State.selectSlot_agree _ _) rfl)

theorem State.contClear_agree (s : State) : Agree 72450056 s (State.contClear s) := by
  unfold State.contClear
  split
  · exact ((((Agree.refl 72450056 s).step (State.modCart_agree _ _) rfl).step (State.judgeTenfold_agree _) rfl).step (State.cartNote_agree _ _ _ _ _ _ _) rfl)
  · exact (Agree.refl 72450056 s)

theorem execContClear_agree (s : State) : Result.Agrees 72450056 s (execContClear s) := by
  unfold execContClear
  exact Result.Agrees.next ((Agree.refl 72450056 s).step (State.contClear_agree _) rfl)

theorem State.castOnSlot_agree (s : State) (k : ℕ) : Agree 71303168 s (State.castOnSlot s k) := by
  unfold State.castOnSlot
  extract_lets -underBinder -merge t0 c1
  have ht0 : Agree 71303168 s t0 := ((Agree.refl 71303168 s).step (State.modCart_agree _ _) rfl)
  try clear_value t0
  try clear_value c1
  refine Agree.ite ?_ ?_
  · exact (Agree.refl 71303168 s)
  · split
    · extract_lets -underBinder -merge t2 c3
      have ht2 : Agree 71303168 s t2 := (ht0.step (State.activate_agree _ _) rfl)
      try clear_value t2
      try clear_value c3
      refine Agree.ite ?_ ?_
      · refine Agree.ite ?_ ?_
        · exact ht2
        · exact ((ht2.setCal rfl).step (State.judgeTenfold_agree _) rfl)
      · exact ht0
    · exact ht0

theorem State.powerSlot_agree (s : State) (k : ℕ) : Agree 68255752 s (State.powerSlot s k) := by
  unfold State.powerSlot
  extract_lets -underBinder -merge c0
  try clear_value c0
  exact ((((Agree.refl 68255752 s).step (State.setSlot_agree _ _ _) rfl).step (State.flag_agree _ _ _) rfl).step (State.cartNote_agree _ _ _ _ _ _ _) rfl)

theorem State.unpowerSlot_agree (s : State) (k : ℕ) : Agree 72450136 s (State.unpowerSlot s k) := by
  unfold State.unpowerSlot
  extract_lets -underBinder -merge c0
  try clear_value c0
  refine Agree.ite ?_ ?_
  · exact ((Agree.refl 72450136 s).step (State.updateWindow_agree _ _ _) rfl)
  · exact (Agree.refl 72450136 s)

theorem State.repowerSlot_agree (s : State) (k : ℕ) : Agree 67108864 s (State.repowerSlot s k) := by
  unfold State.repowerSlot
  extract_lets -underBinder -merge c0
  try clear_value c0
  refine Agree.ite ?_ ?_
  · exact ((Agree.refl 67108864 s).step (State.setSlot_agree _ _ _) rfl)
  · exact (Agree.refl 67108864 s)

theorem execCartridgeInsert_agree (slot : ℕ) (s : State) : Result.Agrees 68255752 s (execCartridgeInsert slot s) := by
  unfold execCartridgeInsert
  extract_lets -underBinder -merge c0
  try clear_value c0
  refine Result.Agrees.next ?_
  refine Agree.ite ?_ ?_
  · exact (Agree.refl 68255752 s)
  · refine Agree.ite ?_ ?_
    · exact ((Agree.refl 68255752 s).step (State.powerSlot_agree _ _) rfl)
    · exact ((Agree.refl 68255752 s).step (State.setSlot_agree _ _ _) rfl)

theorem State.removeCart_agree (s : State) (k : ℕ) : Agree 72450136 s (State.removeCart s k) := by
  unfold State.removeCart
  extract_lets -underBinder -merge t0 t1
  have ht0 : Agree 72450136 s t0 := ((((Agree.refl 72450136 s).step (State.transferFails_agree _ _) rfl).step (State.flag_agree _ _ _) rfl).step (State.cartNote_agree _ _ _ _ _ _ _) rfl)
  try clear_value t0
  have ht1 : Agree 72450136 s t1 := ((((ht0.step (State.modCart_agree _ _) rfl).step (State.flag_agree _ _ _) rfl).step (State.cartNote_agree _ _ _ _ _ _ _) rfl).step (State.abortAll_agree _ _) rfl)
  try clear_value t1
  refine Agree.ite ?_ ?_
  · exact ((Agree.refl 72450136 s).step (State.setSlot_agree _ _ _) rfl)
  · refine Agree.ite ?_ ?_
    · exact (ht1.step (State.setSlot_agree _ _ _) rfl)
    · exact (ht0.step (State.setSlot_agree _ _ _) rfl)

theorem execCartridgeRemove_agree (slot : ℕ) (s : State) : Result.Agrees 72450136 s (execCartridgeRemove slot s) := by
  unfold execCartridgeRemove
  refine Result.Agrees.next ?_
  refine Agree.ite ?_ ?_
  · exact (((Agree.refl 72450136 s).step (State.removeCart_agree _ _) rfl).step (State.modCart_agree _ _) rfl)
  · exact (Agree.refl 72450136 s)

theorem execAuthenticationComplete_agree (slot : ℕ) (result : Except AuthFailure CartData) (s : State) :
    Result.Agrees 72450136 s (execAuthenticationComplete slot result s) := by
  unfold execAuthenticationComplete
  refine Result.Agrees.next ?_
  refine Agree.ite ?_ ?_
  · split
    · exact (((Agree.refl 72450136 s).step (State.authFails_agree _ _ _) rfl).step (State.modCart_agree _ _) rfl)
    · extract_lets -underBinder -merge c0 t2 t4 t5
      try clear_value c0
      have ht2 : Agree 72450136 s t2 := ((Agree.refl 72450136 s).step (State.updateWindow_agree _ _ _) rfl)
      try clear_value t2
      have ht4 : Agree 72450136 s t4 := ((ht2.step (State.cartNote_agree _ _ _ _ _ _ _) rfl).step (State.lifeLog_agree _ _ _) rfl)
      try clear_value t4
      have ht5 : Agree 72450136 s t5 := by
        unfold t5
        refine Agree.ite ?_ ?_
        · exact ht4
        · exact (ht4.step (State.cartNote_agree _ _ _ _ _ _ _) rfl)
      try clear_value t5
      exact (ht5.step (State.castOnSlot_agree _ _) rfl)
  · exact (Agree.refl 72450136 s)

theorem execReauthentication_agree (slot : ℕ) (failure : Option AuthFailure) (s : State) :
    Result.Agrees 72450136 s (execReauthentication slot failure s) := by
  unfold execReauthentication
  refine Result.Agrees.next ?_
  refine Agree.ite ?_ ?_
  · split
    · exact ((Agree.refl 72450136 s).step (State.authFails_agree _ _ _) rfl)
    · extract_lets -underBinder -merge c0
      try clear_value c0
      exact (((Agree.refl 72450136 s).step (State.updateWindow_agree _ _ _) rfl).step (State.cartNote_agree _ _ _ _ _ _ _) rfl)
  · exact (Agree.refl 72450136 s)

theorem execOvenReading_agree (slot : ℕ) (milliK : ℤ) (s : State) :
    Result.Agrees 72450136 s (execOvenReading slot milliK s) := by
  unfold execOvenReading
  extract_lets -underBinder -merge c0 c1 c2 c3 c4
  try clear_value c0
  try clear_value c1
  try clear_value c2
  try clear_value c3
  try clear_value c4
  refine Result.Agrees.next ?_
  refine Agree.ite ?_ ?_
  · exact ((Agree.refl 72450136 s).step (State.updateWindow_agree _ _ _) rfl)
  · exact (Agree.refl 72450136 s)

theorem execOvenReadingTimeout_agree (slot : ℕ) (s : State) :
    Result.Agrees 72450136 s (execOvenReadingTimeout slot s) := by
  unfold execOvenReadingTimeout
  extract_lets -underBinder -merge c0
  try clear_value c0
  refine Result.Agrees.next ?_
  refine Agree.ite ?_ ?_
  · exact (((Agree.refl 72450136 s).step (State.updateWindow_agree _ _ _) rfl).step (State.transferFails_agree _ _) rfl)
  · exact (Agree.refl 72450136 s)

theorem State.infoSelect_agree (s : State) (w : Word) : Agree 67108872 s (State.infoSelect s w) := by
  unfold State.infoSelect
  exact (((Agree.refl 67108872 s).step (State.wr_agree _ _ _ _) rfl).step (State.modCart_agree _ _) rfl)

theorem execInfoSelWrite_agree (value : Word) (s : State) : Result.Agrees 67108872 s (execInfoSelWrite value s) := by
  unfold execInfoSelWrite
  exact Result.Agrees.next ((Agree.refl 67108872 s).step (State.infoSelect_agree _ _) rfl)

theorem State.infoRead_agree (s : State) : Agree 67108864 s (State.infoRead s) := by
  unfold State.infoRead
  exact ((Agree.refl 67108864 s).step (State.modCart_agree _ _) rfl)

theorem State.resetCart_agree (s : State) : Agree 67207176 s (State.resetCart s) := by
  unfold State.resetCart
  exact (((Agree.refl 67207176 s).step (State.modCart_agree _ _) rfl).step (State.clearFlags_agree _ _ _) rfl)

/-! ### Owner -/

theorem State.setI3c_agree (s : State) (p : I3cPort) (x : I3c) : Agree 98304 s (State.setI3c s p x) := by
  unfold State.setI3c
  split
  · exact ((Agree.refl 98304 s).setI3cA rfl)
  · exact ((Agree.refl 98304 s).setI3cB rfl)

theorem State.modI3c_agree (s : State) (p : I3cPort) (f : I3c → I3c) : Agree 98304 s (State.modI3c s p f) := by
  unfold State.modI3c
  exact ((Agree.refl 98304 s).step (State.setI3c_agree _ _ _) rfl)

theorem State.ownNote_agree (s : State) (event : ℕ) (port : I3cPort) (token : BitVec 64) (prev : BitVec 64) :
    Agree 1146888 s (State.ownNote s event port token prev) := by
  unfold State.ownNote
  exact ((Agree.refl 1146888 s).step (State.ledgerWrite_agree _ _ _ _ _) rfl)

theorem State.closeLocks_agree (s : State) : Agree 8 s (State.closeLocks s) := by
  unfold State.closeLocks
  exact ((Agree.refl 8 s).setRegs rfl)

theorem State.closeWindows_agree (s : State) : Agree 8 s (State.closeWindows s) := by
  unfold State.closeWindows
  refine Agree.foldl (fun t0 x0 h0 => ?_) ?_
  · exact (h0.step (State.wr_agree _ _ _ _) rfl)
  · exact (Agree.refl 8 s)

theorem State.takeOwnership_agree (s : State) (p : I3cPort) (token : BitVec 64) (event : ℕ) (flag : ℕ) :
    Agree 1277960 s (State.takeOwnership s p token event flag) := by
  unfold State.takeOwnership
  extract_lets -underBinder -merge c0 t1 t2 t3
  try clear_value c0
  have ht1 : Agree 1277960 s t1 := ((Agree.refl 1277960 s).setOwner rfl)
  try clear_value t1
  have ht2 : Agree 1277960 s t2 := ((ht1.step (State.count_agree _ _ _) rfl).step (State.closeLocks_agree _) rfl)
  try clear_value t2
  have ht3 : Agree 1277960 s t3 := ((ht2.step (State.modI3c_agree _ _ _) rfl).step (State.modI3c_agree _ _ _) rfl)
  try clear_value t3
  exact ((ht3.step (State.ownNote_agree _ _ _ _ _) rfl).step (State.flag_agree _ _ _) rfl)

theorem State.claim_agree (s : State) (p : I3cPort) (token : BitVec 64) :
    Agree 1277960 s (State.claim s p token) := by
  unfold State.claim
  refine Agree.ite ?_ ?_
  · exact (Agree.refl 1277960 s)
  · exact ((Agree.refl 1277960 s).step (State.takeOwnership_agree _ _ _ _ _) rfl)

theorem State.releaseOwner_agree (s : State) : Agree 1277960 s (State.releaseOwner s) := by
  unfold State.releaseOwner
  extract_lets -underBinder -merge c0 t1
  try clear_value c0
  have ht1 : Agree 1277960 s t1 := ((Agree.refl 1277960 s).setOwner rfl)
  try clear_value t1
  exact ((((ht1.step (State.closeLocks_agree _) rfl).step (State.closeWindows_agree _) rfl).step (State.ownNote_agree _ _ _ _ _) rfl).step (State.flag_agree _ _ _) rfl)

theorem State.handover_agree (s : State) (target : BitVec 64) : Agree 1277960 s (State.handover s target) := by
  unfold State.handover
  extract_lets -underBinder -merge c0
  try clear_value c0
  refine Agree.ite ?_ ?_
  · refine Agree.ite ?_ ?_
    · exact (((Agree.refl 1277960 s).setOwner rfl).step (State.ownNote_agree _ _ _ _ _) rfl)
    · exact (Agree.refl 1277960 s)
  · exact ((((Agree.refl 1277960 s).setOwner rfl).step (State.ownNote_agree _ _ _ _ _) rfl).step (State.flag_agree _ _ _) rfl)

theorem State.accept_agree (s : State) (p : I3cPort) (token : BitVec 64) :
    Agree 1277960 s (State.accept s p token) := by
  unfold State.accept
  exact ((Agree.refl 1277960 s).step (State.takeOwnership_agree _ _ _ _ _) rfl)

theorem State.ownerTick_agree (s : State) : Agree 131072 s (State.ownerTick s) := by
  unfold State.ownerTick
  extract_lets -underBinder -merge c0
  try clear_value c0
  refine Agree.ite ?_ ?_
  · exact ((Agree.refl 131072 s).setOwner rfl)
  · exact (Agree.refl 131072 s)

theorem State.lapse_agree (s : State) : Agree 1277960 s (State.lapse s) := by
  unfold State.lapse
  extract_lets -underBinder -merge c0 t1
  try clear_value c0
  have ht1 : Agree 1277960 s t1 := ((Agree.refl 1277960 s).setOwner rfl)
  try clear_value t1
  exact (((((ht1.step (State.count_agree _ _ _) rfl).step (State.closeLocks_agree _) rfl).step (State.closeWindows_agree _) rfl).step (State.ownNote_agree _ _ _ _ _) rfl).step (State.flag_agree _ _ _) rfl)

theorem State.handoverExpires_agree (s : State) : Agree 1277960 s (State.handoverExpires s) := by
  unfold State.handoverExpires
  extract_lets -underBinder -merge c0
  try clear_value c0
  exact ((((Agree.refl 1277960 s).setOwner rfl).step (State.ownNote_agree _ _ _ _ _) rfl).step (State.flag_agree _ _ _) rfl)

theorem execLapse_agree (s : State) : Result.Agrees 1277960 s (execLapse s) := by
  unfold execLapse
  refine Result.Agrees.next ?_
  refine Agree.ite ?_ ?_
  · exact ((Agree.refl 1277960 s).step (State.lapse_agree _) rfl)
  · exact (Agree.refl 1277960 s)

theorem execHandoverExpiry_agree (s : State) : Result.Agrees 1277960 s (execHandoverExpiry s) := by
  unfold execHandoverExpiry
  refine Result.Agrees.next ?_
  refine Agree.ite ?_ ?_
  · exact ((Agree.refl 1277960 s).step (State.handoverExpires_agree _) rfl)
  · exact (Agree.refl 1277960 s)

theorem State.ownerDue_agree (s : State) : Agree 1277960 s (State.ownerDue s) := by
  unfold State.ownerDue
  extract_lets -underBinder -merge t0
  have ht0 : Agree 1277960 s t0 := by
    unfold t0
    refine Agree.ite ?_ ?_
    · exact ((Agree.refl 1277960 s).step (State.handoverExpires_agree _) rfl)
    · exact (Agree.refl 1277960 s)
  try clear_value t0
  refine Agree.ite ?_ ?_
  · exact (ht0.step (State.lapse_agree _) rfl)
  · exact ht0

theorem State.writeTimeout_agree (s : State) (w : Word) : Agree 8 s (State.writeTimeout s w) := by
  unfold State.writeTimeout
  exact ((Agree.refl 8 s).step (State.wr_agree _ _ _ _) rfl)

/-! ### Security -/

theorem State.modSecurity_agree (s : State) (f : Security → Security) : Agree 524288 s (State.modSecurity s f) := by
  unfold State.modSecurity
  exact ((Agree.refl 524288 s).setSecurity rfl)

theorem State.setImage_agree (s : State) (b : Bool) (i : Option Image) :
    Agree 1073741824 s (State.setImage s b i) := by
  unfold State.setImage
  extract_lets -underBinder -merge c0 c1
  try clear_value c0
  try clear_value c1
  exact ((Agree.refl 1073741824 s).setNv rfl)

theorem State.fwNote_agree (s : State) (event : ℕ) (slot : Bool) (reason : ℕ) (i : Image) :
    Agree 1146888 s (State.fwNote s event slot reason i) := by
  unfold State.fwNote
  exact ((Agree.refl 1146888 s).step (State.ledgerWrite_agree _ _ _ _ _) rfl)

theorem State.startReport_agree (s : State) (nonce : List Byte) : Agree 524288 s (State.startReport s nonce) := by
  unfold State.startReport
  refine Agree.ite ?_ ?_
  · exact (Agree.refl 524288 s)
  · exact ((Agree.refl 524288 s).step (State.modSecurity_agree _ _) rfl)

theorem execAttestStart_agree (s : State) : Result.Agrees 524288 s (execAttestStart s) := by
  unfold execAttestStart
  exact Result.Agrees.next ((Agree.refl 524288 s).step (State.startReport_agree _ _) rfl)

theorem execAttestReportReady_agree (s : State) : Result.Agrees 622604 s (execAttestReportReady s) := by
  unfold execAttestReportReady
  refine Result.Agrees.next ?_
  refine Agree.ite ?_ ?_
  · exact ((((Agree.refl 622604 s).step (State.spend_agree _) rfl).step (State.modSecurity_agree _ _) rfl).step (State.flag_agree _ _ _) rfl)
  · exact (Agree.refl 622604 s)

theorem State.setUpdate_agree (s : State) (st : FwState) (reason : ℕ) :
    Agree 622600 s (State.setUpdate s st reason) := by
  unfold State.setUpdate
  extract_lets -underBinder -merge t0
  have ht0 : Agree 622600 s t0 := ((Agree.refl 622600 s).step (State.modSecurity_agree _ _) rfl)
  try clear_value t0
  refine Agree.ite ?_ ?_
  · exact ht0
  · exact (ht0.step (State.flag_agree _ _ _) rfl)

theorem State.failUpdate_agree (s : State) (reason : ℕ) (i : Image) :
    Agree 1671176 s (State.failUpdate s reason i) := by
  unfold State.failUpdate
  exact ((((Agree.refl 1671176 s).step (State.setUpdate_agree _ _ _) rfl).step (State.fwNote_agree _ _ _ _ _) rfl).step (State.flag_agree _ _ _) rfl)

theorem State.fwLoad_agree (s : State) : Agree 622600 s (State.fwLoad s) := by
  unfold State.fwLoad
  refine Agree.ite ?_ ?_
  · exact ((Agree.refl 622600 s).step (State.setUpdate_agree _ _ _) rfl)
  · exact (Agree.refl 622600 s)

theorem execLoad_agree (s : State) : Result.Agrees 622600 s (execLoad s) := by
  unfold execLoad
  exact Result.Agrees.next ((Agree.refl 622600 s).step (State.fwLoad_agree _) rfl)

theorem execFwVerifyComplete_agree (signed : Bool) (reads : ReadErrors) (s : State) :
    Result.Agrees 1075413004 s (execFwVerifyComplete signed reads s) := by
  unfold execFwVerifyComplete
  extract_lets -underBinder -merge t0
  have ht0 : Agree 1075413004 s t0 := (((Agree.refl 1075413004 s).step (State.countService_agree _ _ _) rfl).step (State.lowReads_agree _) rfl)
  try clear_value t0
  refine Result.Agrees.next ?_
  refine Agree.ite ?_ ?_
  · split
    · exact (((ht0.step (State.modSecurity_agree _ _) rfl).step (State.setImage_agree _ _ _) rfl).step (State.setUpdate_agree _ _ _) rfl)
    · exact (ht0.step (State.failUpdate_agree _ _ _) rfl)
  · exact (Agree.refl 1075413004 s)

theorem execFwProgramComplete_agree (ok : Bool) (s : State) :
    Result.Agrees 1075413000 s (execFwProgramComplete ok s) := by
  unfold execFwProgramComplete
  extract_lets -underBinder -merge c0 t1
  try clear_value c0
  have ht1 : Agree 1075413000 s t1 := (((Agree.refl 1075413000 s).step (State.setImage_agree _ _ _) rfl).step (State.setUpdate_agree _ _ _) rfl)
  try clear_value t1
  refine Result.Agrees.next ?_
  refine Agree.ite ?_ ?_
  · refine Agree.ite ?_ ?_
    · exact (((ht1.step (State.wr_agree _ _ _ _) rfl).step (State.wr_agree _ _ _ _) rfl).step (State.fwNote_agree _ _ _ _ _) rfl)
    · exact ((Agree.refl 1075413000 s).step (State.failUpdate_agree _ _ _) rfl)
  · exact (Agree.refl 1075413000 s)

theorem State.fwSwitch_agree (s : State) : Agree 622600 s (State.fwSwitch s) := by
  unfold State.fwSwitch
  refine Agree.ite ?_ ?_
  · exact ((Agree.refl 622600 s).step (State.setUpdate_agree _ _ _) rfl)
  · exact (Agree.refl 622600 s)

theorem execSwitch_agree (s : State) : Result.Agrees 622600 s (execSwitch s) := by
  unfold execSwitch
  exact Result.Agrees.next ((Agree.refl 622600 s).step (State.fwSwitch_agree _) rfl)

theorem State.fwCancel_agree (s : State) : Agree 622600 s (State.fwCancel s) := by
  unfold State.fwCancel
  refine Agree.ite ?_ ?_
  · exact ((Agree.refl 622600 s).step (State.setUpdate_agree _ _ _) rfl)
  · exact (Agree.refl 622600 s)

theorem execCancel_agree (s : State) : Result.Agrees 622600 s (execCancel s) := by
  unfold execCancel
  exact Result.Agrees.next ((Agree.refl 622600 s).step (State.fwCancel_agree _) rfl)

theorem State.fwConfirm_agree (s : State) : Agree 1075413000 s (State.fwConfirm s) := by
  unfold State.fwConfirm
  extract_lets -underBinder -merge c0 c1 t2
  try clear_value c0
  try clear_value c1
  have ht2 : Agree 1075413000 s t2 := ((Agree.refl 1075413000 s).setNv rfl)
  try clear_value t2
  refine Agree.ite ?_ ?_
  · exact ((ht2.step (State.setUpdate_agree _ _ _) rfl).step (State.fwNote_agree _ _ _ _ _) rfl)
  · exact (Agree.refl 1075413000 s)

theorem execConfirm_agree (s : State) : Result.Agrees 1075413000 s (execConfirm s) := by
  unfold execConfirm
  exact Result.Agrees.next ((Agree.refl 1075413000 s).step (State.fwConfirm_agree _) rfl)

theorem State.beginPause_agree (s : State) (reverting : Bool) : Agree 537501704 s (State.beginPause s reverting) := by
  unfold State.beginPause
  exact ((((Agree.refl 537501704 s).step (State.modSecurity_agree _ _) rfl).step (State.setUpdate_agree _ _ _) rfl).step (State.settle_agree _) rfl)

theorem State.endPause_agree (s : State) : Agree 538550280 s (State.endPause s) := by
  unfold State.endPause
  extract_lets -underBinder -merge c0
  try clear_value c0
  refine Agree.foldl (fun t1 x1 h1 => ?_) ?_
  · exact (h1.step (State.recordLate_agree _ _) rfl)
  · exact (((Agree.refl 538550280 s).step (State.modSecurity_agree _ _) rfl).step (State.settle_agree _) rfl)

theorem State.fwRevert_agree (s : State) : Agree 537501704 s (State.fwRevert s) := by
  unfold State.fwRevert
  refine Agree.ite ?_ ?_
  · exact ((Agree.refl 537501704 s).step (State.beginPause_agree _ _) rfl)
  · exact (Agree.refl 537501704 s)

theorem execRevert_agree (s : State) : Result.Agrees 537501704 s (execRevert s) := by
  unfold execRevert
  exact Result.Agrees.next ((Agree.refl 537501704 s).step (State.fwRevert_agree _) rfl)

theorem execQuiescentPoint_agree (s : State) : Result.Agrees 537501704 s (execQuiescentPoint s) := by
  unfold execQuiescentPoint
  refine Result.Agrees.next ?_
  refine Agree.ite ?_ ?_
  · exact ((Agree.refl 537501704 s).step (State.beginPause_agree _ _) rfl)
  · exact (Agree.refl 537501704 s)

theorem execQuietTimeout_agree (s : State) : Result.Agrees 1671176 s (execQuietTimeout s) := by
  unfold execQuietTimeout
  refine Result.Agrees.next ?_
  refine Agree.ite ?_ ?_
  · exact ((Agree.refl 1671176 s).step (State.failUpdate_agree _ _ _) rfl)
  · exact (Agree.refl 1671176 s)

theorem execNewImageStart_agree (ok : Bool) (s : State) : Result.Agrees 1612292104 s (execNewImageStart ok s) := by
  unfold execNewImageStart
  extract_lets -underBinder -merge c0 c1 c2 c3 t4
  try clear_value c0
  try clear_value c1
  try clear_value c2
  try clear_value c3
  have ht4 : Agree 1612292104 s t4 := ((Agree.refl 1612292104 s).setNv rfl)
  try clear_value t4
  refine Result.Agrees.next ?_
  refine Agree.ite ?_ ?_
  · refine Agree.ite ?_ ?_
    · exact (((ht4.step (State.setUpdate_agree _ _ _) rfl).step (State.endPause_agree _) rfl).step (State.fwNote_agree _ _ _ _ _) rfl)
    · exact (((Agree.refl 1612292104 s).step (State.failUpdate_agree _ _ _) rfl).step (State.endPause_agree _) rfl)
  · exact (Agree.refl 1612292104 s)

theorem State.writeUpdate_agree (s : State) (w : Word) : Agree 1612292104 s (State.writeUpdate s w) := by
  unfold State.writeUpdate
  extract_lets -underBinder -merge t0 t1 t2 t3
  have ht0 : Agree 1612292104 s t0 := by
    unfold t0
    refine Agree.ite ?_ ?_
    · exact ((Agree.refl 1612292104 s).step (State.fwLoad_agree _) rfl)
    · exact (Agree.refl 1612292104 s)
  try clear_value t0
  have ht1 : Agree 1612292104 s t1 := by
    unfold t1
    refine Agree.ite ?_ ?_
    · exact (ht0.step (State.fwSwitch_agree _) rfl)
    · exact ht0
  try clear_value t1
  have ht2 : Agree 1612292104 s t2 := by
    unfold t2
    refine Agree.ite ?_ ?_
    · exact (ht1.step (State.fwConfirm_agree _) rfl)
    · exact ht1
  try clear_value t2
  have ht3 : Agree 1612292104 s t3 := by
    unfold t3
    refine Agree.ite ?_ ?_
    · exact (ht2.step (State.fwRevert_agree _) rfl)
    · exact ht2
  try clear_value t3
  refine Agree.ite ?_ ?_
  · exact (ht3.step (State.fwCancel_agree _) rfl)
  · exact ht3

theorem State.writeSecurity_agree (s : State) (off : ℕ) (w : Word) :
    Agree 1612292104 s (State.writeSecurity s off w) := by
  unfold State.writeSecurity
  refine Agree.ite ?_ ?_
  · refine Agree.ite ?_ ?_
    · exact ((Agree.refl 1612292104 s).step (State.startReport_agree _ _) rfl)
    · exact (Agree.refl 1612292104 s)
  · refine Agree.ite ?_ ?_
    · exact ((Agree.refl 1612292104 s).step (State.writeUpdate_agree _ _) rfl)
    · refine Agree.ite ?_ ?_
      · exact ((Agree.refl 1612292104 s).step (State.wr_agree _ _ _ _) rfl)
      · refine Agree.ite ?_ ?_
        · exact ((Agree.refl 1612292104 s).step (State.wr_agree _ _ _ _) rfl)
        · refine Agree.ite ?_ ?_
          · exact ((Agree.refl 1612292104 s).step (State.wr_agree _ _ _ _) rfl)
          · exact (Agree.refl 1612292104 s)

/-! ### Attach -/

theorem State.ccc_agree (s : State) (p : I3cPort) (f : I3c → I3c) : Agree 98304 s (State.ccc s p f) := by
  unfold State.ccc
  refine Agree.ite ?_ ?_
  · exact ((Agree.refl 98304 s).step (State.modI3c_agree _ _ _) rfl)
  · exact (Agree.refl 98304 s)

theorem State.cccGet_agree (s : State) (p : I3cPort) (v : ℕ) : Agree 98304 s (State.cccGet s p v) := by
  unfold State.cccGet
  exact ((Agree.refl 98304 s).step (State.ccc_agree _ _ _) rfl)

theorem execEnec_agree (p : I3cPort) (s : State) : Result.Agrees 98304 s (execEnec p s) := by
  unfold execEnec
  exact Result.Agrees.next ((Agree.refl 98304 s).step (State.ccc_agree _ _ _) rfl)

theorem execDisec_agree (p : I3cPort) (s : State) : Result.Agrees 98304 s (execDisec p s) := by
  unfold execDisec
  exact Result.Agrees.next ((Agree.refl 98304 s).step (State.ccc_agree _ _ _) rfl)

theorem execRstdaa_agree (p : I3cPort) (s : State) : Result.Agrees 98304 s (execRstdaa p s) := by
  unfold execRstdaa
  exact Result.Agrees.next ((Agree.refl 98304 s).step (State.ccc_agree _ _ _) rfl)

theorem execEntdaa_agree (p : I3cPort) (a : BitVec 7) (s : State) : Result.Agrees 98304 s (execEntdaa p a s) := by
  unfold execEntdaa
  exact Result.Agrees.next ((Agree.refl 98304 s).step (State.ccc_agree _ _ _) rfl)

theorem execSetdasa_agree (p : I3cPort) (static : BitVec 7) (a : BitVec 7) (s : State) :
    Result.Agrees 98304 s (execSetdasa p static a s) := by
  unfold execSetdasa
  exact Result.Agrees.next ((Agree.refl 98304 s).step (State.ccc_agree _ _ _) rfl)

theorem execSetnewda_agree (p : I3cPort) (a : BitVec 7) (s : State) : Result.Agrees 98304 s (execSetnewda p a s) := by
  unfold execSetnewda
  exact Result.Agrees.next ((Agree.refl 98304 s).step (State.ccc_agree _ _ _) rfl)

theorem execGetpid_agree (p : I3cPort) (s : State) : Result.Agrees 98304 s (execGetpid p s) := by
  unfold execGetpid
  exact Result.Agrees.next ((Agree.refl 98304 s).step (State.cccGet_agree _ _ _) rfl)

theorem execGetbcr_agree (p : I3cPort) (s : State) : Result.Agrees 98304 s (execGetbcr p s) := by
  unfold execGetbcr
  exact Result.Agrees.next ((Agree.refl 98304 s).step (State.cccGet_agree _ _ _) rfl)

theorem execGetdcr_agree (p : I3cPort) (s : State) : Result.Agrees 98304 s (execGetdcr p s) := by
  unfold execGetdcr
  exact Result.Agrees.next ((Agree.refl 98304 s).step (State.cccGet_agree _ _ _) rfl)

theorem execGetcaps_agree (p : I3cPort) (s : State) : Result.Agrees 98304 s (execGetcaps p s) := by
  unfold execGetcaps
  exact Result.Agrees.next ((Agree.refl 98304 s).step (State.cccGet_agree _ _ _) rfl)

theorem execEnthdr0_agree (p : I3cPort) (s : State) : Result.Agrees 98304 s (execEnthdr0 p s) := by
  unfold execEnthdr0
  refine Result.Agrees.next ?_
  refine Agree.ite ?_ ?_
  · exact ((Agree.refl 98304 s).step (State.modI3c_agree _ _ _) rfl)
  · exact (Agree.refl 98304 s)

theorem execGetstatus_agree (p : I3cPort) (s : State) : Result.Agrees 98304 s (execGetstatus p s) := by
  unfold execGetstatus
  exact Result.Agrees.next ((Agree.refl 98304 s).step (State.ccc_agree _ _ _) rfl)

theorem execGetmwl_agree (p : I3cPort) (s : State) : Result.Agrees 98304 s (execGetmwl p s) := by
  unfold execGetmwl
  exact Result.Agrees.next ((Agree.refl 98304 s).step (State.cccGet_agree _ _ _) rfl)

theorem execGetmrl_agree (p : I3cPort) (s : State) : Result.Agrees 98304 s (execGetmrl p s) := by
  unfold execGetmrl
  exact Result.Agrees.next ((Agree.refl 98304 s).step (State.cccGet_agree _ _ _) rfl)

theorem execSetmwl_agree (p : I3cPort) (v : ℕ) (s : State) : Result.Agrees 98304 s (execSetmwl p v s) := by
  unfold execSetmwl
  exact Result.Agrees.next ((Agree.refl 98304 s).step (State.ccc_agree _ _ _) rfl)

theorem execSetmrl_agree (p : I3cPort) (v : ℕ) (s : State) : Result.Agrees 98304 s (execSetmrl p v s) := by
  unfold execSetmrl
  exact Result.Agrees.next ((Agree.refl 98304 s).step (State.ccc_agree _ _ _) rfl)

theorem execRstact_agree (p : I3cPort) (defining : Byte) (get : Bool) (s : State) :
    Result.Agrees 98304 s (execRstact p defining get s) := by
  unfold execRstact
  refine Result.Agrees.next ?_
  refine Agree.ite ?_ ?_
  · exact ((Agree.refl 98304 s).step (State.cccGet_agree _ _ _) rfl)
  · exact ((Agree.refl 98304 s).step (State.ccc_agree _ _ _) rfl)

theorem execTargetResetPattern_agree (p : I3cPort) (s : State) :
    Result.Agrees 98304 s (execTargetResetPattern p s) := by
  unfold execTargetResetPattern
  exact Result.Agrees.next ((Agree.refl 98304 s).step (State.ccc_agree _ _ _) rfl)

theorem execIbiDelivery_agree (p : I3cPort) (acked : Bool) (s : State) :
    Result.Agrees 98304 s (execIbiDelivery p acked s) := by
  unfold execIbiDelivery
  refine Result.Agrees.next ?_
  refine Agree.ite ?_ ?_
  · exact ((Agree.refl 98304 s).step (State.modI3c_agree _ _ _) rfl)
  · exact (Agree.refl 98304 s)

theorem execBulkWriteTlp_agree (a : ℕ) (bytes : List Byte) (s : State) :
    Result.Agrees 360456 s (execBulkWriteTlp a bytes s) := by
  unfold execBulkWriteTlp
  extract_lets -underBinder -merge c0 c1 t2 c3
  try clear_value c0
  try clear_value c1
  have ht2 : Agree 360456 s t2 := ((Agree.refl 360456 s).step (State.countField_agree _ _ _ _ _ _) rfl)
  try clear_value t2
  try clear_value c3
  refine Result.Agrees.next ?_
  refine Agree.ite ?_ ?_
  · exact (Agree.refl 360456 s)
  · refine Agree.ite ?_ ?_
    · refine Agree.ite ?_ ?_
      · exact (Agree.refl 360456 s)
      · exact ((Agree.refl 360456 s).setBulk rfl)
    · exact ((ht2.setBulk rfl).step (State.flag_agree _ _ _) rfl)

theorem execBulkReadTlp_agree (a : ℕ) (n : ℕ) (reads : ReadErrors) (s : State) :
    Result.Agrees 360460 s (execBulkReadTlp a n reads s) := by
  unfold execBulkReadTlp
  extract_lets -underBinder -merge c0 c1 t2 c3
  try clear_value c0
  try clear_value c1
  have ht2 : Agree 360460 s t2 := ((Agree.refl 360460 s).step (State.countField_agree _ _ _ _ _ _) rfl)
  try clear_value t2
  try clear_value c3
  refine Result.Agrees.next ?_
  refine Agree.ite ?_ ?_
  · exact (Agree.refl 360460 s)
  · refine Agree.ite ?_ ?_
    · exact ((((Agree.refl 360460 s).step (B := 262148) (by constructor <;> intro hi <;> first | rfl | cases hi) rfl).step (State.countService_agree _ _ _) rfl).step (State.lowReads_agree _) rfl)
    · exact ((ht2.setBulk rfl).step (State.flag_agree _ _ _) rfl)

theorem State.bulkDown_agree (s : State) : Agree 2465800 s (State.bulkDown s) := by
  unfold State.bulkDown
  extract_lets -underBinder -merge c0
  try clear_value c0
  refine Agree.ite ?_ ?_
  · exact ((((Agree.refl 2465800 s).setBulk rfl).step (State.flag_agree _ _ _) rfl).step (State.fault_agree _ _ _ _) rfl)
  · exact (Agree.refl 2465800 s)

theorem execBulkLinkDown_agree (s : State) : Result.Agrees 2465800 s (execBulkLinkDown s) := by
  unfold execBulkLinkDown
  exact Result.Agrees.next ((Agree.refl 2465800 s).step (State.bulkDown_agree _) rfl)

theorem execBulkLinkUp_agree (generation : ℕ) (lanes : ℕ) (s : State) :
    Result.Agrees 360456 s (execBulkLinkUp generation lanes s) := by
  unfold execBulkLinkUp
  extract_lets -underBinder -merge c0
  try clear_value c0
  refine Result.Agrees.next ?_
  refine Agree.ite ?_ ?_
  · exact (((Agree.refl 360456 s).setBulk rfl).step (State.flag_agree _ _ _) rfl)
  · exact (Agree.refl 360456 s)

theorem execPePerst_agree (level : Bool) (s : State) : Result.Agrees 2149949448 s (execPePerst level s) := by
  unfold execPePerst
  extract_lets -underBinder -merge c0 t1
  try clear_value c0
  have ht1 : Agree 2149949448 s t1 := ((Agree.refl 2149949448 s).setPins rfl)
  try clear_value t1
  refine Result.Agrees.next ?_
  refine Agree.ite ?_ ?_
  · exact ht1
  · exact (ht1.step (State.bulkDown_agree _) rfl)

theorem State.jtag_agree (s : State) (i : Jtag) : Agree 2147483652 s (State.jtag s i) := by
  unfold State.jtag
  extract_lets -underBinder -merge t0 c1
  have ht0 : Agree 2147483652 s t0 := ((Agree.refl 2147483652 s).step (State.spend_agree _) rfl)
  try clear_value t0
  try clear_value c1
  exact (ht0.setPins rfl)

theorem execJtagIdcode_agree (s : State) : Result.Agrees 2147483652 s (execJtagIdcode s) := by
  unfold execJtagIdcode
  exact Result.Agrees.next ((Agree.refl 2147483652 s).step (State.jtag_agree _ _) rfl)

theorem execJtagBypass_agree (s : State) : Result.Agrees 2147483652 s (execJtagBypass s) := by
  unfold execJtagBypass
  exact Result.Agrees.next ((Agree.refl 2147483652 s).step (State.jtag_agree _ _) rfl)

theorem execJtagSamplePreload_agree (s : State) : Result.Agrees 2147483652 s (execJtagSamplePreload s) := by
  unfold execJtagSamplePreload
  exact Result.Agrees.next ((Agree.refl 2147483652 s).step (State.jtag_agree _ _) rfl)

theorem execJtagExtest_agree (s : State) : Result.Agrees 2147483652 s (execJtagExtest s) := by
  unfold execJtagExtest
  exact Result.Agrees.next ((Agree.refl 2147483652 s).step (State.jtag_agree _ _) rfl)

theorem State.writeHost_agree (s : State) (off : ℕ) (w : Word) : Agree 8 s (State.writeHost s off w) := by
  unfold State.writeHost
  extract_lets -underBinder -merge c0
  try clear_value c0
  refine Agree.ite ?_ ?_
  · exact ((Agree.refl 8 s).step (State.wr_agree _ _ _ _) rfl)
  · exact (Agree.refl 8 s)

/-! ### Twin -/

theorem State.modTwin_agree (s : State) (f : Twin → Twin) : Agree 134217728 s (State.modTwin s f) := by
  unfold State.modTwin
  exact ((Agree.refl 134217728 s).setTwin rfl)

theorem State.linkCoast_agree (s : State) : Agree 171024392 s (State.linkCoast s) := by
  unfold State.linkCoast
  extract_lets -underBinder -merge t0
  have ht0 : Agree 171024392 s t0 := ((Agree.refl 171024392 s).step (State.modTwin_agree _ _) rfl)
  try clear_value t0
  refine Agree.ite ?_ ?_
  · exact (((((ht0.step (State.beginCoast_agree _) rfl).step (State.count_agree _ _ _) rfl).step (State.flag_agree _ _ _) rfl).step (State.ledgerNote_agree _ _ _) rfl).step (State.fault_agree _ _ _ _) rfl)
  · exact ht0

theorem execLinkTrained_agree (s : State) : Result.Agrees 134217736 s (execLinkTrained s) := by
  unfold execLinkTrained
  refine Result.Agrees.next ?_
  refine Agree.ite ?_ ?_
  · exact (((Agree.refl 134217736 s).step (State.modTwin_agree _ _) rfl).step (State.countField_agree _ _ _ _ _ _) rfl)
  · exact (Agree.refl 134217736 s)

theorem State.linkLost_agree (s : State) : Agree 171026492 s (State.linkLost s) := by
  unfold State.linkLost
  extract_lets -underBinder -merge t0 t1
  have ht0 : Agree 171026492 s t0 := ((Agree.refl 171026492 s).step (State.modTwin_agree _ _) rfl)
  try clear_value t0
  have ht1 : Agree 171026492 s t1 := by
    unfold t1
    refine Agree.ite ?_ ?_
    · refine Agree.step ?_ (State.linkCoast_agree _) rfl
      refine Agree.foldl (fun t2 x2 h2 => ?_) ?_
      · exact (h2.step (State.parkAtOnce_agree _ _) rfl)
      · exact ht0
    · exact ht0
  try clear_value t1
  refine Agree.ite ?_ ?_
  · exact (((ht1.step (State.flag_agree _ _ _) rfl).step (State.fault_agree _ _ _ _) rfl).step (State.failover_agree _ _ _ _) rfl)
  · exact (Agree.refl 171026492 s)

theorem execLinkLoss_agree (s : State) : Result.Agrees 171026492 s (execLinkLoss s) := by
  unfold execLinkLoss
  exact Result.Agrees.next ((Agree.refl 171026492 s).step (State.linkLost_agree _) rfl)

theorem State.frameLevels_agree (s : State) (ext : BitVec 6) : Agree 134225920 s (State.frameLevels s ext) := by
  unfold State.frameLevels
  extract_lets -underBinder -merge c0 c1
  try clear_value c0
  try clear_value c1
  refine Agree.foldl (fun t2 x2 h2 => ?_) ?_
  · exact (h2.step (State.emit_agree _ _ _) rfl)
  · exact ((Agree.refl 134225920 s).step (State.modTwin_agree _ _) rfl)

theorem State.frameExt_agree (s : State) (f : LinkFrame) : Agree 134225920 s (State.frameExt s f) := by
  unfold State.frameExt
  refine Agree.foldl (fun t0 x0 h0 => ?_) ?_
  · exact (h0.step (State.frameLevels_agree _ _) rfl)
  · exact (Agree.refl 134225920 s)

theorem State.frameMon_agree (s : State) (mon : BitVec 48) : Agree 142712840 s (State.frameMon s mon) := by
  unfold State.frameMon
  extract_lets -underBinder -merge c0 t1
  try clear_value c0
  have ht1 : Agree 142712840 s t1 := ((Agree.refl 142712840 s).step (State.modTwin_agree _ _) rfl)
  try clear_value t1
  refine Agree.foldl (fun t2 x2 h2 => ?_) ?_
  · refine Agree.ite ?_ ?_
    · exact (h2.step (State.syncPath_agree _ _ _ _) rfl)
    · exact h2
  · exact ht1

theorem State.frameMirror_agree (s : State) (e : MirrorEvent) : Agree 8192 s (State.frameMirror s e) := by
  unfold State.frameMirror
  extract_lets -underBinder -merge c0
  try clear_value c0
  refine Agree.ite ?_ ?_
  · exact ((Agree.refl 8192 s).step (State.emit_agree _ _ _) rfl)
  · exact (Agree.refl 8192 s)

theorem State.badFrame_agree (s : State) : Agree 171026492 s (State.badFrame s) := by
  unfold State.badFrame
  extract_lets -underBinder -merge t0
  have ht0 : Agree 171026492 s t0 := (((Agree.refl 171026492 s).step (State.countMod_agree _ _ _ _ _ _) rfl).step (State.modTwin_agree _ _) rfl)
  try clear_value t0
  refine Agree.ite ?_ ?_
  · exact (ht0.step (State.linkLost_agree _) rfl)
  · exact ht0

theorem State.frameMirrors_agree (s s0 : State) (f : LinkFrame) : Agree 179415100 s0 (if s.carriesPair then
        f.mirror.foldl State.frameMirror (if s.twin.role = .follow then (s0.frameExt f).frameMon f.mon else s0)
      else s0) := by
  split
  · have h0 : Agree 179415100 s0 (if s.twin.role = .follow then (s0.frameExt f).frameMon f.mon else s0) := by
      split
      · exact ((Agree.refl _ _).step (State.frameExt_agree _ _) rfl).step (State.frameMon_agree _ _) rfl
      · exact Agree.refl _ _
    exact Agree.foldl (fun t x h => h.step (State.frameMirror_agree _ _) rfl) h0
  · exact Agree.refl _ _
theorem Agree.frame {A : Nat} {r s : State} {f : LinkFrame} {b : Bool} {m : State → State} (h :
    Agree A r s) (hb : 179415100 &&& A = 179415100)
    (k : ∀ t, Agree A r t → Agree A r (m t)) : Agree A r (s.frame f b m) := by
  unfold State.frame
  split
  · exact h
  split
  · exact h.step (B := 179415100) ((Agree.refl _ _).step (State.badFrame_agree _) rfl) hb
  extract_lets -underBinder s0 s1
  have h0 : Agree 179415100 s s0 := by
    unfold s0
    split
    · exact Agree.refl _ _
    · exact (Agree.refl _ _).step (State.modTwin_agree _ _) rfl
  have h1 : Agree A r s1 := h.step (B := 179415100) (h0.step (State.frameMirrors_agree s s0 f) rfl) hb
  clear_value s1
  split
  · exact k _ h1
  · exact h1

theorem execTwinHeartbeat_agree (f : LinkFrame) (c : HeartbeatContent) (s : State) :
    Result.Agrees 179415100 s (execTwinHeartbeat f c s) := by
  unfold execTwinHeartbeat
  refine Result.Agrees.next ?_
  refine Agree.frame ?_ rfl ?_
  · exact (Agree.refl 179415100 s)
  · intro t0 h0; exact (h0.step (State.modTwin_agree _ _) rfl)

theorem execFaultMessage_agree (f : LinkFrame) (sources : List ℕ) (leadRelease : Bool) (s : State) :
    Result.Agrees 179415100 s (execFaultMessage f sources leadRelease s) := by
  unfold execFaultMessage
  refine Result.Agrees.next ?_
  refine Agree.frame ?_ rfl ?_
  · exact (Agree.refl 179415100 s)
  · intro t0 h0
    extract_lets -underBinder -merge c1 t2
    try clear_value c1
    have ht2 : Agree 179415100 s t2 := by
      unfold t2
      refine Agree.ite ?_ ?_
      · exact (h0.step (State.emitAll_agree _ _) rfl)
      · exact h0
    try clear_value t2
    refine Agree.ite ?_ ?_
    · exact (ht2.step (State.modTwin_agree _ _) rfl)
    · exact ht2

theorem execIdleMessage_agree (f : LinkFrame) (s : State) : Result.Agrees 179415100 s (execIdleMessage f s) := by
  unfold execIdleMessage
  refine Result.Agrees.next ?_
  refine Agree.frame ?_ rfl ?_
  · exact (Agree.refl 179415100 s)
  · intro t0 h0; exact h0

theorem execSwapMessage_agree (f : LinkFrame) (s : State) : Result.Agrees 179415100 s (execSwapMessage f s) := by
  unfold execSwapMessage
  refine Result.Agrees.next ?_
  refine Agree.frame ?_ rfl ?_
  · exact (Agree.refl 179415100 s)
  · intro t0 h0
    refine Agree.ite ?_ ?_
    · exact (h0.step (State.modTwin_agree _ _) rfl)
    · exact h0

theorem execHeartbeatLoss_agree (s : State) : Result.Agrees 136421384 s (execHeartbeatLoss s) := by
  unfold execHeartbeatLoss
  refine Result.Agrees.next ?_
  refine Agree.ite ?_ ?_
  · exact ((((Agree.refl 136421384 s).step (State.modTwin_agree _ _) rfl).step (State.flag_agree _ _ _) rfl).step (State.fault_agree _ _ _ _) rfl)
  · exact (Agree.refl 136421384 s)

theorem execLeadActAcquire_agree (s : State) : Result.Agrees 134217744 s (execLeadActAcquire s) := by
  unfold execLeadActAcquire
  refine Result.Agrees.next ?_
  refine Agree.ite ?_ ?_
  · exact (((Agree.refl 134217744 s).step (State.modTwin_agree _ _) rfl).step (State.settleAllSwitches_agree _) rfl)
  · exact (Agree.refl 134217744 s)

theorem execWatchdogRelease_agree (s : State) : Result.Agrees 674340892 s (execWatchdogRelease s) := by
  unfold execWatchdogRelease
  exact Result.Agrees.next ((Agree.refl 674340892 s).step (State.releaseLead_agree _ _) rfl)

theorem State.dissolve_agree (s : State) : Agree 672243740 s (State.dissolve s) := by
  unfold State.dissolve
  exact ((((Agree.refl 672243740 s).step (State.modTwin_agree _ _) rfl).step (State.setRole_agree _ _) rfl).step (State.failover_agree _ _ _ _) rfl)

theorem State.requestRole_agree (s : State) (r : ℕ) : Agree 707895324 s (State.requestRole s r) := by
  unfold State.requestRole
  split
  · refine Agree.ite ?_ ?_
    · exact (Agree.refl 707895324 s)
    · refine Agree.ite ?_ ?_
      · exact ((Agree.refl 707895324 s).step (State.releaseLead_agree _ _) rfl)
      · refine Agree.ite ?_ ?_
        · exact (((Agree.refl 707895324 s).step (State.releaseLead_agree _ _) rfl).step (State.dissolve_agree _) rfl)
        · exact ((Agree.refl 707895324 s).step (State.dissolve_agree _) rfl)
  · refine Agree.ite ?_ ?_
    · exact (((Agree.refl 707895324 s).step (State.dissolve_agree _) rfl).step (State.linkCoast_agree _) rfl)
    · exact (Agree.refl 707895324 s)
  · exact (Agree.refl 707895324 s)

theorem State.writeTwinRole_agree (s : State) (w : Word) : Agree 707895324 s (State.writeTwinRole s w) := by
  unfold State.writeTwinRole
  extract_lets -underBinder -merge t0
  have ht0 : Agree 707895324 s t0 := ((Agree.refl 707895324 s).step (State.wr_agree _ _ _ _) rfl)
  try clear_value t0
  refine Agree.ite ?_ ?_
  · exact (ht0.step (State.requestRole_agree _ _) rfl)
  · exact (Agree.refl 707895324 s)

theorem execTwinRoleWrite_agree (value : Word) (s : State) :
    Result.Agrees 707895324 s (execTwinRoleWrite value s) := by
  unfold execTwinRoleWrite
  exact Result.Agrees.next ((Agree.refl 707895324 s).step (State.writeTwinRole_agree _ _) rfl)

theorem execPairFormation_agree (s : State) : Result.Agrees 704749592 s (execPairFormation s) := by
  unfold execPairFormation
  refine Result.Agrees.next ?_
  refine Agree.ite ?_ ?_
  · refine Agree.ite ?_ ?_
    · exact (((Agree.refl 704749592 s).step (State.modTwin_agree _ _) rfl).step (State.setRole_agree _ _) rfl)
    · exact ((((Agree.refl 704749592 s).step (State.modTwin_agree _ _) rfl).step (State.modClock_agree _ _) rfl).step (State.setRole_agree _ _) rfl)
  · exact (Agree.refl 704749592 s)

theorem execFollowerLock_agree (s : State) : Result.Agrees 167772160 s (execFollowerLock s) := by
  unfold execFollowerLock
  refine Result.Agrees.next ?_
  refine Agree.ite ?_ ?_
  · exact (((Agree.refl 167772160 s).step (State.modTwin_agree _ _) rfl).step (State.modClock_agree _ _) rfl)
  · exact (Agree.refl 167772160 s)

theorem State.beginJoin_agree (s : State) (ports : List ℕ) : Agree 139569276 s (State.beginJoin s ports) := by
  unfold State.beginJoin
  extract_lets -underBinder -merge t0
  have ht0 : Agree 139569276 s t0 := by
    unfold t0
    refine Agree.foldl (fun t1 x1 h1 => ?_) ?_
    · extract_lets -underBinder -merge t2
      have ht2 : Agree 139569276 s t2 := (h1.step (State.parkAtOnce_agree _ _) rfl)
      try clear_value t2
      refine Agree.ite ?_ ?_
      · exact (ht2.step (State.beginStaging_agree _ _) rfl)
      · exact ht2
    · exact (Agree.refl 139569276 s)
  try clear_value t0
  exact (ht0.step (State.modTwin_agree _ _) rfl)

theorem State.twinJoin_agree (s : State) : Agree 139569276 s (State.twinJoin s) := by
  unfold State.twinJoin
  refine Agree.ite ?_ ?_
  · exact ((Agree.refl 139569276 s).step (State.beginJoin_agree _ _) rfl)
  · exact (Agree.refl 139569276 s)

theorem execJoin_agree (s : State) : Result.Agrees 139569276 s (execJoin s) := by
  unfold execJoin
  exact Result.Agrees.next ((Agree.refl 139569276 s).step (State.twinJoin_agree _) rfl)

theorem State.abortJoin_agree (s : State) : Agree 134217728 s (State.abortJoin s) := by
  unfold State.abortJoin
  refine Agree.ite ?_ ?_
  · exact ((Agree.refl 134217728 s).step (State.modTwin_agree _ _) rfl)
  · exact (Agree.refl 134217728 s)

theorem execAbortJoin_agree (s : State) : Result.Agrees 134217728 s (execAbortJoin s) := by
  unfold execAbortJoin
  exact Result.Agrees.next ((Agree.refl 134217728 s).step (State.abortJoin_agree _) rfl)

theorem execEpochMessage_agree (f : LinkFrame) (s : State) : Result.Agrees 716286012 s (execEpochMessage f s) := by
  unfold execEpochMessage
  refine Result.Agrees.next ?_
  refine Agree.frame ?_ rfl ?_
  · exact (Agree.refl 716286012 s)
  · intro t0 h0
    extract_lets -underBinder -merge t1
    have ht1 : Agree 716286012 s t1 := by
      unfold t1
      refine Agree.step ?_ (State.modTwin_agree _ _) rfl
      refine Agree.ite ?_ ?_
      · exact (h0.step (State.lockAgain_agree _ _) rfl)
      · exact (h0.step (State.epoch_agree _) rfl)
    try clear_value t1
    refine Agree.ite ?_ ?_
    · refine Agree.ite ?_ ?_
      · exact (ht1.step (State.modTwin_agree _ _) rfl)
      · exact ht1
    · exact h0

theorem execJoinCapture_agree (s : State) : Result.Agrees 134217728 s (execJoinCapture s) := by
  unfold execJoinCapture
  refine Result.Agrees.next ?_
  refine Agree.ite ?_ ?_
  · exact ((Agree.refl 134217728 s).step (State.modTwin_agree _ _) rfl)
  · exact (Agree.refl 134217728 s)

theorem State.joinTimer_agree (c : ℕ) (s : State) (x : JoinTimer) : Agree 16384 s (State.joinTimer c s x) := by
  unfold State.joinTimer
  extract_lets -underBinder -merge c0
  try clear_value c0
  refine Agree.ite ?_ ?_
  · exact (Agree.refl 16384 s)
  · exact ((Agree.refl 16384 s).step (State.setTimer_agree _ _ _) rfl)

theorem State.joinBatch_agree (s : State) (b : JoinBatch) : Agree 24584 s (State.joinBatch s b) := by
  unfold State.joinBatch
  extract_lets -underBinder -merge t0 t1
  have ht0 : Agree 24584 s t0 := by
    unfold t0
    refine Agree.foldl (fun t2 x2 h2 => ?_) ?_
    · exact (h2.step (State.joinTimer_agree _ _ _) rfl)
    · exact (Agree.refl 24584 s)
  try clear_value t0
  have ht1 : Agree 24584 s t1 := by
    unfold t1
    refine Agree.foldl (fun t3 x3 h3 => ?_) ?_
    · exact (h3.step (State.setHook_agree _ _ _) rfl)
    · exact ht0
  try clear_value t1
  split
  · exact (ht1.step (State.wr_agree _ _ _ _) rfl)
  · exact ht1

theorem State.lateJoin_agree (s : State) : Agree 137469964 s (State.lateJoin s) := by
  unfold State.lateJoin
  extract_lets -underBinder -merge c0 t1
  try clear_value c0
  have ht1 : Agree 137469964 s t1 := ((Agree.refl 137469964 s).step (State.modTwin_agree _ _) rfl)
  try clear_value t1
  refine Agree.ite ?_ ?_
  · exact ht1
  · exact ((((ht1.step (State.modTwin_agree _ _) rfl).step (State.flag_agree _ _ _) rfl).step (State.fault_agree _ _ _ _) rfl).step (State.failover_agree _ _ _ _) rfl)

theorem execJoinMessage_agree (f : LinkFrame) (records : List JoinRecord) (batch : JoinBatch) (s : State) :
    Result.Agrees 179415100 s (execJoinMessage f records batch s) := by
  unfold execJoinMessage
  refine Result.Agrees.next ?_
  refine Agree.frame ?_ rfl ?_
  · exact (Agree.refl 179415100 s)
  · intro t0 h0
    extract_lets -underBinder -merge c1
    try clear_value c1
    refine Agree.ite ?_ ?_
    · exact (h0.step (State.modTwin_agree _ _) rfl)
    · refine Agree.ite ?_ ?_
      · refine Agree.ite ?_ ?_
        · exact (h0.step (State.lateJoin_agree _) rfl)
        · exact (h0.step (State.modTwin_agree _ _) rfl)
      · exact h0

theorem State.joinBobbin_agree (s : State) (r : JoinRecord) : Agree 98332 s (State.joinBobbin s r) := by
  unfold State.joinBobbin
  extract_lets -underBinder -merge c0 c1 c2 c3 c4
  try clear_value c0
  try clear_value c1
  try clear_value c2
  try clear_value c3
  try clear_value c4
  exact (((Agree.refl 98332 s).step (State.modPort_agree _ _ _) rfl).step (State.fillFirst_agree _ _ _ _) rfl)

theorem State.joinStage_agree (s : State) (r : JoinRecord) : Agree 100376 s (State.joinStage s r) := by
  unfold State.joinStage
  extract_lets -underBinder -merge c0 c1
  try clear_value c0
  try clear_value c1
  refine Agree.ite ?_ ?_
  · exact (Agree.refl 100376 s)
  · refine Agree.step ?_ (State.takeCommand_agree _ _ _) rfl
    refine Agree.step ?_ (Staging.port_agree _ _ _ _) rfl
    exact (Agree.stg (Agree.refl 100376 s))

theorem State.joinPort_agree (s : State) (r : JoinRecord) : Agree 5351548 s (State.joinPort s r) := by
  unfold State.joinPort
  extract_lets -underBinder -merge c0 c1 c2 t3 c4 c5 c6 t7 t8 t9
  try clear_value c0
  try clear_value c1
  subst c2
  have ht3 : Agree 5351548 s t3 := (((Agree.refl 5351548 s).step (State.endDelaySwatch_agree _ _) rfl).step (State.joinStage_agree _ _) rfl)
  try clear_value t3
  try clear_value c4
  try clear_value c5
  try clear_value c6
  have ht7 : Agree 5351548 s t7 := (ht3.step (State.modPort_agree _ _ _) rfl)
  try clear_value t7
  have ht8 : Agree 5351548 s t8 := by
    unfold t8
    refine Agree.ite ?_ ?_
    · exact (ht7.step (State.modGroup_agree _ _ _) rfl)
    · exact ht7
  try clear_value t8
  have ht9 : Agree 5351548 s t9 := by
    unfold t9
    refine Agree.ite ?_ ?_
    · exact (ht8.step (State.modPort_agree _ _ _) rfl)
    · exact ht8
  try clear_value t9
  beta_reduce
  refine Agree.ite ?_ ?_
  · exact (Agree.refl 5351548 s)
  · refine Agree.ite ?_ ?_
    · exact (ht9.step (State.joinBobbin_agree _ _) rfl)
    · exact (((Agree.refl 5351548 s).step (State.parkAtOnce_agree _ _) rfl).step (State.modPort_agree _ _ _) rfl)

theorem execJoinLoad_agree (s : State) : Result.Agrees 139585660 s (execJoinLoad s) := by
  unfold execJoinLoad
  extract_lets -underBinder -merge t0 t1
  have ht0 : Agree 139585660 s t0 := by
    unfold t0
    refine Agree.ite ?_ ?_
    · refine Agree.foldl (fun t2 x2 h2 => ?_) ?_
      · exact (h2.step (State.joinBatch_agree _ _) rfl)
      · refine Agree.foldl (fun t3 x3 h3 => ?_) ?_
        · exact (h3.step (State.joinPort_agree _ _) rfl)
        · exact (Agree.refl 139585660 s)
    · exact (Agree.refl 139585660 s)
  try clear_value t0
  have ht1 : Agree 139585660 s t1 := (((ht0.step (State.modTwin_agree _ _) rfl).step (State.flag_agree _ _ _) rfl).step (State.failover_agree _ _ _ _) rfl)
  try clear_value t1
  refine Result.Agrees.next ?_
  refine Agree.ite ?_ ?_
  · refine Agree.ite ?_ ?_
    · exact ((ht1.step (State.modTwin_agree _ _) rfl).step (State.failover_agree _ _ _ _) rfl)
    · exact ht1
  · exact (Agree.refl 139585660 s)

theorem execDigestWindow_agree (s : State) : Result.Agrees 134217728 s (execDigestWindow s) := by
  unfold execDigestWindow
  extract_lets -underBinder -merge c0
  try clear_value c0
  refine Result.Agrees.next ?_
  refine Agree.ite ?_ ?_
  · exact (Agree.refl 134217728 s)
  · exact ((Agree.refl 134217728 s).step (State.modTwin_agree _ _) rfl)

theorem State.countDivergence_agree (s : State) : Agree 136421384 s (State.countDivergence s) := by
  unfold State.countDivergence
  extract_lets -underBinder -merge t0 t1 c2
  have ht0 : Agree 136421384 s t0 := by
    unfold t0
    refine Agree.ite ?_ ?_
    · exact (Agree.refl 136421384 s)
    · exact (((Agree.refl 136421384 s).step (State.modTwin_agree _ _) rfl).step (State.count_agree _ _ _) rfl)
  try clear_value t0
  have ht1 : Agree 136421384 s t1 := (ht0.step (State.flag_agree _ _ _) rfl)
  try clear_value t1
  try clear_value c2
  refine Agree.ite ?_ ?_
  · exact ht1
  · exact ((ht1.step (State.modTwin_agree _ _) rfl).step (State.fault_agree _ _ _ _) rfl)

theorem State.compareEntry_agree (s : State) (d : DigestEntry) : Agree 136421384 s (State.compareEntry s d) := by
  unfold State.compareEntry
  extract_lets -underBinder -merge c0 c1 c2 c3
  try clear_value c0
  try clear_value c1
  try clear_value c2
  try clear_value c3
  refine Agree.ite ?_ ?_
  · exact (Agree.refl 136421384 s)
  · refine Agree.ite ?_ ?_
    · refine Agree.ite ?_ ?_
      · refine Agree.ite ?_ ?_
        · exact ((Agree.refl 136421384 s).step (State.modTwin_agree _ _) rfl)
        · exact ((Agree.refl 136421384 s).step (State.modTwin_agree _ _) rfl)
      · exact (Agree.refl 136421384 s)
    · exact (((Agree.refl 136421384 s).step (State.modTwin_agree _ _) rfl).step (State.countDivergence_agree _) rfl)

theorem execDigestMessage_agree (f : LinkFrame) (entries : List DigestEntry) (s : State) :
    Result.Agrees 179415100 s (execDigestMessage f entries s) := by
  unfold execDigestMessage
  refine Result.Agrees.next ?_
  refine Agree.frame ?_ rfl ?_
  · exact (Agree.refl 179415100 s)
  · intro t0 h0
    refine Agree.ite ?_ ?_
    · refine Agree.foldl (fun t1 x1 h1 => ?_) ?_
      · exact (h1.step (State.compareEntry_agree _ _) rfl)
      · exact h0
    · exact h0

theorem State.closeForce_agree (s : State) : Agree 16 s (State.closeForce s) := by
  unfold State.closeForce
  refine Agree.foldl (fun t0 x0 h0 => ?_) ?_
  · exact (h0.step (State.modPort_agree _ _ _) rfl)
  · exact ((Agree.refl 16 s).step (State.settleAllSwitches_agree _) rfl)

theorem State.countFailover_agree (s : State) : Agree 8 s (State.countFailover s) := by
  unfold State.countFailover
  exact (((Agree.refl 8 s).step (State.count_agree _ _ _) rfl).step (State.wr_agree _ _ _ _) rfl)

theorem execTakeover_agree (s : State) : Result.Agrees 707895324 s (execTakeover s) := by
  unfold execTakeover
  extract_lets -underBinder -merge t0
  have ht0 : Agree 707895324 s t0 := (((Agree.refl 707895324 s).step (State.modTwin_agree _ _) rfl).step (State.setRole_agree _ _) rfl)
  try clear_value t0
  refine Result.Agrees.next ?_
  refine Agree.ite ?_ ?_
  · exact (((((ht0.step (State.linkCoast_agree _) rfl).step (State.flag_agree _ _ _) rfl).step (State.countFailover_agree _) rfl).step (State.fault_agree _ _ _ _) rfl).step (State.failover_agree _ _ _ _) rfl)
  · exact (Agree.refl 707895324 s)

theorem execTakeoverForceClose_agree (s : State) : Result.Agrees 134217744 s (execTakeoverForceClose s) := by
  unfold execTakeoverForceClose
  refine Result.Agrees.next ?_
  refine Agree.ite ?_ ?_
  · exact (((Agree.refl 134217744 s).step (State.modTwin_agree _ _) rfl).step (State.closeForce_agree _) rfl)
  · exact (Agree.refl 134217744 s)

theorem execSwap_agree (s : State) : Result.Agrees 134217728 s (execSwap s) := by
  unfold execSwap
  refine Result.Agrees.next ?_
  refine Agree.ite ?_ ?_
  · exact ((Agree.refl 134217728 s).step (State.requestSwap_agree _) rfl)
  · exact (Agree.refl 134217728 s)

theorem execSwapPrepare_agree (s : State) : Result.Agrees 134217744 s (execSwapPrepare s) := by
  unfold execSwapPrepare
  refine Result.Agrees.next ?_
  refine Agree.ite ?_ ?_
  · exact (((Agree.refl 134217744 s).step (State.modTwin_agree _ _) rfl).step (State.settleAllSwitches_agree _) rfl)
  · exact (Agree.refl 134217744 s)

theorem execSwapInstant_agree (s : State) : Result.Agrees 671195160 s (execSwapInstant s) := by
  unfold execSwapInstant
  refine Result.Agrees.next ?_
  refine Agree.ite ?_ ?_
  · refine Agree.ite ?_ ?_
    · exact (((Agree.refl 671195160 s).step (State.modTwin_agree _ _) rfl).step (State.setRole_agree _ _) rfl)
    · exact (((Agree.refl 671195160 s).step (State.modTwin_agree _ _) rfl).step (State.setRole_agree _ _) rfl)
  · exact (Agree.refl 671195160 s)

theorem execSwapForceClose_agree (s : State) : Result.Agrees 134217744 s (execSwapForceClose s) := by
  unfold execSwapForceClose
  refine Result.Agrees.next ?_
  refine Agree.ite ?_ ?_
  · exact (((Agree.refl 134217744 s).step (State.modTwin_agree _ _) rfl).step (State.closeForce_agree _) rfl)
  · exact (Agree.refl 134217744 s)

theorem execSwapRelease_agree (s : State) : Result.Agrees 135364636 s (execSwapRelease s) := by
  unfold execSwapRelease
  extract_lets -underBinder -merge c0 t1 t2
  try clear_value c0
  have ht1 : Agree 135364636 s t1 := (((Agree.refl 135364636 s).step (State.modTwin_agree _ _) rfl).step (State.settleAllSwitches_agree _) rfl)
  try clear_value t1
  have ht2 : Agree 135364636 s t2 := by
    unfold t2
    refine Agree.step ?_ (State.flag_agree _ _ _) rfl
    refine Agree.ite ?_ ?_
    · exact (ht1.step (State.countFailover_agree _) rfl)
    · exact (ht1.step (State.wr_agree _ _ _ _) rfl)
  try clear_value t2
  refine Result.Agrees.next ?_
  refine Agree.ite ?_ ?_
  · exact (ht2.step (State.failover_agree _ _ _ _) rfl)
  · exact (Agree.refl 135364636 s)

theorem State.writeTwin_agree (s : State) (off : ℕ) (w : Word) : Agree 712091772 s (State.writeTwin s off w) := by
  unfold State.writeTwin
  extract_lets -underBinder -merge t0 t1
  have ht0 : Agree 712091772 s t0 := by
    unfold t0
    refine Agree.ite ?_ ?_
    · exact ((Agree.refl 712091772 s).step (State.requestSwap_agree _) rfl)
    · exact (Agree.refl 712091772 s)
  try clear_value t0
  have ht1 : Agree 712091772 s t1 := by
    unfold t1
    refine Agree.ite ?_ ?_
    · exact (ht0.step (State.twinJoin_agree _) rfl)
    · exact ht0
  try clear_value t1
  refine Agree.ite ?_ ?_
  · exact ((Agree.refl 712091772 s).step (State.writeTwinRole_agree _ _) rfl)
  · refine Agree.ite ?_ ?_
    · exact ((Agree.refl 712091772 s).step (State.wr_agree _ _ _ _) rfl)
    · refine Agree.ite ?_ ?_
      · refine Agree.ite ?_ ?_
        · exact (ht1.step (State.abortJoin_agree _) rfl)
        · exact ht1
      · refine Agree.ite ?_ ?_
        · exact ((Agree.refl 712091772 s).step (State.wr_agree _ _ _ _) rfl)
        · exact (Agree.refl 712091772 s)

/-! ### Health -/

theorem State.modHealth_agree (s : State) (f : Health → Health) : Agree 268435456 s (State.modHealth s f) := by
  unfold State.modHealth
  exact ((Agree.refl 268435456 s).setHealth rfl)

theorem State.setSeen_agree (s : State) (page : ℕ) (v : Option ℕ) : Agree 112 s (State.setSeen s page v) := by
  unfold State.setSeen
  refine Agree.ite ?_ ?_
  · exact (Agree.refl 112 s)
  · split
    · exact ((Agree.refl 112 s).step (State.modPort_agree _ _ _) rfl)
    · exact ((Agree.refl 112 s).step (State.modSpare_agree _ _ _) rfl)
    · exact ((Agree.refl 112 s).step (State.modGroup_agree _ _ _) rfl)
    · exact (Agree.refl 112 s)

theorem State.setMismatch_agree (s : State) (page : ℕ) (v : Bool) : Agree 112 s (State.setMismatch s page v) := by
  unfold State.setMismatch
  split
  · exact ((Agree.refl 112 s).step (State.modPort_agree _ _ _) rfl)
  · exact ((Agree.refl 112 s).step (State.modSpare_agree _ _ _) rfl)
  · exact ((Agree.refl 112 s).step (State.modGroup_agree _ _ _) rfl)
  · exact (Agree.refl 112 s)

theorem State.setSafeRecord_agree (s : State) (page : ℕ) (r : Option SafeRecord) :
    Agree 112 s (State.setSafeRecord s page r) := by
  unfold State.setSafeRecord
  split
  · exact ((Agree.refl 112 s).step (State.modPort_agree _ _ _) rfl)
  · exact ((Agree.refl 112 s).step (State.modSpare_agree _ _ _) rfl)
  · exact ((Agree.refl 112 s).step (State.modGroup_agree _ _ _) rfl)
  · exact (Agree.refl 112 s)

theorem State.groupSafe_agree (s : State) (g : ℕ) : Agree 5351544 s (State.groupSafe s g) := by
  unfold State.groupSafe
  extract_lets -underBinder -merge c0 c1 t2
  try clear_value c0
  try clear_value c1
  have ht2 : Agree 5351544 s t2 := by
    unfold t2
    refine Agree.foldl (fun t3 x3 h3 => ?_) ?_
    · exact (h3.step (State.portSafe_agree _ _ _) rfl)
    · exact (Agree.refl 5351544 s)
  try clear_value t2
  exact (ht2.step (State.modGroup_agree _ _ _) rfl)

theorem State.spareSafe_agree (s : State) (g : ℕ) : Agree 5341272 s (State.spareSafe s g) := by
  unfold State.spareSafe
  extract_lets -underBinder -merge c0 c1 t2
  try clear_value c0
  try clear_value c1
  have ht2 : Agree 5341272 s t2 := (((Agree.refl 5341272 s).step (State.abortSpare_agree _ _ _) rfl).step (State.modSpare_agree _ _ _) rfl)
  try clear_value t2
  split
  · refine Agree.ite ?_ ?_
    · exact (ht2.step (State.flag_agree _ _ _) rfl)
    · exact ht2
  · exact ht2

theorem State.enterSafe_agree (s : State) (page : ℕ) : Agree 5351544 s (State.enterSafe s page) := by
  unfold State.enterSafe
  split
  · exact ((Agree.refl 5351544 s).step (State.portSafe_agree _ _ _) rfl)
  · exact ((Agree.refl 5351544 s).step (State.spareSafe_agree _ _) rfl)
  · exact ((Agree.refl 5351544 s).step (State.groupSafe_agree _ _) rfl)
  · exact (Agree.refl 5351544 s)

theorem State.checkUnit_agree (s : State) (seen : List Disagreement) (page : ℕ) :
    Agree 7448696 s (State.checkUnit s seen page) := by
  unfold State.checkUnit
  refine Agree.ite ?_ ?_
  · exact ((Agree.refl 7448696 s).step (State.setSeen_agree _ _ _) rfl)
  · split
    · exact ((Agree.refl 7448696 s).step (State.setSeen_agree _ _ _) rfl)
    · extract_lets -underBinder -merge c0 c1
      try clear_value c0
      try clear_value c1
      refine Agree.ite ?_ ?_
      · exact ((((((Agree.refl 7448696 s).step (State.setSeen_agree _ _ _) rfl).step (State.setMismatch_agree _ _ _) rfl).step (State.flag_agree _ _ _) rfl).step (State.fault_agree _ _ _ _) rfl).step (State.enterSafe_agree _ _) rfl)
      · exact ((Agree.refl 7448696 s).step (State.setSeen_agree _ _ _) rfl)

theorem execHealthCheck_agree (seen : List Disagreement) (s : State) :
    Result.Agrees 7448696 s (execHealthCheck seen s) := by
  unfold execHealthCheck
  refine Result.Agrees.next ?_
  refine Agree.ite ?_ ?_
  · refine Agree.foldl (fun t0 x0 h0 => ?_) ?_
    · exact (h0.step (State.checkUnit_agree _ _ _) rfl)
    · exact (Agree.refl 7448696 s)
  · exact (Agree.refl 7448696 s)

theorem State.noteRecovery_agree (s : State) (page : ℕ) : Agree 268435456 s (State.noteRecovery s page) := by
  unfold State.noteRecovery
  extract_lets -underBinder -merge c0
  try clear_value c0
  exact ((Agree.refl 268435456 s).step (State.modHealth_agree _ _) rfl)

theorem State.holdUnit_agree (s : State) (page : ℕ) (r : SafeRecord) :
    Agree 942776444 s (State.holdUnit s page r) := by
  unfold State.holdUnit
  extract_lets -underBinder -merge t0
  have ht0 : Agree 942776444 s t0 := (((Agree.refl 942776444 s).step (State.setSafeRecord_agree _ _ _) rfl).step (State.modHealth_agree _ _) rfl)
  try clear_value t0
  exact (((((ht0.step (State.flag_agree _ _ _) rfl).step (State.fault_agree _ _ _ _) rfl).step (State.setDegraded_agree _ _ _) rfl).step (State.failover_agree _ _ _ _) rfl).step (State.escalate_agree _ _ _ _) rfl)

theorem State.rewriteUnit_agree (s : State) (page : ℕ) : Agree 946970748 s (State.rewriteUnit s page) := by
  unfold State.rewriteUnit
  split
  · exact (Agree.refl 946970748 s)
  · extract_lets -underBinder -merge c0 t1 t2 t3
    try clear_value c0
    have ht1 : Agree 946970748 s t1 := ((Agree.refl 946970748 s).step (State.setSafeRecord_agree _ _ _) rfl)
    try clear_value t1
    have ht2 : Agree 946970748 s t2 := by
      unfold t2
      split
      · exact (ht1.step (State.modPort_agree _ _ _) rfl)
      · refine Agree.foldl (fun t4 x4 h4 => ?_) ?_
        · split
          · exact (h4.step (State.setSafeRecord_agree _ _ _) rfl)
          · exact h4
        · exact ht1
      · exact ((ht1.step (State.wr_agree _ _ _ _) rfl).step (State.stopRotation_agree _ _) rfl)
      · exact ht1
    try clear_value t2
    have ht3 : Agree 946970748 s t3 := (ht2.step (State.noteRecovery_agree _ _) rfl)
    try clear_value t3
    refine Agree.ite ?_ ?_
    · exact (Agree.refl 946970748 s)
    · refine Agree.ite ?_ ?_
      · refine Agree.ite ?_ ?_
        · exact (ht3.step (State.holdUnit_agree _ _ _) rfl)
        · exact ht3
      · exact ht2

theorem execRecoveryRewrite_agree (page : ℕ) (s : State) :
    Result.Agrees 946970748 s (execRecoveryRewrite page s) := by
  unfold execRecoveryRewrite
  exact Result.Agrees.next ((Agree.refl 946970748 s).step (State.rewriteUnit_agree _ _) rfl)

theorem State.portLeaves_agree (s : State) (n : ℕ) (restore : Bool) (r : SafeRecord) :
    Agree 16 s (State.portLeaves s n restore r) := by
  unfold State.portLeaves
  extract_lets -underBinder -merge c0 t1 t2
  try clear_value c0
  have ht1 : Agree 16 s t1 := ((Agree.refl 16 s).step (State.modPort_agree _ _ _) rfl)
  try clear_value t1
  have ht2 : Agree 16 s t2 := by
    unfold t2
    split
    · exact (ht1.step (State.modPort_agree _ _ _) rfl)
    · exact ht1
  try clear_value t2
  refine Agree.ite ?_ ?_
  · exact ((Agree.refl 16 s).step (State.modPort_agree _ _ _) rfl)
  · exact (ht2.step (State.settleSwitches_agree _ _) rfl)

theorem State.groupLeaves_agree (s : State) (g : ℕ) (restore : Bool) (r : SafeRecord) :
    Agree 48 s (State.groupLeaves s g restore r) := by
  unfold State.groupLeaves
  extract_lets -underBinder -merge t0 c1
  have ht0 : Agree 48 s t0 := by
    unfold t0
    refine Agree.foldl (fun t2 x2 h2 => ?_) ?_
    · split
      · refine Agree.ite ?_ ?_
        · exact (h2.step (State.portLeaves_agree _ _ _ _) rfl)
        · exact h2
      · exact h2
    · exact (Agree.refl 48 s)
  try clear_value t0
  try clear_value c1
  exact (ht0.step (State.modGroup_agree _ _ _) rfl)

theorem State.divergeUnit_agree (s : State) (page : ℕ) (members : List ℕ) :
    Agree 134217728 s (State.divergeUnit s page members) := by
  unfold State.divergeUnit
  refine Agree.ite ?_ ?_
  · split
    · exact ((Agree.refl 134217728 s).step (State.modTwin_agree _ _) rfl)
    · exact ((Agree.refl 134217728 s).step (State.modTwin_agree _ _) rfl)
    · exact (Agree.refl 134217728 s)
  · exact (Agree.refl 134217728 s)

theorem State.resumeUnit_agree (s : State) (page : ℕ) : Agree 135364732 s (State.resumeUnit s page) := by
  unfold State.resumeUnit
  split
  · exact (Agree.refl 135364732 s)
  · extract_lets -underBinder -merge t0 t1 c2
    have ht0 : Agree 135364732 s t0 := (((((Agree.refl 135364732 s).step (State.count_agree _ _ _) rfl).step (State.setMismatch_agree _ _ _) rfl).step (State.flag_agree _ _ _) rfl).step (State.failover_agree _ _ _ _) rfl)
    try clear_value t0
    have ht1 : Agree 135364732 s t1 := (ht0.step (State.divergeUnit_agree _ _ _) rfl)
    try clear_value t1
    try clear_value c2
    refine Agree.ite ?_ ?_
    · refine Agree.ite ?_ ?_
      · exact (ht1.step (State.setSafeRecord_agree _ _ _) rfl)
      · split
        · exact (ht1.step (State.portLeaves_agree _ _ _ _) rfl)
        · exact (ht1.step (State.groupLeaves_agree _ _ _ _) rfl)
        · exact (ht1.step (State.setSafeRecord_agree _ _ _) rfl)
    · exact (Agree.refl 135364732 s)

theorem execRecoveryResume_agree (page : ℕ) (s : State) : Result.Agrees 135364732 s (execRecoveryResume page s) := by
  unfold execRecoveryResume
  exact Result.Agrees.next ((Agree.refl 135364732 s).step (State.resumeUnit_agree _ _) rfl)

theorem State.releaseUnit_agree (s : State) (page : ℕ) : Agree 805412984 s (State.releaseUnit s page) := by
  unfold State.releaseUnit
  extract_lets -underBinder -merge c0 t1 t2
  try clear_value c0
  have ht1 : Agree 805412984 s t1 := (((Agree.refl 805412984 s).step (State.setMismatch_agree _ _ _) rfl).step (State.modHealth_agree _ _) rfl)
  try clear_value t1
  have ht2 : Agree 805412984 s t2 := by
    unfold t2
    split
    · exact (ht1.step (State.portLeaves_agree _ _ _ _) rfl)
    · exact (ht1.step (State.groupLeaves_agree _ _ _ _) rfl)
    · exact (ht1.step (State.setSafeRecord_agree _ _ _) rfl)
  try clear_value t2
  refine Agree.ite ?_ ?_
  · exact (ht2.step (State.setDegraded_agree _ _ _) rfl)
  · exact ht2

theorem execHkWatchdogExpiry_agree (s : State) : Result.Agrees 807510024 s (execHkWatchdogExpiry s) := by
  unfold execHkWatchdogExpiry
  refine Result.Agrees.next ?_
  refine Agree.ite ?_ ?_
  · exact (Agree.refl 807510024 s)
  · exact ((((((Agree.refl 807510024 s).step (State.modHealth_agree _ _) rfl).step (State.count_agree _ _ _) rfl).step (State.flag_agree _ _ _) rfl).step (State.fault_agree _ _ _ _) rfl).step (State.settle_agree _) rfl)

theorem execHkRestartComplete_agree (s : State) : Result.Agrees 806461452 s (execHkRestartComplete s) := by
  unfold execHkRestartComplete
  refine Result.Agrees.next ?_
  refine Agree.ite ?_ ?_
  · exact ((((Agree.refl 806461452 s).step (State.modHealth_agree _ _) rfl).step (State.settle_agree _) rfl).step (State.failover_agree _ _ _ _) rfl)
  · exact (Agree.refl 806461452 s)

theorem State.dieReading_agree (s : State) (x : Die × ℤ) : Agree 942776348 s (State.dieReading s x) := by
  unfold State.dieReading
  extract_lets -underBinder -merge c0 c1 c2 c3 c4 t5 t6 t7
  try clear_value c0
  try clear_value c1
  try clear_value c2
  try clear_value c3
  try clear_value c4
  have ht5 : Agree 942776348 s t5 := ((Agree.refl 942776348 s).step (State.modHealth_agree _ _) rfl)
  try clear_value t5
  have ht6 : Agree 942776348 s t6 := by
    unfold t6
    refine Agree.ite ?_ ?_
    · exact (ht5.step (State.fault_agree _ _ _ _) rfl)
    · exact ht5
  try clear_value t6
  have ht7 : Agree 942776348 s t7 := by
    unfold t7
    refine Agree.ite ?_ ?_
    · exact (ht6.step (State.setDegraded_agree _ _ _) rfl)
    · exact ht6
  try clear_value t7
  refine Agree.ite ?_ ?_
  · exact (ht7.step (State.releaseLead_agree _ _) rfl)
  · exact ht7

theorem execThermalCheck_agree (readings : List (Die × ℤ)) (s : State) :
    Result.Agrees 942776348 s (execThermalCheck readings s) := by
  unfold execThermalCheck
  refine Result.Agrees.next ?_
  refine Agree.foldl (fun t0 x0 h0 => ?_) ?_
  · exact (h0.step (State.dieReading_agree _ _) rfl)
  · exact (Agree.refl 942776348 s)

theorem State.railLow_agree (s : State) (r : Rail) : Agree 1056024700 s (State.railLow s r) := by
  unfold State.railLow
  extract_lets -underBinder -merge t0 t1
  have ht0 : Agree 1056024700 s t0 := (((((Agree.refl 1056024700 s).step (State.modHealth_agree _ _) rfl).step (State.fault_agree _ _ _ _) rfl).step (State.setDegraded_agree _ _ _) rfl).step (State.releaseLead_agree _ _) rfl)
  try clear_value t0
  have ht1 : Agree 1056024700 s t1 := by
    unfold t1
    split
    · exact ((ht0.step (State.unpowerSlot_agree _ _) rfl).step (State.unpowerSlot_agree _ _) rfl)
    · exact (ht0.step (State.linkLost_agree _) rfl)
    · refine Agree.foldl (fun t2 x2 h2 => ?_) ?_
      · exact (h2.step (State.stopMonitor_agree _ _) rfl)
      · exact ht0
    · exact ht0
  try clear_value t1
  refine Agree.ite ?_ ?_
  · exact (Agree.refl 1056024700 s)
  · exact (ht1.step (State.settleAllSwitches_agree _) rfl)

theorem execAnalogRailLow_agree (r : Rail) (s : State) : Result.Agrees 1056024700 s (execAnalogRailLow r s) := by
  unfold execAnalogRailLow
  exact Result.Agrees.next ((Agree.refl 1056024700 s).step (State.railLow_agree _ _) rfl)

theorem State.railBack_agree (s : State) (r : Rail) : Agree 880910360 s (State.railBack s r) := by
  unfold State.railBack
  extract_lets -underBinder -merge t0 t1 t2
  have ht0 : Agree 880910360 s t0 := ((Agree.refl 880910360 s).step (State.modHealth_agree _ _) rfl)
  try clear_value t0
  have ht1 : Agree 880910360 s t1 := by
    unfold t1
    refine Agree.ite ?_ ?_
    · exact (ht0.step (State.setDegraded_agree _ _ _) rfl)
    · exact ht0
  try clear_value t1
  have ht2 : Agree 880910360 s t2 := by
    unfold t2
    split
    · exact ((ht1.step (State.repowerSlot_agree _ _) rfl).step (State.repowerSlot_agree _ _) rfl)
    · refine Agree.foldl (fun t3 x3 h3 => ?_) ?_
      · refine Agree.ite ?_ ?_
        · exact (h3.step (State.startMonitor_agree _ _) rfl)
        · exact h3
      · exact ht1
    · exact ht1
  try clear_value t2
  refine Agree.ite ?_ ?_
  · exact (ht2.step (State.settleAllSwitches_agree _) rfl)
  · exact (Agree.refl 880910360 s)

theorem execAnalogRailRestored_agree (r : Rail) (s : State) :
    Result.Agrees 880910360 s (execAnalogRailRestored r s) := by
  unfold execAnalogRailRestored
  exact Result.Agrees.next ((Agree.refl 880910360 s).step (State.railBack_agree _ _) rfl)

theorem State.writeHealth_agree (s : State) (off : ℕ) (w : Word) : Agree 8 s (State.writeHealth s off w) := by
  unfold State.writeHealth
  refine Agree.ite ?_ ?_
  · exact ((Agree.refl 8 s).step (State.wr_agree _ _ _ _) rfl)
  · refine Agree.ite ?_ ?_
    · exact ((Agree.refl 8 s).step (State.wr_agree _ _ _ _) rfl)
    · exact (Agree.refl 8 s)

end Machine
end Sys2Proof
end

