-- ==== Sys2Proof/Laws/FootprintRegisters.lean ====
section
/-! SUPPORT. What each operation can change (Laws/Footprint.lean), for the lifecycle, the registers and the envelopes: every field of State outside the mask
is as it was. -/

namespace Sys2Proof
namespace Machine

/-! ### Lifecycle -/

theorem State.modLife_agree (s : State) (f : Lifecycle → Lifecycle) : Agree 536870912 s (State.modLife s f) := by
  unfold State.modLife
  exact ((Agree.refl 536870912 s).setLife rfl)

theorem State.afterReset_agree (s : State) (cause : ℕ) (inForce refreshLost : Bool) :
    Agree 1073741816 s (s.afterReset cause inForce refreshLost) := by
  constructor <;> intro h <;> first | rfl | cases h

theorem execRstNLow_agree (s : State) : Result.Agrees 3221225464 s (execRstNLow s) := by
  unfold execRstNLow
  extract_lets -underBinder -merge t0 c1
  have ht0 : Agree 3221225464 s t0 := by
    unfold t0
    refine Agree.ite ?_ ?_
    · exact (Agree.refl 3221225464 s)
    · exact ((Agree.refl 3221225464 s).step (State.afterReset_agree _ _ _ _) rfl)
  try clear_value t0
  try clear_value c1
  exact Result.Agrees.next (ht0.setPins rfl)

theorem execBrownOut_agree (r : Rail) (s : State) : Result.Agrees 1073741816 s (execBrownOut r s) := by
  unfold execBrownOut
  refine Result.Agrees.next ?_
  refine Agree.ite ?_ ?_
  · exact (((Agree.refl 1073741816 s).step (State.afterReset_agree _ _ _ _) rfl).step (State.modLife_agree _ _) rfl)
  · exact (Agree.refl 1073741816 s)

theorem execSuppliesValid_agree (s : State) : Result.Agrees 805306368 s (execSuppliesValid s) := by
  unfold execSuppliesValid
  refine Result.Agrees.next ?_
  refine Agree.ite ?_ ?_
  · exact (Agree.refl 805306368 s)
  · exact (((Agree.refl 805306368 s).step (State.modLife_agree _ _) rfl).step (State.modHealth_agree _ _) rfl)

theorem State.boot_agree (s : State) : Agree 3759144960 s (State.boot s) := by
  unfold State.boot
  extract_lets -underBinder -merge c0 c1 c2 c3 c4
  try clear_value c0
  try clear_value c1
  try clear_value c2
  try clear_value c3
  try clear_value c4
  exact ((Agree.refl 3759144960 s).step (B := 3759144960) (by constructor <;> intro hi <;> first | rfl | cases hi) rfl)

theorem execResetEnd_agree (s : State) : Result.Agrees 3759144960 s (execResetEnd s) := by
  unfold execResetEnd
  refine Result.Agrees.next ?_
  refine Agree.ite ?_ ?_
  · exact ((Agree.refl 3759144960 s).step (State.boot_agree _) rfl)
  · exact (Agree.refl 3759144960 s)

theorem State.resetModule_agree (s : State) : Agree 1073741816 s (State.resetModule s) := by
  unfold State.resetModule
  exact ((Agree.refl 1073741816 s).step (State.afterReset_agree _ _ _ _) rfl)

theorem State.haltNow_agree (s : State) (reason : ℕ) : Agree 674340892 s (State.haltNow s reason) := by
  unfold State.haltNow
  exact ((((Agree.refl 674340892 s).step (State.releaseLead_agree _ _) rfl).step (State.modLife_agree _ _) rfl).step (State.flag_agree _ _ _) rfl)

theorem State.portsAnswer_agree (s : State) : Agree 98304 s (State.portsAnswer s) := by
  unfold State.portsAnswer
  exact (((Agree.refl 98304 s).step (State.modI3c_agree _ _ _) rfl).step (State.modI3c_agree _ _ _) rfl)

theorem State.scanLedger_agree (s : State) : Agree 1146888 s (State.scanLedger s) := by
  unfold State.scanLedger
  extract_lets -underBinder -merge c0 c1 c2 c3 t4
  try clear_value c0
  try clear_value c1
  try clear_value c2
  try clear_value c3
  have ht4 : Agree 1146888 s t4 := ((Agree.refl 1146888 s).setLedger rfl)
  try clear_value t4
  exact (ht4.step (State.ledgerNote_agree _ _ _) rfl)

theorem State.firmwareRuns_agree (s : State) (b : Bool) : Agree 1658421336 s (State.firmwareRuns s b) := by
  unfold State.firmwareRuns
  extract_lets -underBinder -merge c0 c1 t2 t3 c4 c5 t6 t7 t8 t9
  try clear_value c0
  try clear_value c1
  have ht2 : Agree 1658421336 s t2 := ((Agree.refl 1658421336 s).setNv rfl)
  try clear_value t2
  have ht3 : Agree 1658421336 s t3 := (((ht2.step (State.modLife_agree _ _) rfl).step (State.portsAnswer_agree _) rfl).step (State.flag_agree _ _ _) rfl)
  try clear_value t3
  try clear_value c4
  try clear_value c5
  have ht6 : Agree 1658421336 s t6 := (ht3.step (B := 4718592) (by constructor <;> intro hi <;> first | rfl | cases hi) rfl)
  try clear_value t6
  have ht7 : Agree 1658421336 s t7 := by
    unfold t7
    refine Agree.step ?_ (State.scanLedger_agree _) rfl
    refine Agree.ite ?_ ?_
    · exact ht6
    · exact (ht6.step (State.flag_agree _ _ _) rfl)
  try clear_value t7
  have ht8 : Agree 1658421336 s t8 := by
    unfold t8
    refine Agree.ite ?_ ?_
    · exact (ht7.step (State.fwNote_agree _ _ _ _ _) rfl)
    · exact ht7
  try clear_value t8
  have ht9 : Agree 1658421336 s t9 := (ht8.step (State.seed_agree _) rfl)
  try clear_value t9
  refine Agree.ite ?_ ?_
  · exact (ht9.step (State.firstSearch_agree _) rfl)
  · exact ht9

theorem execFirmwareStart_agree (s : State) : Result.Agrees 1794744412 s (execFirmwareStart s) := by
  unfold execFirmwareStart
  refine Result.Agrees.next ?_
  refine Agree.ite ?_ ?_
  · refine Agree.ite ?_ ?_
    · exact (((Agree.refl 1794744412 s).step (State.haltNow_agree _ _) rfl).step (State.portsAnswer_agree _) rfl)
    · refine Agree.ite ?_ ?_
      · exact ((Agree.refl 1794744412 s).step (State.firmwareRuns_agree _ _) rfl)
      · refine Agree.ite ?_ ?_
        · exact ((Agree.refl 1794744412 s).step (State.firmwareRuns_agree _ _) rfl)
        · exact (((Agree.refl 1794744412 s).step (State.haltNow_agree _ _) rfl).step (State.portsAnswer_agree _) rfl)
  · exact (Agree.refl 1794744412 s)

theorem State.castOnFaults_agree (s : State) : Agree 539074568 s (State.castOnFaults s) := by
  unfold State.castOnFaults
  extract_lets -underBinder -merge t0
  have ht0 : Agree 539074568 s t0 := by
    unfold t0
    refine Agree.foldl (fun t1 x1 h1 => ?_) ?_
    · refine Agree.ite ?_ ?_
      · exact ((h1.step (State.fault_agree _ _ _ _) rfl).step (State.setDegraded_agree _ _ _) rfl)
      · exact h1
    · exact (Agree.refl 539074568 s)
  try clear_value t0
  refine Agree.ite ?_ ?_
  · exact ht0
  · exact ((ht0.step (State.fault_agree _ _ _ _) rfl).step (State.setDegraded_agree _ _ _) rfl)

theorem State.castOnCartridges_agree (s : State) : Agree 68255752 s (State.castOnCartridges s) := by
  unfold State.castOnCartridges
  extract_lets -underBinder -merge c0 t1
  subst c0
  have ht1 : Agree 68255752 s t1 := by
    unfold t1
    beta_reduce
    refine Agree.ite ?_ ?_
    · refine Agree.step ?_ (State.powerSlot_agree _ _) rfl
      refine Agree.ite ?_ ?_
      · exact ((Agree.refl 68255752 s).step (State.powerSlot_agree _ _) rfl)
      · exact (Agree.refl 68255752 s)
    · refine Agree.ite ?_ ?_
      · exact ((Agree.refl 68255752 s).step (State.powerSlot_agree _ _) rfl)
      · exact (Agree.refl 68255752 s)
  try clear_value t1
  split
  · refine Agree.ite ?_ ?_
    · exact (ht1.step (State.modCart_agree _ _) rfl)
    · exact ht1
  · exact ht1

theorem execCastOnReady_agree (s : State) : Result.Agrees 607232024 s (execCastOnReady s) := by
  unfold execCastOnReady
  extract_lets -underBinder -merge t0 c1 t2
  have ht0 : Agree 607232024 s t0 := by
    unfold t0
    refine Agree.foldl (fun t3 x3 h3 => ?_) ?_
    · exact (h3.step (State.poweredUp_agree _ _) rfl)
    · exact (Agree.refl 607232024 s)
  try clear_value t0
  try clear_value c1
  have ht2 : Agree 607232024 s t2 := ((ht0.step (State.modLife_agree _ _) rfl).step (State.flag_agree _ _ _) rfl)
  try clear_value t2
  refine Result.Agrees.next ?_
  refine Agree.ite ?_ ?_
  · exact ((((ht2.step (State.settle_agree _) rfl).step (State.castOnFaults_agree _) rfl).step (State.castOnCartridges_agree _) rfl).step (State.settleAllSwitches_agree _) rfl)
  · exact (Agree.refl 607232024 s)

theorem State.endLegacy_agree (s : State) : Agree 5341192 s (State.endLegacy s) := by
  unfold State.endLegacy
  split
  · extract_lets -underBinder -merge c0
    try clear_value c0
    exact (((Agree.refl 5341192 s).setCal rfl).step (State.legacyOn_agree _) rfl)
  · exact (Agree.refl 5341192 s)

theorem State.selfRefresh_agree (s : State) : Agree 1024 s (State.selfRefresh s) := by
  unfold State.selfRefresh
  refine Agree.foldl (fun t0 x0 h0 => ?_) ?_
  · exact (h0.step (State.modStack_agree _ _ _) rfl)
  · exact (Agree.refl 1024 s)

theorem State.bindoffPark_agree (s : State) : Agree 206678136 s (State.bindoffPark s) := by
  unfold State.bindoffPark
  extract_lets -underBinder -merge t0 t1 c2 t3 t4 t5
  have ht0 : Agree 206678136 s t0 := (((Agree.refl 206678136 s).step (State.abortAll_agree _ _) rfl).step (State.wr_agree _ _ _ _) rfl)
  try clear_value t0
  have ht1 : Agree 206678136 s t1 := (ht0.step (State.endLegacy_agree _) rfl)
  try clear_value t1
  try clear_value c2
  have ht3 : Agree 206678136 s t3 := (ht1.setCal rfl)
  try clear_value t3
  have ht4 : Agree 206678136 s t4 := ((ht3.step (State.transferFails_agree _ _) rfl).step (State.abortJoin_agree _) rfl)
  try clear_value t4
  have ht5 : Agree 206678136 s t5 := by
    unfold t5
    refine Agree.foldl (fun t6 x6 h6 => ?_) ?_
    · extract_lets -underBinder -merge t7
      have ht7 : Agree 206678136 s t7 := (h6.step (State.parkAtOnce_agree _ _) rfl)
      try clear_value t7
      split
      · exact (ht7.step (State.modPort_agree _ _ _) rfl)
      · exact ht7
    · exact ht4
  try clear_value t5
  refine Agree.foldl (fun t8 x8 h8 => ?_) ?_
  · exact ((h8.step (State.wr_agree _ _ _ _) rfl).step (State.modSpare_agree _ _ _) rfl)
  · exact ht5

theorem State.bindoffStart_agree (s : State) : Agree 1819913340 s (State.bindoffStart s) := by
  unfold State.bindoffStart
  extract_lets -underBinder -merge t0 t1 t2
  have ht0 : Agree 1819913340 s t0 := (((Agree.refl 1819913340 s).step (State.fwCancel_agree _) rfl).step (State.modLife_agree _ _) rfl)
  try clear_value t0
  have ht1 : Agree 1819913340 s t1 := (((ht0.step (State.settle_agree _) rfl).step (State.ledgerNote_agree _ _ _) rfl).step (State.releaseLead_agree _ _) rfl)
  try clear_value t1
  have ht2 : Agree 1819913340 s t2 := by
    unfold t2
    refine Agree.ite ?_ ?_
    · exact ((ht1.step (State.modTwin_agree _ _) rfl).step (State.failover_agree _ _ _ _) rfl)
    · exact ht1
  try clear_value t2
  refine Agree.ite ?_ ?_
  · exact (Agree.refl 1819913340 s)
  · refine Agree.ite ?_ ?_
    · exact ((Agree.refl 1819913340 s).step (State.modLife_agree _ _) rfl)
    · exact ((((ht2.step (State.bindoffPark_agree _) rfl).step (State.settleAllSwitches_agree _) rfl).step (State.selfRefresh_agree _) rfl).step (State.commitBindoff_agree _) rfl)

theorem execBindoffGo_agree (s : State) : Result.Agrees 1819913340 s (execBindoffGo s) := by
  unfold execBindoffGo
  exact Result.Agrees.next ((Agree.refl 1819913340 s).step (State.bindoffStart_agree _) rfl)

theorem State.enterStandby_agree (s : State) : Agree 617709656 s (State.enterStandby s) := by
  unfold State.enterStandby
  extract_lets -underBinder -merge t0 t1
  have ht0 : Agree 617709656 s t0 := by
    unfold t0
    refine Agree.foldl (fun t2 x2 h2 => ?_) ?_
    · refine Agree.ite ?_ ?_
      · exact h2
      · exact (h2.step (State.stopMonitor_agree _ _) rfl)
    · exact (Agree.refl 617709656 s)
  try clear_value t0
  have ht1 : Agree 617709656 s t1 := by
    unfold t1
    refine Agree.ite ?_ ?_
    · exact ht0
    · exact ((ht0.step (State.unpowerSlot_agree _ _) rfl).step (State.unpowerSlot_agree _ _) rfl)
  try clear_value t1
  exact (ht1.step (State.modLife_agree _ _) rfl)

theorem State.bindoffEnd_agree (s : State) : Agree 1827774556 s (State.bindoffEnd s) := by
  unfold State.bindoffEnd
  extract_lets -underBinder -merge t0 t1 c2 t3 t4
  have ht0 : Agree 1827774556 s t0 := by
    unfold t0
    refine Agree.foldl (fun t5 x5 h5 => ?_) ?_
    · exact (h5.step (State.modPort_agree _ _ _) rfl)
    · exact (Agree.refl 1827774556 s)
  try clear_value t0
  have ht1 : Agree 1827774556 s t1 := (((ht0.step (State.programAll_agree _) rfl).step (State.ledgerCheckpoint_agree _) rfl).step (State.programAll_agree _) rfl)
  try clear_value t1
  try clear_value c2
  have ht3 : Agree 1827774556 s t3 := (ht1.setNv rfl)
  try clear_value t3
  have ht4 : Agree 1827774556 s t4 := ((ht3.step (State.modLife_agree _ _) rfl).step (State.flag_agree _ _ _) rfl)
  try clear_value t4
  refine Agree.ite ?_ ?_
  · exact (ht4.step (State.enterStandby_agree _) rfl)
  · exact (ht4.step (State.haltNow_agree _ _) rfl)

theorem execBindoffDone_agree (s : State) : Result.Agrees 1827774556 s (execBindoffDone s) := by
  unfold execBindoffDone
  refine Result.Agrees.next ?_
  refine Agree.ite ?_ ?_
  · exact ((Agree.refl 1827774556 s).step (State.bindoffEnd_agree _) rfl)
  · exact (Agree.refl 1827774556 s)

theorem execWakeRequest_agree (m : ℕ) (s : State) : Result.Agrees 4294967288 s (execWakeRequest m s) := by
  unfold execWakeRequest
  extract_lets -underBinder -merge c0
  try clear_value c0
  refine Result.Agrees.next ?_
  refine Agree.ite ?_ ?_
  · exact ((((Agree.refl 4294967288 s).step (State.afterReset_agree _ _ _ _) rfl).step (State.boot_agree _) rfl).step (State.wr_agree _ _ _ _) rfl)
  · exact (Agree.refl 4294967288 s)

theorem State.idleCycle_agree (s : State) : Agree 72581214 s (State.idleCycle s) := by
  unfold State.idleCycle
  extract_lets -underBinder -merge t0
  have ht0 : Agree 72581214 s t0 := (((((Agree.refl 72581214 s).step (State.issueReads_agree _) rfl).step (State.commitAdvances_agree _) rfl).step (State.windowsNow_agree _) rfl).step (State.ownerTick_agree _) rfl)
  try clear_value t0
  exact (ht0.setCycle rfl)

theorem State.writeGlobal_agree (s : State) (off : ℕ) (w : Word) :
    Agree 1853467772 s (State.writeGlobal s off w) := by
  unfold State.writeGlobal
  extract_lets -underBinder -merge t0
  have ht0 : Agree 1853467772 s t0 := ((Agree.refl 1853467772 s).step (State.wr_agree _ _ _ _) rfl)
  try clear_value t0
  refine Agree.ite ?_ ?_
  · refine Agree.ite ?_ ?_
    · exact ((Agree.refl 1853467772 s).step (State.commitAll_agree _) rfl)
    · exact (Agree.refl 1853467772 s)
  · refine Agree.ite ?_ ?_
    · refine Agree.ite ?_ ?_
      · exact (ht0.step (State.bindoffStart_agree _) rfl)
      · exact ht0
    · exact (Agree.refl 1853467772 s)

/-! ### Tables -/

theorem State.allocate_agree (s : State) (n : ℕ) (size : ℕ) : Agree 4096 s (State.allocate s n size) := by
  unfold State.allocate
  extract_lets -underBinder -merge t0 c1 c2
  have ht0 : Agree 4096 s t0 := ((Agree.refl 4096 s).setBobbins rfl)
  try clear_value t0
  try clear_value c1
  try clear_value c2
  refine Agree.ite ?_ ?_
  · exact (Agree.refl 4096 s)
  · exact (ht0.setBobbins rfl)

theorem State.tblSel_agree (s : State) (p : I3cPort) (w : Word) : Agree 98304 s (State.tblSel s p w) := by
  unfold State.tblSel
  exact ((Agree.refl 98304 s).step (State.modI3c_agree _ _ _) rfl)

theorem State.tblIndex_agree (s : State) (p : I3cPort) (w : Word) : Agree 98304 s (State.tblIndex s p w) := by
  unfold State.tblIndex
  exact ((Agree.refl 98304 s).step (State.modI3c_agree _ _ _) rfl)

theorem State.tblAccess_agree (s : State) (p : I3cPort) (refused : Bool) :
    Agree 98304 s (State.tblAccess s p refused) := by
  unfold State.tblAccess
  exact ((Agree.refl 98304 s).step (State.modI3c_agree _ _ _) rfl)

theorem State.stage_agree (s : State) (p : I3cPort) (sel : ℕ) (entry : ℕ) (i : ℕ) (w : Word) :
    Agree 98304 s (State.stage s p sel entry i w) := by
  unfold State.stage
  exact ((Agree.refl 98304 s).step (State.modI3c_agree _ _ _) rfl)

theorem State.unstage_agree (s : State) (p : I3cPort) : Agree 98304 s (State.unstage s p) := by
  unfold State.unstage
  exact ((Agree.refl 98304 s).step (State.modI3c_agree _ _ _) rfl)

theorem State.tblWrite_agree (s : State) (p : I3cPort) (w : Word) : Agree 33657224 s (State.tblWrite s p w) := by
  unfold State.tblWrite
  extract_lets -underBinder -merge c0 c1 c2 c3
  try clear_value c0
  try clear_value c1
  try clear_value c2
  subst c3
  beta_reduce
  split
  · extract_lets -underBinder -merge c4
    try clear_value c4
    refine Agree.ite ?_ ?_
    · exact ((((Agree.refl 33657224 s).setDescs rfl).step (State.unstage_agree _ _) rfl).step (State.tblAccess_agree _ _ _) rfl)
    · exact (((Agree.refl 33657224 s).step (State.stage_agree _ _ _ _ _ _) rfl).step (State.tblAccess_agree _ _ _) rfl)
  · extract_lets -underBinder -merge c5
    try clear_value c5
    refine Agree.ite ?_ ?_
    · exact ((((Agree.refl 33657224 s).setEntries rfl).step (State.unstage_agree _ _) rfl).step (State.tblAccess_agree _ _ _) rfl)
    · exact (((Agree.refl 33657224 s).step (State.stage_agree _ _ _ _ _ _) rfl).step (State.tblAccess_agree _ _ _) rfl)
  · extract_lets -underBinder -merge c6 c7
    try clear_value c6
    try clear_value c7
    refine Agree.ite ?_ ?_
    · exact ((((Agree.refl 33657224 s).step (State.modClock_agree _ _) rfl).step (State.unstage_agree _ _) rfl).step (State.tblAccess_agree _ _ _) rfl)
    · exact (((Agree.refl 33657224 s).step (State.stage_agree _ _ _ _ _ _) rfl).step (State.tblAccess_agree _ _ _) rfl)
  · refine Agree.ite ?_ ?_
    · exact (((Agree.refl 33657224 s).step (State.allocate_agree _ _ _) rfl).step (State.tblAccess_agree _ _ _) rfl)
    · exact (((Agree.refl 33657224 s).step (State.tblAccess_agree _ _ _) rfl).step (State.flag_agree _ _ _) rfl)
  · exact (((Agree.refl 33657224 s).step (State.tblAccess_agree _ _ _) rfl).step (State.flag_agree _ _ _) rfl)

theorem State.tblRead_agree (s : State) (p : I3cPort) : Agree 98304 s (State.tblRead s p).2 := by
  unfold State.tblRead
  extract_lets -underBinder -merge c0
  try clear_value c0
  exact ((Agree.refl 98304 s).step (State.tblAccess_agree _ _ _) rfl).snd

theorem State.resetTables_agree (s : State) (p : I3cPort) : Agree 98304 s (State.resetTables s p) := by
  unfold State.resetTables
  exact ((Agree.refl 98304 s).step (State.modI3c_agree _ _ _) rfl)

theorem execTblSelWrite_agree (p : I3cPort) (value : Word) (s : State) :
    Result.Agrees 98304 s (execTblSelWrite p value s) := by
  unfold execTblSelWrite
  exact Result.Agrees.next ((Agree.refl 98304 s).step (State.tblSel_agree _ _ _) rfl)

theorem execTblIndexWrite_agree (p : I3cPort) (value : Word) (s : State) :
    Result.Agrees 98304 s (execTblIndexWrite p value s) := by
  unfold execTblIndexWrite
  exact Result.Agrees.next ((Agree.refl 98304 s).step (State.tblIndex_agree _ _ _) rfl)

theorem execTblDataWrite_agree (p : I3cPort) (value : Word) (s : State) :
    Result.Agrees 33657224 s (execTblDataWrite p value s) := by
  unfold execTblDataWrite
  exact Result.Agrees.next ((Agree.refl 33657224 s).step (State.tblWrite_agree _ _ _) rfl)

theorem execTblDataRead_agree (p : I3cPort) (s : State) : Result.Agrees 98308 s (execTblDataRead p s) := by
  unfold execTblDataRead
  extract_lets -underBinder -merge t0
  have ht0 : Agree 98308 s t0.2 := ((Agree.refl 98308 s).step (State.tblRead_agree _ _) rfl)
  try clear_value t0
  exact Result.Agrees.next ((ht0.step (State.spend_agree _) rfl).step (State.modI3c_agree _ _ _) rfl)

/-! ### Resets -/

theorem State.clearPage_agree (s : State) (page : ℕ) (counters : List ℕ) :
    Agree 98312 s (State.clearPage s page counters) := by
  unfold State.clearPage
  refine Agree.step ?_ (State.clearFlags_agree _ _ _) rfl
  refine Agree.foldl (fun t0 x0 h0 => ?_) ?_
  · exact (h0.step (State.wr_agree _ _ _ _) rfl)
  · exact (Agree.refl 98312 s)

theorem State.dropCaptures_agree (s : State) (page : ℕ) : Agree 98304 s (State.dropCaptures s page) := by
  unfold State.dropCaptures
  extract_lets -underBinder -merge c0
  subst c0
  exact (((Agree.refl 98304 s).step (State.modI3c_agree _ _ _) rfl).step (State.modI3c_agree _ _ _) rfl)

theorem State.resetPort_agree (s : State) (n : ℕ) : Agree 5351548 s (State.resetPort s n) := by
  unfold State.resetPort
  extract_lets -underBinder -merge c0 c1 c2 c3 t4 t5 t6 t7 t8
  try clear_value c0
  try clear_value c1
  try clear_value c2
  try clear_value c3
  have ht4 : Agree 5351548 s t4 := by
    unfold t4
    refine Agree.ite ?_ ?_
    · exact (((Agree.refl 5351548 s).step (State.abortPort_agree _ _ _) rfl).step (State.spend_agree _) rfl)
    · exact (Agree.refl 5351548 s)
  try clear_value t4
  have ht5 : Agree 5351548 s t5 := (ht4.step (State.modPort_agree _ _ _) rfl)
  try clear_value t5
  have ht6 : Agree 5351548 s t6 := ((((ht5.step (State.parkAtOnce_agree _ _) rfl).step (State.resetPage_agree _ _ _) rfl).step (State.resetHooks_agree _ _) rfl).step (State.dropCaptures_agree _ _) rfl)
  try clear_value t6
  have ht7 : Agree 5351548 s t7 := (ht6.step (State.modPort_agree _ _ _) rfl)
  try clear_value t7
  have ht8 : Agree 5351548 s t8 := by
    unfold t8
    refine Agree.ite ?_ ?_
    · refine Agree.ite ?_ ?_
      · exact ht7
      · exact (ht7.step (State.modPort_agree _ _ _) rfl)
    · exact ((ht7.step (State.modPort_agree _ _ _) rfl).step (State.stepOutput_agree _ _) rfl)
  try clear_value t8
  exact ((ht8.step (State.settleSwitches_agree _ _) rfl).step (State.updateIbis_agree _ _) rfl)

theorem State.resetGroup_agree (s : State) (g : ℕ) : Agree 108600 s (State.resetGroup s g) := by
  unfold State.resetGroup
  extract_lets -underBinder -merge c0 c1 t2 t3
  try clear_value c0
  try clear_value c1
  have ht2 : Agree 108600 s t2 := by
    unfold t2
    refine Agree.foldl (fun t4 x4 h4 => ?_) ?_
    · exact (h4.step (State.parkAtOnce_agree _ _) rfl)
    · exact (Agree.refl 108600 s)
  try clear_value t2
  have ht3 : Agree 108600 s t3 := ((ht2.step (State.resetPage_agree _ _ _) rfl).step (State.modGroup_agree _ _ _) rfl)
  try clear_value t3
  exact (ht3.step (State.updateIbis_agree _ _) rfl)

theorem State.returnDue_agree (s : State) (g : ℕ) : Agree 64 s (State.returnDue s g) := by
  unfold State.returnDue
  refine Agree.ite ?_ ?_
  · exact ((Agree.refl 64 s).step (State.beginHandover_agree _ _ _) rfl)
  · exact (Agree.refl 64 s)

theorem State.resetSpareUnit_agree (s : State) (g : ℕ) : Agree 810655864 s (State.resetSpareUnit s g) := by
  unfold State.resetSpareUnit
  extract_lets -underBinder -merge c0 c1
  try clear_value c0
  try clear_value c1
  refine Agree.ite ?_ ?_
  · exact ((Agree.refl 810655864 s).step (State.refuseSpare_agree _ _) rfl)
  · refine Agree.ite ?_ ?_
    · exact ((((Agree.refl 810655864 s).step (State.wr_agree _ _ _ _) rfl).step (State.modSpare_agree _ _ _) rfl).step (State.releaseUnit_agree _ _) rfl)
    · refine Agree.ite ?_ ?_
      · exact (((Agree.refl 810655864 s).step (State.modSpare_agree _ _ _) rfl).step (State.returnDue_agree _ _) rfl)
      · exact ((Agree.refl 810655864 s).step (State.resetSpare_agree _ _) rfl)

theorem State.resetClockPage_agree (s : State) : Agree 709994616 s (State.resetClockPage s) := by
  unfold State.resetClockPage
  exact (((Agree.refl 709994616 s).step (State.modClock_agree _ _) rfl).step (State.resetClock_agree _) rfl)

theorem State.resetMemctl_agree (s : State) (k : ℕ) : Agree 99336 s (State.resetMemctl s k) := by
  unfold State.resetMemctl
  extract_lets -underBinder -merge c0
  try clear_value c0
  exact (((Agree.refl 99336 s).step (State.clearPage_agree _ _ _) rfl).step (State.modStack_agree _ _ _) rfl)

theorem State.resetChannels_agree (s : State) (k : ℕ) : Agree 98312 s (State.resetChannels s k) := by
  unfold State.resetChannels
  extract_lets -underBinder -merge c0
  try clear_value c0
  refine Agree.step ?_ (State.updateIbis_agree _ _) rfl
  refine Agree.foldl (fun t1 x1 h1 => ?_) ?_
  · exact (h1.step (State.setReg_agree _ _ _) rfl)
  · exact (Agree.refl 98312 s)

theorem State.resetTimers_agree (s : State) : Agree 122888 s (State.resetTimers s) := by
  unfold State.resetTimers
  extract_lets -underBinder -merge c0 t1
  try clear_value c0
  have ht1 : Agree 122888 s t1 := ((((Agree.refl 122888 s).step (State.resetPage_agree _ _ _) rfl).step (State.resetHooks_agree _ _) rfl).step (State.dropCaptures_agree _ _) rfl)
  try clear_value t1
  exact ((ht1.setTimers rfl).step (State.updateIbis_agree _ _) rfl)

theorem State.resetHost_agree (s : State) : Agree 360456 s (State.resetHost s) := by
  unfold State.resetHost
  extract_lets -underBinder -merge t0 c1
  have ht0 : Agree 360456 s t0 := ((Agree.refl 360456 s).step (State.clearPage_agree _ _ _) rfl)
  try clear_value t0
  try clear_value c1
  exact (ht0.setBulk rfl)

theorem State.resetTwin_agree (s : State) : Agree 98312 s (State.resetTwin s) := by
  unfold State.resetTwin
  exact (((Agree.refl 98312 s).step (State.clearPage_agree _ _ _) rfl).step (State.wr_agree _ _ _ _) rfl)

theorem State.resetMonitors_agree (s : State) : Agree 98312 s (State.resetMonitors s) := by
  unfold State.resetMonitors
  refine Agree.step ?_ (State.clearFlags_agree _ _ _) rfl
  refine Agree.foldl (fun t0 x0 h0 => ?_) ?_
  · exact (h0.step (State.setReg_agree _ _ _) rfl)
  · exact (Agree.refl 98312 s)

theorem State.unitReset_agree (s : State) (p : I3cPort) (page : ℕ) :
    Agree 1073741820 s (State.unitReset s p page) := by
  unfold State.unitReset
  refine Agree.ite ?_ ?_
  · exact (Agree.refl 1073741820 s)
  · split
    · exact ((Agree.refl 1073741820 s).step (State.resetModule_agree _) rfl)
    · exact ((Agree.refl 1073741820 s).step (State.clearPage_agree _ _ _) rfl)
    · exact ((Agree.refl 1073741820 s).step (State.clearPage_agree _ _ _) rfl)
    · exact ((Agree.refl 1073741820 s).step (State.clearPage_agree _ _ _) rfl)
    · exact ((Agree.refl 1073741820 s).step (State.resetHost_agree _) rfl)
    · exact ((Agree.refl 1073741820 s).step (State.resetTwin_agree _) rfl)
    · exact ((Agree.refl 1073741820 s).step (State.resetClockPage_agree _) rfl)
    · exact ((Agree.refl 1073741820 s).step (State.modClock_agree _ _) rfl)
    · exact ((Agree.refl 1073741820 s).step (State.resetLedger_agree _) rfl)
    · exact ((Agree.refl 1073741820 s).step (State.resetTables_agree _ _) rfl)
    · exact ((Agree.refl 1073741820 s).step (State.resetMemctl_agree _ _) rfl)
    · exact ((Agree.refl 1073741820 s).step (State.clearPage_agree _ _ _) rfl)
    · exact (((Agree.refl 1073741820 s).step (State.wr_agree _ _ _ _) rfl).step (State.clearPage_agree _ _ _) rfl)
    · exact ((Agree.refl 1073741820 s).step (State.clearPage_agree _ _ _) rfl)
    · exact ((Agree.refl 1073741820 s).step (State.resetCart_agree _) rfl)
    · exact (((Agree.refl 1073741820 s).step (State.clearPage_agree _ _ _) rfl).step (State.disarmHooks_agree _ _) rfl)
    · exact ((Agree.refl 1073741820 s).step (State.resetChannels_agree _ _) rfl)
    · exact ((Agree.refl 1073741820 s).step (State.resetTimers_agree _) rfl)
    · exact ((Agree.refl 1073741820 s).step (State.resetMonitors_agree _) rfl)
    · exact ((Agree.refl 1073741820 s).step (State.clearPage_agree _ _ _) rfl)
    · refine Agree.ite ?_ ?_
      · exact ((Agree.refl 1073741820 s).step (State.releaseUnit_agree _ _) rfl)
      · exact ((Agree.refl 1073741820 s).step (State.resetPort_agree _ _) rfl)
    · exact ((Agree.refl 1073741820 s).step (State.resetSpareUnit_agree _ _) rfl)
    · refine Agree.ite ?_ ?_
      · exact ((Agree.refl 1073741820 s).step (State.releaseUnit_agree _ _) rfl)
      · exact ((Agree.refl 1073741820 s).step (State.resetGroup_agree _ _) rfl)
    · exact (Agree.refl 1073741820 s)

theorem execUnitReset_agree (p : I3cPort) (page : ℕ) (s : State) :
    Result.Agrees 1073741820 s (execUnitReset p page s) := by
  unfold execUnitReset
  exact Result.Agrees.next ((Agree.refl 1073741820 s).step (State.unitReset_agree _ _ _) rfl)

theorem State.clearTrips_agree (s : State) (value : Word) : Agree 22118488 s (State.clearTrips s value) := by
  unfold State.clearTrips
  refine Agree.foldl (fun t0 x0 h0 => ?_) ?_
  · exact (h0.step (State.returnDue_agree _ _) rfl)
  · exact ((Agree.refl 22118488 s).step (State.tripClear_agree _ _) rfl)

theorem execTripClear_agree (value : Word) (s : State) : Result.Agrees 22118488 s (execTripClear value s) := by
  unfold execTripClear
  exact Result.Agrees.next ((Agree.refl 22118488 s).step (State.clearTrips_agree _ _) rfl)

/-! ### Registers -/

theorem State.captureFor_agree (s : State) (p : I3cPort) (owner : Bool) (a : ℕ) :
    Agree 98304 s (State.captureFor s p owner a) := by
  unfold State.captureFor
  refine Agree.foldl (fun t0 x0 h0 => ?_) ?_
  · extract_lets -underBinder -merge c1
    try clear_value c1
    exact (h0.step (State.modI3c_agree _ _ _) rfl)
  · exact (Agree.refl 98304 s)

theorem State.readReg_agree (s : State) (p : I3cPort) (owner : Bool) (a : ℕ) :
    Agree 67207180 s (State.readReg s p owner a).2 := by
  unfold State.readReg
  refine Agree.ite2 ?_ ?_
  · refine Agree.ite2 ?_ ?_
    · exact ((Agree.refl 67207180 s).step (State.tblRead_agree _ _) rfl)
    · exact (Agree.refl 67207180 s).snd
  · refine Agree.ite2 ?_ ?_
    · exact ((Agree.refl 67207180 s).step (State.infoRead_agree _) rfl).snd
    · split
      · exact (Agree.refl 67207180 s).snd
      · extract_lets -underBinder -merge t0
        have ht0 : Agree 67207180 s t0 := by
          unfold t0
          refine Agree.ite ?_ ?_
          · exact ((Agree.refl 67207180 s).step (State.notePeak_agree _ _) rfl)
          · exact (Agree.refl 67207180 s)
        try clear_value t0
        exact ((ht0.step (State.captureFor_agree _ _ _ _) rfl).step (State.spend_agree _) rfl).snd

theorem State.readShown_agree (s : State) (p : I3cPort) (a : ℕ) : Agree 67207180 s (State.readShown s p a) := by
  unfold State.readShown
  extract_lets -underBinder -merge t0
  have ht0 : Agree 67207180 s t0.2 := ((Agree.refl 67207180 s).step (State.readReg_agree _ _ _ _) rfl)
  try clear_value t0
  exact (ht0.step (State.modI3c_agree _ _ _) rfl)

theorem execPortPosRead_agree (p : I3cPort) (n : ℕ) (s : State) :
    Result.Agrees 67207180 s (execPortPosRead p n s) := by
  unfold execPortPosRead
  exact Result.Agrees.next ((Agree.refl 67207180 s).step (State.readShown_agree _ _ _) rfl)

theorem execRatioStatusRead_agree (p : I3cPort) (n : ℕ) (s : State) :
    Result.Agrees 67207180 s (execRatioStatusRead p n s) := by
  unfold execRatioStatusRead
  exact Result.Agrees.next ((Agree.refl 67207180 s).step (State.readShown_agree _ _ _) rfl)

theorem execLoRegisterRead_agree (p : I3cPort) (addr : ℕ) (s : State) :
    Result.Agrees 67207180 s (execLoRegisterRead p addr s) := by
  unfold execLoRegisterRead
  exact Result.Agrees.next ((Agree.refl 67207180 s).step (State.readShown_agree _ _ _) rfl)

theorem execInfoDataRead_agree (p : I3cPort) (s : State) : Result.Agrees 67207180 s (execInfoDataRead p s) := by
  unfold execInfoDataRead
  exact Result.Agrees.next ((Agree.refl 67207180 s).step (State.readShown_agree _ _ _) rfl)

theorem State.put_agree (s : State) (w : RegWrite) (page : ℕ) (off : ℕ) (field : Word) :
    Agree 8 s (State.put s w page off field) := by
  unfold State.put
  exact ((Agree.refl 8 s).step (State.wr_agree _ _ _ _) rfl)

theorem State.clearChannels_agree (s : State) (k : ℕ) (set : Word) : Agree 98312 s (State.clearChannels s k set) := by
  unfold State.clearChannels
  refine Agree.foldl (fun t0 x0 h0 => ?_) ?_
  · exact (h0.step (State.setChanStat_agree _ _ _) rfl)
  · exact (Agree.refl 98312 s)

theorem State.writeHeader_agree (s : State) (w : RegWrite) (page : ℕ) (off : ℕ) :
    Agree 98312 s (State.writeHeader s w page off) := by
  unfold State.writeHeader
  refine Agree.ite ?_ ?_
  · split
    · exact ((Agree.refl 98312 s).step (State.clearChannels_agree _ _ _) rfl)
    · exact ((Agree.refl 98312 s).step (State.clearFlags_agree _ _ _) rfl)
  · refine Agree.ite ?_ ?_
    · exact ((Agree.refl 98312 s).step (State.setIrqen_agree _ _ _) rfl)
    · refine Agree.ite ?_ ?_
      · exact ((Agree.refl 98312 s).step (State.put_agree _ _ _ _ _) rfl)
      · exact (Agree.refl 98312 s)

theorem State.writeCtrl_agree (s : State) (w : RegWrite) (page : ℕ) :
    Agree 1073741820 s (State.writeCtrl s w page) := by
  unfold State.writeCtrl
  extract_lets -underBinder -merge c0 t1 t2
  try clear_value c0
  have ht1 : Agree 1073741820 s t1 := by
    unfold t1
    refine Agree.ite ?_ ?_
    · exact ((Agree.refl 1073741820 s).step (State.pageCommit_agree _ _) rfl)
    · exact (Agree.refl 1073741820 s)
  try clear_value t1
  have ht2 : Agree 1073741820 s t2 := (ht1.step (State.requestValue_agree _ _ _) rfl)
  try clear_value t2
  refine Agree.ite ?_ ?_
  · exact (Agree.refl 1073741820 s)
  · refine Agree.ite ?_ ?_
    · exact ((Agree.refl 1073741820 s).step (State.unitReset_agree _ _ _) rfl)
    · refine Agree.ite ?_ ?_
      · split
        · exact (ht2.step (State.modPort_agree _ _ _) rfl)
        · exact ht2
      · exact ht1

theorem State.writeShadow_agree (s : State) (w : RegWrite) (n : ℕ) (off : ℕ) (new : Word) (groups : List (Word × ℕ)) :
    Agree 24 s (State.writeShadow s w n off new groups) := by
  unfold State.writeShadow
  exact (((Agree.refl 24 s).step (State.setReg_agree _ _ _) rfl).step (State.modPort_agree _ _ _) rfl)

theorem State.writePort_agree (s : State) (w : RegWrite) (n : ℕ) (off : ℕ) :
    Agree 5349468 s (State.writePort s w n off) := by
  unfold State.writePort
  extract_lets -underBinder -merge c0 c1 c2 c3
  try clear_value c0
  try clear_value c1
  try clear_value c2
  try clear_value c3
  refine Agree.ite ?_ ?_
  · exact (Agree.refl 5349468 s)
  · refine Agree.ite ?_ ?_
    · exact ((Agree.refl 5349468 s).step (State.writeShadow_agree _ _ _ _ _ _) rfl)
    · refine Agree.ite ?_ ?_
      · exact ((Agree.refl 5349468 s).step (State.writeShadow_agree _ _ _ _ _ _) rfl)
      · refine Agree.ite ?_ ?_
        · exact ((Agree.refl 5349468 s).step (State.writeShadow_agree _ _ _ _ _ _) rfl)
        · refine Agree.ite ?_ ?_
          · exact ((Agree.refl 5349468 s).step (State.put_agree _ _ _ _ _) rfl)
          · refine Agree.ite ?_ ?_
            · exact ((Agree.refl 5349468 s).step (State.put_agree _ _ _ _ _) rfl)
            · refine Agree.ite ?_ ?_
              · exact ((Agree.refl 5349468 s).step (State.wr_agree _ _ _ _) rfl)
              · refine Agree.ite ?_ ?_
                · exact ((Agree.refl 5349468 s).step (State.writeShadow_agree _ _ _ _ _ _) rfl)
                · refine Agree.ite ?_ ?_
                  · exact ((Agree.refl 5349468 s).step (State.writeShadow_agree _ _ _ _ _ _) rfl)
                  · refine Agree.ite ?_ ?_
                    · exact ((Agree.refl 5349468 s).step (State.writeShadow_agree _ _ _ _ _ _) rfl)
                    · refine Agree.ite ?_ ?_
                      · exact ((Agree.refl 5349468 s).step (State.writeShadow_agree _ _ _ _ _ _) rfl)
                      · refine Agree.ite ?_ ?_
                        · exact ((Agree.refl 5349468 s).step (State.writeShadow_agree _ _ _ _ _ _) rfl)
                        · refine Agree.ite ?_ ?_
                          · exact ((Agree.refl 5349468 s).step (State.writeShadow_agree _ _ _ _ _ _) rfl)
                          · refine Agree.ite ?_ ?_
                            · refine Agree.ite ?_ ?_
                              · exact ((Agree.refl 5349468 s).step (State.writeOutSwitch_agree _ _ _) rfl)
                              · exact (Agree.refl 5349468 s)
                            · refine Agree.ite ?_ ?_
                              · exact ((Agree.refl 5349468 s).step (State.writeTripSel_agree _ _ _) rfl)
                              · refine Agree.ite ?_ ?_
                                · exact ((Agree.refl 5349468 s).step (State.wr_agree _ _ _ _) rfl)
                                · refine Agree.ite ?_ ?_
                                  · exact ((Agree.refl 5349468 s).step (State.put_agree _ _ _ _ _) rfl)
                                  · refine Agree.ite ?_ ?_
                                    · exact ((Agree.refl 5349468 s).step (State.writeHook_agree _ _ _ _) rfl)
                                    · refine Agree.ite ?_ ?_
                                      · exact ((Agree.refl 5349468 s).step (State.put_agree _ _ _ _ _) rfl)
                                      · refine Agree.ite ?_ ?_
                                        · exact ((Agree.refl 5349468 s).step (State.put_agree _ _ _ _ _) rfl)
                                        · refine Agree.ite ?_ ?_
                                          · refine Agree.ite ?_ ?_
                                            · exact ((Agree.refl 5349468 s).step (State.fireByRegister_agree _ _) rfl)
                                            · exact (Agree.refl 5349468 s)
                                          · exact (Agree.refl 5349468 s)

theorem State.writeSpare_agree (s : State) (w : RegWrite) (g : ℕ) (off : ℕ) :
    Agree 5341276 s (State.writeSpare s w g off) := by
  unfold State.writeSpare
  extract_lets -underBinder -merge c0 t1 t2
  try clear_value c0
  have ht1 : Agree 5341276 s t1 := ((Agree.refl 5341276 s).step (State.put_agree _ _ _ _ _) rfl)
  try clear_value t1
  have ht2 : Agree 5341276 s t2 := by
    unfold t2
    refine Agree.ite ?_ ?_
    · exact (ht1.step (State.substitute_agree _ _) rfl)
    · exact ht1
  try clear_value t2
  refine Agree.ite ?_ ?_
  · exact ((Agree.refl 5341276 s).step (State.writeSpareTarget_agree _ _ _) rfl)
  · refine Agree.ite ?_ ?_
    · refine Agree.ite ?_ ?_
      · exact ((Agree.refl 5341276 s).step (State.refuseSpare_agree _ _) rfl)
      · refine Agree.ite ?_ ?_
        · exact (ht2.step (State.returnSpare_agree _ _) rfl)
        · exact ht2
    · exact (Agree.refl 5341276 s)

theorem State.writeGroup_agree (s : State) (w : RegWrite) (g : ℕ) (off : ℕ) :
    Agree 40 s (State.writeGroup s w g off) := by
  unfold State.writeGroup
  extract_lets -underBinder -merge t0
  have ht0 : Agree 40 s t0 := ((Agree.refl 40 s).step (State.put_agree _ _ _ _ _) rfl)
  try clear_value t0
  refine Agree.ite ?_ ?_
  · refine Agree.ite ?_ ?_
    · exact (ht0.step (State.modGroup_agree _ _ _) rfl)
    · exact ht0
  · exact (Agree.refl 40 s)

theorem State.writeRatio_agree (s : State) (w : RegWrite) (off : ℕ) (field : Word) :
    Agree 33554440 s (State.writeRatio s w off field) := by
  unfold State.writeRatio
  extract_lets -underBinder -merge t0
  have ht0 : Agree 33554440 s t0 := ((Agree.refl 33554440 s).step (State.put_agree _ _ _ _ _) rfl)
  try clear_value t0
  refine Agree.ite ?_ ?_
  · exact (ht0.step (State.modClock_agree _ _) rfl)
  · exact ht0

theorem State.writeClock_agree (s : State) (w : RegWrite) (off : ℕ) :
    Agree 33554440 s (State.writeClock s w off) := by
  unfold State.writeClock
  extract_lets -underBinder -merge c0 t1 t2
  try clear_value c0
  have ht1 : Agree 33554440 s t1 := ((Agree.refl 33554440 s).step (State.put_agree _ _ _ _ _) rfl)
  try clear_value t1
  have ht2 : Agree 33554440 s t2 := by
    unfold t2
    refine Agree.ite ?_ ?_
    · exact ((Agree.refl 33554440 s).step (State.syncArm_agree _) rfl)
    · exact (Agree.refl 33554440 s)
  try clear_value t2
  refine Agree.ite ?_ ?_
  · exact ((Agree.refl 33554440 s).step (State.put_agree _ _ _ _ _) rfl)
  · refine Agree.ite ?_ ?_
    · exact ((Agree.refl 33554440 s).step (State.writeRatio_agree _ _ _ _) rfl)
    · refine Agree.ite ?_ ?_
      · exact ((Agree.refl 33554440 s).step (State.writeRatio_agree _ _ _ _) rfl)
      · refine Agree.ite ?_ ?_
        · refine Agree.ite ?_ ?_
          · exact (ht1.step (State.clearBands_agree _) rfl)
          · exact ht1
        · refine Agree.ite ?_ ?_
          · exact ((Agree.refl 33554440 s).step (State.put_agree _ _ _ _ _) rfl)
          · refine Agree.ite ?_ ?_
            · exact ((Agree.refl 33554440 s).step (State.wr_agree _ _ _ _) rfl)
            · refine Agree.ite ?_ ?_
              · exact (((Agree.refl 33554440 s).step (State.put_agree _ _ _ _ _) rfl).step (State.clampDelay_agree _) rfl)
              · refine Agree.ite ?_ ?_
                · refine Agree.ite ?_ ?_
                  · exact (ht2.step (State.syncFire_agree _) rfl)
                  · exact ht2
                · exact (Agree.refl 33554440 s)

theorem State.writePin_agree (s : State) (w : RegWrite) : Agree 524296 s (State.writePin s w) := by
  unfold State.writePin
  extract_lets -underBinder -merge c0 c1
  try clear_value c0
  try clear_value c1
  refine Agree.ite ?_ ?_
  · exact (Agree.refl 524296 s)
  · refine Agree.ite ?_ ?_
    · exact ((Agree.refl 524296 s).step (State.pinStart_agree _ _ _) rfl)
    · exact ((Agree.refl 524296 s).step (State.wr_agree _ _ _ _) rfl)

theorem State.writeCal_agree (s : State) (w : RegWrite) (off : ℕ) : Agree 5341192 s (State.writeCal s w off) := by
  unfold State.writeCal
  extract_lets -underBinder -merge c0 t1
  try clear_value c0
  have ht1 : Agree 5341192 s t1 := ((Agree.refl 5341192 s).step (State.put_agree _ _ _ _ _) rfl)
  try clear_value t1
  refine Agree.ite ?_ ?_
  · exact ((Agree.refl 5341192 s).step (State.writeCalMode_agree _ _) rfl)
  · refine Agree.ite ?_ ?_
    · exact ((Agree.refl 5341192 s).step (State.put_agree _ _ _ _ _) rfl)
    · refine Agree.ite ?_ ?_
      · exact ((Agree.refl 5341192 s).step (State.put_agree _ _ _ _ _) rfl)
      · refine Agree.ite ?_ ?_
        · exact ((Agree.refl 5341192 s).step (State.put_agree _ _ _ _ _) rfl)
        · refine Agree.ite ?_ ?_
          · exact ((Agree.refl 5341192 s).step (State.writeRotation_agree _ _) rfl)
          · refine Agree.ite ?_ ?_
            · refine Agree.ite ?_ ?_
              · exact (ht1.step (State.calRebase_agree _ _) rfl)
              · exact ht1
            · refine Agree.ite ?_ ?_
              · refine Agree.ite ?_ ?_
                · exact ((Agree.refl 5341192 s).step (State.legacyStart_agree _) rfl)
                · exact (Agree.refl 5341192 s)
              · exact (Agree.refl 5341192 s)

theorem State.writeLedger_agree (s : State) (w : RegWrite) (off : ℕ) :
    Agree 1048584 s (State.writeLedger s w off) := by
  unfold State.writeLedger
  extract_lets -underBinder -merge c0
  try clear_value c0
  refine Agree.ite ?_ ?_
  · refine Agree.ite ?_ ?_
    · exact ((Agree.refl 1048584 s).step (State.timeSet_agree _ _) rfl)
    · exact (Agree.refl 1048584 s)
  · refine Agree.ite ?_ ?_
    · exact ((Agree.refl 1048584 s).step (State.put_agree _ _ _ _ _) rfl)
    · exact (Agree.refl 1048584 s)

theorem State.writeCart_agree (s : State) (w : RegWrite) (off : ℕ) : Agree 72450140 s (State.writeCart s w off) := by
  unfold State.writeCart
  extract_lets -underBinder -merge c0 t1 t2 t3 t4
  try clear_value c0
  have ht1 : Agree 72450140 s t1 := ((Agree.refl 72450140 s).step (State.put_agree _ _ _ _ _) rfl)
  try clear_value t1
  have ht2 : Agree 72450140 s t2 := by
    unfold t2
    refine Agree.ite ?_ ?_
    · exact (ht1.step (State.selectSlot_agree _ _) rfl)
    · exact ht1
  try clear_value t2
  have ht3 : Agree 72450140 s t3 := ((Agree.refl 72450140 s).step (State.put_agree _ _ _ _ _) rfl)
  try clear_value t3
  have ht4 : Agree 72450140 s t4 := by
    unfold t4
    refine Agree.ite ?_ ?_
    · exact ((ht3.step (State.transferStart_agree _ _) rfl).step (State.spend_agree _) rfl)
    · exact ht3
  try clear_value t4
  refine Agree.ite ?_ ?_
  · refine Agree.ite ?_ ?_
    · exact (ht2.step (State.contClear_agree _) rfl)
    · exact ht2
  · refine Agree.ite ?_ ?_
    · refine Agree.ite ?_ ?_
      · exact (ht4.step (State.transferFails_agree _ _) rfl)
      · exact ht4
    · refine Agree.ite ?_ ?_
      · exact ((Agree.refl 72450140 s).step (State.infoSelect_agree _ _) rfl)
      · exact (Agree.refl 72450140 s)

theorem State.writeEvent_agree (s : State) (w : RegWrite) (off : ℕ) :
    Agree 536977416 s (State.writeEvent s w off) := by
  unfold State.writeEvent
  extract_lets -underBinder -merge c0 c1
  try clear_value c0
  try clear_value c1
  refine Agree.ite ?_ ?_
  · exact ((Agree.refl 536977416 s).step (State.put_agree _ _ _ _ _) rfl)
  · refine Agree.ite ?_ ?_
    · exact ((Agree.refl 536977416 s).step (State.strobe_agree _ _) rfl)
    · refine Agree.ite ?_ ?_
      · exact ((Agree.refl 536977416 s).step (State.put_agree _ _ _ _ _) rfl)
      · refine Agree.ite ?_ ?_
        · exact ((Agree.refl 536977416 s).step (State.firstQuery_agree _ _) rfl)
        · refine Agree.ite ?_ ?_
          · exact ((Agree.refl 536977416 s).step (State.clearChannels_agree _ _ _) rfl)
          · refine Agree.ite ?_ ?_
            · refine Agree.ite ?_ ?_
              · exact ((Agree.refl 536977416 s).step (State.testCtrl_agree _ _) rfl)
              · exact (Agree.refl 536977416 s)
            · refine Agree.ite ?_ ?_
              · refine Agree.ite ?_ ?_
                · exact ((Agree.refl 536977416 s).step (State.writeHook_agree _ _ _ _) rfl)
                · exact ((Agree.refl 536977416 s).step (State.put_agree _ _ _ _ _) rfl)
              · exact (Agree.refl 536977416 s)

theorem State.writeEvchan_agree (s : State) (w : RegWrite) (k : ℕ) (off : ℕ) :
    Agree 98312 s (State.writeEvchan s w k off) := by
  unfold State.writeEvchan
  extract_lets -underBinder -merge c0
  try clear_value c0
  refine Agree.ite ?_ ?_
  · exact (Agree.refl 98312 s)
  · refine Agree.ite ?_ ?_
    · exact ((Agree.refl 98312 s).step (State.setChanStat_agree _ _ _) rfl)
    · exact ((Agree.refl 98312 s).step (State.writeChannel_agree _ _ _ _ _) rfl)

theorem State.writeTimer_agree (s : State) (w : RegWrite) (off : ℕ) : Agree 24584 s (State.writeTimer s w off) := by
  unfold State.writeTimer
  extract_lets -underBinder -merge c0 c1
  try clear_value c0
  try clear_value c1
  refine Agree.ite ?_ ?_
  · refine Agree.ite ?_ ?_
    · exact ((Agree.refl 24584 s).step (State.put_agree _ _ _ _ _) rfl)
    · refine Agree.ite ?_ ?_
      · exact (Agree.refl 24584 s)
      · exact ((Agree.refl 24584 s).step (State.put_agree _ _ _ _ _) rfl)
  · refine Agree.ite ?_ ?_
    · exact ((Agree.refl 24584 s).step (State.writeHook_agree _ _ _ _) rfl)
    · refine Agree.ite ?_ ?_
      · exact ((Agree.refl 24584 s).step (State.snapTimer_agree _ _) rfl)
      · refine Agree.ite ?_ ?_
        · refine Agree.foldl (fun t2 x2 h2 => ?_) ?_
          · exact (h2.step (State.timerStart_agree _ _ _) rfl)
          · exact (Agree.refl 24584 s)
        · refine Agree.ite ?_ ?_
          · refine Agree.foldl (fun t3 x3 h3 => ?_) ?_
            · exact (h3.step (State.timerStop_agree _ _) rfl)
            · exact (Agree.refl 24584 s)
          · exact (Agree.refl 24584 s)

theorem State.writeWmon_agree (s : State) (w : RegWrite) (off : ℕ) : Agree 8388616 s (State.writeWmon s w off) := by
  unfold State.writeWmon
  extract_lets -underBinder -merge c0 c1
  try clear_value c0
  try clear_value c1
  refine Agree.ite ?_ ?_
  · refine Agree.ite ?_ ?_
    · exact (Agree.refl 8388616 s)
    · split
      · exact ((Agree.refl 8388616 s).step (State.writeMonCfg_agree _ _ _) rfl)
      · exact ((Agree.refl 8388616 s).step (State.put_agree _ _ _ _ _) rfl)
      · exact ((Agree.refl 8388616 s).step (State.put_agree _ _ _ _ _) rfl)
      · exact ((Agree.refl 8388616 s).step (State.put_agree _ _ _ _ _) rfl)
      · exact ((Agree.refl 8388616 s).step (State.put_agree _ _ _ _ _) rfl)
      · exact (Agree.refl 8388616 s)
  · refine Agree.ite ?_ ?_
    · exact ((Agree.refl 8388616 s).step (State.wr_agree _ _ _ _) rfl)
    · exact (Agree.refl 8388616 s)

theorem State.writeTrip_agree (s : State) (w : RegWrite) (off : ℕ) : Agree 22118488 s (State.writeTrip s w off) := by
  unfold State.writeTrip
  refine Agree.ite ?_ ?_
  · exact ((Agree.refl 22118488 s).step (State.clearTrips_agree _ _) rfl)
  · refine Agree.ite ?_ ?_
    · exact ((Agree.refl 22118488 s).step (State.put_agree _ _ _ _ _) rfl)
    · exact (Agree.refl 22118488 s)

theorem State.writeSystem_agree (s : State) (w : RegWrite) (page : ℕ) (off : ℕ) :
    Agree 1853467772 s (State.writeSystem s w page off) := by
  unfold State.writeSystem
  extract_lets -underBinder -merge c0
  try clear_value c0
  split
  · exact ((Agree.refl 1853467772 s).step (State.writeHost_agree _ _ _) rfl)
  · exact ((Agree.refl 1853467772 s).step (State.writeSecurity_agree _ _ _) rfl)
  · refine Agree.ite ?_ ?_
    · exact (Agree.refl 1853467772 s)
    · exact ((Agree.refl 1853467772 s).step (State.writeTwin_agree _ _ _) rfl)
  · exact ((Agree.refl 1853467772 s).step (State.writeHealth_agree _ _ _) rfl)
  · exact ((Agree.refl 1853467772 s).step (State.writeGlobal_agree _ _ _) rfl)
  · refine Agree.ite ?_ ?_
    · exact ((Agree.refl 1853467772 s).step (State.writeTimeout_agree _ _) rfl)
    · exact (Agree.refl 1853467772 s)
  · exact (Agree.refl 1853467772 s)

theorem State.writeTables_agree (s : State) (w : RegWrite) (off : ℕ) :
    Agree 33657224 s (State.writeTables s w off) := by
  unfold State.writeTables
  extract_lets -underBinder -merge c0
  try clear_value c0
  refine Agree.ite ?_ ?_
  · exact ((Agree.refl 33657224 s).step (State.tblSel_agree _ _ _) rfl)
  · refine Agree.ite ?_ ?_
    · exact ((Agree.refl 33657224 s).step (State.tblIndex_agree _ _ _) rfl)
    · refine Agree.ite ?_ ?_
      · exact ((Agree.refl 33657224 s).step (State.tblWrite_agree _ _ _) rfl)
      · exact (Agree.refl 33657224 s)

theorem State.writeBlock_agree (s : State) (w : RegWrite) (page : ℕ) (off : ℕ) :
    Agree 1878654460 s (State.writeBlock s w page off) := by
  unfold State.writeBlock
  split
  · exact ((Agree.refl 1878654460 s).step (State.writePort_agree _ _ _ _) rfl)
  · exact ((Agree.refl 1878654460 s).step (State.writeSpare_agree _ _ _ _) rfl)
  · exact ((Agree.refl 1878654460 s).step (State.writeGroup_agree _ _ _ _) rfl)
  · exact ((Agree.refl 1878654460 s).step (State.writeClock_agree _ _ _) rfl)
  · refine Agree.ite ?_ ?_
    · exact ((Agree.refl 1878654460 s).step (State.writeForceDouble_agree _ _ _) rfl)
    · exact (Agree.refl 1878654460 s)
  · refine Agree.ite ?_ ?_
    · exact ((Agree.refl 1878654460 s).step (State.put_agree _ _ _ _ _) rfl)
    · refine Agree.ite ?_ ?_
      · exact ((Agree.refl 1878654460 s).step (State.put_agree _ _ _ _ _) rfl)
      · exact (Agree.refl 1878654460 s)
  · refine Agree.ite ?_ ?_
    · exact ((Agree.refl 1878654460 s).step (State.writePin_agree _ _) rfl)
    · exact (Agree.refl 1878654460 s)
  · exact ((Agree.refl 1878654460 s).step (State.writeCal_agree _ _ _) rfl)
  · exact ((Agree.refl 1878654460 s).step (State.writeLedger_agree _ _ _) rfl)
  · exact ((Agree.refl 1878654460 s).step (State.writeCart_agree _ _ _) rfl)
  · exact ((Agree.refl 1878654460 s).step (State.writeEvent_agree _ _ _) rfl)
  · exact ((Agree.refl 1878654460 s).step (State.writeEvchan_agree _ _ _ _) rfl)
  · exact ((Agree.refl 1878654460 s).step (State.writeTimer_agree _ _ _) rfl)
  · exact ((Agree.refl 1878654460 s).step (State.writeWmon_agree _ _ _) rfl)
  · exact ((Agree.refl 1878654460 s).step (State.writeTrip_agree _ _ _) rfl)
  · exact ((Agree.refl 1878654460 s).step (State.writeTables_agree _ _ _) rfl)
  · exact (Agree.refl 1878654460 s)
  · exact (Agree.refl 1878654460 s)
  · exact ((Agree.refl 1878654460 s).step (State.writeSystem_agree _ _ _ _) rfl)

theorem State.writeReg_agree (s : State) (w : RegWrite) (a : ℕ) : Agree 2147483644 s (State.writeReg s w a) := by
  unfold State.writeReg
  extract_lets -underBinder -merge c0 c1
  try clear_value c0
  try clear_value c1
  refine Agree.ite ?_ ?_
  · exact (Agree.refl 2147483644 s)
  · refine Agree.ite ?_ ?_
    · exact ((Agree.refl 2147483644 s).step (State.writeCtrl_agree _ _ _) rfl)
    · refine Agree.ite ?_ ?_
      · exact ((Agree.refl 2147483644 s).step (State.writeHeader_agree _ _ _ _) rfl)
      · exact ((Agree.refl 2147483644 s).step (State.writeBlock_agree _ _ _ _) rfl)

theorem State.writeWords_agree (s : State) (words : List (ℕ × RegWrite)) :
    Agree 2147483644 s (State.writeWords s words) := by
  unfold State.writeWords
  extract_lets -underBinder -merge c0
  try clear_value c0
  refine Agree.foldl (fun t1 x1 h1 => ?_) ?_
  · extract_lets -underBinder -merge c2 c3
    try clear_value c2
    try clear_value c3
    refine Agree.foldl (fun t4 x4 h4 => ?_) ?_
    · exact (h4.step (State.writeReg_agree _ _ _) rfl)
    · exact h1
  · exact (Agree.refl 2147483644 s)

theorem execRegisterWrite_agree (p : I3cPort) (addr : ℕ) (mask : Word) (value : Word) (s : State) :
    Result.Agrees 2147483644 s (execRegisterWrite p addr mask value s) := by
  unfold execRegisterWrite
  exact Result.Agrees.next ((Agree.refl 2147483644 s).step (State.writeReg_agree _ _ _) rfl)

/-! ### Mirror -/

theorem State.joinArmed_agree (s : State) (a : ℕ) : Agree 139569276 s (State.joinArmed s a) := by
  unfold State.joinArmed
  split
  · exact (Agree.refl 139569276 s)
  · exact ((Agree.refl 139569276 s).step (State.beginJoin_agree _ _) rfl)

theorem State.scheduled_agree (s : State) (c : Scheduled) : Agree 2147483644 s (State.scheduled s c) := by
  unfold State.scheduled
  split
  · refine Agree.ite ?_ ?_
    · exact (((Agree.refl 2147483644 s).step (State.writeReg_agree _ _ _) rfl).step (State.joinArmed_agree _ _) rfl)
    · exact (Agree.refl 2147483644 s)
  · exact ((Agree.refl 2147483644 s).step (State.modTwin_agree _ _) rfl)
  · refine Agree.foldl (fun t0 x0 h0 => ?_) ?_
    · exact (h0.step (State.tripPort_agree _ _) rfl)
    · exact (Agree.refl 2147483644 s)

theorem execScheduleMessage_agree (f : LinkFrame) (c : Scheduled) (s : State) :
    Result.Agrees 2147483644 s (execScheduleMessage f c s) := by
  unfold execScheduleMessage
  refine Result.Agrees.next ?_
  refine Agree.frame ?_ rfl ?_
  · exact (Agree.refl 2147483644 s)
  · intro t0 h0
    refine Agree.ite ?_ ?_
    · exact (h0.step (State.scheduled_agree _ _) rfl)
    · exact h0

theorem State.settleShadow_agree (s : State) (a : ℕ) : Agree 33554488 s (State.settleShadow s a) := by
  unfold State.settleShadow
  split
  · refine Agree.ite ?_ ?_
    · exact (Agree.refl 33554488 s)
    · exact ((Agree.refl 33554488 s).step (State.transfer_agree _ _ _) rfl)
  · exact ((Agree.refl 33554488 s).step (State.commitGroup_agree _ _) rfl)
  · refine Agree.ite ?_ ?_
    · exact (((Agree.refl 33554488 s).step (State.modClock_agree _ _) rfl).step (State.setRatio_agree _ _) rfl)
    · exact (Agree.refl 33554488 s)
  · exact (Agree.refl 33554488 s)

theorem State.configured_agree (s : State) (c : ConfigItem) : Agree 2147483644 s (State.configured s c) := by
  unfold State.configured
  split
  · refine Agree.ite ?_ ?_
    · exact (((Agree.refl 2147483644 s).step (State.writeReg_agree _ _ _) rfl).step (State.settleShadow_agree _ _) rfl)
    · exact (Agree.refl 2147483644 s)
  · exact ((Agree.refl 2147483644 s).setEntries rfl)
  · exact ((Agree.refl 2147483644 s).setDescs rfl)
  · exact ((Agree.refl 2147483644 s).step (State.allocate_agree _ _ _) rfl)

theorem execConfigMessage_agree (f : LinkFrame) (item : ConfigItem) (s : State) :
    Result.Agrees 2147483644 s (execConfigMessage f item s) := by
  unfold execConfigMessage
  refine Result.Agrees.next ?_
  refine Agree.frame ?_ rfl ?_
  · exact (Agree.refl 2147483644 s)
  · intro t0 h0
    refine Agree.ite ?_ ?_
    · exact (h0.step (State.configured_agree _ _) rfl)
    · exact h0

/-! ### Envelope -/

theorem State.hearOwner_agree (s : State) (p : I3cPort) (bytes : List Byte) :
    Agree 131072 s (State.hearOwner s p bytes) := by
  unfold State.hearOwner
  split
  · extract_lets -underBinder -merge c0
    try clear_value c0
    refine Agree.ite ?_ ?_
    · exact ((Agree.refl 131072 s).setOwner rfl)
    · exact (Agree.refl 131072 s)
  · exact (Agree.refl 131072 s)

theorem State.doRead_agree (s : State) (p : I3cPort) (e : Envelope) : Agree 67207180 s (State.doRead s p e).2 := by
  unfold State.doRead
  extract_lets -underBinder -merge c0 c1
  try clear_value c0
  try clear_value c1
  refine Agree.foldl2 (fun t2 x2 h2 => ?_) ?_
  · extract_lets -underBinder -merge c3 t4
    try clear_value c3
    have ht4 : Agree 67207180 s t4.2 := (h2.step (State.readReg_agree _ _ _ _) rfl)
    try clear_value t4
    refine Agree.ite2 ?_ ?_
    · exact h2.snd
    · exact ht4.snd
  · exact (Agree.refl 67207180 s).snd

theorem State.doWrite_agree (s : State) (p : I3cPort) (e : Envelope) : Agree 2147483644 s (State.doWrite s p e) := by
  unfold State.doWrite
  extract_lets -underBinder -merge c0 c1
  try clear_value c0
  try clear_value c1
  exact ((Agree.refl 2147483644 s).step (State.writeWords_agree _ _) rfl)

theorem State.perform_agree (s : State) (p : I3cPort) (e : Envelope) :
    Agree 2147483644 s (State.perform s p e).2 := by
  unfold State.perform
  split
  · exact ((Agree.refl 2147483644 s).step (State.doRead_agree _ _ _) rfl)
  · exact ((Agree.refl 2147483644 s).step (State.doWrite_agree _ _ _) rfl).snd
  · exact ((Agree.refl 2147483644 s).step (State.doWrite_agree _ _ _) rfl).snd
  · exact ((Agree.refl 2147483644 s).step (State.claim_agree _ _ _) rfl).snd
  · exact ((Agree.refl 2147483644 s).step (State.releaseOwner_agree _) rfl).snd
  · exact ((Agree.refl 2147483644 s).step (State.handover_agree _ _) rfl).snd
  · exact ((Agree.refl 2147483644 s).step (State.accept_agree _ _ _) rfl).snd
  · exact (Agree.refl 2147483644 s).snd
  · extract_lets -underBinder -merge t0
    have ht0 : Agree 2147483644 s t0 := ((Agree.refl 2147483644 s).step (State.startReport_agree _ _) rfl)
    try clear_value t0
    exact ht0.snd

theorem State.countRefusal_agree (s : State) (status : ℕ) : Agree 98312 s (State.countRefusal s status) := by
  unfold State.countRefusal
  refine Agree.ite ?_ ?_
  · exact (((Agree.refl 98312 s).step (State.countField_agree _ _ _ _ _ _) rfl).step (State.flag_agree _ _ _) rfl)
  · refine Agree.ite ?_ ?_
    · exact (((Agree.refl 98312 s).step (State.countField_agree _ _ _ _ _ _) rfl).step (State.flag_agree _ _ _) rfl)
    · refine Agree.ite ?_ ?_
      · exact (((Agree.refl 98312 s).step (State.countField_agree _ _ _ _ _ _) rfl).step (State.flag_agree _ _ _) rfl)
      · exact (((Agree.refl 98312 s).step (State.countField_agree _ _ _ _ _ _) rfl).step (State.flag_agree _ _ _) rfl)

theorem State.finishCommits_agree (s : State) : Agree 709994616 s (State.finishCommits s) := by
  unfold State.finishCommits
  extract_lets -underBinder -merge t0
  have ht0 : Agree 709994616 s t0 := by
    unfold t0
    refine Agree.foldl (fun t1 x1 h1 => ?_) ?_
    · refine Agree.ite ?_ ?_
      · exact (((h1.step (State.modPort_agree _ _ _) rfl).step (State.latchTransfer_agree _ _ _) rfl).step (State.commitOn_agree _) rfl)
      · exact h1
    · exact (Agree.refl 709994616 s)
  try clear_value t0
  refine Agree.ite ?_ ?_
  · exact (Agree.refl 709994616 s)
  · refine Agree.ite ?_ ?_
    · exact (ht0.step (State.clockTransfer_agree _) rfl)
    · exact ht0

theorem State.answer_agree (s : State) (p : I3cPort) (bytes : List Byte) :
    Agree 2147483644 s (State.answer s p bytes) := by
  unfold State.answer
  extract_lets -underBinder -merge c0 c1
  try clear_value c0
  try clear_value c1
  split
  · exact ((Agree.refl 2147483644 s).step (State.modI3c_agree _ _ _) rfl)
  · split
    · exact (((Agree.refl 2147483644 s).step (State.countRefusal_agree _ _) rfl).step (State.modI3c_agree _ _ _) rfl)
    · extract_lets -underBinder -merge t2 c3
      have ht2 : Agree 2147483644 s t2.2 := ((Agree.refl 2147483644 s).step (State.perform_agree _ _ _) rfl)
      try clear_value t2
      try clear_value c3
      refine Agree.ite ?_ ?_
      · exact ht2
      · exact (ht2.step (State.modI3c_agree _ _ _) rfl)

theorem State.envelope_agree (s : State) (p : I3cPort) (bytes : List Byte) :
    Agree 2147483644 s (State.envelope s p bytes) := by
  unfold State.envelope
  refine Agree.ite ?_ ?_
  · exact (Agree.refl 2147483644 s)
  · exact ((((((Agree.refl 2147483644 s).step (State.finishCommits_agree _) rfl).step (State.ownerDue_agree _) rfl).step (State.hearOwner_agree _ _ _) rfl).step (State.modI3c_agree _ _ _) rfl).step (State.answer_agree _ _ _) rfl)

theorem execRead_agree (p : I3cPort) (bytes : List Byte) (s : State) :
    Result.Agrees 2147483644 s (execRead p bytes s) := by
  unfold execRead
  exact Result.Agrees.next ((Agree.refl 2147483644 s).step (State.envelope_agree _ _ _) rfl)

theorem execWrite_agree (p : I3cPort) (bytes : List Byte) (s : State) :
    Result.Agrees 2147483644 s (execWrite p bytes s) := by
  unfold execWrite
  exact Result.Agrees.next ((Agree.refl 2147483644 s).step (State.envelope_agree _ _ _) rfl)

theorem execWriteMask_agree (p : I3cPort) (bytes : List Byte) (s : State) :
    Result.Agrees 2147483644 s (execWriteMask p bytes s) := by
  unfold execWriteMask
  exact Result.Agrees.next ((Agree.refl 2147483644 s).step (State.envelope_agree _ _ _) rfl)

theorem execClaim_agree (p : I3cPort) (bytes : List Byte) (s : State) :
    Result.Agrees 2147483644 s (execClaim p bytes s) := by
  unfold execClaim
  exact Result.Agrees.next ((Agree.refl 2147483644 s).step (State.envelope_agree _ _ _) rfl)

theorem execRelease_agree (p : I3cPort) (bytes : List Byte) (s : State) :
    Result.Agrees 2147483644 s (execRelease p bytes s) := by
  unfold execRelease
  exact Result.Agrees.next ((Agree.refl 2147483644 s).step (State.envelope_agree _ _ _) rfl)

theorem execHandover_agree (p : I3cPort) (bytes : List Byte) (s : State) :
    Result.Agrees 2147483644 s (execHandover p bytes s) := by
  unfold execHandover
  exact Result.Agrees.next ((Agree.refl 2147483644 s).step (State.envelope_agree _ _ _) rfl)

theorem execAccept_agree (p : I3cPort) (bytes : List Byte) (s : State) :
    Result.Agrees 2147483644 s (execAccept p bytes s) := by
  unfold execAccept
  exact Result.Agrees.next ((Agree.refl 2147483644 s).step (State.envelope_agree _ _ _) rfl)

theorem execHeartbeat_agree (p : I3cPort) (bytes : List Byte) (s : State) :
    Result.Agrees 2147483644 s (execHeartbeat p bytes s) := by
  unfold execHeartbeat
  exact Result.Agrees.next ((Agree.refl 2147483644 s).step (State.envelope_agree _ _ _) rfl)

theorem execAttest_agree (p : I3cPort) (bytes : List Byte) (s : State) :
    Result.Agrees 2147483644 s (execAttest p bytes s) := by
  unfold execAttest
  exact Result.Agrees.next ((Agree.refl 2147483644 s).step (State.envelope_agree _ _ _) rfl)

theorem execNoSuchOpcode_agree (p : I3cPort) (bytes : List Byte) (s : State) :
    Result.Agrees 2147483644 s (execNoSuchOpcode p bytes s) := by
  unfold execNoSuchOpcode
  exact Result.Agrees.next ((Agree.refl 2147483644 s).step (State.envelope_agree _ _ _) rfl)

theorem execReplyRead_agree (p : I3cPort) (s : State) : Result.Agrees 98304 s (execReplyRead p s) := by
  unfold execReplyRead
  refine Result.Agrees.next ?_
  refine Agree.ite ?_ ?_
  · exact ((Agree.refl 98304 s).step (State.modI3c_agree _ _ _) rfl)
  · exact (Agree.refl 98304 s)

end Machine
end Sys2Proof
end

