-- ==== Sys2Proof/Laws/Exec.lean ====
section
/-! SUPPORT. Which areas of the state each command can change: the mask of its constructor, and that exec keeps to it. -/

namespace Sys2Proof
namespace Machine

/-- The areas a command can change, bit i for the i-th area. -/
def Instr.footprint : Instr → Nat
  | .read _ _ => 2147483644
  | .write _ _ => 2147483644
  | .writeMask _ _ => 2147483644
  | .claim _ _ => 2147483644
  | .release _ _ => 2147483644
  | .handover _ _ => 2147483644
  | .accept _ _ => 2147483644
  | .heartbeat _ _ => 2147483644
  | .attest _ _ => 2147483644
  | .replyRead _ => 98304
  | .enec _ => 98304
  | .disec _ => 98304
  | .rstdaa _ => 98304
  | .entdaa _ _ => 98304
  | .setdasa _ _ _ => 98304
  | .setnewda _ _ => 98304
  | .getpid _ => 98304
  | .getbcr _ => 98304
  | .getdcr _ => 98304
  | .getcaps _ => 98304
  | .enthdr0 _ => 98304
  | .getstatus _ => 98304
  | .getmwl _ => 98304
  | .getmrl _ => 98304
  | .setmwl _ _ => 98304
  | .setmrl _ _ => 98304
  | .rstact _ _ _ => 98304
  | .targetResetPattern _ => 98304
  | .ibiDelivery _ _ => 98304
  | .bulkWriteTlp _ _ => 360456
  | .bulkReadTlp _ _ _ => 360460
  | .postedWriteDrain _ => 363016
  | .pePerst _ => 2149949448
  | .bulkLinkDown => 2465800
  | .jtagIdcode => 2147483652
  | .jtagBypass => 2147483652
  | .jtagSamplePreload => 2147483652
  | .jtagExtest => 2147483652
  | .registerWrite _ _ _ _ => 2147483644
  | .requestOff _ => 48
  | .requestParked _ => 48
  | .requestArmed _ => 48
  | .requestRun _ => 48
  | .requestPaused _ => 48
  | .requestDelivery _ => 5343356
  | .pageCommit _ => 34701368
  | .commitAll => 34701368
  | .commitDelivery _ => 56
  | .transferEffect _ => 16
  | .unitReset _ _ => 1073741820
  | .tblDataWrite _ _ => 33657224
  | .tblDataRead _ => 98308
  | .tblSelWrite _ _ => 98304
  | .tblIndexWrite _ _ => 98304
  | .portPosRead _ _ => 67207180
  | .ratioStatusRead _ _ => 67207180
  | .loRegisterRead _ _ => 67207180
  | .infoSelWrite _ => 67108872
  | .infoDataRead _ => 67207180
  | .swStrobe _ => 8192
  | .firstQuery _ => 8
  | .snapSel _ => 16392
  | .timerStart _ => 16384
  | .timerStop _ => 16384
  | .testCtrlSingle _ => 536977416
  | .channelConfigWrite _ _ _ _ => 98312
  | .tripClear _ => 22118488
  | .tripForce _ => 8
  | .tripSelWrite _ _ _ => 5349464
  | .outSwitchWrite _ _ => 5341276
  | .syncArm => 33554440
  | .syncFire => 33554432
  | .bandTableClear => 33554432
  | .forceDoubleWrite _ _ => 99336
  | .pin _ => 524296
  | .unpin _ => 524296
  | .pinComplete _ => 100364
  | .spareTargetWrite _ _ => 5341276
  | .substitute _ => 5341276
  | .returnPort _ => 98376
  | .groupEnWrite _ => 8
  | .calRebase _ => 4194312
  | .legacyCtrlGo => 5341192
  | .select _ => 72450056
  | .contClear => 72450056
  | .transferGo _ => 72450136
  | .transferAbort => 68255752
  | .attestStart => 524288
  | .load => 622600
  | .switch => 622600
  | .confirm => 1075413000
  | .revert => 537501704
  | .cancel => 622600
  | .swap => 134217728
  | .join => 139569276
  | .abortJoin => 134217728
  | .twinRoleWrite _ => 707895324
  | .bindoffGo => 1819913340
  | .timeSet _ => 1048584
  | .pulseFire _ => 24
  | .monitorEnable _ => 8388616
  | .monitorDisable _ => 8388616
  | .syncEnWrite _ _ => 8388616
  | .fabricEvent _ => 106504
  | .trigEdge _ _ => 2147491840
  | .ppsEdge _ => 2148638728
  | .hookJump _ _ => 8240
  | .hookStart _ => 8248
  | .hookStop _ => 8240
  | .hookPause _ => 8240
  | .hookNco _ => 8208
  | .hookCommit _ => 8208
  | .hookTstart _ => 24576
  | .hookTstop _ => 24576
  | .hookTcapt _ => 122888
  | .gcHook _ => 8200
  | .timerWindowOpen _ => 16384
  | .timerExpire _ => 122888
  | .commitPoint _ _ => 2203704
  | .passEnd _ _ => 136423544
  | .startEffect _ _ => 136423544
  | .pauseEffect _ _ => 139567224
  | .stopEffect _ _ => 139569272
  | .immediateJumpEffect _ _ => 141666424
  | .waitRelease _ _ => 136423544
  | .waitTimeout _ _ => 136423544
  | .gapEnd _ _ => 141666424
  | .selvedgeEnd _ _ => 136423544
  | .missingSlot _ _ => 136423544
  | .underrunRecovery _ _ => 136423544
  | .fetchRequest _ => 24
  | .readComplete _ _ _ => 2203676
  | .refetchComplete _ _ _ _ => 2203676
  | .stagingComplete _ _ => 100412
  | .delayTapMove _ => 16
  | .powerDownComplete _ => 16
  | .powerUpComplete _ => 98328
  | .isolationSwitchStep _ => 16
  | .pulseLeadingEdge _ => 24
  | .pulseEnd _ => 16
  | .refreshTick _ => 1024
  | .refreshIssue _ _ => 1024
  | .forcedBatch _ _ => 99336
  | .stackTempReading _ _ => 99336
  | .crossingBatch _ _ => 1024
  | .parityAlert _ _ _ _ => 674341916
  | .trainingComplete _ _ => 1024
  | .refDetected _ => 709994616
  | .clockTransfer => 709994616
  | .refRemeasure _ => 33554456
  | .lockRunStart => 33554436
  | .bandFallback => 33652744
  | .lockRunComplete _ => 33554432
  | .guardEnd _ => 705798200
  | .firstLock => 705799228
  | .relockRefLoss => 33554432
  | .relockRefResume => 33554440
  | .lossOfReference => 712089688
  | .lossOfLock => 712089688
  | .returnQualified _ _ => 34701320
  | .slewEnd => 33554432
  | .stepCorrectionEnd => 33652744
  | .clockmonWindowEnd _ => 707895324
  | .syncEdge _ => 570531848
  | .alignmentEpoch _ => 705798200
  | .comparatorChange _ _ => 8495112
  | .thresholdStep _ _ => 8495112
  | .blankingEnd _ => 8495112
  | .sampledTick _ _ => 8495112
  | .tripLineAssert _ => 22118488
  | .tripLatch _ => 22650968
  | .tripPark _ _ => 134318200
  | .wakeRequest _ => 4294967288
  | .swatchStart _ _ => 5341272
  | .swatchPoint _ _ _ _ => 5341272
  | .swatchEnd _ => 5341276
  | .trimTap => 8487000
  | .targetRecompute _ => 4194304
  | .rotationStep _ => 5341276
  | .legacyPass => 5341192
  | .legacyRelease _ => 13729880
  | .lifelineCommitStart => 1077936128
  | .lifelineCommitComplete _ => 1081188360
  | .ledgerEntryProgram => 1074888712
  | .ledgerSecond => 1146888
  | .cartridgeInsert _ => 68255752
  | .cartridgeRemove _ => 72450136
  | .authenticationComplete _ _ => 72450136
  | .reauthentication _ _ => 72450136
  | .ovenReading _ _ => 72450136
  | .ovenReadingTimeout _ => 72450136
  | .lifeLogUpdate _ _ _ => 68255752
  | .transferPoint _ _ => 67108864
  | .transferSwitch => 68255752
  | .transferTimeout => 68255752
  | .lapse => 1277960
  | .handoverExpiry => 1277960
  | .attestReportReady => 622604
  | .fwVerifyComplete _ _ => 1075413004
  | .fwProgramComplete _ => 1075413000
  | .quiescentPoint => 537501704
  | .quietTimeout => 1671176
  | .newImageStart _ => 1612292104
  | .linkTrained => 134217736
  | .linkLoss => 171026492
  | .twinHeartbeat _ _ => 179415100
  | .faultMessage _ _ _ => 179415100
  | .scheduleMessage _ _ => 2147483644
  | .digestMessage _ _ => 179415100
  | .epochMessage _ => 716286012
  | .swapMessage _ => 179415100
  | .joinMessage _ _ _ => 179415100
  | .configMessage _ _ => 2147483644
  | .idleMessage _ => 179415100
  | .digestWindow => 134217728
  | .leadActAcquire => 134217744
  | .watchdogRelease => 674340892
  | .heartbeatLoss => 136421384
  | .takeover => 707895324
  | .takeoverForceClose => 134217744
  | .pairFormation => 704749592
  | .followerLock => 167772160
  | .swapPrepare => 134217744
  | .swapInstant => 671195160
  | .swapForceClose => 134217744
  | .swapRelease => 135364636
  | .joinCapture => 134217728
  | .joinLoad => 139585660
  | .healthCheck _ => 7448696
  | .recoveryRewrite _ => 946970748
  | .recoveryResume _ => 135364732
  | .stageFault _ => 7448696
  | .spareStageFault _ => 7446616
  | .spareSettled _ => 98376
  | .handoverConnect _ => 64
  | .handoverComplete _ => 5341272
  | .hkWatchdogExpiry => 807510024
  | .hkRestartComplete => 806461452
  | .thermalCheck _ => 942776348
  | .analogRailLow _ => 1056024700
  | .analogRailRestored _ => 880910360
  | .suppliesValid => 805306368
  | .rstNLow => 3221225464
  | .brownOut _ => 1073741816
  | .resetEnd => 3759144960
  | .firmwareStart => 1794744412
  | .castOnReady => 607232024
  | .bindoffDone => 1827774556
  | .slotBoundary _ _ => 141666424
  | .senseOpen _ => 98312
  | .currentLimit _ => 98312
  | .bulkLinkUp _ _ => 360456
  | .ppsLost => 1048576
  | .noSuchOpcode _ _ => 2147483644

theorem exec_agree (c : Instr) (s : State) : Result.Agrees (Instr.footprint c) s (exec c s) := by
  cases c
  case read => exact execRead_agree _ _ _
  case write => exact execWrite_agree _ _ _
  case writeMask => exact execWriteMask_agree _ _ _
  case claim => exact execClaim_agree _ _ _
  case release => exact execRelease_agree _ _ _
  case handover => exact execHandover_agree _ _ _
  case accept => exact execAccept_agree _ _ _
  case heartbeat => exact execHeartbeat_agree _ _ _
  case attest => exact execAttest_agree _ _ _
  case replyRead => exact execReplyRead_agree _ _
  case enec => exact execEnec_agree _ _
  case disec => exact execDisec_agree _ _
  case rstdaa => exact execRstdaa_agree _ _
  case entdaa => exact execEntdaa_agree _ _ _
  case setdasa => exact execSetdasa_agree _ _ _ _
  case setnewda => exact execSetnewda_agree _ _ _
  case getpid => exact execGetpid_agree _ _
  case getbcr => exact execGetbcr_agree _ _
  case getdcr => exact execGetdcr_agree _ _
  case getcaps => exact execGetcaps_agree _ _
  case enthdr0 => exact execEnthdr0_agree _ _
  case getstatus => exact execGetstatus_agree _ _
  case getmwl => exact execGetmwl_agree _ _
  case getmrl => exact execGetmrl_agree _ _
  case setmwl => exact execSetmwl_agree _ _ _
  case setmrl => exact execSetmrl_agree _ _ _
  case rstact => exact execRstact_agree _ _ _ _
  case targetResetPattern => exact execTargetResetPattern_agree _ _
  case ibiDelivery => exact execIbiDelivery_agree _ _ _
  case bulkWriteTlp => exact execBulkWriteTlp_agree _ _ _
  case bulkReadTlp => exact execBulkReadTlp_agree _ _ _ _
  case postedWriteDrain => exact execPostedWriteDrain_agree _ _
  case pePerst => exact execPePerst_agree _ _
  case bulkLinkDown => exact execBulkLinkDown_agree _
  case jtagIdcode => exact execJtagIdcode_agree _
  case jtagBypass => exact execJtagBypass_agree _
  case jtagSamplePreload => exact execJtagSamplePreload_agree _
  case jtagExtest => exact execJtagExtest_agree _
  case registerWrite => exact execRegisterWrite_agree _ _ _ _ _
  case requestOff => exact execRequestOff_agree _ _
  case requestParked => exact execRequestParked_agree _ _
  case requestArmed => exact execRequestArmed_agree _ _
  case requestRun => exact execRequestRun_agree _ _
  case requestPaused => exact execRequestPaused_agree _ _
  case requestDelivery => exact execRequestDelivery_agree _ _
  case pageCommit => exact execPageCommit_agree _ _
  case commitAll => exact execCommitAll_agree _
  case commitDelivery => exact execCommitDelivery_agree _ _
  case transferEffect => exact execTransferEffect_agree _ _
  case unitReset => exact execUnitReset_agree _ _ _
  case tblDataWrite => exact execTblDataWrite_agree _ _ _
  case tblDataRead => exact execTblDataRead_agree _ _
  case tblSelWrite => exact execTblSelWrite_agree _ _ _
  case tblIndexWrite => exact execTblIndexWrite_agree _ _ _
  case portPosRead => exact execPortPosRead_agree _ _ _
  case ratioStatusRead => exact execRatioStatusRead_agree _ _ _
  case loRegisterRead => exact execLoRegisterRead_agree _ _ _
  case infoSelWrite => exact execInfoSelWrite_agree _ _
  case infoDataRead => exact execInfoDataRead_agree _ _
  case swStrobe => exact execSwStrobe_agree _ _
  case firstQuery => exact execFirstQuery_agree _ _
  case snapSel => exact execSnapSel_agree _ _
  case timerStart => exact execTimerStart_agree _ _
  case timerStop => exact execTimerStop_agree _ _
  case testCtrlSingle => exact execTestCtrlSingle_agree _ _
  case channelConfigWrite => exact execChannelConfigWrite_agree _ _ _ _ _
  case tripClear => exact execTripClear_agree _ _
  case tripForce => exact execTripForce_agree _ _
  case tripSelWrite => exact execTripSelWrite_agree _ _ _ _
  case outSwitchWrite => exact execOutSwitchWrite_agree _ _ _
  case syncArm => exact execSyncArm_agree _
  case syncFire => exact execSyncFire_agree _
  case bandTableClear => exact execBandTableClear_agree _
  case forceDoubleWrite => exact execForceDoubleWrite_agree _ _ _
  case pin => exact execPin_agree _ _
  case unpin => exact execUnpin_agree _ _
  case pinComplete => exact execPinComplete_agree _ _
  case spareTargetWrite => exact execSpareTargetWrite_agree _ _ _
  case substitute => exact execSubstitute_agree _ _
  case returnPort => exact execReturnPort_agree _ _
  case groupEnWrite => exact execGroupEnWrite_agree _ _
  case calRebase => exact execCalRebase_agree _ _
  case legacyCtrlGo => exact execLegacyCtrlGo_agree _
  case select => exact execSelect_agree _ _
  case contClear => exact execContClear_agree _
  case transferGo => exact execTransferGo_agree _ _
  case transferAbort => exact execTransferAbort_agree _
  case attestStart => exact execAttestStart_agree _
  case load => exact execLoad_agree _
  case switch => exact execSwitch_agree _
  case confirm => exact execConfirm_agree _
  case revert => exact execRevert_agree _
  case cancel => exact execCancel_agree _
  case swap => exact execSwap_agree _
  case join => exact execJoin_agree _
  case abortJoin => exact execAbortJoin_agree _
  case twinRoleWrite => exact execTwinRoleWrite_agree _ _
  case bindoffGo => exact execBindoffGo_agree _
  case timeSet => exact execTimeSet_agree _ _
  case pulseFire => exact execPulseFire_agree _ _
  case monitorEnable => exact execMonitorEnable_agree _ _
  case monitorDisable => exact execMonitorDisable_agree _ _
  case syncEnWrite => exact execSyncEnWrite_agree _ _ _
  case fabricEvent => exact execFabricEvent_agree _ _
  case trigEdge => exact execTrigEdge_agree _ _ _
  case ppsEdge => exact execPpsEdge_agree _ _
  case hookJump => exact execHookJump_agree _ _ _
  case hookStart => exact execHookStart_agree _ _
  case hookStop => exact execHookStop_agree _ _
  case hookPause => exact execHookPause_agree _ _
  case hookNco => exact execHookNco_agree _ _
  case hookCommit => exact execHookCommit_agree _ _
  case hookTstart => exact execHookTstart_agree _ _
  case hookTstop => exact execHookTstop_agree _ _
  case hookTcapt => exact execHookTcapt_agree _ _
  case gcHook => exact execGcHook_agree _ _
  case timerWindowOpen => exact execTimerWindowOpen_agree _ _
  case timerExpire => exact execTimerExpire_agree _ _
  case commitPoint => exact execCommitPoint_agree _ _ _
  case passEnd => exact execPassEnd_agree _ _ _
  case startEffect => exact execStartEffect_agree _ _ _
  case pauseEffect => exact execPauseEffect_agree _ _ _
  case stopEffect => exact execStopEffect_agree _ _ _
  case immediateJumpEffect => exact execImmediateJumpEffect_agree _ _ _
  case waitRelease => exact execWaitRelease_agree _ _ _
  case waitTimeout => exact execWaitTimeout_agree _ _ _
  case gapEnd => exact execGapEnd_agree _ _ _
  case selvedgeEnd => exact execSelvedgeEnd_agree _ _ _
  case missingSlot => exact execMissingSlot_agree _ _ _
  case underrunRecovery => exact execUnderrunRecovery_agree _ _ _
  case fetchRequest => exact execFetchRequest_agree _ _
  case readComplete => exact execReadComplete_agree _ _ _ _
  case refetchComplete => exact execRefetchComplete_agree _ _ _ _ _
  case stagingComplete => exact execStagingComplete_agree _ _ _
  case delayTapMove => exact execDelayTapMove_agree _ _
  case powerDownComplete => exact execPowerDownComplete_agree _ _
  case powerUpComplete => exact execPowerUpComplete_agree _ _
  case isolationSwitchStep => exact execIsolationSwitchStep_agree _ _
  case pulseLeadingEdge => exact execPulseLeadingEdge_agree _ _
  case pulseEnd => exact execPulseEnd_agree _ _
  case refreshTick => exact execRefreshTick_agree _ _
  case refreshIssue => exact execRefreshIssue_agree _ _ _
  case forcedBatch => exact execForcedBatch_agree _ _ _
  case stackTempReading => exact execStackTempReading_agree _ _ _
  case crossingBatch => exact execCrossingBatch_agree _ _ _
  case parityAlert => exact execParityAlert_agree _ _ _ _ _
  case trainingComplete => exact execTrainingComplete_agree _ _ _
  case refDetected => exact execRefDetected_agree _ _
  case clockTransfer => exact execClockTransfer_agree _
  case refRemeasure => exact execRefRemeasure_agree _ _
  case lockRunStart => exact execLockRunStart_agree _
  case bandFallback => exact execBandFallback_agree _
  case lockRunComplete => exact execLockRunComplete_agree _ _
  case guardEnd => exact execGuardEnd_agree _ _
  case firstLock => exact execFirstLock_agree _
  case relockRefLoss => exact execRelockRefLoss_agree _
  case relockRefResume => exact execRelockRefResume_agree _
  case lossOfReference => exact execLossOfReference_agree _
  case lossOfLock => exact execLossOfLock_agree _
  case returnQualified => exact execReturnQualified_agree _ _ _
  case slewEnd => exact execSlewEnd_agree _
  case stepCorrectionEnd => exact execStepCorrectionEnd_agree _
  case clockmonWindowEnd => exact execClockmonWindowEnd_agree _ _
  case syncEdge => exact execSyncEdge_agree _ _
  case alignmentEpoch => exact execAlignmentEpoch_agree _ _
  case comparatorChange => exact execComparatorChange_agree _ _ _
  case thresholdStep => exact execThresholdStep_agree _ _ _
  case blankingEnd => exact execBlankingEnd_agree _ _
  case sampledTick => exact execSampledTick_agree _ _ _
  case tripLineAssert => exact execTripLineAssert_agree _ _
  case tripLatch => exact execTripLatch_agree _ _
  case tripPark => exact execTripPark_agree _ _ _
  case wakeRequest => exact execWakeRequest_agree _ _
  case swatchStart => exact execSwatchStart_agree _ _ _
  case swatchPoint => exact execSwatchPoint_agree _ _ _ _ _
  case swatchEnd => exact execSwatchEnd_agree _ _
  case trimTap => exact execTrimTap_agree _
  case targetRecompute => exact execTargetRecompute_agree _ _
  case rotationStep => exact execRotationStep_agree _ _
  case legacyPass => exact execLegacyPass_agree _
  case legacyRelease => exact execLegacyRelease_agree _ _
  case lifelineCommitStart => exact execLifelineCommitStart_agree _
  case lifelineCommitComplete => exact execLifelineCommitComplete_agree _ _
  case ledgerEntryProgram => exact execLedgerEntryProgram_agree _
  case ledgerSecond => exact execLedgerSecond_agree _
  case cartridgeInsert => exact execCartridgeInsert_agree _ _
  case cartridgeRemove => exact execCartridgeRemove_agree _ _
  case authenticationComplete => exact execAuthenticationComplete_agree _ _ _
  case reauthentication => exact execReauthentication_agree _ _ _
  case ovenReading => exact execOvenReading_agree _ _ _
  case ovenReadingTimeout => exact execOvenReadingTimeout_agree _ _
  case lifeLogUpdate => exact execLifeLogUpdate_agree _ _ _ _
  case transferPoint => exact execTransferPoint_agree _ _ _
  case transferSwitch => exact execTransferSwitch_agree _
  case transferTimeout => exact execTransferTimeout_agree _
  case lapse => exact execLapse_agree _
  case handoverExpiry => exact execHandoverExpiry_agree _
  case attestReportReady => exact execAttestReportReady_agree _
  case fwVerifyComplete => exact execFwVerifyComplete_agree _ _ _
  case fwProgramComplete => exact execFwProgramComplete_agree _ _
  case quiescentPoint => exact execQuiescentPoint_agree _
  case quietTimeout => exact execQuietTimeout_agree _
  case newImageStart => exact execNewImageStart_agree _ _
  case linkTrained => exact execLinkTrained_agree _
  case linkLoss => exact execLinkLoss_agree _
  case twinHeartbeat => exact execTwinHeartbeat_agree _ _ _
  case faultMessage => exact execFaultMessage_agree _ _ _ _
  case scheduleMessage => exact execScheduleMessage_agree _ _ _
  case digestMessage => exact execDigestMessage_agree _ _ _
  case epochMessage => exact execEpochMessage_agree _ _
  case swapMessage => exact execSwapMessage_agree _ _
  case joinMessage => exact execJoinMessage_agree _ _ _ _
  case configMessage => exact execConfigMessage_agree _ _ _
  case idleMessage => exact execIdleMessage_agree _ _
  case digestWindow => exact execDigestWindow_agree _
  case leadActAcquire => exact execLeadActAcquire_agree _
  case watchdogRelease => exact execWatchdogRelease_agree _
  case heartbeatLoss => exact execHeartbeatLoss_agree _
  case takeover => exact execTakeover_agree _
  case takeoverForceClose => exact execTakeoverForceClose_agree _
  case pairFormation => exact execPairFormation_agree _
  case followerLock => exact execFollowerLock_agree _
  case swapPrepare => exact execSwapPrepare_agree _
  case swapInstant => exact execSwapInstant_agree _
  case swapForceClose => exact execSwapForceClose_agree _
  case swapRelease => exact execSwapRelease_agree _
  case joinCapture => exact execJoinCapture_agree _
  case joinLoad => exact execJoinLoad_agree _
  case healthCheck => exact execHealthCheck_agree _ _
  case recoveryRewrite => exact execRecoveryRewrite_agree _ _
  case recoveryResume => exact execRecoveryResume_agree _ _
  case stageFault => exact execStageFault_agree _ _
  case spareStageFault => exact execSpareStageFault_agree _ _
  case spareSettled => exact execSpareSettled_agree _ _
  case handoverConnect => exact execHandoverConnect_agree _ _
  case handoverComplete => exact execHandoverComplete_agree _ _
  case hkWatchdogExpiry => exact execHkWatchdogExpiry_agree _
  case hkRestartComplete => exact execHkRestartComplete_agree _
  case thermalCheck => exact execThermalCheck_agree _ _
  case analogRailLow => exact execAnalogRailLow_agree _ _
  case analogRailRestored => exact execAnalogRailRestored_agree _ _
  case suppliesValid => exact execSuppliesValid_agree _
  case rstNLow => exact execRstNLow_agree _
  case brownOut => exact execBrownOut_agree _ _
  case resetEnd => exact execResetEnd_agree _
  case firmwareStart => exact execFirmwareStart_agree _
  case castOnReady => exact execCastOnReady_agree _
  case bindoffDone => exact execBindoffDone_agree _
  case slotBoundary => exact execSlotBoundary_agree _ _ _
  case senseOpen => exact execSenseOpen_agree _ _
  case currentLimit => exact execCurrentLimit_agree _ _
  case bulkLinkUp => exact execBulkLinkUp_agree _ _ _
  case ppsLost => exact execPpsLost_agree _
  case noSuchOpcode => exact execNoSuchOpcode_agree _ _ _

/-- A command's next state differs from s only in the areas of its mask. -/
theorem exec_sameIn {c : Instr} {s t : State} (h : exec c s = .next t) (a : Area)
    (ha : (Instr.footprint c).testBit a.index = false) : s.sameIn t a := (exec_agree c s t h).sameIn a ha

end Machine
end Sys2Proof
end

