-- ==== Sys2Proof/Laws/Memory.lean ====
section
/-! SUPPORT. The waveform memory: a read after a write, and the canonical form, which every operation keeps. -/

namespace Sys2Proof
namespace Machine

/-- The canonical form of a non-empty memory: its first byte is written, its address is the lowest, the rest is
canonical. -/
theorem Memory.wf_cons (a : Nat) (b : Byte) (m : List Host.Cell) :
    Memory.wf ((a, b) :: m) = true ↔ b ≠ Memory.unwritten ∧ (∀ x ∈ m, a < x.1) ∧ Memory.wf m = true := by
  induction m generalizing a b with
  | nil => simp [Memory.wf]
  | cons y m ih =>
    obtain ⟨a', b'⟩ := y
    constructor
    · intro h
      simp only [Memory.wf, Bool.and_eq_true, bne_iff_ne, decide_eq_true_eq] at h
      obtain ⟨⟨hb, hlt⟩, hm⟩ := h
      refine ⟨hb, fun x hx => ?_, hm⟩
      rcases List.mem_cons.mp hx with rfl | hx
      · exact hlt
      · exact hlt.trans (((ih a' b').mp hm).2.1 x hx)
    · rintro ⟨hb, hlt, hm⟩
      simp only [Memory.wf, Bool.and_eq_true, bne_iff_ne, decide_eq_true_eq]
      exact ⟨⟨hb, hlt _ List.mem_cons_self⟩, hm⟩

/-- The addresses listed after a write are the old ones and the one written. -/
theorem Memory.mem_write (m : List Host.Cell) (k : Nat) (v : Byte) (x : Host.Cell) (hx : x ∈ Memory.write m k v) :
    x ∈ m ∨ x = (k, v) := by
  induction m with
  | nil =>
    simp only [Memory.write] at hx
    split at hx <;> simp_all
  | cons y m ih =>
    obtain ⟨a, b⟩ := y
    simp only [Memory.write] at hx
    split at hx
    · split at hx <;> simp_all
      tauto
    · split at hx
      · split at hx <;> simp_all
        tauto
      · rcases List.mem_cons.mp hx with rfl | hx
        · exact .inl List.mem_cons_self
        · exact (ih hx).imp (List.mem_cons_of_mem _) id

/-- A write keeps the canonical form. -/
theorem Memory.wf_write (m : List Host.Cell) (k : Nat) (v : Byte) (h : Memory.wf m = true) :
    Memory.wf (Memory.write m k v) = true := by
  induction m with
  | nil =>
    simp only [Memory.write]
    split
    · rfl
    · simpa [Memory.wf] using ‹_›
  | cons y m ih =>
    obtain ⟨a, b⟩ := y
    obtain ⟨hb, hlt, hm⟩ := (Memory.wf_cons a b m).mp h
    simp only [Memory.write]
    split
    · split
      · exact h
      · refine (Memory.wf_cons _ _ _).mpr ⟨‹_›, fun x hx => ?_, h⟩
        rcases List.mem_cons.mp hx with rfl | hx
        · assumption
        · exact lt_trans ‹_› (hlt x hx)
    · split
      · rename_i hk
        split
        · exact hm
        · exact (Memory.wf_cons _ _ _).mpr ⟨‹_›, fun x hx => hk ▸ hlt x hx, hm⟩
      · refine (Memory.wf_cons _ _ _).mpr ⟨hb, fun x hx => ?_, ih hm⟩
        rcases Memory.mem_write m k v x hx with hx | rfl
        · exact hlt x hx
        · show a < k
          omega

/-- A filter keeps the canonical form. -/
theorem Memory.wf_filter (m : List Host.Cell) (f : Host.Cell → Bool) (h : Memory.wf m = true) :
    Memory.wf (m.filter f) = true := by
  induction m with
  | nil => rfl
  | cons y m ih =>
    obtain ⟨a, b⟩ := y
    obtain ⟨hb, hlt, hm⟩ := (Memory.wf_cons a b m).mp h
    simp only [List.filter_cons]
    split
    · exact (Memory.wf_cons _ _ _).mpr ⟨hb, fun x hx => hlt x (List.mem_filter.mp hx).1, ih hm⟩
    · exact ih hm

/-- A canonical memory lists nothing below its first address. -/
theorem Memory.read_below (m : List Host.Cell) (k : Nat) (h : ∀ x ∈ m, k < x.1) : Memory.read m k = Memory.unwritten := by
  induction m with
  | nil => rfl
  | cons y m ih =>
    obtain ⟨a, b⟩ := y
    have ha : k < a := h _ List.mem_cons_self
    simp only [Memory.read]
    rw [if_neg (by omega)]
    exact ih fun x hx => h x (List.mem_cons_of_mem _ hx)

/-- A read after a write to the same address gives the value written. -/
theorem Memory.read_write_same (m : List Host.Cell) (k : Nat) (v : Byte) (h : Memory.wf m = true) :
    Memory.read (Memory.write m k v) k = v := by
  induction m with
  | nil =>
    simp only [Memory.write]
    split
    · simp_all [Memory.read]
    · simp [Memory.read]
  | cons y m ih =>
    obtain ⟨a, b⟩ := y
    obtain ⟨_, hlt, hm⟩ := (Memory.wf_cons a b m).mp h
    simp only [Memory.write]
    split
    · rename_i hk
      split
      · rename_i hv
        rw [hv]
        refine Memory.read_below _ _ fun x hx => ?_
        rcases List.mem_cons.mp hx with rfl | hx
        · exact hk
        · exact lt_trans hk (hlt x hx)
      · simp [Memory.read]
    · split
      · rename_i hk
        subst hk
        split
        · rename_i hv
          rw [hv]
          exact Memory.read_below _ _ hlt
        · simp [Memory.read]
      · rename_i h1 h2
        simp only [Memory.read]
        rw [if_neg (by omega)]
        exact ih hm

/-- A write leaves every other address as it was. -/
theorem Memory.read_write_other (m : List Host.Cell) (k j : Nat) (v : Byte) (hj : j ≠ k) :
    Memory.read (Memory.write m k v) j = Memory.read m j := by
  induction m with
  | nil =>
    simp only [Memory.write]
    split
    · rfl
    · simp [Memory.read, Ne.symm hj]
  | cons y m ih =>
    obtain ⟨a, b⟩ := y
    simp only [Memory.write]
    split
    · split
      · rfl
      · simp [Memory.read, Ne.symm hj]
    · split
      · rename_i hk
        subst hk
        split <;> simp [Memory.read, Ne.symm hj]
      · simp only [Memory.read, ih]

end Machine
end Sys2Proof
end

