-- ==== Sys2Proof/Laws/MemoryKept.lean ====
section
/-! SUPPORT. The operations that can change the waveform memory keep its canonical form; every other operation leaves the
memory as it is (Laws/Footprint). -/

namespace Sys2Proof
namespace Machine

/-- If the memory of s is canonical, so is that of t. -/
def Kept (s t : State) : Prop := s.memoryCanonical → t.memoryCanonical

theorem Kept.refl (s : State) : Kept s s := id

theorem Kept.step {s t u : State} (h : Kept s t) (k : Kept t u) : Kept s u := k ∘ h

theorem Kept.same {s t u : State} (h : Kept s t) (hw : u.wave = t.wave) : Kept s u := by
  intro hs
  unfold State.memoryCanonical
  rw [hw]
  exact h hs

theorem Kept.stepA {B : Nat} {s t u : State} (h : Kept s t) (k : Agree B t u) (hb : B.testBit 9 = false) : Kept s u :=
  h.same (k.wave hb)

theorem Kept.foldl {α : Type} {s : State} {g : State → α → State} (hg : ∀ t x, Kept s t → Kept s (g t x)) {l : List α}
    {i : State} (h : Kept s i) : Kept s (l.foldl g i) := by
  induction l generalizing i with
  | nil => exact h
  | cons x l ih => exact ih (hg _ _ h)

theorem Kept.foldl1 {α β : Type} {s : State} {g : State × β → α → State × β} (hg : ∀ t x, Kept s t.1 → Kept s (g t x).1)
    {l : List α} {i : State × β} (h : Kept s i.1) : Kept s (l.foldl g i).1 := by
  induction l generalizing i with
  | nil => exact h
  | cons x l ih => exact ih (hg _ _ h)

theorem Kept.foldl2 {α β : Type} {s : State} {g : β × State → α → β × State} (hg : ∀ t x, Kept s t.2 → Kept s (g t x).2)
    {l : List α} {i : β × State} (h : Kept s i.2) : Kept s (l.foldl g i).2 := by
  induction l generalizing i with
  | nil => exact h
  | cons x l ih => exact ih (hg _ _ h)

theorem Kept.fst {β : Type} {s t : State} {b : β} (h : Kept s t) : Kept s (t, b).1 := h

theorem Kept.snd {β : Type} {s t : State} {b : β} (h : Kept s t) : Kept s (b, t).2 := h

theorem Kept.ite {s : State} {c : Prop} [Decidable c] {a b : State} (h : Kept s a) (k : Kept s b) :
    Kept s (if c then a else b) := by split; exacts [h, k]

theorem Kept.ite1 {β : Type} {s : State} {c : Prop} [Decidable c] {a b : State × β} (h : Kept s a.1) (k : Kept s b.1) :
    Kept s (if c then a else b).1 := by split; exacts [h, k]

theorem Kept.ite2 {β : Type} {s : State} {c : Prop} [Decidable c] {a b : β × State} (h : Kept s a.2) (k : Kept s b.2) :
    Kept s (if c then a else b).2 := by split; exacts [h, k]

theorem Kept.frame {r s : State} {f : LinkFrame} {b : Bool} {m : State → State} (h : Kept r s)
    (k : ∀ t, Kept r t → Kept r (m t)) : Kept r (s.frame f b m) := by
  unfold State.frame
  split
  · exact h
  split
  · exact h.stepA (State.badFrame_agree _) rfl
  extract_lets -underBinder s0 s1
  have h0 : Agree 179415100 s s0 := by
    unfold s0
    split
    · exact Agree.refl _ _
    · exact (Agree.refl _ _).step (State.modTwin_agree _ _) rfl
  have h1 : Kept r s1 := h.stepA (B := 179415100) (h0.step (State.frameMirrors_agree s s0 f) rfl) rfl
  clear_value s1
  split
  · exact k _ h1
  · exact h1

/-- Whatever next state a meaning answers has a canonical memory if s has. -/
def Result.Keeps (s : State) (r : Result) : Prop := ∀ t, r = .next t → Kept s t

theorem Result.Keeps.next {s t : State} (h : Kept s t) : Result.Keeps s (.next t) := by
  intro u hu; cases hu; exact h

theorem State.writeByte_kept (s : State) (a : Nat) (b : Byte) : Kept s (s.writeByte a b) :=
  fun h => Memory.wf_write _ _ _ h

theorem State.writeBytes_kept (s : State) (a : Nat) (l : List Byte) : Kept s (s.writeBytes a l) := by
  induction l generalizing s a with
  | nil => exact Kept.refl _
  | cons b l ih => exact (State.writeByte_kept _ _ _).step (ih _ _)

theorem State.afterReset_kept (s : State) (cause : Nat) (inForce refreshLost : Bool) :
    Kept s (s.afterReset cause inForce refreshLost) := by
  intro h
  obtain ⟨f, hf⟩ : ∃ f, (s.afterReset cause inForce refreshLost).wave = s.wave.filter f := ⟨_, rfl⟩
  unfold State.memoryCanonical
  rw [hf]
  exact Memory.wf_filter s.wave f h

theorem State.writeGranule_kept (s : State) (a : ℕ) (bytes : List Byte) (oldUnreadable : Bool) : Kept s (State.writeGranule s a bytes oldUnreadable) := by
  unfold State.writeGranule
  extract_lets -underBinder -merge c0 c1 c2 t3 t4
  try clear_value c0
  try clear_value c1
  try clear_value c2
  have ht3 : Kept s t3 := by
    unfold t3
    refine Kept.ite ?_ ?_
    · exact (((Kept.refl s).stepA (State.eccUncorr_agree _ _) rfl).step (State.writeBytes_kept _ _ _))
    · exact (Kept.refl s)
  try clear_value t3
  have ht4 : Kept s t4 := (ht3.step (State.writeBytes_kept _ _ _))
  try clear_value t4
  refine Kept.ite ?_ ?_
  · exact (Kept.refl s)
  · exact (ht4.stepA (B := 2048) ((Agree.refl _ _).setCopies rfl) rfl)

theorem execPostedWriteDrain_kept (oldUnreadable : Bool) (s : State) : Result.Keeps s (execPostedWriteDrain oldUnreadable s) := by
  unfold execPostedWriteDrain
  refine Result.Keeps.next ?_
  split
  · exact (Kept.refl s)
  · extract_lets -underBinder -merge c0 c1 c2 c3
    try clear_value c0
    try clear_value c1
    try clear_value c2
    try clear_value c3
    refine Kept.ite ?_ ?_
    · exact (Kept.refl s)
    · exact (((Kept.refl s).stepA (B := 262144) ((Agree.refl _ _).setBulk rfl) rfl).step (State.writeGranule_kept _ _ _ _))

theorem execRstNLow_kept (s : State) : Result.Keeps s (execRstNLow s) := by
  unfold execRstNLow
  extract_lets -underBinder -merge t0 c1
  have ht0 : Kept s t0 := by
    unfold t0
    refine Kept.ite ?_ ?_
    · exact (Kept.refl s)
    · exact ((Kept.refl s).step (State.afterReset_kept _ _ _ _))
  try clear_value t0
  try clear_value c1
  exact Result.Keeps.next (ht0.stepA (B := 2147483648) ((Agree.refl _ _).setPins rfl) rfl)

theorem execBrownOut_kept (r : Rail) (s : State) : Result.Keeps s (execBrownOut r s) := by
  unfold execBrownOut
  refine Result.Keeps.next ?_
  refine Kept.ite ?_ ?_
  · exact (((Kept.refl s).step (State.afterReset_kept _ _ _ _)).stepA (State.modLife_agree _ _) rfl)
  · exact (Kept.refl s)

theorem State.resetModule_kept (s : State) : Kept s (State.resetModule s) := by
  unfold State.resetModule
  exact ((Kept.refl s).step (State.afterReset_kept _ _ _ _))

theorem execWakeRequest_kept (m : ℕ) (s : State) : Result.Keeps s (execWakeRequest m s) := by
  unfold execWakeRequest
  extract_lets -underBinder -merge c0
  try clear_value c0
  refine Result.Keeps.next ?_
  refine Kept.ite ?_ ?_
  · exact ((((Kept.refl s).step (State.afterReset_kept _ _ _ _)).stepA (State.boot_agree _) rfl).stepA (State.wr_agree _ _ _ _) rfl)
  · exact (Kept.refl s)

theorem State.unitReset_kept (s : State) (p : I3cPort) (page : ℕ) : Kept s (State.unitReset s p page) := by
  unfold State.unitReset
  refine Kept.ite ?_ ?_
  · exact (Kept.refl s)
  · split
    · exact ((Kept.refl s).step (State.resetModule_kept _))
    · exact ((Kept.refl s).stepA (State.clearPage_agree _ _ _) rfl)
    · exact ((Kept.refl s).stepA (State.clearPage_agree _ _ _) rfl)
    · exact ((Kept.refl s).stepA (State.clearPage_agree _ _ _) rfl)
    · exact ((Kept.refl s).stepA (State.resetHost_agree _) rfl)
    · exact ((Kept.refl s).stepA (State.resetTwin_agree _) rfl)
    · exact ((Kept.refl s).stepA (State.resetClockPage_agree _) rfl)
    · exact ((Kept.refl s).stepA (State.modClock_agree _ _) rfl)
    · exact ((Kept.refl s).stepA (State.resetLedger_agree _) rfl)
    · exact ((Kept.refl s).stepA (State.resetTables_agree _ _) rfl)
    · exact ((Kept.refl s).stepA (State.resetMemctl_agree _ _) rfl)
    · exact ((Kept.refl s).stepA (State.clearPage_agree _ _ _) rfl)
    · exact (((Kept.refl s).stepA (State.wr_agree _ _ _ _) rfl).stepA (State.clearPage_agree _ _ _) rfl)
    · exact ((Kept.refl s).stepA (State.clearPage_agree _ _ _) rfl)
    · exact ((Kept.refl s).stepA (State.resetCart_agree _) rfl)
    · exact (((Kept.refl s).stepA (State.clearPage_agree _ _ _) rfl).stepA (State.disarmHooks_agree _ _) rfl)
    · exact ((Kept.refl s).stepA (State.resetChannels_agree _ _) rfl)
    · exact ((Kept.refl s).stepA (State.resetTimers_agree _) rfl)
    · exact ((Kept.refl s).stepA (State.resetMonitors_agree _) rfl)
    · exact ((Kept.refl s).stepA (State.clearPage_agree _ _ _) rfl)
    · refine Kept.ite ?_ ?_
      · exact ((Kept.refl s).stepA (State.releaseUnit_agree _ _) rfl)
      · exact ((Kept.refl s).stepA (State.resetPort_agree _ _) rfl)
    · exact ((Kept.refl s).stepA (State.resetSpareUnit_agree _ _) rfl)
    · refine Kept.ite ?_ ?_
      · exact ((Kept.refl s).stepA (State.releaseUnit_agree _ _) rfl)
      · exact ((Kept.refl s).stepA (State.resetGroup_agree _ _) rfl)
    · exact (Kept.refl s)

theorem execUnitReset_kept (p : I3cPort) (page : ℕ) (s : State) : Result.Keeps s (execUnitReset p page s) := by
  unfold execUnitReset
  exact Result.Keeps.next ((Kept.refl s).step (State.unitReset_kept _ _ _))

theorem State.writeCtrl_kept (s : State) (w : RegWrite) (page : ℕ) : Kept s (State.writeCtrl s w page) := by
  unfold State.writeCtrl
  extract_lets -underBinder -merge c0 t1 t2
  try clear_value c0
  have ht1 : Kept s t1 := by
    unfold t1
    refine Kept.ite ?_ ?_
    · exact ((Kept.refl s).stepA (State.pageCommit_agree _ _) rfl)
    · exact (Kept.refl s)
  try clear_value t1
  have ht2 : Kept s t2 := (ht1.stepA (State.requestValue_agree _ _ _) rfl)
  try clear_value t2
  refine Kept.ite ?_ ?_
  · exact (Kept.refl s)
  · refine Kept.ite ?_ ?_
    · exact ((Kept.refl s).step (State.unitReset_kept _ _ _))
    · refine Kept.ite ?_ ?_
      · split
        · exact (ht2.stepA (State.modPort_agree _ _ _) rfl)
        · exact ht2
      · exact ht1

theorem State.writeReg_kept (s : State) (w : RegWrite) (a : ℕ) : Kept s (State.writeReg s w a) := by
  unfold State.writeReg
  extract_lets -underBinder -merge c0 c1
  try clear_value c0
  try clear_value c1
  refine Kept.ite ?_ ?_
  · exact (Kept.refl s)
  · refine Kept.ite ?_ ?_
    · exact ((Kept.refl s).step (State.writeCtrl_kept _ _ _))
    · refine Kept.ite ?_ ?_
      · exact ((Kept.refl s).stepA (State.writeHeader_agree _ _ _ _) rfl)
      · exact ((Kept.refl s).stepA (State.writeBlock_agree _ _ _ _) rfl)

theorem State.writeWords_kept (s : State) (words : List (ℕ × RegWrite)) : Kept s (State.writeWords s words) := by
  unfold State.writeWords
  extract_lets -underBinder -merge c0
  try clear_value c0
  refine Kept.foldl (fun t1 x1 h1 => ?_) ?_
  · extract_lets -underBinder -merge c2 c3
    try clear_value c2
    try clear_value c3
    refine Kept.foldl (fun t4 x4 h4 => ?_) ?_
    · exact (h4.step (State.writeReg_kept _ _ _))
    · exact h1
  · exact (Kept.refl s)

theorem execRegisterWrite_kept (p : I3cPort) (addr : ℕ) (mask : Word) (value : Word) (s : State) : Result.Keeps s (execRegisterWrite p addr mask value s) := by
  unfold execRegisterWrite
  exact Result.Keeps.next ((Kept.refl s).step (State.writeReg_kept _ _ _))

theorem State.scheduled_kept (s : State) (c : Scheduled) : Kept s (State.scheduled s c) := by
  unfold State.scheduled
  split
  · refine Kept.ite ?_ ?_
    · exact (((Kept.refl s).step (State.writeReg_kept _ _ _)).stepA (State.joinArmed_agree _ _) rfl)
    · exact (Kept.refl s)
  · exact ((Kept.refl s).stepA (State.modTwin_agree _ _) rfl)
  · refine Kept.foldl (fun t0 x0 h0 => ?_) ?_
    · exact (h0.stepA (State.tripPort_agree _ _) rfl)
    · exact (Kept.refl s)

theorem execScheduleMessage_kept (f : LinkFrame) (c : Scheduled) (s : State) : Result.Keeps s (execScheduleMessage f c s) := by
  unfold execScheduleMessage
  refine Result.Keeps.next ?_
  refine Kept.frame ?_ ?_
  · exact (Kept.refl s)
  · intro t0 h0
    refine Kept.ite ?_ ?_
    · exact (h0.step (State.scheduled_kept _ _))
    · exact h0

theorem State.configured_kept (s : State) (c : ConfigItem) : Kept s (State.configured s c) := by
  unfold State.configured
  split
  · refine Kept.ite ?_ ?_
    · exact (((Kept.refl s).step (State.writeReg_kept _ _ _)).stepA (State.settleShadow_agree _ _) rfl)
    · exact (Kept.refl s)
  · exact ((Kept.refl s).stepA (B := 256) ((Agree.refl _ _).setEntries rfl) rfl)
  · exact ((Kept.refl s).stepA (B := 128) ((Agree.refl _ _).setDescs rfl) rfl)
  · exact ((Kept.refl s).stepA (State.allocate_agree _ _ _) rfl)

theorem execConfigMessage_kept (f : LinkFrame) (item : ConfigItem) (s : State) : Result.Keeps s (execConfigMessage f item s) := by
  unfold execConfigMessage
  refine Result.Keeps.next ?_
  refine Kept.frame ?_ ?_
  · exact (Kept.refl s)
  · intro t0 h0
    refine Kept.ite ?_ ?_
    · exact (h0.step (State.configured_kept _ _))
    · exact h0

theorem State.doWrite_kept (s : State) (p : I3cPort) (e : Envelope) : Kept s (State.doWrite s p e) := by
  unfold State.doWrite
  extract_lets -underBinder -merge c0 c1
  try clear_value c0
  try clear_value c1
  exact ((Kept.refl s).step (State.writeWords_kept _ _))

theorem State.perform_kept (s : State) (p : I3cPort) (e : Envelope) : Kept s (State.perform s p e).2 := by
  unfold State.perform
  split
  · exact ((Kept.refl s).stepA (State.doRead_agree _ _ _) rfl)
  · exact ((Kept.refl s).step (State.doWrite_kept _ _ _)).snd
  · exact ((Kept.refl s).step (State.doWrite_kept _ _ _)).snd
  · exact ((Kept.refl s).stepA (State.claim_agree _ _ _) rfl).snd
  · exact ((Kept.refl s).stepA (State.releaseOwner_agree _) rfl).snd
  · exact ((Kept.refl s).stepA (State.handover_agree _ _) rfl).snd
  · exact ((Kept.refl s).stepA (State.accept_agree _ _ _) rfl).snd
  · exact (Kept.refl s).snd
  · extract_lets -underBinder -merge t0
    have ht0 : Kept s t0 := ((Kept.refl s).stepA (State.startReport_agree _ _) rfl)
    try clear_value t0
    exact ht0.snd

theorem State.answer_kept (s : State) (p : I3cPort) (bytes : List Byte) : Kept s (State.answer s p bytes) := by
  unfold State.answer
  extract_lets -underBinder -merge c0 c1
  try clear_value c0
  try clear_value c1
  split
  · exact ((Kept.refl s).stepA (State.modI3c_agree _ _ _) rfl)
  · split
    · exact (((Kept.refl s).stepA (State.countRefusal_agree _ _) rfl).stepA (State.modI3c_agree _ _ _) rfl)
    · extract_lets -underBinder -merge t2 c3
      have ht2 : Kept s t2.2 := ((Kept.refl s).step (State.perform_kept _ _ _))
      try clear_value t2
      try clear_value c3
      refine Kept.ite ?_ ?_
      · exact ht2
      · exact (ht2.stepA (State.modI3c_agree _ _ _) rfl)

theorem State.envelope_kept (s : State) (p : I3cPort) (bytes : List Byte) : Kept s (State.envelope s p bytes) := by
  unfold State.envelope
  refine Kept.ite ?_ ?_
  · exact (Kept.refl s)
  · exact ((((((Kept.refl s).stepA (State.finishCommits_agree _) rfl).stepA (State.ownerDue_agree _) rfl).stepA (State.hearOwner_agree _ _ _) rfl).stepA (State.modI3c_agree _ _ _) rfl).step (State.answer_kept _ _ _))

theorem execRead_kept (p : I3cPort) (bytes : List Byte) (s : State) : Result.Keeps s (execRead p bytes s) := by
  unfold execRead
  exact Result.Keeps.next ((Kept.refl s).step (State.envelope_kept _ _ _))

theorem execWrite_kept (p : I3cPort) (bytes : List Byte) (s : State) : Result.Keeps s (execWrite p bytes s) := by
  unfold execWrite
  exact Result.Keeps.next ((Kept.refl s).step (State.envelope_kept _ _ _))

theorem execWriteMask_kept (p : I3cPort) (bytes : List Byte) (s : State) : Result.Keeps s (execWriteMask p bytes s) := by
  unfold execWriteMask
  exact Result.Keeps.next ((Kept.refl s).step (State.envelope_kept _ _ _))

theorem execClaim_kept (p : I3cPort) (bytes : List Byte) (s : State) : Result.Keeps s (execClaim p bytes s) := by
  unfold execClaim
  exact Result.Keeps.next ((Kept.refl s).step (State.envelope_kept _ _ _))

theorem execRelease_kept (p : I3cPort) (bytes : List Byte) (s : State) : Result.Keeps s (execRelease p bytes s) := by
  unfold execRelease
  exact Result.Keeps.next ((Kept.refl s).step (State.envelope_kept _ _ _))

theorem execHandover_kept (p : I3cPort) (bytes : List Byte) (s : State) : Result.Keeps s (execHandover p bytes s) := by
  unfold execHandover
  exact Result.Keeps.next ((Kept.refl s).step (State.envelope_kept _ _ _))

theorem execAccept_kept (p : I3cPort) (bytes : List Byte) (s : State) : Result.Keeps s (execAccept p bytes s) := by
  unfold execAccept
  exact Result.Keeps.next ((Kept.refl s).step (State.envelope_kept _ _ _))

theorem execHeartbeat_kept (p : I3cPort) (bytes : List Byte) (s : State) : Result.Keeps s (execHeartbeat p bytes s) := by
  unfold execHeartbeat
  exact Result.Keeps.next ((Kept.refl s).step (State.envelope_kept _ _ _))

theorem execAttest_kept (p : I3cPort) (bytes : List Byte) (s : State) : Result.Keeps s (execAttest p bytes s) := by
  unfold execAttest
  exact Result.Keeps.next ((Kept.refl s).step (State.envelope_kept _ _ _))

theorem execNoSuchOpcode_kept (p : I3cPort) (bytes : List Byte) (s : State) : Result.Keeps s (execNoSuchOpcode p bytes s) := by
  unfold execNoSuchOpcode
  exact Result.Keeps.next ((Kept.refl s).step (State.envelope_kept _ _ _))

end Machine
end Sys2Proof
end

