-- ==== Sys2Proof/Laws/Tab.lean ====
section
/-! SUPPORT. What a sparse table holds after one key is set, and the laws of every table of the state that follow. -/

namespace Sys2Proof
namespace Machine

/-- A table's content depends on its default at the key only. -/
theorem Tab.get_default {α : Type} {d e : Nat → α} {k : Nat} (h : d k = e k) (t : Tab α) : t.get d k = t.get e k := by
  induction t with
  | nil => exact h
  | cons x t ih => simp only [Tab.get]; split <;> simp_all

/-- A key whose entries are filtered out holds the default; any other keeps its content. -/
theorem Tab.get_filter {α : Type} (d : Nat → α) (q : Nat → Bool) (t : Tab α) (k : Nat) :
    Tab.get d (t.filter (fun e => q e.1)) k = if q k then t.get d k else d k := by
  induction t with
  | nil => simp [Tab.get]
  | cons x t ih =>
    by_cases hx : q x.1
    · rw [List.filter_cons_of_pos (by simpa using hx)]
      simp only [Tab.get, ih]
      split
      · next he => subst he; simp [hx]
      · rfl
    · rw [List.filter_cons_of_neg (by simpa using hx), ih]
      simp only [Tab.get]
      split
      · next hq => rw [if_neg (by rintro rfl; exact hx hq)]
      · rfl

/-- A table in two parts. -/
theorem Tab.get_append {α : Type} (d : Nat → α) (a b : Tab α) (k : Nat) :
    Tab.get d (a ++ b) k = Tab.get (fun j => Tab.get d b j) a k := by
  induction a with
  | nil => rfl
  | cons x a ih => simp only [List.cons_append, Tab.get, ih]

/-- What a table holds after one key is set. -/
theorem Tab.get_set {α : Type} (d : Nat → α) (t : Tab α) (k : Nat) (v : α) (j : Nat) :
    (t.set k v).get d j = if j = k then v else t.get d j := by
  unfold Tab.set
  rw [Tab.get_append]
  rw [show (fun e : Nat × α => decide (e.1 < k)) = fun e => (fun n => decide (n < k)) e.1 from rfl]
  rw [Tab.get_filter _ (fun n => decide (n < k))]
  have hd : Tab.get d ((k, v) :: t.filter (fun e => k < e.1)) j = if j = k then v else if k < j then t.get d j else d j := by
    simp only [Tab.get]
    rw [show (fun e : Nat × α => decide (k < e.1)) = fun e => (fun n => decide (k < n)) e.1 from rfl,
      Tab.get_filter d (fun n => decide (k < n))]
    by_cases h : k = j <;> simp [h, eq_comm]
  by_cases hj : j < k
  · simp only [hj, decide_true, if_true]
    rw [if_neg (by omega)]
    exact Tab.get_default (by simp only [hd]; rw [if_neg (by omega), if_neg (by omega)]) t
  · simp only [hj, decide_false, Bool.false_eq_true, if_false, hd]
    split
    · rfl
    · rw [if_pos (by omega)]

@[simp] theorem Tab.get_set_same {α : Type} (d : Nat → α) (t : Tab α) (k : Nat) (v : α) : (t.set k v).get d k = v := by
  rw [Tab.get_set, if_pos rfl]

theorem Tab.get_set_other {α : Type} (d : Nat → α) (t : Tab α) {k j : Nat} (v : α) (h : j ≠ k) :
    (t.set k v).get d j = t.get d j := by
  rw [Tab.get_set, if_neg h]

/-! ### The tables of the state -/

theorem State.reg_setReg (s : State) (a b : Nat) (w : Word) : (s.setReg a w).reg b = if b = a then w else s.reg b :=
  Tab.get_set _ _ _ _ _

theorem State.port_setPort (s : State) (n m : Nat) (p : Port) : (s.setPort n p).port m = if m = n then p else s.port m :=
  Tab.get_set _ _ _ _ _

theorem State.port_modPort (s : State) (n m : Nat) (f : Port → Port) :
    (s.modPort n f).port m = if m = n then f (s.port n) else s.port m := State.port_setPort _ _ _ _

theorem State.group_setGroup (s : State) (n m : Nat) (p : Group) :
    (s.setGroup n p).group m = if m = n then p else s.group m := Tab.get_set _ _ _ _ _

theorem State.group_modGroup (s : State) (n m : Nat) (f : Group → Group) :
    (s.modGroup n f).group m = if m = n then f (s.group n) else s.group m := State.group_setGroup _ _ _ _

theorem State.spare_setSpare (s : State) (n m : Nat) (p : Spare) :
    (s.setSpare n p).spare m = if m = n then p else s.spare m := Tab.get_set _ _ _ _ _

theorem State.spare_modSpare (s : State) (n m : Nat) (f : Spare → Spare) :
    (s.modSpare n f).spare m = if m = n then f (s.spare n) else s.spare m := State.spare_setSpare _ _ _ _

theorem State.timer_setTimer (s : State) (n m : Nat) (p : Timer) :
    (s.setTimer n p).timer m = if m = n then p else s.timer m := Tab.get_set _ _ _ _ _

theorem State.stack_setStack (s : State) (n m : Nat) (p : Stack) :
    (s.setStack n p).stack m = if m = n then p else s.stack m := Tab.get_set _ _ _ _ _

theorem State.monitor_setMonitor (s : State) (n m : Nat) (p : Monitor) :
    (s.setMonitor n p).monitor m = if m = n then p else s.monitor m := Tab.get_set _ _ _ _ _

theorem State.hook_setHook (s : State) (n m : Nat) (h : HookState) :
    (s.setHook n h).hook m = if m = n then h else s.hook m := Tab.get_set _ _ _ _ _

/-- Distinct registers have distinct byte addresses. -/
theorem regAddr_inj {p o q r : Nat} (ho : o < 0x400) (hr : r < 0x400) : regAddr p o = regAddr q r ↔ p = q ∧ o = r := by
  unfold regAddr; constructor
  · intro h; omega
  · rintro ⟨rfl, rfl⟩; rfl

theorem State.rd_wr_same (s : State) (p o : Nat) (w : Word) : (s.wr p o w).rd p o = w := by
  unfold State.rd State.wr; rw [State.reg_setReg, if_pos rfl]

theorem State.rd_wr (s : State) (p o q r : Nat) (w : Word) (ho : o < 0x400) (hr : r < 0x400) :
    (s.wr p o w).rd q r = if q = p ∧ r = o then w else s.rd q r := by
  unfold State.rd State.wr; rw [State.reg_setReg]; simp only [regAddr_inj hr ho]

/-! ### Flags and counters -/

/-- Setting flags writes one register and moves only the IBIs that await on the I3C ports. -/
theorem State.regs_setFlags (s : State) (p : Nat) (w : Word) : (s.setFlags p w).regs = (s.wr p 0x14 (s.rd p 0x14 ||| w)).regs := by
  unfold State.setFlags State.updateIbis; dsimp only; split <;> rfl

theorem State.part_setFlags (s : State) (p : Nat) (w : Word) : (s.setFlags p w).part = s.part := by
  unfold State.setFlags State.updateIbis; dsimp only; split <;> rfl

theorem State.reg_setFlags (s : State) (p a : Nat) (w : Word) :
    (s.setFlags p w).reg a = if a = regAddr p 0x14 then s.rd p 0x14 ||| w else s.reg a := by
  unfold State.reg; rw [State.regs_setFlags, State.part_setFlags]
  exact State.reg_setReg s (regAddr p 0x14) a _

theorem State.reg_flag (s : State) (p i a : Nat) :
    (s.flag p i).reg a = if a = regAddr p 0x14 then s.rd p 0x14 ||| bitWord i else s.reg a := State.reg_setFlags _ _ _ _

end Machine
end Sys2Proof
end

