-- ==== Sys2Proof/Laws/State.lean ====
section
/-! SUPPORT. The fields of State that each update leaves as they are, one lemma for each field and update, and the field that
each whole-field update gives. -/

namespace Sys2Proof
namespace Machine

/-! ### setReg -/

section setReg

variable (s : State) (a : Nat) (w : Word)

@[simp] theorem State.part_setReg : (s.setReg a w).part = s.part := rfl
@[simp] theorem State.cycle_setReg : (s.setReg a w).cycle = s.cycle := rfl
@[simp] theorem State.free_setReg : (s.setReg a w).free = s.free := rfl
@[simp] theorem State.ports_setReg : (s.setReg a w).ports = s.ports := rfl
@[simp] theorem State.groups_setReg : (s.setReg a w).groups = s.groups := rfl
@[simp] theorem State.spares_setReg : (s.setReg a w).spares = s.spares := rfl
@[simp] theorem State.descs_setReg : (s.setReg a w).descs = s.descs := rfl
@[simp] theorem State.entries_setReg : (s.setReg a w).entries = s.entries := rfl
@[simp] theorem State.wave_setReg : (s.setReg a w).wave = s.wave := rfl
@[simp] theorem State.memctl_setReg : (s.setReg a w).memctl = s.memctl := rfl
@[simp] theorem State.copies_setReg : (s.setReg a w).copies = s.copies := rfl
@[simp] theorem State.bobbins_setReg : (s.setReg a w).bobbins = s.bobbins := rfl
@[simp] theorem State.fabric_setReg : (s.setReg a w).fabric = s.fabric := rfl
@[simp] theorem State.timers_setReg : (s.setReg a w).timers = s.timers := rfl
@[simp] theorem State.i3cA_setReg : (s.setReg a w).i3cA = s.i3cA := rfl
@[simp] theorem State.i3cB_setReg : (s.setReg a w).i3cB = s.i3cB := rfl
@[simp] theorem State.owner_setReg : (s.setReg a w).owner = s.owner := rfl
@[simp] theorem State.bulk_setReg : (s.setReg a w).bulk = s.bulk := rfl
@[simp] theorem State.security_setReg : (s.setReg a w).security = s.security := rfl
@[simp] theorem State.ledger_setReg : (s.setReg a w).ledger = s.ledger := rfl
@[simp] theorem State.faults_setReg : (s.setReg a w).faults = s.faults := rfl
@[simp] theorem State.cal_setReg : (s.setReg a w).cal = s.cal := rfl
@[simp] theorem State.monitors_setReg : (s.setReg a w).monitors = s.monitors := rfl
@[simp] theorem State.trips_setReg : (s.setReg a w).trips = s.trips := rfl
@[simp] theorem State.clock_setReg : (s.setReg a w).clock = s.clock := rfl
@[simp] theorem State.cart_setReg : (s.setReg a w).cart = s.cart := rfl
@[simp] theorem State.twin_setReg : (s.setReg a w).twin = s.twin := rfl
@[simp] theorem State.health_setReg : (s.setReg a w).health = s.health := rfl
@[simp] theorem State.life_setReg : (s.setReg a w).life = s.life := rfl
@[simp] theorem State.nv_setReg : (s.setReg a w).nv = s.nv := rfl
@[simp] theorem State.pins_setReg : (s.setReg a w).pins = s.pins := rfl
@[simp] theorem State.pending_setReg : (s.setReg a w).pending = s.pending := rfl

end setReg

/-! ### wr -/

section wr

variable (s : State) (p o : Nat) (w : Word)

@[simp] theorem State.part_wr : (s.wr p o w).part = s.part := rfl
@[simp] theorem State.cycle_wr : (s.wr p o w).cycle = s.cycle := rfl
@[simp] theorem State.free_wr : (s.wr p o w).free = s.free := rfl
@[simp] theorem State.ports_wr : (s.wr p o w).ports = s.ports := rfl
@[simp] theorem State.groups_wr : (s.wr p o w).groups = s.groups := rfl
@[simp] theorem State.spares_wr : (s.wr p o w).spares = s.spares := rfl
@[simp] theorem State.descs_wr : (s.wr p o w).descs = s.descs := rfl
@[simp] theorem State.entries_wr : (s.wr p o w).entries = s.entries := rfl
@[simp] theorem State.wave_wr : (s.wr p o w).wave = s.wave := rfl
@[simp] theorem State.memctl_wr : (s.wr p o w).memctl = s.memctl := rfl
@[simp] theorem State.copies_wr : (s.wr p o w).copies = s.copies := rfl
@[simp] theorem State.bobbins_wr : (s.wr p o w).bobbins = s.bobbins := rfl
@[simp] theorem State.fabric_wr : (s.wr p o w).fabric = s.fabric := rfl
@[simp] theorem State.timers_wr : (s.wr p o w).timers = s.timers := rfl
@[simp] theorem State.i3cA_wr : (s.wr p o w).i3cA = s.i3cA := rfl
@[simp] theorem State.i3cB_wr : (s.wr p o w).i3cB = s.i3cB := rfl
@[simp] theorem State.owner_wr : (s.wr p o w).owner = s.owner := rfl
@[simp] theorem State.bulk_wr : (s.wr p o w).bulk = s.bulk := rfl
@[simp] theorem State.security_wr : (s.wr p o w).security = s.security := rfl
@[simp] theorem State.ledger_wr : (s.wr p o w).ledger = s.ledger := rfl
@[simp] theorem State.faults_wr : (s.wr p o w).faults = s.faults := rfl
@[simp] theorem State.cal_wr : (s.wr p o w).cal = s.cal := rfl
@[simp] theorem State.monitors_wr : (s.wr p o w).monitors = s.monitors := rfl
@[simp] theorem State.trips_wr : (s.wr p o w).trips = s.trips := rfl
@[simp] theorem State.clock_wr : (s.wr p o w).clock = s.clock := rfl
@[simp] theorem State.cart_wr : (s.wr p o w).cart = s.cart := rfl
@[simp] theorem State.twin_wr : (s.wr p o w).twin = s.twin := rfl
@[simp] theorem State.health_wr : (s.wr p o w).health = s.health := rfl
@[simp] theorem State.life_wr : (s.wr p o w).life = s.life := rfl
@[simp] theorem State.nv_wr : (s.wr p o w).nv = s.nv := rfl
@[simp] theorem State.pins_wr : (s.wr p o w).pins = s.pins := rfl
@[simp] theorem State.pending_wr : (s.wr p o w).pending = s.pending := rfl

end wr

/-! ### spend -/

section spend

variable (s : State)

@[simp] theorem State.part_spend : (s.spend).part = s.part := rfl
@[simp] theorem State.cycle_spend : (s.spend).cycle = s.cycle := rfl
@[simp] theorem State.regs_spend : (s.spend).regs = s.regs := rfl
@[simp] theorem State.ports_spend : (s.spend).ports = s.ports := rfl
@[simp] theorem State.groups_spend : (s.spend).groups = s.groups := rfl
@[simp] theorem State.spares_spend : (s.spend).spares = s.spares := rfl
@[simp] theorem State.descs_spend : (s.spend).descs = s.descs := rfl
@[simp] theorem State.entries_spend : (s.spend).entries = s.entries := rfl
@[simp] theorem State.wave_spend : (s.spend).wave = s.wave := rfl
@[simp] theorem State.memctl_spend : (s.spend).memctl = s.memctl := rfl
@[simp] theorem State.copies_spend : (s.spend).copies = s.copies := rfl
@[simp] theorem State.bobbins_spend : (s.spend).bobbins = s.bobbins := rfl
@[simp] theorem State.fabric_spend : (s.spend).fabric = s.fabric := rfl
@[simp] theorem State.timers_spend : (s.spend).timers = s.timers := rfl
@[simp] theorem State.i3cA_spend : (s.spend).i3cA = s.i3cA := rfl
@[simp] theorem State.i3cB_spend : (s.spend).i3cB = s.i3cB := rfl
@[simp] theorem State.owner_spend : (s.spend).owner = s.owner := rfl
@[simp] theorem State.bulk_spend : (s.spend).bulk = s.bulk := rfl
@[simp] theorem State.security_spend : (s.spend).security = s.security := rfl
@[simp] theorem State.ledger_spend : (s.spend).ledger = s.ledger := rfl
@[simp] theorem State.faults_spend : (s.spend).faults = s.faults := rfl
@[simp] theorem State.cal_spend : (s.spend).cal = s.cal := rfl
@[simp] theorem State.monitors_spend : (s.spend).monitors = s.monitors := rfl
@[simp] theorem State.trips_spend : (s.spend).trips = s.trips := rfl
@[simp] theorem State.clock_spend : (s.spend).clock = s.clock := rfl
@[simp] theorem State.cart_spend : (s.spend).cart = s.cart := rfl
@[simp] theorem State.twin_spend : (s.spend).twin = s.twin := rfl
@[simp] theorem State.health_spend : (s.spend).health = s.health := rfl
@[simp] theorem State.life_spend : (s.spend).life = s.life := rfl
@[simp] theorem State.nv_spend : (s.spend).nv = s.nv := rfl
@[simp] theorem State.pins_spend : (s.spend).pins = s.pins := rfl
@[simp] theorem State.pending_spend : (s.spend).pending = s.pending := rfl
@[simp] theorem State.free_spend : s.spend.free = s.free + 1 := rfl

end spend

/-! ### setPort -/

section setPort

variable (s : State) (n : Nat) (x : Port)

@[simp] theorem State.part_setPort : (s.setPort n x).part = s.part := rfl
@[simp] theorem State.cycle_setPort : (s.setPort n x).cycle = s.cycle := rfl
@[simp] theorem State.free_setPort : (s.setPort n x).free = s.free := rfl
@[simp] theorem State.regs_setPort : (s.setPort n x).regs = s.regs := rfl
@[simp] theorem State.groups_setPort : (s.setPort n x).groups = s.groups := rfl
@[simp] theorem State.spares_setPort : (s.setPort n x).spares = s.spares := rfl
@[simp] theorem State.descs_setPort : (s.setPort n x).descs = s.descs := rfl
@[simp] theorem State.entries_setPort : (s.setPort n x).entries = s.entries := rfl
@[simp] theorem State.wave_setPort : (s.setPort n x).wave = s.wave := rfl
@[simp] theorem State.memctl_setPort : (s.setPort n x).memctl = s.memctl := rfl
@[simp] theorem State.copies_setPort : (s.setPort n x).copies = s.copies := rfl
@[simp] theorem State.bobbins_setPort : (s.setPort n x).bobbins = s.bobbins := rfl
@[simp] theorem State.fabric_setPort : (s.setPort n x).fabric = s.fabric := rfl
@[simp] theorem State.timers_setPort : (s.setPort n x).timers = s.timers := rfl
@[simp] theorem State.i3cA_setPort : (s.setPort n x).i3cA = s.i3cA := rfl
@[simp] theorem State.i3cB_setPort : (s.setPort n x).i3cB = s.i3cB := rfl
@[simp] theorem State.owner_setPort : (s.setPort n x).owner = s.owner := rfl
@[simp] theorem State.bulk_setPort : (s.setPort n x).bulk = s.bulk := rfl
@[simp] theorem State.security_setPort : (s.setPort n x).security = s.security := rfl
@[simp] theorem State.ledger_setPort : (s.setPort n x).ledger = s.ledger := rfl
@[simp] theorem State.faults_setPort : (s.setPort n x).faults = s.faults := rfl
@[simp] theorem State.cal_setPort : (s.setPort n x).cal = s.cal := rfl
@[simp] theorem State.monitors_setPort : (s.setPort n x).monitors = s.monitors := rfl
@[simp] theorem State.trips_setPort : (s.setPort n x).trips = s.trips := rfl
@[simp] theorem State.clock_setPort : (s.setPort n x).clock = s.clock := rfl
@[simp] theorem State.cart_setPort : (s.setPort n x).cart = s.cart := rfl
@[simp] theorem State.twin_setPort : (s.setPort n x).twin = s.twin := rfl
@[simp] theorem State.health_setPort : (s.setPort n x).health = s.health := rfl
@[simp] theorem State.life_setPort : (s.setPort n x).life = s.life := rfl
@[simp] theorem State.nv_setPort : (s.setPort n x).nv = s.nv := rfl
@[simp] theorem State.pins_setPort : (s.setPort n x).pins = s.pins := rfl
@[simp] theorem State.pending_setPort : (s.setPort n x).pending = s.pending := rfl

end setPort

/-! ### modPort -/

section modPort

variable (s : State) (n : Nat) (f : Port → Port)

@[simp] theorem State.part_modPort : (s.modPort n f).part = s.part := rfl
@[simp] theorem State.cycle_modPort : (s.modPort n f).cycle = s.cycle := rfl
@[simp] theorem State.free_modPort : (s.modPort n f).free = s.free := rfl
@[simp] theorem State.regs_modPort : (s.modPort n f).regs = s.regs := rfl
@[simp] theorem State.groups_modPort : (s.modPort n f).groups = s.groups := rfl
@[simp] theorem State.spares_modPort : (s.modPort n f).spares = s.spares := rfl
@[simp] theorem State.descs_modPort : (s.modPort n f).descs = s.descs := rfl
@[simp] theorem State.entries_modPort : (s.modPort n f).entries = s.entries := rfl
@[simp] theorem State.wave_modPort : (s.modPort n f).wave = s.wave := rfl
@[simp] theorem State.memctl_modPort : (s.modPort n f).memctl = s.memctl := rfl
@[simp] theorem State.copies_modPort : (s.modPort n f).copies = s.copies := rfl
@[simp] theorem State.bobbins_modPort : (s.modPort n f).bobbins = s.bobbins := rfl
@[simp] theorem State.fabric_modPort : (s.modPort n f).fabric = s.fabric := rfl
@[simp] theorem State.timers_modPort : (s.modPort n f).timers = s.timers := rfl
@[simp] theorem State.i3cA_modPort : (s.modPort n f).i3cA = s.i3cA := rfl
@[simp] theorem State.i3cB_modPort : (s.modPort n f).i3cB = s.i3cB := rfl
@[simp] theorem State.owner_modPort : (s.modPort n f).owner = s.owner := rfl
@[simp] theorem State.bulk_modPort : (s.modPort n f).bulk = s.bulk := rfl
@[simp] theorem State.security_modPort : (s.modPort n f).security = s.security := rfl
@[simp] theorem State.ledger_modPort : (s.modPort n f).ledger = s.ledger := rfl
@[simp] theorem State.faults_modPort : (s.modPort n f).faults = s.faults := rfl
@[simp] theorem State.cal_modPort : (s.modPort n f).cal = s.cal := rfl
@[simp] theorem State.monitors_modPort : (s.modPort n f).monitors = s.monitors := rfl
@[simp] theorem State.trips_modPort : (s.modPort n f).trips = s.trips := rfl
@[simp] theorem State.clock_modPort : (s.modPort n f).clock = s.clock := rfl
@[simp] theorem State.cart_modPort : (s.modPort n f).cart = s.cart := rfl
@[simp] theorem State.twin_modPort : (s.modPort n f).twin = s.twin := rfl
@[simp] theorem State.health_modPort : (s.modPort n f).health = s.health := rfl
@[simp] theorem State.life_modPort : (s.modPort n f).life = s.life := rfl
@[simp] theorem State.nv_modPort : (s.modPort n f).nv = s.nv := rfl
@[simp] theorem State.pins_modPort : (s.modPort n f).pins = s.pins := rfl
@[simp] theorem State.pending_modPort : (s.modPort n f).pending = s.pending := rfl

end modPort

/-! ### setGroup -/

section setGroup

variable (s : State) (n : Nat) (x : Group)

@[simp] theorem State.part_setGroup : (s.setGroup n x).part = s.part := rfl
@[simp] theorem State.cycle_setGroup : (s.setGroup n x).cycle = s.cycle := rfl
@[simp] theorem State.free_setGroup : (s.setGroup n x).free = s.free := rfl
@[simp] theorem State.regs_setGroup : (s.setGroup n x).regs = s.regs := rfl
@[simp] theorem State.ports_setGroup : (s.setGroup n x).ports = s.ports := rfl
@[simp] theorem State.spares_setGroup : (s.setGroup n x).spares = s.spares := rfl
@[simp] theorem State.descs_setGroup : (s.setGroup n x).descs = s.descs := rfl
@[simp] theorem State.entries_setGroup : (s.setGroup n x).entries = s.entries := rfl
@[simp] theorem State.wave_setGroup : (s.setGroup n x).wave = s.wave := rfl
@[simp] theorem State.memctl_setGroup : (s.setGroup n x).memctl = s.memctl := rfl
@[simp] theorem State.copies_setGroup : (s.setGroup n x).copies = s.copies := rfl
@[simp] theorem State.bobbins_setGroup : (s.setGroup n x).bobbins = s.bobbins := rfl
@[simp] theorem State.fabric_setGroup : (s.setGroup n x).fabric = s.fabric := rfl
@[simp] theorem State.timers_setGroup : (s.setGroup n x).timers = s.timers := rfl
@[simp] theorem State.i3cA_setGroup : (s.setGroup n x).i3cA = s.i3cA := rfl
@[simp] theorem State.i3cB_setGroup : (s.setGroup n x).i3cB = s.i3cB := rfl
@[simp] theorem State.owner_setGroup : (s.setGroup n x).owner = s.owner := rfl
@[simp] theorem State.bulk_setGroup : (s.setGroup n x).bulk = s.bulk := rfl
@[simp] theorem State.security_setGroup : (s.setGroup n x).security = s.security := rfl
@[simp] theorem State.ledger_setGroup : (s.setGroup n x).ledger = s.ledger := rfl
@[simp] theorem State.faults_setGroup : (s.setGroup n x).faults = s.faults := rfl
@[simp] theorem State.cal_setGroup : (s.setGroup n x).cal = s.cal := rfl
@[simp] theorem State.monitors_setGroup : (s.setGroup n x).monitors = s.monitors := rfl
@[simp] theorem State.trips_setGroup : (s.setGroup n x).trips = s.trips := rfl
@[simp] theorem State.clock_setGroup : (s.setGroup n x).clock = s.clock := rfl
@[simp] theorem State.cart_setGroup : (s.setGroup n x).cart = s.cart := rfl
@[simp] theorem State.twin_setGroup : (s.setGroup n x).twin = s.twin := rfl
@[simp] theorem State.health_setGroup : (s.setGroup n x).health = s.health := rfl
@[simp] theorem State.life_setGroup : (s.setGroup n x).life = s.life := rfl
@[simp] theorem State.nv_setGroup : (s.setGroup n x).nv = s.nv := rfl
@[simp] theorem State.pins_setGroup : (s.setGroup n x).pins = s.pins := rfl
@[simp] theorem State.pending_setGroup : (s.setGroup n x).pending = s.pending := rfl

end setGroup

/-! ### modGroup -/

section modGroup

variable (s : State) (n : Nat) (f : Group → Group)

@[simp] theorem State.part_modGroup : (s.modGroup n f).part = s.part := rfl
@[simp] theorem State.cycle_modGroup : (s.modGroup n f).cycle = s.cycle := rfl
@[simp] theorem State.free_modGroup : (s.modGroup n f).free = s.free := rfl
@[simp] theorem State.regs_modGroup : (s.modGroup n f).regs = s.regs := rfl
@[simp] theorem State.ports_modGroup : (s.modGroup n f).ports = s.ports := rfl
@[simp] theorem State.spares_modGroup : (s.modGroup n f).spares = s.spares := rfl
@[simp] theorem State.descs_modGroup : (s.modGroup n f).descs = s.descs := rfl
@[simp] theorem State.entries_modGroup : (s.modGroup n f).entries = s.entries := rfl
@[simp] theorem State.wave_modGroup : (s.modGroup n f).wave = s.wave := rfl
@[simp] theorem State.memctl_modGroup : (s.modGroup n f).memctl = s.memctl := rfl
@[simp] theorem State.copies_modGroup : (s.modGroup n f).copies = s.copies := rfl
@[simp] theorem State.bobbins_modGroup : (s.modGroup n f).bobbins = s.bobbins := rfl
@[simp] theorem State.fabric_modGroup : (s.modGroup n f).fabric = s.fabric := rfl
@[simp] theorem State.timers_modGroup : (s.modGroup n f).timers = s.timers := rfl
@[simp] theorem State.i3cA_modGroup : (s.modGroup n f).i3cA = s.i3cA := rfl
@[simp] theorem State.i3cB_modGroup : (s.modGroup n f).i3cB = s.i3cB := rfl
@[simp] theorem State.owner_modGroup : (s.modGroup n f).owner = s.owner := rfl
@[simp] theorem State.bulk_modGroup : (s.modGroup n f).bulk = s.bulk := rfl
@[simp] theorem State.security_modGroup : (s.modGroup n f).security = s.security := rfl
@[simp] theorem State.ledger_modGroup : (s.modGroup n f).ledger = s.ledger := rfl
@[simp] theorem State.faults_modGroup : (s.modGroup n f).faults = s.faults := rfl
@[simp] theorem State.cal_modGroup : (s.modGroup n f).cal = s.cal := rfl
@[simp] theorem State.monitors_modGroup : (s.modGroup n f).monitors = s.monitors := rfl
@[simp] theorem State.trips_modGroup : (s.modGroup n f).trips = s.trips := rfl
@[simp] theorem State.clock_modGroup : (s.modGroup n f).clock = s.clock := rfl
@[simp] theorem State.cart_modGroup : (s.modGroup n f).cart = s.cart := rfl
@[simp] theorem State.twin_modGroup : (s.modGroup n f).twin = s.twin := rfl
@[simp] theorem State.health_modGroup : (s.modGroup n f).health = s.health := rfl
@[simp] theorem State.life_modGroup : (s.modGroup n f).life = s.life := rfl
@[simp] theorem State.nv_modGroup : (s.modGroup n f).nv = s.nv := rfl
@[simp] theorem State.pins_modGroup : (s.modGroup n f).pins = s.pins := rfl
@[simp] theorem State.pending_modGroup : (s.modGroup n f).pending = s.pending := rfl

end modGroup

/-! ### setSpare -/

section setSpare

variable (s : State) (n : Nat) (x : Spare)

@[simp] theorem State.part_setSpare : (s.setSpare n x).part = s.part := rfl
@[simp] theorem State.cycle_setSpare : (s.setSpare n x).cycle = s.cycle := rfl
@[simp] theorem State.free_setSpare : (s.setSpare n x).free = s.free := rfl
@[simp] theorem State.regs_setSpare : (s.setSpare n x).regs = s.regs := rfl
@[simp] theorem State.ports_setSpare : (s.setSpare n x).ports = s.ports := rfl
@[simp] theorem State.groups_setSpare : (s.setSpare n x).groups = s.groups := rfl
@[simp] theorem State.descs_setSpare : (s.setSpare n x).descs = s.descs := rfl
@[simp] theorem State.entries_setSpare : (s.setSpare n x).entries = s.entries := rfl
@[simp] theorem State.wave_setSpare : (s.setSpare n x).wave = s.wave := rfl
@[simp] theorem State.memctl_setSpare : (s.setSpare n x).memctl = s.memctl := rfl
@[simp] theorem State.copies_setSpare : (s.setSpare n x).copies = s.copies := rfl
@[simp] theorem State.bobbins_setSpare : (s.setSpare n x).bobbins = s.bobbins := rfl
@[simp] theorem State.fabric_setSpare : (s.setSpare n x).fabric = s.fabric := rfl
@[simp] theorem State.timers_setSpare : (s.setSpare n x).timers = s.timers := rfl
@[simp] theorem State.i3cA_setSpare : (s.setSpare n x).i3cA = s.i3cA := rfl
@[simp] theorem State.i3cB_setSpare : (s.setSpare n x).i3cB = s.i3cB := rfl
@[simp] theorem State.owner_setSpare : (s.setSpare n x).owner = s.owner := rfl
@[simp] theorem State.bulk_setSpare : (s.setSpare n x).bulk = s.bulk := rfl
@[simp] theorem State.security_setSpare : (s.setSpare n x).security = s.security := rfl
@[simp] theorem State.ledger_setSpare : (s.setSpare n x).ledger = s.ledger := rfl
@[simp] theorem State.faults_setSpare : (s.setSpare n x).faults = s.faults := rfl
@[simp] theorem State.cal_setSpare : (s.setSpare n x).cal = s.cal := rfl
@[simp] theorem State.monitors_setSpare : (s.setSpare n x).monitors = s.monitors := rfl
@[simp] theorem State.trips_setSpare : (s.setSpare n x).trips = s.trips := rfl
@[simp] theorem State.clock_setSpare : (s.setSpare n x).clock = s.clock := rfl
@[simp] theorem State.cart_setSpare : (s.setSpare n x).cart = s.cart := rfl
@[simp] theorem State.twin_setSpare : (s.setSpare n x).twin = s.twin := rfl
@[simp] theorem State.health_setSpare : (s.setSpare n x).health = s.health := rfl
@[simp] theorem State.life_setSpare : (s.setSpare n x).life = s.life := rfl
@[simp] theorem State.nv_setSpare : (s.setSpare n x).nv = s.nv := rfl
@[simp] theorem State.pins_setSpare : (s.setSpare n x).pins = s.pins := rfl
@[simp] theorem State.pending_setSpare : (s.setSpare n x).pending = s.pending := rfl

end setSpare

/-! ### modSpare -/

section modSpare

variable (s : State) (n : Nat) (f : Spare → Spare)

@[simp] theorem State.part_modSpare : (s.modSpare n f).part = s.part := rfl
@[simp] theorem State.cycle_modSpare : (s.modSpare n f).cycle = s.cycle := rfl
@[simp] theorem State.free_modSpare : (s.modSpare n f).free = s.free := rfl
@[simp] theorem State.regs_modSpare : (s.modSpare n f).regs = s.regs := rfl
@[simp] theorem State.ports_modSpare : (s.modSpare n f).ports = s.ports := rfl
@[simp] theorem State.groups_modSpare : (s.modSpare n f).groups = s.groups := rfl
@[simp] theorem State.descs_modSpare : (s.modSpare n f).descs = s.descs := rfl
@[simp] theorem State.entries_modSpare : (s.modSpare n f).entries = s.entries := rfl
@[simp] theorem State.wave_modSpare : (s.modSpare n f).wave = s.wave := rfl
@[simp] theorem State.memctl_modSpare : (s.modSpare n f).memctl = s.memctl := rfl
@[simp] theorem State.copies_modSpare : (s.modSpare n f).copies = s.copies := rfl
@[simp] theorem State.bobbins_modSpare : (s.modSpare n f).bobbins = s.bobbins := rfl
@[simp] theorem State.fabric_modSpare : (s.modSpare n f).fabric = s.fabric := rfl
@[simp] theorem State.timers_modSpare : (s.modSpare n f).timers = s.timers := rfl
@[simp] theorem State.i3cA_modSpare : (s.modSpare n f).i3cA = s.i3cA := rfl
@[simp] theorem State.i3cB_modSpare : (s.modSpare n f).i3cB = s.i3cB := rfl
@[simp] theorem State.owner_modSpare : (s.modSpare n f).owner = s.owner := rfl
@[simp] theorem State.bulk_modSpare : (s.modSpare n f).bulk = s.bulk := rfl
@[simp] theorem State.security_modSpare : (s.modSpare n f).security = s.security := rfl
@[simp] theorem State.ledger_modSpare : (s.modSpare n f).ledger = s.ledger := rfl
@[simp] theorem State.faults_modSpare : (s.modSpare n f).faults = s.faults := rfl
@[simp] theorem State.cal_modSpare : (s.modSpare n f).cal = s.cal := rfl
@[simp] theorem State.monitors_modSpare : (s.modSpare n f).monitors = s.monitors := rfl
@[simp] theorem State.trips_modSpare : (s.modSpare n f).trips = s.trips := rfl
@[simp] theorem State.clock_modSpare : (s.modSpare n f).clock = s.clock := rfl
@[simp] theorem State.cart_modSpare : (s.modSpare n f).cart = s.cart := rfl
@[simp] theorem State.twin_modSpare : (s.modSpare n f).twin = s.twin := rfl
@[simp] theorem State.health_modSpare : (s.modSpare n f).health = s.health := rfl
@[simp] theorem State.life_modSpare : (s.modSpare n f).life = s.life := rfl
@[simp] theorem State.nv_modSpare : (s.modSpare n f).nv = s.nv := rfl
@[simp] theorem State.pins_modSpare : (s.modSpare n f).pins = s.pins := rfl
@[simp] theorem State.pending_modSpare : (s.modSpare n f).pending = s.pending := rfl

end modSpare

/-! ### setTimer -/

section setTimer

variable (s : State) (n : Nat) (x : Timer)

@[simp] theorem State.part_setTimer : (s.setTimer n x).part = s.part := rfl
@[simp] theorem State.cycle_setTimer : (s.setTimer n x).cycle = s.cycle := rfl
@[simp] theorem State.free_setTimer : (s.setTimer n x).free = s.free := rfl
@[simp] theorem State.regs_setTimer : (s.setTimer n x).regs = s.regs := rfl
@[simp] theorem State.ports_setTimer : (s.setTimer n x).ports = s.ports := rfl
@[simp] theorem State.groups_setTimer : (s.setTimer n x).groups = s.groups := rfl
@[simp] theorem State.spares_setTimer : (s.setTimer n x).spares = s.spares := rfl
@[simp] theorem State.descs_setTimer : (s.setTimer n x).descs = s.descs := rfl
@[simp] theorem State.entries_setTimer : (s.setTimer n x).entries = s.entries := rfl
@[simp] theorem State.wave_setTimer : (s.setTimer n x).wave = s.wave := rfl
@[simp] theorem State.memctl_setTimer : (s.setTimer n x).memctl = s.memctl := rfl
@[simp] theorem State.copies_setTimer : (s.setTimer n x).copies = s.copies := rfl
@[simp] theorem State.bobbins_setTimer : (s.setTimer n x).bobbins = s.bobbins := rfl
@[simp] theorem State.fabric_setTimer : (s.setTimer n x).fabric = s.fabric := rfl
@[simp] theorem State.i3cA_setTimer : (s.setTimer n x).i3cA = s.i3cA := rfl
@[simp] theorem State.i3cB_setTimer : (s.setTimer n x).i3cB = s.i3cB := rfl
@[simp] theorem State.owner_setTimer : (s.setTimer n x).owner = s.owner := rfl
@[simp] theorem State.bulk_setTimer : (s.setTimer n x).bulk = s.bulk := rfl
@[simp] theorem State.security_setTimer : (s.setTimer n x).security = s.security := rfl
@[simp] theorem State.ledger_setTimer : (s.setTimer n x).ledger = s.ledger := rfl
@[simp] theorem State.faults_setTimer : (s.setTimer n x).faults = s.faults := rfl
@[simp] theorem State.cal_setTimer : (s.setTimer n x).cal = s.cal := rfl
@[simp] theorem State.monitors_setTimer : (s.setTimer n x).monitors = s.monitors := rfl
@[simp] theorem State.trips_setTimer : (s.setTimer n x).trips = s.trips := rfl
@[simp] theorem State.clock_setTimer : (s.setTimer n x).clock = s.clock := rfl
@[simp] theorem State.cart_setTimer : (s.setTimer n x).cart = s.cart := rfl
@[simp] theorem State.twin_setTimer : (s.setTimer n x).twin = s.twin := rfl
@[simp] theorem State.health_setTimer : (s.setTimer n x).health = s.health := rfl
@[simp] theorem State.life_setTimer : (s.setTimer n x).life = s.life := rfl
@[simp] theorem State.nv_setTimer : (s.setTimer n x).nv = s.nv := rfl
@[simp] theorem State.pins_setTimer : (s.setTimer n x).pins = s.pins := rfl
@[simp] theorem State.pending_setTimer : (s.setTimer n x).pending = s.pending := rfl

end setTimer

/-! ### setStack -/

section setStack

variable (s : State) (n : Nat) (x : Stack)

@[simp] theorem State.part_setStack : (s.setStack n x).part = s.part := rfl
@[simp] theorem State.cycle_setStack : (s.setStack n x).cycle = s.cycle := rfl
@[simp] theorem State.free_setStack : (s.setStack n x).free = s.free := rfl
@[simp] theorem State.regs_setStack : (s.setStack n x).regs = s.regs := rfl
@[simp] theorem State.ports_setStack : (s.setStack n x).ports = s.ports := rfl
@[simp] theorem State.groups_setStack : (s.setStack n x).groups = s.groups := rfl
@[simp] theorem State.spares_setStack : (s.setStack n x).spares = s.spares := rfl
@[simp] theorem State.descs_setStack : (s.setStack n x).descs = s.descs := rfl
@[simp] theorem State.entries_setStack : (s.setStack n x).entries = s.entries := rfl
@[simp] theorem State.wave_setStack : (s.setStack n x).wave = s.wave := rfl
@[simp] theorem State.copies_setStack : (s.setStack n x).copies = s.copies := rfl
@[simp] theorem State.bobbins_setStack : (s.setStack n x).bobbins = s.bobbins := rfl
@[simp] theorem State.fabric_setStack : (s.setStack n x).fabric = s.fabric := rfl
@[simp] theorem State.timers_setStack : (s.setStack n x).timers = s.timers := rfl
@[simp] theorem State.i3cA_setStack : (s.setStack n x).i3cA = s.i3cA := rfl
@[simp] theorem State.i3cB_setStack : (s.setStack n x).i3cB = s.i3cB := rfl
@[simp] theorem State.owner_setStack : (s.setStack n x).owner = s.owner := rfl
@[simp] theorem State.bulk_setStack : (s.setStack n x).bulk = s.bulk := rfl
@[simp] theorem State.security_setStack : (s.setStack n x).security = s.security := rfl
@[simp] theorem State.ledger_setStack : (s.setStack n x).ledger = s.ledger := rfl
@[simp] theorem State.faults_setStack : (s.setStack n x).faults = s.faults := rfl
@[simp] theorem State.cal_setStack : (s.setStack n x).cal = s.cal := rfl
@[simp] theorem State.monitors_setStack : (s.setStack n x).monitors = s.monitors := rfl
@[simp] theorem State.trips_setStack : (s.setStack n x).trips = s.trips := rfl
@[simp] theorem State.clock_setStack : (s.setStack n x).clock = s.clock := rfl
@[simp] theorem State.cart_setStack : (s.setStack n x).cart = s.cart := rfl
@[simp] theorem State.twin_setStack : (s.setStack n x).twin = s.twin := rfl
@[simp] theorem State.health_setStack : (s.setStack n x).health = s.health := rfl
@[simp] theorem State.life_setStack : (s.setStack n x).life = s.life := rfl
@[simp] theorem State.nv_setStack : (s.setStack n x).nv = s.nv := rfl
@[simp] theorem State.pins_setStack : (s.setStack n x).pins = s.pins := rfl
@[simp] theorem State.pending_setStack : (s.setStack n x).pending = s.pending := rfl

end setStack

/-! ### modStack -/

section modStack

variable (s : State) (n : Nat) (f : Stack → Stack)

@[simp] theorem State.part_modStack : (s.modStack n f).part = s.part := rfl
@[simp] theorem State.cycle_modStack : (s.modStack n f).cycle = s.cycle := rfl
@[simp] theorem State.free_modStack : (s.modStack n f).free = s.free := rfl
@[simp] theorem State.regs_modStack : (s.modStack n f).regs = s.regs := rfl
@[simp] theorem State.ports_modStack : (s.modStack n f).ports = s.ports := rfl
@[simp] theorem State.groups_modStack : (s.modStack n f).groups = s.groups := rfl
@[simp] theorem State.spares_modStack : (s.modStack n f).spares = s.spares := rfl
@[simp] theorem State.descs_modStack : (s.modStack n f).descs = s.descs := rfl
@[simp] theorem State.entries_modStack : (s.modStack n f).entries = s.entries := rfl
@[simp] theorem State.wave_modStack : (s.modStack n f).wave = s.wave := rfl
@[simp] theorem State.copies_modStack : (s.modStack n f).copies = s.copies := rfl
@[simp] theorem State.bobbins_modStack : (s.modStack n f).bobbins = s.bobbins := rfl
@[simp] theorem State.fabric_modStack : (s.modStack n f).fabric = s.fabric := rfl
@[simp] theorem State.timers_modStack : (s.modStack n f).timers = s.timers := rfl
@[simp] theorem State.i3cA_modStack : (s.modStack n f).i3cA = s.i3cA := rfl
@[simp] theorem State.i3cB_modStack : (s.modStack n f).i3cB = s.i3cB := rfl
@[simp] theorem State.owner_modStack : (s.modStack n f).owner = s.owner := rfl
@[simp] theorem State.bulk_modStack : (s.modStack n f).bulk = s.bulk := rfl
@[simp] theorem State.security_modStack : (s.modStack n f).security = s.security := rfl
@[simp] theorem State.ledger_modStack : (s.modStack n f).ledger = s.ledger := rfl
@[simp] theorem State.faults_modStack : (s.modStack n f).faults = s.faults := rfl
@[simp] theorem State.cal_modStack : (s.modStack n f).cal = s.cal := rfl
@[simp] theorem State.monitors_modStack : (s.modStack n f).monitors = s.monitors := rfl
@[simp] theorem State.trips_modStack : (s.modStack n f).trips = s.trips := rfl
@[simp] theorem State.clock_modStack : (s.modStack n f).clock = s.clock := rfl
@[simp] theorem State.cart_modStack : (s.modStack n f).cart = s.cart := rfl
@[simp] theorem State.twin_modStack : (s.modStack n f).twin = s.twin := rfl
@[simp] theorem State.health_modStack : (s.modStack n f).health = s.health := rfl
@[simp] theorem State.life_modStack : (s.modStack n f).life = s.life := rfl
@[simp] theorem State.nv_modStack : (s.modStack n f).nv = s.nv := rfl
@[simp] theorem State.pins_modStack : (s.modStack n f).pins = s.pins := rfl
@[simp] theorem State.pending_modStack : (s.modStack n f).pending = s.pending := rfl

end modStack

/-! ### setMonitor -/

section setMonitor

variable (s : State) (n : Nat) (x : Monitor)

@[simp] theorem State.part_setMonitor : (s.setMonitor n x).part = s.part := rfl
@[simp] theorem State.cycle_setMonitor : (s.setMonitor n x).cycle = s.cycle := rfl
@[simp] theorem State.free_setMonitor : (s.setMonitor n x).free = s.free := rfl
@[simp] theorem State.regs_setMonitor : (s.setMonitor n x).regs = s.regs := rfl
@[simp] theorem State.ports_setMonitor : (s.setMonitor n x).ports = s.ports := rfl
@[simp] theorem State.groups_setMonitor : (s.setMonitor n x).groups = s.groups := rfl
@[simp] theorem State.spares_setMonitor : (s.setMonitor n x).spares = s.spares := rfl
@[simp] theorem State.descs_setMonitor : (s.setMonitor n x).descs = s.descs := rfl
@[simp] theorem State.entries_setMonitor : (s.setMonitor n x).entries = s.entries := rfl
@[simp] theorem State.wave_setMonitor : (s.setMonitor n x).wave = s.wave := rfl
@[simp] theorem State.memctl_setMonitor : (s.setMonitor n x).memctl = s.memctl := rfl
@[simp] theorem State.copies_setMonitor : (s.setMonitor n x).copies = s.copies := rfl
@[simp] theorem State.bobbins_setMonitor : (s.setMonitor n x).bobbins = s.bobbins := rfl
@[simp] theorem State.fabric_setMonitor : (s.setMonitor n x).fabric = s.fabric := rfl
@[simp] theorem State.timers_setMonitor : (s.setMonitor n x).timers = s.timers := rfl
@[simp] theorem State.i3cA_setMonitor : (s.setMonitor n x).i3cA = s.i3cA := rfl
@[simp] theorem State.i3cB_setMonitor : (s.setMonitor n x).i3cB = s.i3cB := rfl
@[simp] theorem State.owner_setMonitor : (s.setMonitor n x).owner = s.owner := rfl
@[simp] theorem State.bulk_setMonitor : (s.setMonitor n x).bulk = s.bulk := rfl
@[simp] theorem State.security_setMonitor : (s.setMonitor n x).security = s.security := rfl
@[simp] theorem State.ledger_setMonitor : (s.setMonitor n x).ledger = s.ledger := rfl
@[simp] theorem State.faults_setMonitor : (s.setMonitor n x).faults = s.faults := rfl
@[simp] theorem State.cal_setMonitor : (s.setMonitor n x).cal = s.cal := rfl
@[simp] theorem State.trips_setMonitor : (s.setMonitor n x).trips = s.trips := rfl
@[simp] theorem State.clock_setMonitor : (s.setMonitor n x).clock = s.clock := rfl
@[simp] theorem State.cart_setMonitor : (s.setMonitor n x).cart = s.cart := rfl
@[simp] theorem State.twin_setMonitor : (s.setMonitor n x).twin = s.twin := rfl
@[simp] theorem State.health_setMonitor : (s.setMonitor n x).health = s.health := rfl
@[simp] theorem State.life_setMonitor : (s.setMonitor n x).life = s.life := rfl
@[simp] theorem State.nv_setMonitor : (s.setMonitor n x).nv = s.nv := rfl
@[simp] theorem State.pins_setMonitor : (s.setMonitor n x).pins = s.pins := rfl
@[simp] theorem State.pending_setMonitor : (s.setMonitor n x).pending = s.pending := rfl

end setMonitor

/-! ### setHook -/

section setHook

variable (s : State) (a : Nat) (h : HookState)

@[simp] theorem State.part_setHook : (s.setHook a h).part = s.part := rfl
@[simp] theorem State.cycle_setHook : (s.setHook a h).cycle = s.cycle := rfl
@[simp] theorem State.free_setHook : (s.setHook a h).free = s.free := rfl
@[simp] theorem State.regs_setHook : (s.setHook a h).regs = s.regs := rfl
@[simp] theorem State.ports_setHook : (s.setHook a h).ports = s.ports := rfl
@[simp] theorem State.groups_setHook : (s.setHook a h).groups = s.groups := rfl
@[simp] theorem State.spares_setHook : (s.setHook a h).spares = s.spares := rfl
@[simp] theorem State.descs_setHook : (s.setHook a h).descs = s.descs := rfl
@[simp] theorem State.entries_setHook : (s.setHook a h).entries = s.entries := rfl
@[simp] theorem State.wave_setHook : (s.setHook a h).wave = s.wave := rfl
@[simp] theorem State.memctl_setHook : (s.setHook a h).memctl = s.memctl := rfl
@[simp] theorem State.copies_setHook : (s.setHook a h).copies = s.copies := rfl
@[simp] theorem State.bobbins_setHook : (s.setHook a h).bobbins = s.bobbins := rfl
@[simp] theorem State.timers_setHook : (s.setHook a h).timers = s.timers := rfl
@[simp] theorem State.i3cA_setHook : (s.setHook a h).i3cA = s.i3cA := rfl
@[simp] theorem State.i3cB_setHook : (s.setHook a h).i3cB = s.i3cB := rfl
@[simp] theorem State.owner_setHook : (s.setHook a h).owner = s.owner := rfl
@[simp] theorem State.bulk_setHook : (s.setHook a h).bulk = s.bulk := rfl
@[simp] theorem State.security_setHook : (s.setHook a h).security = s.security := rfl
@[simp] theorem State.ledger_setHook : (s.setHook a h).ledger = s.ledger := rfl
@[simp] theorem State.faults_setHook : (s.setHook a h).faults = s.faults := rfl
@[simp] theorem State.cal_setHook : (s.setHook a h).cal = s.cal := rfl
@[simp] theorem State.monitors_setHook : (s.setHook a h).monitors = s.monitors := rfl
@[simp] theorem State.trips_setHook : (s.setHook a h).trips = s.trips := rfl
@[simp] theorem State.clock_setHook : (s.setHook a h).clock = s.clock := rfl
@[simp] theorem State.cart_setHook : (s.setHook a h).cart = s.cart := rfl
@[simp] theorem State.twin_setHook : (s.setHook a h).twin = s.twin := rfl
@[simp] theorem State.health_setHook : (s.setHook a h).health = s.health := rfl
@[simp] theorem State.life_setHook : (s.setHook a h).life = s.life := rfl
@[simp] theorem State.nv_setHook : (s.setHook a h).nv = s.nv := rfl
@[simp] theorem State.pins_setHook : (s.setHook a h).pins = s.pins := rfl
@[simp] theorem State.pending_setHook : (s.setHook a h).pending = s.pending := rfl

end setHook

/-! ### setSlot -/

section setSlot

variable (s : State) (k : Nat) (x : CartSlot)

@[simp] theorem State.part_setSlot : (s.setSlot k x).part = s.part := rfl
@[simp] theorem State.cycle_setSlot : (s.setSlot k x).cycle = s.cycle := rfl
@[simp] theorem State.free_setSlot : (s.setSlot k x).free = s.free := rfl
@[simp] theorem State.regs_setSlot : (s.setSlot k x).regs = s.regs := rfl
@[simp] theorem State.ports_setSlot : (s.setSlot k x).ports = s.ports := rfl
@[simp] theorem State.groups_setSlot : (s.setSlot k x).groups = s.groups := rfl
@[simp] theorem State.spares_setSlot : (s.setSlot k x).spares = s.spares := rfl
@[simp] theorem State.descs_setSlot : (s.setSlot k x).descs = s.descs := rfl
@[simp] theorem State.entries_setSlot : (s.setSlot k x).entries = s.entries := rfl
@[simp] theorem State.wave_setSlot : (s.setSlot k x).wave = s.wave := rfl
@[simp] theorem State.memctl_setSlot : (s.setSlot k x).memctl = s.memctl := rfl
@[simp] theorem State.copies_setSlot : (s.setSlot k x).copies = s.copies := rfl
@[simp] theorem State.bobbins_setSlot : (s.setSlot k x).bobbins = s.bobbins := rfl
@[simp] theorem State.fabric_setSlot : (s.setSlot k x).fabric = s.fabric := rfl
@[simp] theorem State.timers_setSlot : (s.setSlot k x).timers = s.timers := rfl
@[simp] theorem State.i3cA_setSlot : (s.setSlot k x).i3cA = s.i3cA := rfl
@[simp] theorem State.i3cB_setSlot : (s.setSlot k x).i3cB = s.i3cB := rfl
@[simp] theorem State.owner_setSlot : (s.setSlot k x).owner = s.owner := rfl
@[simp] theorem State.bulk_setSlot : (s.setSlot k x).bulk = s.bulk := rfl
@[simp] theorem State.security_setSlot : (s.setSlot k x).security = s.security := rfl
@[simp] theorem State.ledger_setSlot : (s.setSlot k x).ledger = s.ledger := rfl
@[simp] theorem State.faults_setSlot : (s.setSlot k x).faults = s.faults := rfl
@[simp] theorem State.cal_setSlot : (s.setSlot k x).cal = s.cal := rfl
@[simp] theorem State.monitors_setSlot : (s.setSlot k x).monitors = s.monitors := rfl
@[simp] theorem State.trips_setSlot : (s.setSlot k x).trips = s.trips := rfl
@[simp] theorem State.clock_setSlot : (s.setSlot k x).clock = s.clock := rfl
@[simp] theorem State.twin_setSlot : (s.setSlot k x).twin = s.twin := rfl
@[simp] theorem State.health_setSlot : (s.setSlot k x).health = s.health := rfl
@[simp] theorem State.life_setSlot : (s.setSlot k x).life = s.life := rfl
@[simp] theorem State.nv_setSlot : (s.setSlot k x).nv = s.nv := rfl
@[simp] theorem State.pins_setSlot : (s.setSlot k x).pins = s.pins := rfl
@[simp] theorem State.pending_setSlot : (s.setSlot k x).pending = s.pending := rfl

end setSlot

/-! ### writeByte -/

section writeByte

variable (s : State) (a : Nat) (b : Byte)

@[simp] theorem State.part_writeByte : (s.writeByte a b).part = s.part := rfl
@[simp] theorem State.cycle_writeByte : (s.writeByte a b).cycle = s.cycle := rfl
@[simp] theorem State.free_writeByte : (s.writeByte a b).free = s.free := rfl
@[simp] theorem State.regs_writeByte : (s.writeByte a b).regs = s.regs := rfl
@[simp] theorem State.ports_writeByte : (s.writeByte a b).ports = s.ports := rfl
@[simp] theorem State.groups_writeByte : (s.writeByte a b).groups = s.groups := rfl
@[simp] theorem State.spares_writeByte : (s.writeByte a b).spares = s.spares := rfl
@[simp] theorem State.descs_writeByte : (s.writeByte a b).descs = s.descs := rfl
@[simp] theorem State.entries_writeByte : (s.writeByte a b).entries = s.entries := rfl
@[simp] theorem State.memctl_writeByte : (s.writeByte a b).memctl = s.memctl := rfl
@[simp] theorem State.copies_writeByte : (s.writeByte a b).copies = s.copies := rfl
@[simp] theorem State.bobbins_writeByte : (s.writeByte a b).bobbins = s.bobbins := rfl
@[simp] theorem State.fabric_writeByte : (s.writeByte a b).fabric = s.fabric := rfl
@[simp] theorem State.timers_writeByte : (s.writeByte a b).timers = s.timers := rfl
@[simp] theorem State.i3cA_writeByte : (s.writeByte a b).i3cA = s.i3cA := rfl
@[simp] theorem State.i3cB_writeByte : (s.writeByte a b).i3cB = s.i3cB := rfl
@[simp] theorem State.owner_writeByte : (s.writeByte a b).owner = s.owner := rfl
@[simp] theorem State.bulk_writeByte : (s.writeByte a b).bulk = s.bulk := rfl
@[simp] theorem State.security_writeByte : (s.writeByte a b).security = s.security := rfl
@[simp] theorem State.ledger_writeByte : (s.writeByte a b).ledger = s.ledger := rfl
@[simp] theorem State.faults_writeByte : (s.writeByte a b).faults = s.faults := rfl
@[simp] theorem State.cal_writeByte : (s.writeByte a b).cal = s.cal := rfl
@[simp] theorem State.monitors_writeByte : (s.writeByte a b).monitors = s.monitors := rfl
@[simp] theorem State.trips_writeByte : (s.writeByte a b).trips = s.trips := rfl
@[simp] theorem State.clock_writeByte : (s.writeByte a b).clock = s.clock := rfl
@[simp] theorem State.cart_writeByte : (s.writeByte a b).cart = s.cart := rfl
@[simp] theorem State.twin_writeByte : (s.writeByte a b).twin = s.twin := rfl
@[simp] theorem State.health_writeByte : (s.writeByte a b).health = s.health := rfl
@[simp] theorem State.life_writeByte : (s.writeByte a b).life = s.life := rfl
@[simp] theorem State.nv_writeByte : (s.writeByte a b).nv = s.nv := rfl
@[simp] theorem State.pins_writeByte : (s.writeByte a b).pins = s.pins := rfl
@[simp] theorem State.pending_writeByte : (s.writeByte a b).pending = s.pending := rfl

end writeByte

/-! ### modClock -/

section modClock

variable (s : State) (f : Clock → Clock)

@[simp] theorem State.part_modClock : (s.modClock f).part = s.part := rfl
@[simp] theorem State.cycle_modClock : (s.modClock f).cycle = s.cycle := rfl
@[simp] theorem State.free_modClock : (s.modClock f).free = s.free := rfl
@[simp] theorem State.regs_modClock : (s.modClock f).regs = s.regs := rfl
@[simp] theorem State.ports_modClock : (s.modClock f).ports = s.ports := rfl
@[simp] theorem State.groups_modClock : (s.modClock f).groups = s.groups := rfl
@[simp] theorem State.spares_modClock : (s.modClock f).spares = s.spares := rfl
@[simp] theorem State.descs_modClock : (s.modClock f).descs = s.descs := rfl
@[simp] theorem State.entries_modClock : (s.modClock f).entries = s.entries := rfl
@[simp] theorem State.wave_modClock : (s.modClock f).wave = s.wave := rfl
@[simp] theorem State.memctl_modClock : (s.modClock f).memctl = s.memctl := rfl
@[simp] theorem State.copies_modClock : (s.modClock f).copies = s.copies := rfl
@[simp] theorem State.bobbins_modClock : (s.modClock f).bobbins = s.bobbins := rfl
@[simp] theorem State.fabric_modClock : (s.modClock f).fabric = s.fabric := rfl
@[simp] theorem State.timers_modClock : (s.modClock f).timers = s.timers := rfl
@[simp] theorem State.i3cA_modClock : (s.modClock f).i3cA = s.i3cA := rfl
@[simp] theorem State.i3cB_modClock : (s.modClock f).i3cB = s.i3cB := rfl
@[simp] theorem State.owner_modClock : (s.modClock f).owner = s.owner := rfl
@[simp] theorem State.bulk_modClock : (s.modClock f).bulk = s.bulk := rfl
@[simp] theorem State.security_modClock : (s.modClock f).security = s.security := rfl
@[simp] theorem State.ledger_modClock : (s.modClock f).ledger = s.ledger := rfl
@[simp] theorem State.faults_modClock : (s.modClock f).faults = s.faults := rfl
@[simp] theorem State.cal_modClock : (s.modClock f).cal = s.cal := rfl
@[simp] theorem State.monitors_modClock : (s.modClock f).monitors = s.monitors := rfl
@[simp] theorem State.trips_modClock : (s.modClock f).trips = s.trips := rfl
@[simp] theorem State.cart_modClock : (s.modClock f).cart = s.cart := rfl
@[simp] theorem State.twin_modClock : (s.modClock f).twin = s.twin := rfl
@[simp] theorem State.health_modClock : (s.modClock f).health = s.health := rfl
@[simp] theorem State.life_modClock : (s.modClock f).life = s.life := rfl
@[simp] theorem State.nv_modClock : (s.modClock f).nv = s.nv := rfl
@[simp] theorem State.pins_modClock : (s.modClock f).pins = s.pins := rfl
@[simp] theorem State.pending_modClock : (s.modClock f).pending = s.pending := rfl
@[simp] theorem State.clock_modClock : (s.modClock f).clock = f s.clock := rfl

end modClock

/-! ### modCart -/

section modCart

variable (s : State) (f : Cart → Cart)

@[simp] theorem State.part_modCart : (s.modCart f).part = s.part := rfl
@[simp] theorem State.cycle_modCart : (s.modCart f).cycle = s.cycle := rfl
@[simp] theorem State.free_modCart : (s.modCart f).free = s.free := rfl
@[simp] theorem State.regs_modCart : (s.modCart f).regs = s.regs := rfl
@[simp] theorem State.ports_modCart : (s.modCart f).ports = s.ports := rfl
@[simp] theorem State.groups_modCart : (s.modCart f).groups = s.groups := rfl
@[simp] theorem State.spares_modCart : (s.modCart f).spares = s.spares := rfl
@[simp] theorem State.descs_modCart : (s.modCart f).descs = s.descs := rfl
@[simp] theorem State.entries_modCart : (s.modCart f).entries = s.entries := rfl
@[simp] theorem State.wave_modCart : (s.modCart f).wave = s.wave := rfl
@[simp] theorem State.memctl_modCart : (s.modCart f).memctl = s.memctl := rfl
@[simp] theorem State.copies_modCart : (s.modCart f).copies = s.copies := rfl
@[simp] theorem State.bobbins_modCart : (s.modCart f).bobbins = s.bobbins := rfl
@[simp] theorem State.fabric_modCart : (s.modCart f).fabric = s.fabric := rfl
@[simp] theorem State.timers_modCart : (s.modCart f).timers = s.timers := rfl
@[simp] theorem State.i3cA_modCart : (s.modCart f).i3cA = s.i3cA := rfl
@[simp] theorem State.i3cB_modCart : (s.modCart f).i3cB = s.i3cB := rfl
@[simp] theorem State.owner_modCart : (s.modCart f).owner = s.owner := rfl
@[simp] theorem State.bulk_modCart : (s.modCart f).bulk = s.bulk := rfl
@[simp] theorem State.security_modCart : (s.modCart f).security = s.security := rfl
@[simp] theorem State.ledger_modCart : (s.modCart f).ledger = s.ledger := rfl
@[simp] theorem State.faults_modCart : (s.modCart f).faults = s.faults := rfl
@[simp] theorem State.cal_modCart : (s.modCart f).cal = s.cal := rfl
@[simp] theorem State.monitors_modCart : (s.modCart f).monitors = s.monitors := rfl
@[simp] theorem State.trips_modCart : (s.modCart f).trips = s.trips := rfl
@[simp] theorem State.clock_modCart : (s.modCart f).clock = s.clock := rfl
@[simp] theorem State.twin_modCart : (s.modCart f).twin = s.twin := rfl
@[simp] theorem State.health_modCart : (s.modCart f).health = s.health := rfl
@[simp] theorem State.life_modCart : (s.modCart f).life = s.life := rfl
@[simp] theorem State.nv_modCart : (s.modCart f).nv = s.nv := rfl
@[simp] theorem State.pins_modCart : (s.modCart f).pins = s.pins := rfl
@[simp] theorem State.pending_modCart : (s.modCart f).pending = s.pending := rfl
@[simp] theorem State.cart_modCart : (s.modCart f).cart = f s.cart := rfl

end modCart

/-! ### modTwin -/

section modTwin

variable (s : State) (f : Twin → Twin)

@[simp] theorem State.part_modTwin : (s.modTwin f).part = s.part := rfl
@[simp] theorem State.cycle_modTwin : (s.modTwin f).cycle = s.cycle := rfl
@[simp] theorem State.free_modTwin : (s.modTwin f).free = s.free := rfl
@[simp] theorem State.regs_modTwin : (s.modTwin f).regs = s.regs := rfl
@[simp] theorem State.ports_modTwin : (s.modTwin f).ports = s.ports := rfl
@[simp] theorem State.groups_modTwin : (s.modTwin f).groups = s.groups := rfl
@[simp] theorem State.spares_modTwin : (s.modTwin f).spares = s.spares := rfl
@[simp] theorem State.descs_modTwin : (s.modTwin f).descs = s.descs := rfl
@[simp] theorem State.entries_modTwin : (s.modTwin f).entries = s.entries := rfl
@[simp] theorem State.wave_modTwin : (s.modTwin f).wave = s.wave := rfl
@[simp] theorem State.memctl_modTwin : (s.modTwin f).memctl = s.memctl := rfl
@[simp] theorem State.copies_modTwin : (s.modTwin f).copies = s.copies := rfl
@[simp] theorem State.bobbins_modTwin : (s.modTwin f).bobbins = s.bobbins := rfl
@[simp] theorem State.fabric_modTwin : (s.modTwin f).fabric = s.fabric := rfl
@[simp] theorem State.timers_modTwin : (s.modTwin f).timers = s.timers := rfl
@[simp] theorem State.i3cA_modTwin : (s.modTwin f).i3cA = s.i3cA := rfl
@[simp] theorem State.i3cB_modTwin : (s.modTwin f).i3cB = s.i3cB := rfl
@[simp] theorem State.owner_modTwin : (s.modTwin f).owner = s.owner := rfl
@[simp] theorem State.bulk_modTwin : (s.modTwin f).bulk = s.bulk := rfl
@[simp] theorem State.security_modTwin : (s.modTwin f).security = s.security := rfl
@[simp] theorem State.ledger_modTwin : (s.modTwin f).ledger = s.ledger := rfl
@[simp] theorem State.faults_modTwin : (s.modTwin f).faults = s.faults := rfl
@[simp] theorem State.cal_modTwin : (s.modTwin f).cal = s.cal := rfl
@[simp] theorem State.monitors_modTwin : (s.modTwin f).monitors = s.monitors := rfl
@[simp] theorem State.trips_modTwin : (s.modTwin f).trips = s.trips := rfl
@[simp] theorem State.clock_modTwin : (s.modTwin f).clock = s.clock := rfl
@[simp] theorem State.cart_modTwin : (s.modTwin f).cart = s.cart := rfl
@[simp] theorem State.health_modTwin : (s.modTwin f).health = s.health := rfl
@[simp] theorem State.life_modTwin : (s.modTwin f).life = s.life := rfl
@[simp] theorem State.nv_modTwin : (s.modTwin f).nv = s.nv := rfl
@[simp] theorem State.pins_modTwin : (s.modTwin f).pins = s.pins := rfl
@[simp] theorem State.pending_modTwin : (s.modTwin f).pending = s.pending := rfl
@[simp] theorem State.twin_modTwin : (s.modTwin f).twin = f s.twin := rfl

end modTwin

/-! ### modHealth -/

section modHealth

variable (s : State) (f : Health → Health)

@[simp] theorem State.part_modHealth : (s.modHealth f).part = s.part := rfl
@[simp] theorem State.cycle_modHealth : (s.modHealth f).cycle = s.cycle := rfl
@[simp] theorem State.free_modHealth : (s.modHealth f).free = s.free := rfl
@[simp] theorem State.regs_modHealth : (s.modHealth f).regs = s.regs := rfl
@[simp] theorem State.ports_modHealth : (s.modHealth f).ports = s.ports := rfl
@[simp] theorem State.groups_modHealth : (s.modHealth f).groups = s.groups := rfl
@[simp] theorem State.spares_modHealth : (s.modHealth f).spares = s.spares := rfl
@[simp] theorem State.descs_modHealth : (s.modHealth f).descs = s.descs := rfl
@[simp] theorem State.entries_modHealth : (s.modHealth f).entries = s.entries := rfl
@[simp] theorem State.wave_modHealth : (s.modHealth f).wave = s.wave := rfl
@[simp] theorem State.memctl_modHealth : (s.modHealth f).memctl = s.memctl := rfl
@[simp] theorem State.copies_modHealth : (s.modHealth f).copies = s.copies := rfl
@[simp] theorem State.bobbins_modHealth : (s.modHealth f).bobbins = s.bobbins := rfl
@[simp] theorem State.fabric_modHealth : (s.modHealth f).fabric = s.fabric := rfl
@[simp] theorem State.timers_modHealth : (s.modHealth f).timers = s.timers := rfl
@[simp] theorem State.i3cA_modHealth : (s.modHealth f).i3cA = s.i3cA := rfl
@[simp] theorem State.i3cB_modHealth : (s.modHealth f).i3cB = s.i3cB := rfl
@[simp] theorem State.owner_modHealth : (s.modHealth f).owner = s.owner := rfl
@[simp] theorem State.bulk_modHealth : (s.modHealth f).bulk = s.bulk := rfl
@[simp] theorem State.security_modHealth : (s.modHealth f).security = s.security := rfl
@[simp] theorem State.ledger_modHealth : (s.modHealth f).ledger = s.ledger := rfl
@[simp] theorem State.faults_modHealth : (s.modHealth f).faults = s.faults := rfl
@[simp] theorem State.cal_modHealth : (s.modHealth f).cal = s.cal := rfl
@[simp] theorem State.monitors_modHealth : (s.modHealth f).monitors = s.monitors := rfl
@[simp] theorem State.trips_modHealth : (s.modHealth f).trips = s.trips := rfl
@[simp] theorem State.clock_modHealth : (s.modHealth f).clock = s.clock := rfl
@[simp] theorem State.cart_modHealth : (s.modHealth f).cart = s.cart := rfl
@[simp] theorem State.twin_modHealth : (s.modHealth f).twin = s.twin := rfl
@[simp] theorem State.life_modHealth : (s.modHealth f).life = s.life := rfl
@[simp] theorem State.nv_modHealth : (s.modHealth f).nv = s.nv := rfl
@[simp] theorem State.pins_modHealth : (s.modHealth f).pins = s.pins := rfl
@[simp] theorem State.pending_modHealth : (s.modHealth f).pending = s.pending := rfl
@[simp] theorem State.health_modHealth : (s.modHealth f).health = f s.health := rfl

end modHealth

/-! ### modLife -/

section modLife

variable (s : State) (f : Lifecycle → Lifecycle)

@[simp] theorem State.part_modLife : (s.modLife f).part = s.part := rfl
@[simp] theorem State.cycle_modLife : (s.modLife f).cycle = s.cycle := rfl
@[simp] theorem State.free_modLife : (s.modLife f).free = s.free := rfl
@[simp] theorem State.regs_modLife : (s.modLife f).regs = s.regs := rfl
@[simp] theorem State.ports_modLife : (s.modLife f).ports = s.ports := rfl
@[simp] theorem State.groups_modLife : (s.modLife f).groups = s.groups := rfl
@[simp] theorem State.spares_modLife : (s.modLife f).spares = s.spares := rfl
@[simp] theorem State.descs_modLife : (s.modLife f).descs = s.descs := rfl
@[simp] theorem State.entries_modLife : (s.modLife f).entries = s.entries := rfl
@[simp] theorem State.wave_modLife : (s.modLife f).wave = s.wave := rfl
@[simp] theorem State.memctl_modLife : (s.modLife f).memctl = s.memctl := rfl
@[simp] theorem State.copies_modLife : (s.modLife f).copies = s.copies := rfl
@[simp] theorem State.bobbins_modLife : (s.modLife f).bobbins = s.bobbins := rfl
@[simp] theorem State.fabric_modLife : (s.modLife f).fabric = s.fabric := rfl
@[simp] theorem State.timers_modLife : (s.modLife f).timers = s.timers := rfl
@[simp] theorem State.i3cA_modLife : (s.modLife f).i3cA = s.i3cA := rfl
@[simp] theorem State.i3cB_modLife : (s.modLife f).i3cB = s.i3cB := rfl
@[simp] theorem State.owner_modLife : (s.modLife f).owner = s.owner := rfl
@[simp] theorem State.bulk_modLife : (s.modLife f).bulk = s.bulk := rfl
@[simp] theorem State.security_modLife : (s.modLife f).security = s.security := rfl
@[simp] theorem State.ledger_modLife : (s.modLife f).ledger = s.ledger := rfl
@[simp] theorem State.faults_modLife : (s.modLife f).faults = s.faults := rfl
@[simp] theorem State.cal_modLife : (s.modLife f).cal = s.cal := rfl
@[simp] theorem State.monitors_modLife : (s.modLife f).monitors = s.monitors := rfl
@[simp] theorem State.trips_modLife : (s.modLife f).trips = s.trips := rfl
@[simp] theorem State.clock_modLife : (s.modLife f).clock = s.clock := rfl
@[simp] theorem State.cart_modLife : (s.modLife f).cart = s.cart := rfl
@[simp] theorem State.twin_modLife : (s.modLife f).twin = s.twin := rfl
@[simp] theorem State.health_modLife : (s.modLife f).health = s.health := rfl
@[simp] theorem State.nv_modLife : (s.modLife f).nv = s.nv := rfl
@[simp] theorem State.pins_modLife : (s.modLife f).pins = s.pins := rfl
@[simp] theorem State.pending_modLife : (s.modLife f).pending = s.pending := rfl
@[simp] theorem State.life_modLife : (s.modLife f).life = f s.life := rfl

end modLife

end Machine
end Sys2Proof
end

