-- ==== Sys2Proof/Tests/Slice0.lean ====
section
/-! SUPPORT. Tests: the well-formedness check on ill-formed commands, for every statement with hypotheses states and
operands that meet them, clause by clause, and a few steps whose results the spec gives. -/

namespace Sys2Proof
namespace Tests

set_option Elab.async false

open Machine

/-! ### States

Small states of a TG144, each a few fields away from `base`: the module after cast-on, with its loop locked, both I3C
ports addressed and every unit as it was at reset. -/

/-- Registers that differ from their reset words, by page and offset. -/
def regList (l : List (Nat × Nat × Word)) : Tab Word := l.map (fun x => (regAddr x.1 x.2.1, x.2.2))

/-- After cast-on: a first lock has been (CASTON_STATUS), the lifecycle is READY. -/
def base : State :=
  { State.reset with
    regs := regList [(Page.global, 0x74, 4)]
    i3cA := { I3c.reset with address := some 8 }
    i3cB := { I3c.reset with address := some 9 }
    clock := { Clock.reset with loop := .locked, refPresent := true }
    life := { State.reset.life with state := .ready, ready := true, fwOk := true } }

/-- `base` with more registers set. -/
def withRegs (l : List (Nat × Nat × Word)) : State := { base with regs := regList l ++ base.regs }

/-- Port n powered and PARKED, then changed by a function. -/
def onPort (s : State) (n : Nat) (f : Port → Port) : State :=
  s.setPort n (f { s.port n with state := .parked, requested := .parked, power := .on })

/-- The playhead of an F-port in a segment of 40 granules, before its commit point. -/
def inPass : Playhead := { Playhead.idle with activity := .segment, pass := 1, gran := 3, len := 40, begun := true }

/-- An F-port in RUN with a playhead. -/
def running (ph : Playhead) : State := onPort base 64 (fun p => { p with state := .run, requested := .run, play := ph })

/-- What is latched for the coming slot boundary of port 64 in slot 0. -/
def dueNow (what : Latched) : List Latch := [{ due := 1, what := what, hop := 0 }]

/-- A sequence entry of a kind with DESC or MASK 0. -/
def entryOf (kind : Nat) : BitVec 256 := BitVec.ofNat 256 kind

/-- One hook of a register waits to act. -/
def act (hook : Nat) : Activation := { hook := hook, hop := 2, count := 1, cycle := 0 }

/-- A hook waits to act in a state. -/
def hooked (s : State) (hook : Nat) : State := { s with fabric := { s.fabric with acts := [act hook], mode := .normal } }

/-- The twin state of a follower whose pair plays. -/
def followTwin : Twin :=
  { Twin.reset with role := .follow, phase := .paired, linkUp := true, trained := true, lanes := 0xff, heartbeat := true
                    linkLocked := true, epoch := true, otherLow := true }

/-- The twin state of a lead whose partner is ready. -/
def leadTwin : Twin :=
  { Twin.reset with role := .lead, phase := .paired, linkUp := true, trained := true, lanes := 0xff, heartbeat := true
                    driven := true, partner := some { role := 2, moduleState := 6, partId := 0x0144, ref := true
                                                      ready := true, inStep := true, inSafe := 0 } }

/-- A frame with 240 bits of content and their CRC. -/
def frameOf (content : Nat) : LinkFrame := { bits := BitVec.ofNat 256 (content + crc16 content 240 0xffff * 2 ^ 240) }

/-- A frame that carries no level, no monitor state and no mirror slot. -/
def quiet : LinkFrame := frameOf 0

/-- A cartridge's data with an assignment. -/
def tap : TapValue := { v0 := 10000000, drift := 0, uncertainty := 100, coverage := 2 }

/-- An assignment at time 0. -/
def assigned : Assignment := { tap10 := tap, tap1 := tap, tap01 := tap, t0 := 0, labDigest := 0 }

/-- The data of a cartridge with a valid seal. -/
def cartData : CartData :=
  { identity := 7, history := [{ record := assigned, verifies := true }]
    life := { seconds := 3600, cycles := 1, shocks := 0, peakMilliC := 20000 } }

/-- A seated slot that is STABLE. -/
def stableSlot : CartSlot :=
  { CartSlot.reset with state := .stable, present := true, powered := true, data := some cartData, auth := true
                        ovenStable := true, inWindow := true }

/-- Both cartridges STABLE, slot 0 active. -/
def seated : State := { base with cart := { Cart.reset with a := stableSlot, b := stableSlot, active := some 0, since := some 0 } }

/-- `seated` with the factory record and time past the settling of the active cartridge. -/
def calibrating : State :=
  { seated with cal := { Cal.reset with factoryValid := true }, ledger := { seated.ledger with elapsed := 100 } }

/-- The bytes of an envelope: OPC, SEQ 1, ADDR, COUNT, TOKEN, DATA and the CRC. -/
def envelopeOf (opc addr count token : Nat) (data : List Word) : List Byte :=
  let body := [BitVec.ofNat 8 opc, 1] ++ leBytes 3 addr ++ leBytes 1 count ++ leBytes 8 token ++
    (data.map (fun w => leBytes 4 w.toNat)).flatten
  body ++ leBytes 4 (crc32c body).toNat

/-- `base` with an owner of token 5 on port A. -/
def ownedBase : State := { base with owner := { state := .owned, token := 5, port := .a, target := 0, heard := 0, offered := 0 } }

/-- An owner offers ownership to token 6. -/
def offered : State := { base with owner := { state := .handover, token := 5, port := .a, target := 6, heard := 0, offered := 0 } }

/-- One command waits. -/
def wQueue : State := { base with pending := [.ppsLost] }

/-- Timer 0 counts. -/
def wTimer : State := base.setTimer 0 { Timer.fresh with state := .running, mode := 1, period := 9 }

/-- Timer 1 counts in mode 3, timer 2 in mode 4, timer 3 in mode 5. -/
def wModes : State :=
  (((wTimer.setTimer 1 { Timer.fresh with state := .running, mode := 3, period := 9 }).setTimer 2
    { Timer.fresh with state := .running, mode := 4, period := 9 }).setTimer 3
      { Timer.fresh with state := .running, mode := 5, period := 3, count := 2 })

/-- Two bytes of the waveform memory are written. -/
def wBytes : State := { base with wave := [(3, 1), (7, 2)] }

/-- A posted write of 70 bytes from address 60 on waits. -/
def wPosted : State := { wBytes with bulk := { base.bulk with buffer := [{ addr := 60, bytes := List.replicate 70 9, windows := [0] }] } }

/-- A posted write of one byte, into a pseudo-channel that failed. -/
def wFailed : State :=
  { (base.setStack 0 { Stack.fresh with train := .tracking, failed := [0] }) with
    bulk := { base.bulk with buffer := [{ addr := 0, bytes := [9], windows := [0] }] } }

/-- A posted write waits behind a read of its pseudo-channel. -/
def wBusy : State :=
  { (onPort base 64 (fun p => { p with bobbin := { p.bobbin with
      flying := [{ pass := 1, gran := 0, addr := 0, data := none, issued := false, train := 0 }] } })) with
    bulk := { base.bulk with buffer := [{ addr := 0, bytes := [9], windows := [0] }] } }

theorem meets_StepRunsFrontCommand : wQueue.pending = [.ppsLost] := by decide

/-- A read waits to be issued on port 64. -/
def wWaits : State := onPort base 64 (fun p => { p with bobbin := { p.bobbin with
  flying := [{ pass := 1, gran := 0, addr := 0, data := none, issued := false, train := 0 }] } })

theorem meets_EmptyQueueLetsOneCyclePass :
    (ownedBase.pending = [] ∧ ownedBase.owned = true ∧ ownedBase.ownerTimersRun = true) ∧
    (base.pending = [] ∧ base.owned = false ∧ base.waitingReads = [] ∧ base.cal.store ≠ .erasing ∧ base.cal.store ≠ .programming ∧
      (base.slot 0).inWindow = false ∧ (base.slot 1).inWindow = false) ∧
    (wWaits.pending = [] ∧ wWaits.waitingReads ≠ []) ∧
    wModes.pending = [] ∧ ((wModes.timer 0).active = true ∧ (wModes.timer 0).mode ≠ 5 ∧ (wModes.timer 0).at_ ≤ wModes.cycle) ∧
      (wModes.timer 31).active = false ∧ (wModes.timer 3).mode = 5 := by decide

theorem meets_CommandsKeepQueueVariantCycle :
    exec .ppsLost wQueue = .next { wQueue with ledger := { wQueue.ledger with pps := false } } := by rfl

theorem meets_MemoryStaysCanonicalAtEveryStep : Memory.wf wBytes.wave = true ∧ ∃ t, step wBytes = .next t := by
  exact ⟨by decide, _, rfl⟩

theorem meets_ResetLeavesTheStatedValues : Config.twinLink .tg144 = true := by decide

theorem meets_WaveformMemoryFrame : Instr.reachesMemory .ppsLost = false ∧ ∃ t, exec .ppsLost wBytes = .next t := by
  exact ⟨by decide, _, rfl⟩

theorem meets_PostedWriteDrainStoresOneGranule :
    base.bulk.buffer = [] ∧ (wBusy.bulk.buffer ≠ [] ∧ wBusy.channelBusy 0 = true) ∧
    (wPosted.channelBusy 60 = false ∧ wFailed.channelBusy 0 = false) ∧
    (wPosted.bulk.buffer = [{ addr := 60, bytes := List.replicate 70 9, windows := [0] }] ∧
      (wPosted.stack (wPosted.pseudo 0 / 32)).failed.contains (wPosted.pseudo 0 % 32) = false ∧
      ((List.replicate 70 (9 : Byte)).take (64 - 60 % 64))[3]? = some 9 ∧ 64 - 60 % 64 < 70) ∧
    (wFailed.bulk.buffer = [{ addr := 0, bytes := [9], windows := [0] }] ∧
      (wFailed.stack (wFailed.pseudo 0 / 32)).failed.contains (wFailed.pseudo 0 % 32) = true ∧ 1 ≤ 64 - 0 % 64) := by decide

/-- The module before its ports answer. -/
def wSilent : State := { base with life := { base.life with state := .boot } }

/-- Both ports have no dynamic address. -/
def wUnaddressed : State := { base with i3cA := I3c.reset, i3cB := I3c.reset }

/-- Port A acts on no reset pattern and holds two interrupts. -/
def wAlerts : State := { base with i3cA := { base.i3cA with rstact := 0, ibis := [2, 5] } }

theorem meets_I3cCommandsActOnTheirPort :
    (wUnaddressed.i3cAnswers = true ∧ (wUnaddressed.i3c .a).address = none) ∧
    (base.i3cAnswers = true ∧ (base.i3c .a).address = some 8) ∧
    ((0x30 : BitVec 7).toNat = base.staticAddress .a ∧ (0x7f : BitVec 7).toNat ≠ base.staticAddress .a) ∧
    wSilent.i3cAnswers = false ∧
    (2 < (3 : Byte).toNat ∧ (base.i3c .a).address.isSome = true ∧ (base.i3c .a).rstact ≠ 0) ∧
    ((wAlerts.i3c .a).rstact = 0 ∧ wAlerts.takesPrivate .a = true ∧ (wAlerts.i3c .a).enint = true ∧ wAlerts.paused = false ∧
      (wAlerts.i3c .a).ibis = [2, 5]) := by decide

theorem meets_I3cGetCodesReturnTheirFields :
    (base.i3cAnswers = true ∧ (base.i3c .b).address.isSome = true) ∧
    (wUnaddressed.i3cAnswers = true ∧ (wUnaddressed.i3c .b).address = none) := by decide

/-- A READ of one word at PART_ID. -/
def eRead : List Byte := envelopeOf 0x01 0x40 1 0 []

/-- A WRITE of one word to a group's SEQ_START by the owner. -/
def eWrite : List Byte := envelopeOf 0x02 0x68040 1 5 [7]

/-- A masked write of the same word. -/
def eMask : List Byte := envelopeOf 0x03 0x68040 1 5 [0xff, 7]

/-- CLAIM, RELEASE, HANDOVER to token 6, HANDOVER taken back, ACCEPT, HEARTBEAT and ATTEST. -/
def eClaim : List Byte := envelopeOf 0x10 0 0 5 []
def eRelease : List Byte := envelopeOf 0x11 0 0 5 []
def eHandover : List Byte := envelopeOf 0x12 0 2 5 [6, 0]
def eBack : List Byte := envelopeOf 0x12 0 2 5 [0, 0]
def eAccept : List Byte := envelopeOf 0x13 0 0 6 []
def eHeartbeat : List Byte := envelopeOf 0x14 0 0 5 []
def eAttest : List Byte := envelopeOf 0x20 0 8 0 (List.replicate 8 3)

/-- An envelope whose opcode R355 does not list, and one that is too short. -/
def eUnknown : List Byte := envelopeOf 0x3f 0 0 0 []
def eShort : List Byte := [1, 2]

/-- The envelope was executed before on port A. -/
def wHeard : State := { ownedBase with i3cA := { ownedBase.i3cA with executed := some (eWrite, [1, 2, 0, 0]) } }

/-- A global commit is under way on pages with fields that wait. -/
def wCommitting : State :=
  { (withRegs [(Page.global, 0x80, 256)]) with ports := [(64, { base.port 64 with shadow := 8, commit := true })] }

/-- Port B belongs to a maintenance master. -/
def wMaintenance : State := { base with nv := { base.nv with portBOwner := false } }

/-- A port that has executed nothing hears every envelope. -/
theorem hears_fresh (s : State) (p : I3cPort) (bytes : List Byte) (h1 : s.takesPrivate p = true) (h2 : s.committing = false ∧ s.handoverDue = false ∧ s.silentFor 1 = false)
    (h3 : (s.i3c p).executed = none) : s.hears p bytes :=
  ⟨h1, h2, fun r h => by rw [h3] at h; cases h⟩

/-- The envelope that the checks pass, and the status they answer. -/
def passed : Except Nat Envelope → Option Envelope
  | .ok e => some e
  | .error _ => none

/-- The status that the checks answer an envelope with. -/
def statusOf : Except Nat Envelope → Option Nat
  | .ok _ => none
  | .error k => some k

theorem passed_eq {x : Except Nat Envelope} {e : Envelope} (h : passed x = some e) : x = .ok e := by
  cases x <;> simp_all [passed]

theorem statusOf_eq {x : Except Nat Envelope} {k : Nat} (h : statusOf x = some k) : x = .error k := by
  cases x <;> simp_all [statusOf]

theorem meets_EnvelopeOutcomes :
    envelopeCommand .a eWrite (.write .a eWrite) ∧ wUnaddressed.takesPrivate .a = false ∧
    (wHeard.takesPrivate .a = true ∧ wHeard.settled ∧ (wHeard.i3c .a).executed = some (eWrite, [1, 2, 0, 0])) ∧
    (base.hears .a eShort ∧ base.check .a eShort = .error 2) ∧ (base.hears .a eUnknown ∧ base.check .a eUnknown = .error 4) ∧
    (base.hears .a eWrite ∧ base.check .a eWrite = .error 1) ∧
    (ownedBase.hears .a eWrite ∧ ownedBase.check .a eWrite = .ok (parse .write eWrite)) :=
  ⟨.inr (.inl rfl), by decide, ⟨by decide, ⟨by decide, by decide, by decide⟩, by decide +kernel⟩, ⟨hears_fresh _ _ _ rfl (by decide) rfl, statusOf_eq (by decide +kernel)⟩,
    ⟨hears_fresh _ _ _ rfl (by decide) rfl, statusOf_eq (by decide +kernel)⟩,
    ⟨hears_fresh _ _ _ rfl (by decide) rfl, statusOf_eq (by decide +kernel)⟩,
    ⟨hears_fresh _ _ _ rfl (by decide) rfl, passed_eq (by decide +kernel)⟩⟩

theorem meets_EnvelopeStatusesInOrder :
    eShort.length < 18 ∧ crcMatches (List.replicate 18 0) = false ∧
    (18 ≤ eUnknown.length ∧ crcMatches eUnknown = true ∧ (byteAt eUnknown 0).toNat % 64 ∉ opcodes) ∧
    (18 ≤ (envelopeOf 0x01 0x41 1 0 []).length ∧ crcMatches (envelopeOf 0x01 0x41 1 0 []) = true ∧
      opcodeOf ((byteAt (envelopeOf 0x01 0x41 1 0 []) 0).toNat % 64) = some .read ∧
      (parse .read (envelopeOf 0x01 0x41 1 0 [])).framed (envelopeOf 0x01 0x41 1 0 []).length = false) ∧
    (framedAs 0x10 0 eClaim ∧ framedAs 0x12 2 eHandover ∧ framedAs 0x13 0 eAccept ∧ wMaintenance.ownerCapable .b = false) ∧
    (framedAs 0x11 0 eRelease ∧ framedAs 0x14 0 eHeartbeat ∧ base.ownerCapable .a = true ∧
      base.isOwner .a (tokenOf eRelease) = false) ∧
    (tokenOf (envelopeOf 0x10 0 0 0 []) = 0 ∧ base.owned = false) ∧
    (ownedBase.owned = true ∧ ownedBase.isOwner .a (tokenOf eAccept) = false) ∧ offered.owner.state = .handover := by
  unfold framedAs
  decide +kernel

theorem meets_OwnershipOpcodesMoveTheOwner :
    (base.hears .a eClaim ∧ base.serving ∧ base.ownerCapable .a = true ∧ base.life.reset = false) ∧
    (framedAs 0x10 0 eClaim ∧ base.owned = false ∧ tokenOf eClaim ≠ 0) ∧
    (ownedBase.owner.state = .owned ∧ ownedBase.isOwner .a (tokenOf eClaim) = true) ∧
    (framedAs 0x11 0 eRelease ∧ ownedBase.isOwner .a (tokenOf eRelease) = true) ∧
    (framedAs 0x12 2 eHandover ∧ ownedBase.isOwner .a (tokenOf eHandover) = true ∧ BitVec.ofNat 64 (leField eHandover 14 8) = 6 ∧
      ownedBase.owner.token ≠ 6) ∧
    (framedAs 0x12 2 eBack ∧ offered.isOwner .a (tokenOf eBack) = true ∧ BitVec.ofNat 64 (leField eBack 14 8) = 0) ∧
    (framedAs 0x13 0 eAccept ∧ offered.owner.state = .handover ∧ tokenOf eAccept = offered.owner.target) ∧
    (framedAs 0x14 0 eHeartbeat ∧ ownedBase.isOwner .a (tokenOf eHeartbeat) = true) :=
  ⟨⟨hears_fresh _ _ _ rfl (by decide) rfl, by unfold State.serving; decide, by decide, by decide⟩,
    by unfold framedAs; decide +kernel, by decide +kernel,
    by unfold framedAs; decide +kernel, by unfold framedAs; decide +kernel, by unfold framedAs; decide +kernel, by unfold framedAs; decide +kernel,
    by unfold framedAs; decide +kernel⟩

/-- The module halted by a bind-off. -/
def wHalted3 : State := { base with life := { base.life with state := .halted, halt := 3 } }

/-- A maintenance master's write of TBL_SEL. -/
def eMaintain : List Byte := envelopeOf 0x02 (regAddr Page.tables 0x40) 1 0 [1]

theorem meets_ReadWriteAttestEnvelopes_read :
    base.hears .a eRead ∧ framedFor 0x01 0 eRead ∧ base.life.state ≠ .halted ∧
    (wHalted3.hears .a eRead ∧ wHalted3.life.state = .halted ∧ wHalted3.life.halt = 3) := by
  refine ⟨hears_fresh _ _ _ rfl (by decide) rfl, ?_, by decide, hears_fresh _ _ _ rfl (by decide) rfl, by decide, by decide⟩
  unfold framedFor framedAs
  decide +kernel

theorem meets_ReadWriteAttestEnvelopes_write :
    ownedBase.hears .a eWrite ∧ ownedBase.writable ∧ framedFor 0x02 (leField eWrite 5 1) eWrite ∧
    framedFor 0x03 (leField eMask 5 1 + 1) eMask ∧ ownedBase.ownerCapable .a = true ∧
    ownedBase.isOwner .a (tokenOf eWrite) = true ∧ ownedBase.isOwner .a (tokenOf eMask) = true := by
  refine ⟨hears_fresh _ _ _ rfl (by decide) rfl, ?_, ?_, ?_, by decide, by decide +kernel, by decide +kernel⟩
  · unfold State.writable State.serving; decide
  · unfold framedFor framedAs; decide +kernel
  · unfold framedFor framedAs; decide +kernel

theorem meets_ReadWriteAttestEnvelopes_maintenance :
    wMaintenance.hears .b eMaintain ∧ wMaintenance.writable ∧ framedFor 0x02 (leField eMaintain 5 1) eMaintain ∧
    wMaintenance.ownerCapable .b = false ∧ wMaintenance.isOwner .b (tokenOf eMaintain) = false ∧
    leField eMaintain 5 1 = 1 ∧ maintenanceReg (addressOf eMaintain 0) = true := by
  refine ⟨hears_fresh _ _ _ rfl (by decide) rfl, ?_, ?_, by decide, by decide +kernel, by decide +kernel, by decide +kernel⟩
  · unfold State.writable State.serving; decide
  · unfold framedFor framedAs; decide +kernel

theorem meets_ReadWriteAttestEnvelopes_attest :
    base.hears .a eAttest ∧ framedAs 0x20 8 eAttest ∧ base.paused = false ∧ base.life.state ≠ .halted ∧
    base.security.attest ≠ .busy ∧
    (base.hears .a eUnknown ∧ 18 ≤ eUnknown.length ∧ crcMatches eUnknown = true ∧ (byteAt eUnknown 0).toNat % 64 ∉ opcodes) := by
  refine ⟨hears_fresh _ _ _ rfl (by decide) rfl, ?_, by decide, by decide, by decide,
    hears_fresh _ _ _ rfl (by decide) rfl, by decide +kernel⟩
  unfold framedAs
  decide +kernel

/-- A firmware switch's pause holds the owner's timers. -/
def wPause : State := { ownedBase with security := { Security.reset with update := .paused } }

/-- The owner has been silent for as long as LAPSE_MS allows, and its offer is as old as a handover may grow. -/
def wSilentOwner : State := { ownedBase with owner := { ownedBase.owner with heard := 2400000000 } }
def wStale : State := { offered with owner := { offered.owner with offered := 120000000 } }

theorem meets_LapseAndHandoverExpiry :
    (wSilentOwner.owned = true ∧ wSilentOwner.ownerTimersRun = true ∧
      1200000 * (wSilentOwner.rd Page.owner 0x50).toNat ≤ wSilentOwner.owner.heard) ∧
    (wStale.owner.state = .handover ∧ wStale.ownerTimersRun = true ∧ 120000000 ≤ wStale.owner.offered) ∧
    base.owned = false ∧ wPause.ownerTimersRun = false ∧ base.owner.state ≠ .handover ∧
    ownedBase.owner.heard < 1200000 * (ownedBase.rd Page.owner 0x50).toNat ∧ offered.owner.offered < 120000000 := by decide

theorem meets_TokenZeroNeverOwns :
    (ownedBase.owned = true ∧ ownedBase.owner.token ≠ 0) ∧ (offered.owner.state = .handover ∧ offered.owner.target ≠ 0) ∧
    (base.owned = false ∧ base.owner.token = 0 ∧ base.owner.target = 0) ∧ ∃ t, step ownedBase = .next t :=
  ⟨by decide, by decide, by decide, _, rfl⟩

/-- The bulk link is up and window 0 grants writes and reads of the first 4 KiB. -/
def wWindow : State :=
  { (withRegs [(Page.host, 0x6c, 3), (Page.host, 0x68, 1)]) with bulk := { base.bulk with linkUp := true, trained := true } }

/-- The same window with a posted-write buffer that is full. -/
def wFull : State :=
  { wWindow with bulk := { wWindow.bulk with buffer := List.replicate 4 { addr := 0, bytes := List.replicate 65536 1, windows := [0] } } }

theorem meets_BulkTransfersFollowTheWindows :
    wWindow.bulk.linkUp = true ∧
    (wWindow.tlpGranted false 4094 2 = true ∧ wWindow.bulk.held + 2 ≤ 262144) ∧ wWindow.tlpGranted false 4095 2 = false ∧
    (wWindow.tlpGranted true 4095 1 = true ∧ wWindow.readFails ReadErrors.none 4095 = false ∧ wWindow.posted 4095 = false) ∧
    wWindow.tlpGranted true 4096 1 = false := by decide

theorem meets_BulkTransfersFollowTheWindows_full :
    wFull.bulk.linkUp = true ∧ wFull.tlpGranted false 0 1 = true ∧ 262144 < wFull.bulk.held + 1 := by
  refine ⟨rfl, by decide, ?_⟩
  have h : wFull.bulk.held = 262144 := by
    show (List.map _ (List.replicate 4 _)).foldl _ 0 = _
    simp only [List.map_replicate, List.length_replicate]
    decide
  omega

theorem meets_BulkLinkRisesAndFalls :
    (base.bulk.linkUp = false ∧ base.pins.perst = true ∧ (1 ≤ 4 ∧ 4 ≤ 4) ∧ (4 = 1 ∨ 4 = 2 ∨ 4 = 4)) ∧
    wWindow.bulk.linkUp = true := by decide

theorem meets_JtagReachesNothingButItsPins : base.pins.rstN = true := by decide

/-- Port 64 PARKED; in SAFE; with a request of ARMED; OFF with a request of PARKED; ARMED with a request of RUN. -/
def wParked : State := onPort base 64 id
def wSafe : State := onPort base 64 (fun p => { p with state := .safe })
def wArmDue : State := onPort base 64 (fun p => { p with requested := .armed, deliver := some .armed })
def wUpDue : State := base.setPort 64 { base.port 64 with deliver := some .parked }
def wRunDue : State := onPort base 64 (fun p => { p with state := .armed, requested := .run, deliver := some .run })

theorem meets_RequestsAreShownAndDelivered :
    ((wParked.port 64).state ≠ .absent ∧ (wParked.port 64).state ≠ .safe ∧ wParked.mustStay = false ∧
      (wParked.port 64).requested ≠ .run) ∧ (wSafe.port 64).state = .safe ∧
    ((base.group 31).state ≠ .safe ∧ base.mustStay = false ∧ (base.group 31).requested ≠ .run) ∧
    ((base.port 143).withCommit = false ∧ (base.port 143).group = none ∧ (base.port 143).deliver = none) ∧
    ((wArmDue.port 64).withCommit = false ∧ (wArmDue.port 64).group = none ∧ (wArmDue.port 64).deliver = some .armed ∧
      (wArmDue.port 64).state = .parked ∧ (wArmDue.port 64).power = .on ∧ wArmDue.mustStay = false ∧
      wArmDue.tripHeld 64 = false ∧ wArmDue.quieting = false) ∧
    ((wUpDue.port 64).deliver = some .parked ∧ (wUpDue.port 64).state = .off ∧ (wUpDue.port 64).power = .off ∧
      wUpDue.life.bindoff ≠ .running ∧ wUpDue.life.bindoff ≠ .done) ∧
    ((wRunDue.port 64).deliver = some .run ∧ (wRunDue.port 64).state = .armed ∧ (wRunDue.port 64).power = .on) := by decide

/-- Fields of port 64 wait; a commit of it is due; a transfer falls due. -/
def wShadow : State := onPort { base with clock := { base.clock with pend := true } } 64 (fun p => { p with shadow := 8 })
def wCommitDue : State := onPort base 64 (fun p => { p with shadow := 8, commit := true })
def wTransferDue : State := onPort base 64 (fun p => { p with shadow := 0xf, transfers := [(1, false)] })
def wHeldTerms : State := onPort base 64 (fun p => { p with shadow := 5, held := 5 })
def wPausedWrites : State := { base with security := { Security.reset with update := .paused } }

theorem meets_CommitsLatchAndTransfer :
    (Config.portFitted wParked.part 64 = true ∧ (wParked.port 64).state ≠ .absent ∧ wParked.writesRefused = false) ∧
    wPausedWrites.writesRefused = true ∧ wShadow.writesRefused = false ∧
    (∃ n ∈ fittedPorts wShadow.part, (wShadow.port n).shadow ≠ 0 ∧ (wShadow.port n).state ≠ .absent) ∧ wShadow.clock.pend = true ∧
    ((wCommitDue.port 64).commit = true ∧ wCommitDue.committing = false) ∧
    ((wCommitting.port 64).commit = true ∧ ∀ m, m < 64 → (wCommitting.port m).commit = false) ∧
    ((wTransferDue.port 64).transfers = [((wTransferDue.port 64).slot + 1, false)] ∧ (wTransferDue.port 64).state = .parked ∧
      (wTransferDue.port 64).shadow = 0xf) ∧
    (wHeldTerms.moment (.port 64) = .ordinary ∧ (wHeldTerms.port 64).state = .parked ∧ (wHeldTerms.port 64).held = 5 ∧
      (wHeldTerms.port 64).shadow = 5 ∧ (wHeldTerms.port 64).div = (wHeldTerms.reg (portReg 64 0x48)).toNat) ∧
    ∀ x ∈ (base.port 64).transfers, x.1 ≠ (base.port 64).slot + 1 := by decide

/-- Table 0 selected at the first word, the last word of entry 0 and the last word of the table; table 1 at its last word. -/
def wTable (sel index : Nat) : State := { base with i3cA := { base.i3cA with tblSel := sel, tblIndex := index } }
def wTable0 : State := wTable 0 0
def wTable7 : State := wTable 0 7
def wTableEnd : State := wTable 0 2097151
def wTable1 : State := wTable 1 2097151

/-- A word is staged for entry 0 of table 0. -/
def wStaged : State := { base with i3cA := { base.i3cA with tblIndex := 7, staged := some (0, 0, [(0, 9)]) } }

def wBandLo : State := wTable 2 0
def wBandHi : State := wTable 2 31
/-- The bobbin table with port 64 in RUN. -/
def wAllocating : State :=
  { running inPass with i3cA := { base.i3cA with tblSel := 6, tblIndex := 143 } }

theorem meets_TableWindowStagesEntries :
    ((wTable0.i3c .a).tblSel = 0 ∧ 0 < 2 ∧ (wTable0.i3c .a).tblIndex = 0 ∧ 0 % 8 ≠ 7 ∧ 0 < 2097152) ∧
    (((wTable 1 2097150).i3c .a).tblSel = 1 ∧ ((wTable 1 2097150).i3c .a).tblIndex = 2097150 ∧ 2097150 % 8 ≠ 7) ∧
    ((wTable7.i3c .a).tblSel = 0 ∧ (wTable7.i3c .a).tblIndex = 7 ∧ 7 % 8 = 7) ∧
    ((wTableEnd.i3c .a).tblSel = 0 ∧ (wTableEnd.i3c .a).tblIndex = 2097151 ∧ 2097151 % 8 = 7) ∧
    ((wTable1.i3c .a).tblSel = 1 ∧ (wTable1.i3c .a).tblIndex = 2097151) ∧ (wStaged.i3c .a).staged = some (0, 0, [(0, 9)]) ∧
    ((wBandLo.i3c .a).tblSel = 2 ∧ (wBandLo.i3c .a).tblIndex = 0 ∧ 0 % 2 = 0) ∧
    ((wBandHi.i3c .a).tblSel = 2 ∧ (wBandHi.i3c .a).tblIndex = 31 ∧ 31 % 2 = 1) ∧
    (((wTable 3 0).i3c .a).tblSel ∈ [3, 4, 5, 7] ∧ ((wTable 7 0).i3c .b).tblSel ∉ [3, 4, 5, 7]) ∧ I3cPort.b ≠ I3cPort.a := by decide

theorem meets_TableWindowStagesEntries_bobbins :
    (((wTable 6 143).i3c .a).tblSel = 6 ∧ ((wTable 6 143).i3c .a).tblIndex = 143 ∧ 143 < 144 ∧ (wTable 6 143).mayAllocate = true ∧
      Config.portFitted (wTable 6 143).part 143 = true) ∧
    (({ wTable 6 143 with part := .tg048 } : State).mayAllocate = true ∧ Config.portFitted .tg048 143 = false) ∧
    ((wAllocating.i3c .a).tblSel = 6 ∧ wAllocating.mayAllocate = false) := by decide

/-- SNAP_HI of the timers is captured for port A. -/
def wCaptured : State := { base with i3cA := { base.i3cA with captures := [(regAddr Page.timer 0x3c8, 4), (regAddr Page.timer 0x3d0, 5)] } }

theorem meets_ReadsCaptureTheirPartners :
    (base.i3c .a).captured (portReg 143 0x5c) = none ∧ (base.i3c .a).captured (portReg 0 0x11c) = none ∧
    (base.i3c .a).captured (regAddr Page.timer 0x3c4) = none ∧ (base.i3c .a).captured (regAddr Page.timer 0x3cc) = none ∧
    (pageOf (regAddr Page.ledger 0x50) ≠ Page.tables ∧ regAddr Page.ledger 0x50 ≠ regAddr Page.cart 0x74 ∧
      (base.i3c .a).captured (regAddr Page.ledger 0x50) = none) ∧
    (pageOf (portReg 0 0x5c) ≠ Page.tables ∧ portReg 0 0x5c ≠ regAddr Page.cart 0x74 ∧ (base.i3c .a).captured (portReg 0 0x5c) = none) ∧
    (wCaptured.i3c .a).captured (regAddr Page.timer 0x3c8) = some 4 ∧
    (wCaptured.i3c .a).captured (regAddr Page.timer 0x3d0) = some 5 := by decide

/-- A TG048. -/
def wSmall : State := { base with part := .tg048 }

theorem meets_RegisterWritesAndUnitResets :
    pagePresent base.part (Page.port 143) = true ∧
    (pagePresent base.part (pageOf 0xfffffc) = false ∧ 0xfffffc < 0x1000000 ∧ 0xfffffc % 4 = 0) ∧
    (0 < Config.stackCount base.part ∧ 1 < Config.stackCount base.part ∧ 15 < 16) ∧ pagePresent wSmall.part (Page.memctl 1) = false := by decide

/-- Port 64 ARMED with a START due. -/
def wArmedStart : State := onPort base 64 (fun p => { p with state := .armed, play := { Playhead.idle with latches := dueNow .start } })

theorem meets_CommandsOutOfTheirMomentDoNothing :
    base.moment (.port 64) = .ordinary ∧ base.moment (.group 0) = .blocked ∧ wArmedStart.moment (.port 64) ≠ .ordinary ∧
    wArmedStart.moment (.port 64) ≠ .safe := by decide

/-- Port 64 before the commit point of a PLAY with two passes, without an event and with the event of hook 1. -/
def playTwice : BitVec 256 := BitVec.ofNat 256 (2 * 2 ^ 32 + (5 + 2 ^ 18) * 2 ^ 128)
def wCommit : State :=
  { running { inPass with gran := 39 - Config.ka .f, word := playTwice } with entries := [(0, playTwice)] }
def wEvent : State :=
  { running { inPass with gran := 39 - Config.ka .f, cand := 2, word := playTwice } with entries := [(0, playTwice)] }

theorem meets_CommitPointFixesWhatFollows :
    (wCommit.moment (.port 64) = .commit ∧
      winner (wCommit.playhead (.port 64)).word ((wCommit.playhead (.port 64)).cand ||| (wCommit.playhead (.port 64)).pend) = none ∧
      (wCommit.playhead (.port 64)).pass < playRepeat (wCommit.playhead (.port 64)).word) ∧
    (wEvent.moment (.port 64) = .commit ∧
      winner (wEvent.playhead (.port 64)).word ((wEvent.playhead (.port 64)).cand ||| (wEvent.playhead (.port 64)).pend) =
        some 1) ∧ SeqUnit.port 65 ≠ .port 64 := by decide

/-- Port 64 in RUN with a jump, a release, a timeout (with and without TO_EN), the end of a GAP or a recovery due; entry 1
a WAIT. -/
def wJump : State := running { inPass with latches := dueNow (.jump 1 9 3) }
def wJumpWait : State := { running { inPass with latches := dueNow (.jump 1 9 3) } with entries := [(9, entryOf 4)] }
def wRelease : State := running { inPass with activity := .wait, len := 0, latches := dueNow .release }
def wTimeout : State := running { inPass with activity := .wait, gran := 9, len := 10 }
def wTimeoutTo : State :=
  running { inPass with activity := .wait, gran := 9, len := 10, word := BitVec.ofNat 256 (4 + (7 + 2 ^ 18) * 2 ^ 64) }
def wGapEnd : State := running { inPass with activity := .gap, gran := 9, len := 10 }
def wRecover : State := running { inPass with latches := dueNow .recover }
def wRecoverWait : State :=
  { running { inPass with latches := dueNow .recover } with entries := [(0, entryOf 4)] }

theorem meets_PlayheadsGoWhereTheirMomentSends :
    (wArmedStart.walksAlone 64 ∧ wArmedStart.moment (.port 64) = .start ∧ (wArmedStart.port 64).state = .armed ∧
      pulseUnit (Config.portType 64) (wArmedStart.port 64).mode = false ∧ (wArmedStart.port 64).play.start < 2 ^ 18 ∧
      (wArmedStart.port 64).play.start ∉ SlotErrors.none.entries) ∧
    (wJump.walksAlone 64 ∧ wJump.moment (.port 64) = .jump ∧ 9 < 2 ^ 18 ∧
      (wJump.port 64).play.dueAt ((wJump.port 64).slot + 1) (fun x => match x with | .jump .. => true | _ => false) =
        some { due := 1, what := .jump 1 9 3, hop := 0 }) ∧
    (wJumpWait.walksAlone 64 ∧ wJumpWait.moment (.port 64) = .jump ∧ entryKind (wJumpWait.entryAt 9) = .wait) ∧
    (wRelease.walksAlone 64 ∧ wRelease.moment (.port 64) = .release ∧ (wRelease.port 64).play.entry + 1 < 2 ^ 18) ∧
    (wTimeout.walksAlone 64 ∧ wTimeout.moment (.port 64) = .timeout ∧ field (wTimeout.port 64).play.word 82 1 ≠ 1 ∧
      (wTimeout.port 64).play.entry + 1 < 2 ^ 18) ∧
    (wTimeoutTo.walksAlone 64 ∧ wTimeoutTo.moment (.port 64) = .timeout ∧ field (wTimeoutTo.port 64).play.word 82 1 = 1 ∧
      field (wTimeoutTo.port 64).play.word 64 18 = 7) := by
  unfold State.walksAlone
  decide

theorem meets_PlayheadsGoWhereTheirMomentSends_others :
    (wGapEnd.walksAlone 64 ∧ wGapEnd.moment (.port 64) = .gapEnd ∧ (wGapEnd.port 64).play.entry + 1 < 2 ^ 18) ∧
    (wRecover.walksAlone 64 ∧ wRecover.moment (.port 64) = .recover) ∧
    (wRecoverWait.walksAlone 64 ∧ wRecoverWait.moment (.port 64) = .recover ∧
      entryKind (wRecoverWait.entryAt (bits (wRecoverWait.reg (portReg 64 0x58)) 10 18)) = .wait) ∧
    (wRelease.port 64).play.entry + 1 ∈ ({ SlotErrors.none with entries := [1] } : SlotErrors).entries := by
  unfold State.walksAlone
  decide

/-- Port 64 at the end of a pass that goes on with entry 0; at the end of a selvedge; before a granule that is missing; in
a WAIT; PAUSED in a WAIT without a timeout with a START due. -/
def goOn : Plan := { follow := .play 0 2 playTwice, loads := [], loopEnd := false, chainLimit := false, offPath := false, entryEnds := false, retrack := false, hop := none }
def wPassEnd : State := { running { inPass with gran := 39, plan := some goOn } with entries := [(0, playTwice)] }
def wSelvedge : State := { running { inPass with activity := .selvedge, gran := 9, len := 10 } with entries := [(0, playTwice)] }
def wMissing : State :=
  onPort base 64 (fun p => { p with
    state := .run, requested := .run, play := inPass, seg := { Seg.none with data := 40 } })
def wMissingStale : State := wMissing.modPort 64 (fun p => { p with stale := true })
def wMissingRail : State := { wMissing with health := { base.health with rails := [.vf] } }
def wWait : State := running { inPass with activity := .wait, len := 0 }
def wGapGoing : State := running { inPass with activity := .gap }
def wPausedWait : State :=
  onPort base 64 (fun p => { p with
    state := .paused, requested := .run, play := { inPass with activity := .wait, len := 0, latches := dueNow .start } })

/-- A pulse unit: port 96 with MODE.PULSE set, in a state, with a pulse. -/
def pulsePort (st : UState) (x : Option Pulse) (l : List Latch) : State :=
  onPort base 96 (fun p => { p with state := st, requested := st, mode := 0x10, pulse := x, play := { Playhead.idle with latches := l } })
def wPulseStart : State := pulsePort .armed none (dueNow .start)

theorem meets_PassesSelvedgesUnderrunsAndSlots :
    (wPassEnd.walksAlone 64 ∧ wPassEnd.moment (.port 64) = .passEnd ∧ (wPassEnd.port 64).play.plan = some goOn ∧
      (wPassEnd.port 64).play.trans = none) ∧
    (wSelvedge.walksAlone 64 ∧ wSelvedge.moment (.port 64) = .selvedgeEnd) ∧
    (wMissing.walksAlone 64 ∧ wMissing.moment (.port 64) = .missing ∧ (wMissing.port 64).underrun = false ∧
      (wMissing.port 64).stale = false ∧ wMissing.railHolds 64 = false) ∧
    (wMissingStale.walksAlone 64 ∧ wMissingStale.moment (.port 64) = .missing ∧ (wMissingStale.port 64).stale = true) ∧
    (wMissingRail.walksAlone 64 ∧ wMissingRail.moment (.port 64) = .missing ∧ wMissingRail.railHolds 64 = true) := by
  unfold State.walksAlone
  decide

theorem meets_PassesSelvedgesUnderrunsAndSlots_others :
    (wWait.walksAlone 64 ∧ wWait.moment (.port 64) = .ordinary ∧ (wWait.port 64).state = .run ∧ (wWait.port 64).play.activity = .wait ∧
      (wWait.port 64).play.recovering = false) ∧
    (wGapGoing.walksAlone 64 ∧ wGapGoing.moment (.port 64) = .ordinary ∧ (wGapGoing.port 64).state = .run ∧
      (wGapGoing.port 64).play.activity = .gap) ∧
    (wParked.walksAlone 64 ∧ wParked.moment (.port 64) = .ordinary ∧ (wParked.port 64).state = .parked) ∧
    (wPausedWait.walksAlone 64 ∧ wPausedWait.moment (.port 64) = .start ∧ (wPausedWait.port 64).state = .paused ∧
      (wPausedWait.port 64).play.activity = .wait ∧ (wPausedWait.port 64).play.len = 0 ∧
      (wPausedWait.port 64).play.recovering = false ∧
      pulseUnit (Config.portType 64) (wPausedWait.port 64).mode = false) ∧
    (wPulseStart.walksAlone 96 ∧ wPulseStart.moment (.port 96) = .start ∧ (wPulseStart.port 96).state = .armed ∧
      pulseUnit (Config.portType 96) (wPulseStart.port 96).mode = true ∧ (wPulseStart.port 96).forced = false ∧
      (wPulseStart.port 96).play.activity = .idle) := by
  unfold State.walksAlone
  decide

/-- Port 64 in RUN with a PAUSE, a STOP or a trip due. -/
def wPauseDue : State := running { inPass with latches := dueNow .pause }
def wStopDue : State := running { inPass with latches := dueNow .stop }
def wTripDue : State := running { inPass with latches := dueNow .trip }

def wGroup (what : Latched) : State :=
  base.setGroup 0 { base.group 0 with
    state := .run, requested := .run, members := [64], leader := some 64
    play := { inPass with latches := dueNow what } }

theorem meets_PauseStopAndTripPark :
    (wPauseDue.walksAlone 64 ∧ wPauseDue.moment (.port 64) = .pause ∧ (wPauseDue.port 64).forced = false) ∧
    (wStopDue.walksAlone 64 ∧ wStopDue.moment (.port 64) = .stop ∧
      ∀ l ∈ (wStopDue.port 64).play.latches, ∀ st ∈ [UState.off, .parked, .armed, .run, .paused], l.what ≠ .request st) ∧
    (wTripDue.walksAlone 64 ∧ wTripDue.moment (.port 64) = .trip ∧ (wTripDue.port 64).stale = false ∧
      (wTripDue.port 64).forced = false ∧ 64 ∉ SlotErrors.none.bridge) ∧
    (wGroup .pause).moment (.group 0) = .pause ∧ (wGroup .stop).moment (.group 0) = .stop ∧ 65 ≠ 64 := by
  unfold State.walksAlone
  decide

/-- Channel 5 carries source 0x10 and hook START of port 64 subscribes to it; one emission waits, of hop 3 or of hop 16. -/
def channelRegs : List (Nat × Nat × Word) :=
  [(Page.evchan 0, 0x90, 0x8010), (Page.port 64, 0xd0, 0x205), (Page.evchan 0, 0x98, 0x30)]
def fabricOf (hop : Nat) : State :=
  { (withRegs channelRegs) with
    fabric := { base.fabric with
      emitted := [[{ code := 0x10, hop := hop }], [{ code := 0x11, hop := 0 }]], mode := .normal
      hooks := [(portReg 64 0xd0, { armed := false, serialA := some 0, serialB := none })], serial := 1 } }
def wEmission : State := fabricOf 3
def wStopped : State := fabricOf 16

/-- The same with the channel's group disabled. -/
def wGroupOff : State := (fabricOf 15).wr Page.event 0x44 0xfff7

theorem meets_FabricCycleCarriesEmissions :
    (wEmission.fabric.emitted = [{ code := 0x10, hop := 3 }] :: [[{ code := 0x11, hop := 0 }]] ∧ 3 < 16 ∧
      bit (wEmission.reg (chanReg 5 0)) 15 = true ∧ 5 ∈ wEmission.enabledChannels ∧ bits (wEmission.reg (chanReg 5 0)) 0 12 = 0x10 ∧
      bit (wEmission.reg (chanReg 5 4)) 15 = false ∧
      bit (wEmission.rd Page.event 0x44) (bits (wEmission.reg (chanReg 5 8)) 4 4) = true ∧ wEmission.fabric.mode = .normal ∧
      isHook (portReg 64 0xd0) = true ∧ portReg 64 0xd0 ∈ wEmission.fabric.hooks.map (fun h => h.1) ∧
      hookMode (wEmission.reg (portReg 64 0xd0)) = 0 ∧ hookEn (wEmission.reg (portReg 64 0xd0)) 0 = true ∧
      hookChan (wEmission.reg (portReg 64 0xd0)) 0 = 5) ∧
    (wStopped.fabric.emitted = [{ code := 0x10, hop := 16 }] :: [[{ code := 0x11, hop := 0 }]] ∧ 16 ≤ 16) := by decide

theorem meets_GroupEnableGatesItsChannels :
    (wEmission.fabric.emitted = [{ code := 0x10, hop := 3 }] :: [[{ code := 0x11, hop := 0 }]] ∧
      bit (wEmission.rd Page.event 0x44) (bits (wEmission.reg (chanReg 5 8)) 4 4) = true) ∧
    (wGroupOff.fabric.emitted = [{ code := 0x10, hop := 15 }] :: [[{ code := 0x11, hop := 0 }]] ∧ 15 < 16 ∧
      bit (wGroupOff.rd Page.event 0x44) (bits (wGroupOff.reg (chanReg 5 8)) 4 4) = false ∧
      isHook (portReg 64 0xd0) = true ∧ hookChan (wGroupOff.reg (portReg 64 0xd0)) 0 = 5 ∧
      hookChan (0x50205 : Word) 0 = 5 ∧ hookChan (0x50205 : Word) 1 = 5) := by decide

/-- A timestamp is set for the next PPS edge; every port is OFF; channel 3 is write-restricted to the module. -/
def wTimeSet : State := { base with ledger := { base.ledger with timeSet := some 77 } }
def wRestricted : State := withRegs [(Page.evchan 0, 0x78, 1)]

/-- Group control hook 2 sets, clears or flips the bits of its mask. -/
def groupControl (mode : Nat) : State :=
  hooked (withRegs [(Page.event, 0xd4, word (6 + mode * 2 ^ 16))]) (regAddr Page.event 0xd0)
def wGroupSet : State := groupControl 0
/-- Units 1 and 2 act in one cycle. -/
def wGroupTwo : State := { wGroupSet with fabric := { wGroupSet.fabric with acts := [act (gcHook 1), act (gcHook 2)] } }
def wGroupClear : State := groupControl 1
def wGroupFlip : State := groupControl 2

theorem meets_SourcesEnterTheFabric :
    (base.pins.trig.getLsbD 3 = false ∧ base.twin.role ≠ .follow ∧ base.pins.pps = false ∧ base.ledger.timeSet = none) ∧
    wTimeSet.ledger.timeSet = some 77 ∧ (0x80000001 : Word) ≠ 0 ∧ base.firstSubscription 5 = none ∧
    (wEmission.firstSubscription 5 = some (portReg 64 0xd0, 0) ∧ portReg 64 0xd0 < 2 ^ 24) ∧
    (wJump.allParked = false ∧ base.allParked = true) ∧
    (bit (base.reg (chanReg 479 8)) 2 = false ∧ bits (base.reg (chanReg 479 8)) 0 2 = 0) ∧
    (bit (wRestricted.reg (chanReg 3 8)) 2 = false ∧ bits (wRestricted.reg (chanReg 3 8)) 0 2 = 1) ∧
    (wGroupSet.fabric.mode = .normal ∧
      wGroupSet.fabric.acts.find? (fun y => y.hook == regAddr Page.event (0xc0 + 8 * 2)) = some (act (regAddr Page.event 0xd0)) ∧
      bits (wGroupSet.rd Page.event (0xc4 + 8 * 2)) 16 2 = 0 ∧ bits (wGroupClear.rd Page.event (0xc4 + 8 * 2)) 16 2 = 1 ∧
      bits (wGroupFlip.rd Page.event (0xc4 + 8 * 2)) 16 2 = 2) ∧
    (wGroupSet.fabric.acts.takeWhile (fun y => y != act (gcHook 2)) = [] ∧ wGroupTwo.fabric.mode = .normal ∧
      wGroupTwo.fabric.acts.find? (fun y => y.hook == gcHook 2) = some (act (gcHook 2)) ∧
      wGroupTwo.fabric.acts.takeWhile (fun y => y != act (gcHook 2)) = [act (gcHook 1)]) := by decide

/-- A hook of port 64 waits to act, in RUN, in a WAIT, and in SAFE; hook 1 of a PLAY that enables jump 1, early and late, and
of one that takes it at once. -/
def playNow : BitVec 256 := BitVec.ofNat 256 ((5 + 2 ^ 18 + 2 ^ 19) * 2 ^ 128)
def waitOne : BitVec 256 := BitVec.ofNat 256 (4 + 2 * 2 ^ 4)
def wHookStop : State := hooked (running inPass) (portReg 64 0xd4)
def wHookPause : State := hooked (running inPass) (portReg 64 0xd8)
def wHookStart : State := hooked wParked (portReg 64 0xd0)
def wHookNco : State := hooked wParked (portReg 64 0xdc)
def wHookCommit : State := hooked wParked (portReg 64 0xe0)
def wHookSafe : State := hooked wSafe (portReg 64 0xd4)
def wHookEarly : State := hooked (running { inPass with word := playTwice }) (hookJ 64 1)
def wHookLate : State := hooked (running { inPass with gran := 38, word := playTwice }) (hookJ 64 1)
def wHookNow : State := hooked (running { inPass with word := playNow }) (hookJ 64 1)
def wHookWait : State :=
  hooked (running { inPass with activity := .wait, len := 0, word := waitOne }) (hookJ 64 1)
def wLateNow : State := running { inPass with judged := some (1, .late true) }

/-- Port 64 in stitch group 0 with port 65, which leads it; a stop hook of either waits. -/
def wGroupHook (n off : Nat) : State :=
  hooked ((onPort base n (fun p => { p with group := some 0 })).setGroup 0
    { base.group 0 with members := [64, 65], leader := some 65 }) (portReg n off)

theorem meets_PortHooksActOnTheirPlayhead :
    ((running inPass).fabric.acts.find? (fun y => y.hook == portReg 64 0xd4) = none ∧ ((running inPass).port 64).group = none) ∧
    (wHookStop.fabric.acts.find? (fun y => y.hook == portReg 64 0xd4) = some (act (portReg 64 0xd4)) ∧ wHookStop.hooksAct 64 = true ∧
      wHookSafe.hooksAct 64 = false) ∧
    (wHookStart.fabric.acts.find? (fun y => y.hook == portReg 64 0xd0) = some (act (portReg 64 0xd0)) ∧
      pulseUnit (Config.portType 64) (wHookStart.port 64).mode = false) ∧
    wHookNco.fabric.acts.find? (fun y => y.hook == portReg 64 0xdc) = some (act (portReg 64 0xdc)) ∧
    wHookCommit.fabric.acts.find? (fun y => y.hook == portReg 64 0xe0) = some (act (portReg 64 0xe0)) ∧
    (wHookEarly.fabric.acts.find? (fun y => y.hook == hookJ 64 1) = some (act (hookJ 64 1)) ∧ wHookEarly.hooksAct 64 = true ∧
      (wHookEarly.port 64).state = .run ∧ (wHookEarly.port 64).play.judged = none ∧ (wHookEarly.port 64).play.activity = .segment ∧
      jumpEn (jumpWord (wHookEarly.port 64).play.word 1) = true ∧ jumpImm (jumpWord (wHookEarly.port 64).play.word 1) = false ∧
      (wHookEarly.port 64).play.gran + Config.ka .f < (wHookEarly.port 64).play.len) ∧
    (wHookLate.port 64).play.len ≤ (wHookLate.port 64).play.gran + Config.ka .f ∧
    (jumpEn (jumpWord (wHookNow.port 64).play.word 1) = true ∧ jumpImm (jumpWord (wHookNow.port 64).play.word 1) = true) ∧
    ((wHookWait.port 64).play.activity = .wait ∧ (waitMask (wHookWait.port 64).play.word).getLsbD 1 = true) := by decide

theorem meets_PortHooksActOnTheirPlayhead_groups :
    (wLateNow.moment (.port 64) = .ordinary ∧ (wLateNow.port 64).state = .run ∧ (wLateNow.port 64).play.lateNow = true) ∧
    (((wGroupHook 65 0xd4).port 65).group = some 0 ∧ ((wGroupHook 65 0xd4).group 0).leader = some 65 ∧
      (wGroupHook 65 0xd4).hooksAct 65 = true ∧
      (wGroupHook 65 0xd4).fabric.acts.find? (fun y => y.hook == portReg 65 0xd4) = some (act (portReg 65 0xd4))) ∧
    (((wGroupHook 64 0xd8).port 64).group = some 0 ∧ ((wGroupHook 64 0xd8).group 0).leader ≠ some 64 ∧
      (wGroupHook 64 0xd8).hooksAct 64 = true ∧
      (wGroupHook 64 0xd8).fabric.acts.find? (fun y => y.hook == portReg 64 0xd8) = some (act (portReg 64 0xd8))) := by decide

/-- Timer hooks wait to act. -/
def wModeRegs : State :=
  { wModes with regs := regList [(Page.timer, 0x40, 1), (Page.timer, 0x50, 1), (Page.timer, 0x240 - 0x200 + 0x1f0, 1)] ++ base.regs }
def wModeTwo : State := base.setTimer 5 { Timer.fresh with state := .running, mode := 2, period := 9 }
def wTstart : State := hooked wModeRegs (timerHook 31 0)
def wTstartLate : State :=
  hooked (wModeRegs.setTimer 31 { Timer.fresh with stopped := some 0 }) (timerHook 31 0)
def wTstop : State := hooked wModeRegs (timerHook 0 4)
def wTcapt : State := hooked wModeRegs (timerHook 0 8)
def wTcount : State := hooked (wModeRegs.setTimer 3 { wModes.timer 3 with count := 1 }) (timerHook 3 8)
def wTfull : State := hooked wModeRegs (timerHook 3 8)

theorem meets_TimersStartStopCaptureExpire :
    ((base.timer 0).active = false ∧ timerMode (wModeRegs.reg (timerReg 31 0)) ≠ 0) ∧
    ((wModes.timer 0).active = true ∧ (wModes.timer 0).retrig = false) ∧
    (wTstart.fabric.acts.find? (fun y => y.hook == timerHook 31 0) = some (act (timerHook 31 0)) ∧ (wTstart.timer 31).active = false ∧
      (wTstart.timer 31).stopped ≠ some (act (timerHook 31 0)).cycle ∧
      (wTstartLate.timer 31).stopped = some (act (timerHook 31 0)).cycle) ∧
    wTstop.fabric.acts.find? (fun y => y.hook == timerHook 0 4) = some (act (timerHook 0 4)) ∧
    (wTcapt.fabric.acts.find? (fun y => y.hook == timerHook 0 8) = some (act (timerHook 0 8)) ∧ (wTcapt.timer 0).active = true ∧
      (wTcapt.timer 0).mode ≠ 5) ∧
    ((wTcount.timer 3).active = true ∧ (wTcount.timer 3).mode = 5 ∧ (wTcount.timer 3).count + (act (timerHook 3 8)).count < (wTcount.timer 3).period) ∧
    ((wTfull.timer 3).active = true ∧ (wTfull.timer 3).mode = 5 ∧
      (wTfull.timer 3).period ≤ (wTfull.timer 3).count + (act (timerHook 3 8)).count) ∧
    ((wModes.timer 1).mode = 3 ∧ (wModes.timer 1).state = .running) ∧ ((wModes.timer 0).mode = 1 ∧ (wModes.timer 0).state = .running) ∧
    ((wModeTwo.timer 5).mode = 2 ∧ (wModeTwo.timer 5).state = .running ∧ (wModeTwo.timer 5).period ≠ 0) ∧
    ((wModes.timer 2).mode = 4 ∧ (wModes.timer 2).state = .running) := by decide

/-- A pulse under way on port 96, before its leading edge and after it; the unit in RUN, PAUSED, PARKED, and held by a trip. -/
def pulseOf (lead : Bool) : Pulse := { lead := lead, idle := false, delay := 0, width := 4 }
def wPulseRun : State := pulsePort .run none []
def wPulseArmed : State := pulsePort .armed none []
def wPulseLead : State := pulsePort .run (some (pulseOf true)) []
def wPulseTail : State := pulsePort .run (some (pulseOf false)) []
def wPulsePaused : State := pulsePort .paused none []
def wPulseParked : State := pulsePort .parked none []
def wPulseTrip : State :=
  { wPulseRun with regs := regList [(Page.port 96, 0xa4, 1)] ++ base.regs, trips := { front := 1, die := 1 } }

theorem meets_PulseUnitsFire :
    (wPulseRun.isPulse 96 = true ∧ wPulseRun.tripHeld 96 = false ∧ (wPulseRun.port 96).pulse = none ∧ (wPulseRun.port 96).state = .run) ∧
    (wPulseArmed.isPulse 96 = true ∧ wPulseArmed.tripHeld 96 = false ∧ (wPulseArmed.port 96).pulse = none ∧
      (wPulseArmed.port 96).state = .armed) ∧
    (wPulseLead.isPulse 96 = true ∧ (wPulseLead.port 96).pulse = some (pulseOf true) ∧ bit (wPulseLead.reg (portReg 96 0x160)) 1 = false ∧
      (pulseOf true).lead = true) ∧ ((wPulseTail.port 96).pulse = some (pulseOf false) ∧ (pulseOf false).lead = false) ∧
    (wPulsePaused.isPulse 96 = true ∧ (wPulsePaused.port 96).state = .paused) ∧ wPulseTrip.tripHeld 96 = true ∧
    (wPulseTrip.isPulse 96 = true ∧ wPulseParked.isPulse 96 = true) ∧ (wPulseParked.port 96).state = .parked ∧ base.isPulse 96 = false := by decide

/-- Line 3 is forced by software; port 64 obeys it, not forced and forced; the front latch is set; die and front are. -/
def tripRegs (force : Word) : List (Nat × Nat × Word) := [(Page.trip, 0x48, force), (Page.port 64, 0xa4, 8)]
def wLine : State := { (withRegs (tripRegs 8)) with ports := (running inPass).ports }
def wFront : State := { wLine with trips := { front := 8, die := 0 } }
def wFrontPaused : State := { wFront with security := { Security.reset with update := .paused } }
def wFrontFollow : State := { wFront with twin := followTwin }
def wLatched : State := { wFront with trips := { front := 8, die := 8 } }
def wLineGone : State := { wLatched with regs := regList (tripRegs 0) ++ base.regs }

/-- The module is in standby. -/
def wStandby : State := { base with life := { base.life with standby := true } }

/-- Port 64 obeys no line while line 3 is latched. -/
def wUnobeyed : State := { (running inPass) with trips := { front := 8, die := 8 } }

theorem meets_TripLinesLatchForceAndClear :
    (wStandby.inStandby = true ∧ wFront.inStandby = false ∧ wFrontPaused.inStandby = false ∧ wFrontFollow.inStandby = false) ∧
    (wLine.lineCondition 3 = true ∧ wLine.trips.front.getLsbD 3 = false ∧ 64 ∈ fittedPorts wLine.part ∧
      (wLine.tripLines 64).getLsbD 3 = true ∧ (wLine.port 64).forced = false ∧ (wLine.port 64).state ≠ .off ∧
      (wLine.port 64).state ≠ .absent ∧ (wLine.tripLines 143).getLsbD 3 = false) ∧ base.lineCondition 7 = false ∧
    (wFront.trips.front.getLsbD 3 = true ∧ wFront.trips.die.getLsbD 3 = false ∧ wFront.paused = false ∧ wFront.twin.role ≠ .follow ∧
      (wFront.port 64).state = .run) ∧ wFrontPaused.paused = true ∧ wFrontFollow.twin.role = .follow ∧
    wLatched.lineCondition 3 = true ∧ (wLineGone.lineCondition 3 = false ∧ wLineGone.trips.front.getLsbD 3 = true) ∧
    (144 ∉ fittedPorts base.part ∧ wUnobeyed.twin.role ≠ .follow ∧ (wUnobeyed.port 64).state = .run ∧
      BitVec.ofNat 8 8 &&& ~~~(wUnobeyed.tripLines 64) &&& wUnobeyed.trips.die ≠ 0) := by decide

/-- Port 0 PARKED with its lead, its switches moving, its delay between two taps, its power on its way. -/
def switched (sense force : Bool) (moving : Option Bool) (p : Port) : Port :=
  { p with switches := { sense := sense, force := force, moving := moving } }
def driven (s : State) : State := { s with twin := { s.twin with driven := true } }
def wSwitch : State := driven (onPort base 0 id)
def wClosed : State := driven (onPort base 0 (switched true true none))
def wClosing : State := onPort base 0 (switched true false (some true))
def wOpening : State := onPort base 0 (switched true false (some false))
def wDelay : State := { (withRegs [(Page.port 64, 0xb0, 200)]) with ports := [(64, { base.port 64 with delayActual := 199 })] }
def wDelayBack : State := base.setPort 143 { base.port 143 with delayActual := 511 }
def wDown : State := onPort base 64 (fun p => { p with power := .down })
def wDownClosed : State := onPort base 0 (fun p => switched true true none { p with power := .down })
def wDownOpen : State := onPort base 0 (fun p => switched false false none { p with power := .down })
def wRising : State := onPort base 64 (fun p => { p with state := .off, requested := .off, power := .up })

/-- The spare of group 0 serves port 3; the same with SPARE_CTRL.AUTO and a settled shadow. -/
def wServed : State :=
  (onPort base 3 id).setSpare 0 { Spare.fresh with settled := true, substituted := true, serves := some 3 }
def wAuto : State :=
  ({ (onPort base 3 id) with regs := regList [(Page.spare 0, 0x44, 16), (Page.spare 0, 0x40, 0x83)] ++ base.regs }).setSpare 0
    { Spare.fresh with settled := true }
def wStage : State := onPort base 3 id

theorem meets_OutputStagesSwitchAndReport :
    (144 ∉ fittedPorts base.part ∧ 0 ∈ fittedPorts wClosed.part) ∧
    ((wClosed.port 0).state ≠ .safe ∧ (wClosed.port 0).state ≠ .service ∧ Config.portType 0 = .p ∧ (wClosed.port 0).switches.sense = true ∧
      (wSwitch.port 0).switches.sense = false) ∧
    ((wSwitch.port 0).state ∉ [.off, .absent, .safe, .service] ∧ (wSwitch.port 0).power = .on ∧ wSwitch.railHolds 0 = false ∧
      wSwitch.permitsOutput = true ∧ wSwitch.permitsForce = true) ∧ Config.portType 143 ≠ .p ∧ wStage.permitsOutput = false ∧
    (wClosing.port 0).switches.moving = some true ∧ (wOpening.port 0).switches.moving = some false ∧
    (Config.portType 64 ≠ .p ∧ 64 ∈ fittedPorts wDelay.part) ∧ ((wDown.port 64).power = .down ∧ Config.portType 64 ≠ .p) ∧
    ((wDownClosed.port 0).power = .down ∧ (wDownClosed.port 0).switches.sense = true) ∧
    ((wDownOpen.port 0).power = .down ∧ (wDownOpen.port 0).switches = { sense := false, force := false, moving := none }) ∧
    ((wRising.port 64).power = .up ∧ (wRising.port 64).state = .off) ∧ wStage.stageOn 3 = true ∧
    (3 ∈ fittedPorts wStage.part ∧ wStage.life.ready = true ∧ (wStage.port 3).state ≠ .safe ∧ (wStage.port 3).state ≠ .absent) ∧
    ((wServed.spare 0).substituted = true ∧ (wServed.spare 0).serves = some 3) ∧
    ((wAuto.spare 0).substituted = false ∧ bit (wAuto.rd (Page.spare 0) 0x44) 4 = true ∧ (wAuto.spare 0).settled = true ∧
      wAuto.shadowing 0 = true ∧ wAuto.spareTarget 0 = 3 ∧ (wAuto.spare 0).busy = none) ∧
    ((wStage.spare 0).substituted = false ∧ bit (wStage.rd (Page.spare 0) 0x44) 4 = false) := by decide

/-- Spare 0 rotates; is busy; shadows port 3, settled or not; has connected; is faulty. -/
def spared (x : Spare) : State :=
  ({ (onPort base 3 id) with regs := regList [(Page.spare 0, 0x40, 0x83)] ++ base.regs }).setSpare 0 x
def wRotating : State := withRegs [(Page.cal, 0x70, 1)]
def wSpareBusy : State := spared { Spare.fresh with settled := true, serves := some 3, busy := some { toSpare := true, connected := false } }
def wShadowing : State := spared Spare.fresh
def wSettled : State := spared { Spare.fresh with settled := true }
def wConnected : State := spared { Spare.fresh with settled := true, serves := some 3, busy := some { toSpare := true, connected := true } }
def wReturning : State :=
  spared { Spare.fresh with settled := true, substituted := true, serves := some 3, resetDue := true
                            busy := some { toSpare := false, connected := true } }
def wResetDue : State :=
  spared { Spare.fresh with settled := true, serves := some 3, resetDue := true, busy := some { toSpare := true, connected := true } }

def wGoesBack : State := spared { Spare.fresh with substituted := true, serves := some 3, returning := true, fault := true }

theorem meets_SparesShadowSubstituteAndReturn :
    (3 < Config.spares base.part ∧ wRotating.rotates 0 = true) ∧ (wSpareBusy.rotates 0 = false ∧ (wSpareBusy.spare 0).busy.isSome = true) ∧
    (wShadowing.rotates 0 = false ∧ (wShadowing.spare 0).busy = none ∧ (wShadowing.spare 0).substituted = false) ∧
    (((0x85 : Word) &&& 0x8f) ≠ wShadowing.rd (Page.spare 0) 0x40 ∧ ((0x83 : Word) &&& 0x8f) = wShadowing.rd (Page.spare 0) 0x40) ∧
    (wSettled.rotates 0 = false ∧ (wSettled.spare 0).settled = true ∧ (wSettled.spare 0).substituted = false ∧
      (wSettled.spare 0).service = false ∧ wSettled.tripHeld (wSettled.spareTarget 0) = false ∧
      (wSettled.port (wSettled.spareTarget 0)).state ≠ .off ∧ (wSettled.port (wSettled.spareTarget 0)).state ≠ .absent ∧
      (wSettled.spare 0).busy = none) ∧
    ((wSpareBusy.spare 0).settled = true ∧ (wSpareBusy.spare 0).substituted = false ∧ (wSpareBusy.spare 0).service = false ∧
      wSpareBusy.tripHeld (wSpareBusy.spareTarget 0) = false ∧ (wSpareBusy.port (wSpareBusy.spareTarget 0)).state = .parked ∧
      (wSpareBusy.spare 0).busy ≠ none) ∧
    (wShadowing.spare 0).settled = false := by decide

theorem meets_SparesShadowSubstituteAndReturn_returns :
    (wServed.rotates 0 = false ∧ (wServed.spare 0).substituted = true ∧ (wServed.spare 0).busy = none ∧
      (wServed.spare 0).serves = some 3 ∧ wServed.tripHeld 3 = false) ∧
    (wShadowing.shadowing 0 = true ∧ (wShadowing.spare 0).settled = false) ∧
    (wSpareBusy.spare 0).busy = some { toSpare := true, connected := false } ∧
    ((wConnected.spare 0).busy = some { toSpare := true, connected := true } ∧ (wConnected.spare 0).serves = some 3 ∧
      (wConnected.spare 0).resetDue = false) ∧
    ((wReturning.spare 0).busy = some { toSpare := false, connected := true } ∧ (wReturning.spare 0).resetDue = true) ∧
    ((wResetDue.spare 0).resetDue = true ∧ wResetDue.tripHeld 3 = false) ∧
    (3 / 16 = 0 ∧ Config.portType 3 = .p ∧ wGoesBack.moment (.port 3) = .ordinary ∧ (wGoesBack.spare 0).returning = true ∧
      (wGoesBack.spare 0).serves = some 3) := by decide

/-- Monitor 2 enabled: inside its window in mode 1 with published states, in mode 4, follower, blanked. -/
def inWindow : Monitor :=
  { Monitor.fresh with running := true, mode := 1, hyst := 1, cu := some false, cl := some false, published := .inside }
def monitored (cfg : Word) (x : Monitor) : State := { (withRegs [(Page.wmon, 0x80, cfg)]) with monitors := [(2, x)] }
def wMonitor : State := monitored 0x113 inWindow
def wMonitorFree : State := monitored 0x013 inWindow
def wSampled : State := { monitored 0x119 { inWindow with mode := 4 } with part := .tg048 }
def wSampledOff : State := { wMonitor with part := .tg048 }
def wMonitorBehind : State := monitored 0x113 { inWindow with published := .above }
def wMonitorFollow : State := { wMonitor with twin := followTwin }
def wNoVana : State := { base with health := { base.health with rails := [.vana] } }

theorem meets_MonitorsCompareMoveAndBlank :
    2 < Config.monitors base.part ∧ (bit (base.reg (monReg 2 0)) 0 = false ∧ Rail.vana ∉ base.health.rails) ∧
    bit (wMonitor.reg (monReg 2 0)) 0 = true ∧ Rail.vana ∈ wNoVana.health.rails ∧
    (bit (wMonitorFree.reg (monReg 2 0)) 0 = true ∧ wMonitorFree.syncEn 2 = false ∧ wMonitor.syncEn 2 = true) ∧
    ((wMonitor.monitor 2).mode ≠ 4 ∧ (wMonitor.monitor 2).running = true ∧
      36000000 * (wMonitor.monitor 2).upperUsed < 20000000 * 24576 ∧ (-20000000) * 24576 < 36000000 * (wMonitor.monitor 2).lower ∧
      36000000 * (wMonitor.monitor 2).lower + 327680000 * (wMonitor.monitor 2).hyst < 0 * 24576 ∧
      0 * 24576 < 36000000 * (wMonitor.monitor 2).upperUsed - 327680000 * (wMonitor.monitor 2).hyst ∧
      wMonitor.life.standby = false ∧ wMonitor.twin.role ≠ .follow ∧ bit (wMonitor.reg (monReg 2 12)) 15 = false ∧
      (wMonitor.monitor 2).state = .inside ∧ (wMonitor.monitor 2).published = .inside) ∧
    ((wSampled.monitor 2).mode = 4 ∧ (wSampled.monitor 2).running = true ∧ activeMode wSampled.part 0 = 4 ∧
      2 < Config.monitors wSampled.part) ∧ (base.monitor 2).running = false ∧ activeMode base.part 0 ≠ 4 ∧
    ((wSampledOff.monitor 2).mode ≠ 4 ∧ activeMode wSampledOff.part 0 = 4) ∧ (wStandby.inStandby = true ∧ base.inStandby = false) ∧
    (wMonitor.blanked 2 = false ∧ changeEvents (wMonitor.monitor 2).published (wMonitor.syncState 2) = []) ∧
    changeEvents (wMonitorBehind.monitor 2).published (wMonitorBehind.syncState 2) ≠ [] := by decide

theorem meets_MonitorModeWaitsForItsEnable :
    2 < Config.monitors wMonitor.part ∧
    (bit (wMonitor.reg (monReg 2 0)) 0 = true ∧ bit ((wMonitor.reg (monReg 2 0) &&& ~~~(0xfe : Word)) ||| (0x24 &&& 0xfe)) 0 = true) ∧
    (bit (base.reg (monReg 2 0)) 0 = false ∧ Rail.vana ∉ base.health.rails) := by decide

/-- Stack 1: tracking with a batch owed; forced; crossing up; in its first state; in doubled mode; training; failed once. -/
def stacked (x : Stack) : State := base.setStack 1 x
def tracking : Stack := { Stack.fresh with train := .tracking, doubled := false, initial := false, owed := 7 }
def wTracking : State := stacked tracking
def wForcedOwed : State := stacked { tracking with forced := true, owed := 8 }
def wCrossing : State := stacked { tracking with up := true }
def wInitial : State := stacked { tracking with initial := true, doubled := true }
def wDoubled : State := stacked { tracking with doubled := true, temp := some 79 }
def wForceDouble : State := stacked { tracking with forceDouble := true }
def wTraining : State := stacked { Stack.fresh with train := .training, attempts := 1 }
def wTrainedTwice : State := stacked { Stack.fresh with train := .training, attempts := 2 }
def wBadChannel : State := stacked { tracking with failed := [31] }

theorem meets_StacksRefreshTrainAndCross :
    Config.stackCount base.part ≤ 2 ∧ 1 < Config.stackCount base.part ∧ (wTracking.stack 1).train = .tracking ∧
    (0 < (wTracking.stack 1).owed ∧ (wTracking.stack 1).forced = false ∧ (wTracking.stack 1).up = false) ∧
    (wInitial.stack 1).initial = true ∧ ((wForceDouble.stack 1).initial = false ∧ (wForceDouble.stack 1).forceDouble = true) ∧
    ((wTracking.stack 1).initial = false ∧ (wTracking.stack 1).forceDouble = false ∧ (wTracking.stack 1).doubled = false) ∧
    ((wDoubled.stack 1).initial = false ∧ (wDoubled.stack 1).forceDouble = false ∧ (wDoubled.stack 1).doubled = true) ∧
    ((wForcedOwed.stack 1).forced = true ∧ (wForcedOwed.stack 1).up = false) ∧ (wCrossing.stack 1).up = true ∧
    (31 ∉ (wTracking.stack 1).failed ∧ 31 ∈ (wBadChannel.stack 1).failed) ∧
    ((wTraining.stack 1).train = .training ∧ (wTraining.stack 1).attempts < 2 ∧ ¬ (wTrainedTwice.stack 1).attempts < 2) := by decide

/-- A descriptor of 40 granules for an F-port, and one too long for the cache. -/
def descF : BitVec 256 := BitVec.ofNat 256 (0x1000 + 2 ^ 43 + 40 * 2 ^ 64)
def descHuge : BitVec 256 := BitVec.ofNat 256 (0x1000 + 2 ^ 43 + (2 ^ 24 - 1) * 2 ^ 64)

/-- Port 64 has a fetch cursor with room; a granule flying or to be fetched again; the pass of the granule has begun. -/
def streamed (b : Bobbin) : State :=
  { (onPort base 64 (fun p => { p with state := .run, requested := .run, mode := 0, play := inPass, bobbin := b })) with
    entries := [(0, playTwice)], descs := [(0, descF)] }
def cursor0 : Cursor := { entry := 0, item := playTwice, pass := 1, gran := 4, rows := rowsZero, count := 1, word := some descF }
def granule4 : Fetched := { pass := 1, gran := 4, addr := 0x1100, data := none, issued := false, train := 0 }
def wCursor : State := streamed { Bobbin.empty with cursor := some cursor0 }
def wFlying : State := streamed { Bobbin.empty with flying := [granule4] }
def wAhead : State := streamed { Bobbin.empty with flying := [{ granule4 with pass := 0 }] }
def wRefetch : State := streamed { Bobbin.empty with refetch := [granule4] }
def wBegun : State := streamed { Bobbin.empty with refetch := [granule4], playing := 2 }
def wFlyingDead : State := wFlying.setStack (wFlying.pseudo 0x1100 / 32) { Stack.fresh with train := .failed }

/-- Every tag of the pseudo-channel is taken by port 65. -/
def wNoTag : State := wCursor.modPort 65 (fun p => { p with bobbin := { Bobbin.empty with flying := List.replicate 768 granule4 } })

/-- The address that the fetch engine of port 64 reads next. -/
def nextAddr : Nat := wCursor.memAddr (dataAddr (Config.portType 64) descF 4)

theorem meets_ReadsReachTheBobbin :
    (base.port 143).bobbin.cursor = none ∧
    ((wCursor.port 64).bobbin.cursor = some cursor0 ∧ cursor0.word = some descF ∧ wCursor.bobbinRoom 64 = true ∧
      wCursor.copyFor 64 (wCursor.playedDesc 64 cursor0.item) = none ∧
      descSuits (Config.portType 64) (wCursor.port 64).mode descF = true ∧ cursor0.gran < descLen descF ∧
      cursor0.gran < wCursor.passLen 64 cursor0.item ∧ wCursor.tagFree 64 nextAddr = true) ∧
    ((wNoTag.port 64).bobbin.cursor = some cursor0 ∧ wNoTag.bobbinRoom 64 = true ∧
      wNoTag.copyFor 64 (wNoTag.playedDesc 64 cursor0.item) = none ∧ cursor0.gran < wNoTag.passLen 64 cursor0.item ∧
      wNoTag.tagFree 64 nextAddr = false) := by decide +kernel

theorem meets_ReadsReachTheBobbin_reads :
    ((wFlying.port 64).bobbin.returning = some granule4 ∧ granule4.pass ≠ 0 ∧ wFlying.unreadable granule4.addr = false ∧
      wFlying.slotBegun 64 granule4 = false ∧ wFlying.bestEffort 64 = false) ∧
    ((wAhead.port 64).bobbin.returning = some { granule4 with pass := 0 } ∧ ({ granule4 with pass := 0 } : Fetched).pass = 0) ∧
    ((wFlyingDead.port 64).bobbin.returning = some granule4 ∧ wFlyingDead.unreadable granule4.addr = true ∧
      wFlyingDead.slotBegun 64 granule4 = false) ∧
    ((wRefetch.port 64).bobbin.refetch = [granule4] ∧ wRefetch.slotBegun 64 granule4 = false ∧
      wRefetch.unreadable granule4.addr = false) ∧
    ((wBegun.port 64).bobbin.refetch = [granule4] ∧ wBegun.slotBegun 64 granule4 = true) := by decide

/-- The stack of the waiting read with a refresh owed, and with none waiting. -/
def wReadWaits : State := wFlying.setStack (wFlying.stackOf 0x1100) tracking

theorem meets_StacksRefreshTrainAndCross_reads :
    ((wReadWaits.stack (wFlying.stackOf 0x1100)).train = .tracking ∧ 0 < (wReadWaits.stack (wFlying.stackOf 0x1100)).owed ∧
      wReadWaits.readWaits (wFlying.stackOf 0x1100) = true ∧ wFlying.stackOf 0x1100 < Config.stackCount base.part) ∧
    (wTracking.readWaits 1 = false ∧ wTracking.trainRuns 1 = false) := by decide

/-- A pin of descriptor 0 is due: of nothing held, of a held pin, of a used pin, of one too long, as an unpin, held back. -/
def pinDue (un : Nat) (l : List Copy) (d : BitVec 256) : State :=
  { (withRegs [(Page.cache, 0x48, word (2 ^ 31 + un * 2 ^ 24))]) with copies := l, descs := [(0, d)] }
def pinOf (users : List Nat) : Copy :=
  { desc := 0, addr := 0x1000, len := 40, whole := true, data := List.replicate 40 (some 0), marks := [], users := users, pinned := true, touched := false }
def wPin : State := pinDue 0 [] descF
def wPinAgain : State := pinDue 0 [pinOf []] descF
def wPinUsed : State := pinDue 0 [pinOf [64]] descF
def wPinLong : State := pinDue 0 [] descHuge
def wUnpin : State := pinDue 1 [pinOf []] descF
def wUnpinNone : State := pinDue 1 [] descF
def wPinHeld : State := { wPin with security := { Security.reset with update := .waitQuiet, pinHeld := true } }

/-- Ports 64 and 65 READY, armed together; port 64 stages with the pinned copy of descriptor 0. -/
def armedTwo : State :=
  { onPort (onPort base 64 (fun p => { p with state := .ready, requested := .armed })) 65
      (fun p => { p with state := .ready, requested := .armed }) with
    entries := [(0, playTwice)], descs := [(0, descF)] }
def wStagesWith : State := { (armedTwo) with regs := regList [(Page.cache, 0x48, word (2 ^ 31))] ++ base.regs, copies := [pinOf []] }

/-- Port 64 READY with an entry that plays no cached descriptor; a pulse unit READY. -/
def wReady : State :=
  { (onPort base 64 (fun p => { p with state := .ready, requested := .armed, mode := 0 })) with
    entries := [(0, playTwice)], descs := [(0, descF ||| BitVec.ofNat 256 (2 ^ 40))] }
def wPulseReady : State := pulsePort .ready none []

theorem meets_CachePinsAndStaging :
    bit (wPin.rd Page.cache 0x48) 31 = true ∧ bit (base.rd Page.cache 0x48) 31 = false ∧ wPinHeld.security.pinHeld = true ∧
    (wPinHeld.rd Page.cache 0x48 = wPin.rd Page.cache 0x48 ∧ (wParked.stagingWaits (.port 64) = false ∧ wReady.stagingWaits (.port 64) = false) ∧
      wPinUsed.security.pinHeld = false ∧ wUnpin.stagesWith (pinOf []) = false) ∧
    (wPin.security.pinHeld = false ∧ wPin.copies.find? (fun c => c.pinned && c.desc == 0) = none ∧
      bit (wPin.rd Page.cache 0x48) 24 = false ∧
      wPin.cacheUsed + blocksOf (descLen (wPin.desc 0)) + blocksOf (descMarks (ptypeOf (wPin.desc 0)) (wPin.desc 0)) ≤ cacheBlocks) ∧
    cacheBlocks < wPinLong.cacheUsed + blocksOf (descLen (wPinLong.desc 0)) +
      blocksOf (descMarks (ptypeOf (wPinLong.desc 0)) (wPinLong.desc 0)) ∧
    (wPinUsed.copies.find? (fun c => c.pinned && c.desc == 0) = some (pinOf [64]) ∧ (pinOf [64]).users ≠ []) ∧
    (bit (wUnpin.rd Page.cache 0x48) 24 = true ∧ wUnpin.copies.find? (fun c => c.pinned && c.desc == 0) = some (pinOf []) ∧
      (pinOf []).users = []) ∧ wUnpinNone.copies.find? (fun c => c.pinned && c.desc == 0) = none ∧
    (∀ a ∈ dataAddrs (ptypeOf (wPin.desc 0)) (wPin.desc 0) 0 (descLen (wPin.desc 0)) ++ markAddrs (ptypeOf (wPin.desc 0)) (wPin.desc 0),
      wPin.unreadable (wPin.memAddr a) = false) ∧
    wParked.unitState (.port 64) ≠ .ready ∧ wReady.unitState (.port 64) = .ready ∧
    ((wReady.port 64).state = .ready ∧ bits (wReady.reg (portReg 64 0x58)) 0 2 ≠ 2 ∧ (∀ c ∈ wReady.copies, c.pinned = false)) ∧
    ((wPulseReady.port 96).state = .ready ∧ wPulseReady.stagingWaits (.port 96) = false ∧ pulseUnit (Config.portType 96) (wPulseReady.port 96).mode = true) := by
  decide +kernel

theorem meets_CachePinsAndStaging_cached :
    armedTwo.unitState (.port 65) = .ready ∧ armedTwo.stagingWaits (.port 65) = true ∧
    (wStagesWith.copies.find? (fun c => c.pinned && c.desc == 0) = some (pinOf []) ∧ wStagesWith.stagesWith (pinOf []) = true) ∧
    ∀ d ∈ wReady.stagedDescs 64 (wReady.port 64).play.start,
      descRes (wReady.desc d) ≠ 0 ∧ descRes (wReady.desc d) ≠ 2 ∧ descMarks (Config.portType 64) (wReady.desc d) = 0 := by
  decide +kernel

/-- The loop in one of its situations. -/
def clocked (f : Clock → Clock) : State := { base with clock := f base.clock }
def wNoRef : State := { clocked (fun c => { c with loop := .noRef, refPresent := false }) with life := { base.life with state := .clocking } }
def wNoRefPend : State := { wNoRef with clock := { wNoRef.clock with pend := true }, life := base.life }
def wCoast : State := clocked (fun c => { c with loop := .coasting, refPresent := false })
def wCoastHeld : State :=
  clocked (fun c => { c with loop := .coasting, refPresent := false, pend := true, held := true, commit := true })
def wCommitClock : State := clocked (fun c => { c with commit := true })
def wHeldRatio : State := clocked (fun c => { c with commit := true, pend := true, loop := .noRef })
def wNewRatio : State :=
  { (withRegs [(Page.clock, 0x54, word (10000 + 2 ^ 24)), (Page.clock, 0x48, 1900), (Page.clock, 0x50, 1)]) with
    clock := { base.clock with commit := true, pend := true }, ports := (running inPass).ports }
def wSameRatio : State :=
  { (withRegs [(Page.clock, 0x54, word (10000 + 2 ^ 24)), (Page.clock, 0x48, 1920), (Page.clock, 0x50, 1)]) with
    clock := { base.clock with commit := true, pend := true } }
def wMeasuring : State := clocked (fun c => { c with loop := .searching, relock := some .measuring })
def wFirst : State :=
  { wNoRef with
    regs := [], clock := { wNoRef.clock with loop := .searching, refPresent := true, relock := some (.search true) } }

theorem meets_ReferenceAndRatioReachTheLoop :
    (250001 < 1000 ∨ 250000 < 250001) ∧ (1000 ≤ 250000 ∧ base.clock.loop ≠ .noRef ∧ base.clock.loop ≠ .coasting) ∧
    (base.clock.held = false ∧ wCoastHeld.clock.loop ≠ .noRef ∧ wCoastHeld.clock.held = true) ∧
    (wCoastHeld.clock.commit = true ∧ wCoastHeld.clock.pend = true ∧ wCoastHeld.clock.loop = .coasting ∧ wCoastHeld.clock.refPresent = false) ∧
    (wNoRef.clock.loop = .noRef ∧ wNoRef.life.state = .clocking) ∧ (wNoRefPend.clock.pend = true ∧ wNoRefPend.life.state ≠ .clocking) ∧
    (wCommitClock.clock.commit = true ∧ wCommitClock.committing = false ∧ wCommitClock.clock.pend = false) ∧
    (wHeldRatio.clock.pend = true ∧ wHeldRatio.clock.loop = .noRef) ∧
    (wNewRatio.clock.commit = true ∧ wNewRatio.clock.pend = true ∧ wNewRatio.clock.loop = .locked ∧ wNewRatio.clock.relock = none ∧
      clampRatio wNewRatio.refKhz wNewRatio.shadowRatio ≠ wNewRatio.clock.ratio ∧ wNewRatio.firstLock = true ∧
      64 ∈ fittedPorts wNewRatio.part ∧ (wNewRatio.port 64).state ∉ [.off, .absent, .safe]) ∧
    clampRatio wSameRatio.refKhz wSameRatio.shadowRatio = wSameRatio.clock.ratio ∧
    (wMeasuring.clock.relock = some .measuring ∧ wMeasuring.clock.refPresent = true) ∧
    (wFirst.firstLock = false ∧ wFirst.life.state = .clocking ∧ wFirst.clock.searches = true ∧ (wFirst.stack 1).train = .idle) := by
  decide +kernel

/-- The steps of a relock. -/
def relocking (r : Relock) : State := clocked (fun c => { c with loop := .searching, relock := some r, guard := true, gated := true })
def wSearch : State := relocking (.search true)
def wStored : State := { relocking (.search false) with clock := { (relocking (.search false)).clock with fromTable := true } }
def wRun : State := relocking .run
def wPassed : State := relocking .passed
def wPassedTable : State := { wPassed with clock := { wPassed.clock with fromTable := true } }
def wWaiting : State := { relocking .waiting with clock := { (relocking .waiting).clock with refPresent := false } }
def wWaitingFollow : State := { wWaiting with twin := followTwin }

theorem meets_RelocksGoThroughTheirSteps :
    (let c := wRun.clock
     let fb := c.fbInt * c.fbDen + c.fbNum
     64 * fb ≤ (64 * c.fbInt + 2) * c.fbDen ∧ 64 * c.fbInt * c.fbDen ≤ 64 * fb + 2 * c.fbDen ∧
      (0 + 2) * c.fbDen < 64 * fb) ∧
    ({ wFirst with clock := { wFirst.clock with relock := some .passed } } : State).firstLock = false ∧
    wSearch.clock.relock = some (.search true) ∧ wStored.clock.relock = some (.search false) ∧
    (∀ full, base.clock.relock ≠ some (.search full)) ∧ wRun.clock.relock = some .run ∧ base.clock.relock ≠ some .run ∧
    wFirst.firstLock = false ∧ (wPassed.clock.relock = some .passed ∧ wPassed.firstLock = true ∧ wPassed.clock.fromTable = false) ∧
    wPassedTable.clock.fromTable = true ∧ base.clock.relock = none ∧ wMeasuring.clock.relock = some .measuring ∧
    (wRun.clock.relock ≠ none ∧ wRun.clock.relock ≠ some .measuring) ∧
    (wWaitingFollow.clock.relock = some .waiting ∧ wWaitingFollow.twin.role = .follow) ∧
    (wWaiting.clock.relock = some .waiting ∧ wWaiting.twin.role ≠ .follow ∧ wWaiting.firstLock = true) := by decide

/-- Coasts, returns, corrections and domains. -/
def returning (mode : Word) : State := { (withRegs [(Page.clock, 0x68, mode)]) with clock := wCoast.clock }
def wReturnSlew : State := returning 0
def wReturnStep : State := returning 1
def wReturnHold : State := returning 2
def wAligning : State := clocked (fun c => { c with sync := .aligning, gated := true })
def wSlew : State := clocked (fun c => { c with loop := .refReturned, correction := some 0 })
def wStepBack : State := clocked (fun c => { c with loop := .refReturned, correction := some 1 })
def wCoreFast : State := { wSameRatio with clock := base.clock }
def wGuarded : State := clocked (fun c => { c with guard := true })

theorem meets_CoastsReturnAndDomains :
    (10000 ≠ 0 ∧ wReturnStep.clock.loop = .coasting ∧ wReturnStep.clock.relock = none ∧ wReturnHold.clock.loop = .coasting) ∧
    (base.clock.refPresent = true ∧ base.twin.role ≠ .follow ∧ base.clock.relock = none ∧ base.clock.sync ≠ .aligning ∧
      base.clock.loop = .locked) ∧ wWaitingFollow.twin.role = .follow ∧ (wCoast.clock.loop ≠ .locked ∧ wCoast.clock.loop ≠ .refReturned) ∧
    (wAligning.clock.sync = .aligning ∧ wAligning.clock.relock = none) ∧ wCoast.clock.refPresent = false ∧
    (wReturnSlew.clock.loop = .coasting ∧ wReturnSlew.clock.relock = none ∧ wReturnSlew.twin.role ≠ .follow ∧
      bits (wReturnSlew.rd Page.clock 0x68) 0 4 = 0 ∧
      (let c := wReturnSlew.clock
       let want := 1024000 * (c.fbInt * c.fbDen + c.fbNum)
       100001 * want < 100000 * (1024010 * (c.fbInt + 1) * c.fbDen) ∧ 100000 * (0 * c.fbDen) + want < 100000 * want ∧
        100000 * (1024000 * c.fbInt * c.fbDen) ≤ 100001 * want ∧ 100000 * want ≤ 100000 * (1024000 * c.fbInt * c.fbDen) + want)) ∧ bits (wReturnStep.rd Page.clock 0x68) 0 4 = 1 ∧
    bits (wReturnHold.rd Page.clock 0x68) 0 4 = 2 ∧
    (wSlew.clock.loop = .refReturned ∧ wSlew.clock.correction = some 0) ∧ wStepBack.clock.correction = some 1 ∧
    domainPresent base.part 60 = false ∧
    (domainPresent wCoreFast.part 2 = true ∧ wCoreFast.domainChecked 2 = true ∧ wCoreFast.inTolerance 2 3200000 = true ∧
      wCoreFast.inTolerance 2 3000000 = false) ∧ wFirst.domainChecked 2 = false := by decide

/-- A sync output or an aligned sync is configured, armed, or under way. -/
def synced (mode : Word) : State := withRegs [(Page.clock, 0x80, mode)]
def wSyncOut : State := synced 2
def wSyncRun : State := { wSyncOut with ports := (running inPass).ports }
def wArmed : State := { wSyncOut with clock := { base.clock with sync := .armed } }
def wArmedRun : State := { wArmed with ports := (running inPass).ports }
def wSyncHigh : State := clocked (fun c => { c with syncIn := true })

theorem meets_SyncArmsFiresAndAligns :
    (base.twin.role ≠ .follow ∧ wAligning.clock.sync = .aligning) ∧
    (wSyncOut.clock.sync ≠ .aligning ∧ bits (wSyncOut.rd Page.clock 0x80) 0 2 ∈ [1, 2] ∧ wSyncOut.clock.loop = .locked ∧
      wSyncOut.clock.relock = none ∧ (∀ n ∈ fittedPorts wSyncOut.part, (wSyncOut.port n).state = .parked ∨ (wSyncOut.port n).state = .off)) ∧
    bits (base.rd Page.clock 0x80) 0 2 ∉ [1, 2] ∧ (∃ n ∈ fittedPorts wSyncRun.part, (wSyncRun.port n).state = .run) ∧
    bits (wSyncOut.rd Page.clock 0x80) 0 2 = 2 ∧ wSyncHigh.clock.syncIn = true ∧
    (wArmed.clock.syncIn = false ∧ wArmed.clock.sync = .armed ∧ wArmed.mayAlign = true) ∧
    (wArmedRun.clock.sync = .armed ∧ wArmedRun.mayAlign = false) ∧ wMonitorFollow.twin.role = .follow := by
  decide +kernel

/-- A CALADC free for port 0; busy; CAL_CTRL.HOLD... each with the factory record, an active cartridge and time. -/
def wIdlePort : State := onPort calibrating 0 id
def busyAdc (x : Swatch) (s : State) : State := { s with cal := { s.cal with adc0 := some x } }
def swatchOf (item : Nat) (kind : SwatchKind) : Swatch :=
  { item := item, kind := kind, legacy := false, rotation := false, level := 0, values := [], noisy := false, done := false }
def wSwatch : State := busyAdc (swatchOf 0 .full) (onPort calibrating 0 (fun p => { p with state := .service, requested := .service }))
def wHoldCal : State := { calibrating with regs := regList [(Page.cal, 0x40, 256)] ++ base.regs }
def wDelayDue : State := onPort calibrating 64 id

/-- A delay swatch of port 64 with its point, accepted without a factory model, and a noisy one; two rejections before. -/
def delaySwatch (noisy : Bool) : Swatch := { swatchOf 16448 .delay with values := [0], noisy := noisy }
def wAccepted : State := busyAdc (delaySwatch false) base
def wNoisy : State := busyAdc (delaySwatch true) { base with cal := { base.cal with items := [(16448, { CalItem.fresh with rejected := 2 })] } }

/-- An item with a target away from what is applied; a seeded item; a HELD one. -/
def wTarget : State :=
  { base with cal := { base.cal with items := [(16448, { CalItem.fresh with target := { gain := 0, offset := 3 }, seeded := true })] } }
def wHeldItem : State := { base with cal := { base.cal with items := [(16448, { CalItem.fresh with held := true, seeded := true })] } }

/-- A swatch of a LEGACY_HOLD pass with its point. -/
def legacyPoint : Swatch := { swatchOf 0 .point with legacy := true, values := [0] }
def wLegacyEnds : State := busyAdc legacyPoint base

theorem meets_SwatchesMeasureAndJudge :
    (wIdlePort.cal.suspend = false ∧ wIdlePort.inStandby = false ∧ wDelayDue.cal.suspend = false ∧ wStandby.inStandby = true ∧
      wTarget.inStandby = false) ∧
    (wLegacyEnds.adc 0 = some legacyPoint ∧ legacyPoint.done = false ∧ legacyPoint.legacy = true ∧
      legacyPoint.values.length = legacyPoint.kind.points) ∧
    (2 ≤ 2 ∧ (wSwatch.adc 0).isSome = true ∧ base.mayCalibrate = false ∧ bit (wHoldCal.rd Page.cal 0x40) 8 = true) ∧
    (0 < 2 ∧ wIdlePort.adc 0 = none ∧ wIdlePort.mayCalibrate = true ∧ bit (wIdlePort.rd Page.cal 0x40) 8 = false ∧
      wIdlePort.legacyWaits 0 = false ∧ wIdlePort.nextItem 0 = some 0 ∧ wIdlePort.opportunity 0 = some (.full, false) ∧
      wIdlePort.precondition 0 false = some 1 ∧ wIdlePort.precondition 0 true = none) ∧
    (wDelayDue.nextItem 0 = some 16448 ∧ wDelayDue.opportunity 16448 = some (.delay, false)) ∧
    (wSwatch.adc 0 = some (swatchOf 0 .full) ∧ (swatchOf 0 .full).values.length < (swatchOf 0 .full).kind.points) ∧
    (wAccepted.adc 0 = some (delaySwatch false) ∧ (delaySwatch false).done = false ∧ (delaySwatch false).legacy = false ∧
      (delaySwatch false).values.length = (delaySwatch false).kind.points ∧ wAccepted.accepts (delaySwatch false) = true ∧
      itemPort 16448 = some 64) ∧
    (wNoisy.accepts (delaySwatch true) = false ∧ 2 ≤ (wNoisy.calItem 16448).rejected) ∧ wPause.paused = true ∧
    (wTarget.paused = false ∧ (wTarget.cal.items.map (fun e => e.1)).Nodup ∧ (∀ e ∈ wTarget.cal.items, e.1 ∈ itemCodes wTarget.part)) ∧
    ((wTarget.calItem 16448).seeded = true ∧ (wTarget.calItem 0).seeded = false) ∧ (wHeldItem.calItem 16448).held = true := by
  decide +kernel

/-- Spare 0 in the steps of its rotation over port 0. -/
def ready16 : CalItem := { CalItem.fresh with seeded := true, accepted := 16, swatched := some 100 }
def rotating (st : Rotation) (x : Spare) (items : Tab CalItem) : State :=
  ({ (onPort calibrating 0 (fun p => { p with state := .run, requested := .run })) with
      regs := regList [(Page.cal, 0x70, 1), (Page.spare 0, 0x40, 0x80)] ++ base.regs
      cal := { calibrating.cal with rotation := (if st = Rotation.idle then [] else [(0, (st, 0))]), items := items } }).setSpare 0 x
def shadow0 : Spare := { Spare.fresh with settled := true }
def serving0 : Spare := { shadow0 with substituted := true, serves := some 0 }
def wRotIdle : State := rotating .idle Spare.fresh []
def wRotShadow : State := rotating .shadow Spare.fresh []
def wRotSpare : State := rotating .shadow shadow0 []
def wRotGo : State := rotating .shadow shadow0 [(0, ready16), (8192, ready16)]
def wRotInvalid : State := rotating .shadow shadow0 [(8192, { CalItem.fresh with swatched := some 100 })]
def wRotSub : State := rotating .substitute serving0 []
def wRotPort : State := rotating .portSwatch serving0 [(0, ready16), (8192, ready16)]
def wRotReturn : State := rotating .return_ shadow0 []

/-- LEGACY_HOLD with a port that is not idle, with none, and with a swatch of port 0 that is done. -/
def legacyOf (s : State) : State := { s with cal := { s.cal with legacyMode := true } }
def wLegacy : State := legacyOf (onPort base 0 (fun p => { p with state := .run, requested := .run }))
def wLegacyIdle : State := legacyOf base
def wLegacyRuns : State := { wLegacyIdle with cal := { wLegacyIdle.cal with legacy := some { queue0 := [], queue1 := [], ports := 0, results := [] } } }
def legacySwatch : Swatch := { swatchOf 0 .point with legacy := true, done := true }
def wLegacyDone : State := busyAdc legacySwatch wLegacyRuns

/-- Spare 0 in a step of a rotation whose GROUP_EN bit was cleared. -/
def stopped (s : State) : State := s.wr Page.cal 0x70 0
def wStopIdle : State := stopped wRotIdle
def wStopWaits : State := stopped (busyAdc (swatchOf 0 .point) wRotPort)
def wStopReturns : State := stopped wRotPort
def wStopEnds : State := stopped wRotSpare

theorem meets_RotationsAndLegacyPasses_stopped :
    (wStopIdle.rotates 0 = false ∧ (wStopIdle.rotation 0).1 = .idle) ∧
    (wStopWaits.rotates 0 = false ∧ wStopWaits.rotationStepDone 0 (wStopWaits.rotation 0) = false) ∧
    (wStopReturns.rotates 0 = false ∧ (wStopReturns.rotation 0).1 ≠ .idle ∧ wStopReturns.cal.legacyMode = false ∧
      wStopReturns.rotationStepDone 0 (wStopReturns.rotation 0) = true ∧ wStopReturns.mayReturn 0 = true ∧
      (wStopReturns.spare 0).busy = none) ∧
    (wStopEnds.rotates 0 = false ∧ (wStopEnds.rotation 0).1 ≠ .idle ∧
      wStopEnds.rotationStepDone 0 (wStopEnds.rotation 0) = true ∧ wStopEnds.mayReturn 0 = false) := by
  decide +kernel

theorem meets_RotationsAndLegacyPasses :
    (Config.spares base.part ≤ 4 ∧ wLegacy.cal.legacyMode = true) ∧
    (0 < Config.spares wRotIdle.part ∧ wRotIdle.cal.legacyMode = false ∧ wRotIdle.rotates 0 = true ∧ (wRotIdle.rotation 0).1 = .idle ∧
      (wRotIdle.spare 0).substituted = false ∧ (wRotIdle.spare 0).busy = none ∧ (wRotIdle.spare 0).service = false ∧
      (wRotIdle.spare 0).fault = false ∧ wRotIdle.mayCalibrate = true ∧ wRotIdle.rotationItem 0 = some 0) ∧
    ((wRotShadow.rotation 0).1 = .shadow ∧ (wRotShadow.spare 0).settled = false) ∧
    ((wRotSpare.rotation 0).1 = .shadow ∧ (wRotSpare.spare 0).settled = true ∧
      wRotSpare.itemDue (wRotSpare.spareItem 0) ≤ wRotSpare.ledger.elapsed ∧ (wRotSpare.calItem (wRotSpare.spareItem 0)).held = false) ∧
    ((wRotGo.spare 0).settled = true ∧ wRotGo.ledger.elapsed < wRotGo.itemDue (wRotGo.spareItem 0) ∧ wRotGo.trimsValid 0 = true ∧
      wRotGo.mayHandOver 0 = true ∧ (wRotGo.spare 0).busy = none) ∧
    (wRotInvalid.ledger.elapsed < wRotInvalid.itemDue (wRotInvalid.spareItem 0) ∧ wRotInvalid.trimsValid 0 = false ∧
      bit (wRotInvalid.rd Page.cal 0x70) 4 = false) ∧
    ((wRotSub.rotation 0).1 = .substitute ∧ (wRotSub.spare 0).substituted = true ∧ (wRotSub.spare 0).busy = none) ∧
    ((wRotPort.rotation 0).1 = .portSwatch ∧ wRotPort.swatchIdle (wRotPort.rotation 0).2 = true ∧
      wRotPort.ledger.elapsed < wRotPort.itemDue (wRotPort.rotation 0).2 ∧ wRotPort.trimsValid 0 = true ∧
      (wRotPort.spare 0).substituted = true ∧ (wRotPort.spare 0).busy = none ∧ (wRotPort.spare 0).serves = some 0 ∧ wRotPort.tripHeld 0 = false) ∧
    ((wRotReturn.rotation 0).1 = .return_ ∧ (wRotReturn.spare 0).busy = none ∧ (wRotReturn.spare 0).substituted = false) ∧
    (wLegacyRuns.cal.legacy.isSome = true ∧ wLegacy.cal.suspend = false ∧ wLegacyIdle.cal.suspend = false ∧ wLegacy.cal.legacy = none ∧ 0 ∈ fittedPorts wLegacy.part ∧ wLegacy.notIdle 0 = true) ∧
    (wLegacyIdle.cal.adc0 = none ∧ wLegacyIdle.cal.adc1 = none ∧
      ∀ n ∈ fittedPorts wLegacyIdle.part, n < 64 → wLegacyIdle.notIdle n = false) ∧
    (wSwatch.adc 0 = some (swatchOf 0 .full) ∧ (swatchOf 0 .full).legacy = false) ∧
    (wLegacyDone.adc 0 = some legacySwatch ∧ legacySwatch.legacy = true ∧ legacySwatch.done = true ∧ itemKind legacySwatch.item = 0) := by
  decide +kernel

/-- A commit is due, under way, in its second try; a record in slot A; a ledger entry waits. -/
def storing (st : StoreState) (due : Bool) : State := { base with cal := { base.cal with store := st, storeDue := due } }
def record0 (seq : Nat) : LifeRecord :=
  { seq := seq, sec := 0, ns := 0, ledgerSeq := 0, cartId := 0, activeSlot := 0, fwVersion := 0, trims := [], delays := []
    thresholds := [], items := [] }
def wStoreDue : State := storing .idle true
def wErasing : State := storing .erasing false
def wRetry : State := { (storing .verifying true) with cal := { (storing .verifying true).cal with storeRetry := true } }
def wEarly : State := { wStoreDue with cal := { wStoreDue.cal with storeAt := some 0 } }
def wSlotA : State := { wErasing with nv := { base.nv with lifeA := some (record0 3), lifeB := some (record0 2) } }
def wSlotB : State := { wErasing with nv := { base.nv with lifeA := some (record0 2), lifeB := some (record0 3) } }
def entry0 (kind : Nat) : LedgerEntry := { seq := 4, sec := 0, ns := 0, kind := kind, flags := 0, payload := [], content := [] }
def wEntry : State := { base with ledger := { base.ledger with buffer := [entry0 0x10, entry0 0x20] } }
def wCheckpoint : State := { base with ledger := { base.ledger with buffer := [entry0 0xf0] } }
def wPpsOn : State := { base with ledger := { base.ledger with pps := true } }

theorem meets_LifelineAndLedgerKeepTheirRecords :
    (base.cal.storeDue = false ∧ wErasing.commitRuns = true ∧ wEarly.commitHour = false ∧ wPause.paused = true ∧
      wStandby.inStandby = true) ∧
    (wStoreDue.cal.storeDue = true ∧ wStoreDue.commitRuns = false ∧ wStoreDue.commitHour = true ∧ wStoreDue.paused = false ∧
      wStoreDue.inStandby = false ∧ (∀ r ∈ [record0 2, record0 3], wStoreDue.inForce ≠ some (false, r)) ∧
      ({ wSlotA with cal := wStoreDue.cal } : State).inForce = some (false, record0 3)) ∧
    (wErasing.cal.storeRetry = false ∧ wRetry.commitRuns = true ∧ wRetry.cal.storeRetry = true ∧
      wErasing.life.bindoff ≠ .running) ∧
    wErasing.inForce = none ∧ wSlotA.inForce = some (false, record0 3) ∧ wSlotB.inForce = some (true, record0 3) ∧
    wPpsOn.ledger.pps = true ∧ (base.ledger.pps = false ∧ base.ledger.timeSet = none) ∧ wTimeSet.ledger.timeSet = some 77 ∧
    base.ledger.buffer = [] ∧ (wEntry.ledger.buffer = [entry0 0x10, entry0 0x20] ∧ (entry0 0x10).kind ≠ 0xf0) ∧
    (wCheckpoint.ledger.buffer = [entry0 0xf0] ∧ (entry0 0xf0).kind = 0xf0) := by decide

/-- Slots in their states. -/
def slotted (x : CartSlot) : State := { base with cart := { base.cart with b := x } }
def seat : CartSlot := { CartSlot.reset with present := true, powered := true }
def wNotReady : State := { base with life := { base.life with ready := false } }
def wNoV3a : State := { base with health := { base.health with rails := [.v3a] } }
def wAuthenticating : State := slotted { seat with state := .authenticating }
def wAuthOven : State := slotted { seat with state := .authenticating, ovenStable := true }
def wWarming : State := slotted { seat with state := .warming, data := some cartData, auth := true }
def wNear : State :=
  { slotted { seat with state := .warming, data := some cartData, auth := true, nearSince := some 0 } with
    ledger := { base.ledger with elapsed := 600 } }
def wCastOnSlot : State := { wAuthenticating with cart := { wAuthenticating.cart with castOn := some 1 } }
def wMoving : State := { seated with cart := { seated.cart with transfer := .running } }

theorem meets_CartridgesAreSeatedAndRead :
    (wWarming.slot 1).present = true ∧ ((wNotReady.slot 1).present = false ∧ wNotReady.life.ready = false) ∧
    Rail.v3a ∈ wNoV3a.health.rails ∧ ((base.slot 0).present = false ∧ base.life.ready = true ∧ Rail.v3a ∉ base.health.rails) ∧
    ((seated.slot 0).powered = true ∧ seated.cart.active = some 0 ∧ seated.cart.active ≠ some 1) ∧ wMoving.cart.transfer = .running ∧
    (base.slot 1).state ≠ .authenticating ∧
    ((wAuthenticating.slot 1).state = .authenticating ∧ wAuthenticating.cart.active ≠ some 1 ∧ wAuthenticating.cart.castOn ≠ some 1) ∧
    ((wAuthOven.slot 1).state = .authenticating ∧ (wAuthOven.slot 1).ovenStable = true) ∧
    ((base.slot 1).state ≠ .warming ∧ (base.slot 1).state ≠ .stable) ∧ (wWarming.slot 1).state = .warming ∧
    ((wWarming.slot 1).powered = true ∧ (wWarming.slot 1).state ≠ .fault ∧ (wWarming.slot 1).state ≠ .rejected ∧
      (wWarming.slot 1).nearSince = none ∧ (wNear.slot 1).nearSince = some 0 ∧ 0 + 600 ≤ wNear.ledger.elapsed ∧
      (wNear.slot 1).powered = true ∧
      (wWarming.slot 1).data ≠ none ∧ (wWarming.slot 1).life.shocks < 1) := by decide

/-- Transfers: no active slot; running with 179 points; with an accepted result. -/
def wSelectable : State := { seated with cart := { seated.cart with active := none } }
def wPoints : State := { wMoving with cart := { wMoving.cart with points := List.replicate 179 5 } }
def wDecided : State := { wMoving with cart := { wMoving.cart with accepted := some 5 } }

theorem meets_TransfersMoveTheActiveSlot :
    (wMoving.cart.points = [] ∧ (wMoving.slot 0).inWindow = true ∧ (wMoving.slot 1).inWindow = true ∧ wMoving.clock.relock = none) ∧
    (wSelectable.cart.active = none ∧ (wSelectable.slot 1).state = .stable ∧ (wSelectable.slot 1).sealValid = true ∧
      (wSelectable.slot 1).inWindow = true) ∧ (base.cart.active = none ∧ seated.cart.active ≠ none) ∧ wMoving.cart.transfer = .running ∧
    base.cart.transfer ≠ .running ∧
    (seated.cart.transfer ≠ .running ∧ seated.cart.active = some 0 ∧ (seated.slot 0).state = .stable ∧ (seated.slot 1).state = .stable ∧
      (seated.slot 0).sealValid = true ∧ (seated.slot 1).sealValid = true) ∧ wMoving.cart.accepted = none ∧
    wDecided.cart.accepted ≠ none ∧
    (wPoints.cart.transfer = .running ∧ wPoints.cart.accepted = none ∧ wPoints.clock.relock = none ∧ (wPoints.slot 0).inWindow = true ∧
      (wPoints.slot 1).inWindow = true) ∧ wSwatch.cal.adc0 ≠ none ∧
    (wDecided.cart.transfer = .running ∧ wDecided.cart.accepted = some 5 ∧ wDecided.cart.active = some 0 ∧ wDecided.cal.adc0 = none ∧
      wDecided.cal.adc1 = none ∧ (wDecided.predicted 0).isSome = true ∧ (wDecided.slot 1).data = some cartData ∧
      cartData.record = some assigned) := by decide

theorem meets_TransfersMoveTheActiveSlot_noise :
    quietMean (wPoints.cart.points ++ [5]) (max 1000 (bits (wPoints.rd Page.cart 0x60) 8 24)) ∧
    ¬ quietMean (wPoints.cart.points ++ [10 ^ 15]) (max 1000 (bits (wPoints.rd Page.cart 0x60) 8 24)) := by
  unfold quietMean
  decide +kernel

/-- A firmware update in its states. -/
def updating (st : FwState) : State := { base with security := { Security.reset with update := st } }
def image0 (r : Nat) : Image := { version := 0x02000000, rollback := r, bytes := some [] }
def wAttest : State := { base with security := { Security.reset with attest := .busy } }
def wVerify : State := { updating .verifying with nv := { base.nv with rollback := 2 } }
/-- A source image of 128 bytes: "TFMW", FORMAT 1, ROLLBACK_INDEX 2, every variant; it is read at address 0. -/
def sourceBytes : List Host.Cell :=
  [(0, 0x54), (1, 0x46), (2, 0x4d), (3, 0x57), (4, 1), (12, 2), (20, 7)]
def sourced (cells : List Host.Cell) : State :=
  { wVerify with wave := cells, regs := regList [(Page.security, 0x68, 128)] ++ base.regs }
def wSource : State := sourced sourceBytes
def wRolledBack : State := { wSource with nv := { base.nv with rollback := 3 } }
def wProgram : State := { base with security := { Security.reset with update := .programming, staging := some (image0 2) } }
def wLoaded : State := updating .loaded
def wQuiet : State := updating .waitQuiet
def wQuietBusy : State := { wQuiet with cal := { base.cal with store := .erasing } }
def wFwPaused : State := updating .paused
def wReverting : State := { base with security := { Security.reset with update := .paused, reverting := true, deferred := [(1, 0, 0)] } }
def wNewImage : State := updating .runningNew

theorem meets_UpdatesStageSwitchAndConfirm :
    (wAttest.security.attest = .busy ∧ base.security.attest ≠ .busy) ∧
    (base.security.update ∈ [.idle, .loaded, .failed] ∧ wLoaded.security.update ∈ [.loaded] ∧
      wQuiet.security.update ∈ [.loaded, .waitQuiet] ∧ wVerify.security.update ∉ [.idle, .loaded, .failed]) ∧
    (base.security.update ≠ .runningNew ∧ wNewImage.security.update = .runningNew) ∧
    (base.security.update ≠ .verifying ∧ base.security.update ≠ .programming ∧ base.security.update ≠ .waitQuiet ∧
      base.security.update ≠ .paused) ∧
    (wProgram.security.update = .programming ∧ wProgram.security.staging = some (image0 2)) ∧
    (wQuiet.security.update = .waitQuiet ∧ wQuiet.quiescent = true ∧ wQuietBusy.quiescent = false) ∧
    (wFwPaused.security.update = .paused ∧ wFwPaused.security.deferred = [] ∧ wReverting.security.deferred ≠ []) := by decide +kernel

theorem meets_UpdatesStageSwitchAndConfirm_images :
    (wSource.security.update = .verifying ∧ (¬ ∃ g ∈ wSource.fwGranules, wSource.readFails ReadErrors.none g = true) ∧
      wSource.sourceWord 0 = 0x574d4654 ∧ wSource.sourceWord 4 = 1 ∧ wSource.sourceSize ≤ 0x400000 ∧ wSource.sourceSize ≤ wSource.fwSize ∧
      wSource.nv.rollback ≤ wSource.sourceWord 0x0c ∧ (wSource.sourceWord 0x14).testBit (variantBit wSource.part) = true) ∧
    (∃ g ∈ wSource.fwGranules, wSource.readFails { ReadErrors.none with bad := [64] } g = true) ∧
    (sourced []).sourceWord 0 ≠ 0x574d4654 ∧ wRolledBack.sourceWord 0x0c < wRolledBack.nv.rollback ∧
    ((sourced (sourceBytes.take 6)).sourceWord 0x14).testBit (variantBit .tg144) = false := by decide +kernel

/-- The twin link down and up, roles, the lead line. -/
def twinned (t : Twin) : State := { base with twin := t }
def wLead : State := twinned leadTwin
def wFollow : State := { (running inPass) with twin := followTwin, clock := base.clock }
def wHeld : State := twinned { Twin.reset with driven := true }
def wFormLead : State :=
  { (withRegs [(Page.twin, 0x40, 1)]) with
    twin := { Twin.reset with linkUp := true, driven := true, heartbeat := true
                              partner := some { role := 2, moduleState := 6, partId := 0x0144, ref := true, ready := true, inStep := true, inSafe := 0 } } }
def wFormFollow : State :=
  { (withRegs [(Page.twin, 0x40, 2)]) with
    twin := { Twin.reset with linkUp := true, heartbeat := true
                              partner := some { role := 1, moduleState := 6, partId := 0x0144, ref := true, ready := true, inStep := true, inSafe := 0 } } }
def wReformLead : State := { wFormLead with twin := { wFormLead.twin with role := .lead } }
def wReformFollow : State := { wFormFollow with twin := { wFormFollow.twin with role := .follow } }
def wFollowUnlocked : State := twinned { followTwin with linkLocked := false }

theorem meets_RolesHoldTheLeadLine :
    wLead.twin.linkUp = true ∧
    (Config.twinLink base.part = true ∧ base.twin.linkUp = false ∧ base.firstLock = true ∧ Rail.vd ∉ base.health.rails) ∧
    (wFollow.twin.role = .follow ∧ wFollow.clock.loop = .locked ∧ 64 ∈ fittedPorts wFollow.part ∧
      (wFollow.port 64).state ∉ [.off, .absent, .safe]) ∧ base.twin.heartbeat = false ∧ wLead.twin.heartbeat = true ∧
    (wHeld.twin.driven = true ∧ base.twin.driven = false) ∧
    (base.life.ready = true ∧ base.twin.role = .solo ∧ base.twin.otherLow = false ∧ base.twin.barred = false ∧
      base.life.state ≠ .halted ∧ base.life.bindoff ≠ .running) ∧ Config.twinLink .tg048 = false ∧
    (wLead.twin.role = .lead ∧ wLead.twin.driven = true ∧ bits 1 0 2 = 1 ∧ bits 2 0 2 = 2 ∧
      Config.twinLink base.part = true) ∧ (bits 0 0 2 = 0 ∧ bits 3 0 2 = 3) ∧
    base.mayForm = false ∧ (wFormLead.mayForm = true ∧ wFormLead.roleRequest = 1 ∧ wFormLead.twin.role = .solo) ∧
    (wFormFollow.mayForm = true ∧ wFormFollow.roleRequest = 2 ∧ wFormFollow.twin.role = .solo) ∧
    (wReformLead.mayForm = true ∧ wReformLead.twin.role = .lead) ∧ (wReformFollow.mayForm = true ∧ wReformFollow.twin.role = .follow) ∧
    (wFollowUnlocked.twin.role = .follow ∧ wFollowUnlocked.twin.linkUp = true ∧ wFollowUnlocked.twin.linkLocked = false) := by
  decide +kernel

/-- Frames: bad, with a rising level in their first cycle, with a mirror slot of hop count 15. -/
def badFrame : LinkFrame := { bits := quiet.bits ^^^ 1 }
def levelFrame : LinkFrame := frameOf (0x21 * 2 ^ 8)
def mirrorFrame : LinkFrame := frameOf (31 * 2 ^ 122)
def wSixteenth : State := twinned { leadTwin with badFrames := 15 }
/-- A JOIN batch captured at the epoch, and one whose record came after its boundary. -/
def batch0 : JoinBatch := { captured := 0, effect := 0, timers := [], hooks := [], groupEnable := some 7 }
def wInTime : State := { (twinned { followTwin with join := .staging, joinSet := [64] }) with cycle := 0 }
def wTooLate : State := { wInTime with cycle := 6000000 }
def wForming : State := twinned { followTwin with phase := .forming, epoch := false }
def wJoining : State := twinned { followTwin with join := .staging, joinSet := [64] }
def wLastJoin : State := twinned { followTwin with join := .staging, joinAttempts := 15 }
def wWindowed : State := twinned { followTwin with window := [(3, 7)] }
def wCounted : State := twinned { followTwin with counted := true, divergedAt := some 0 }
def wMirror : State := { (withRegs [(Page.twin, 0x60, 0x80050000)]) with twin := leadTwin }

theorem meets_FramesCarryTheirMessages :
    (frameCommand badFrame (.idleMessage badFrame) ∧ base.twin.linkUp = false ∧
      (wLead.twin.linkUp = true ∧ wLead.twin.badFrames < 15 ∧ badFrame.crcOk = false) ∧
      wSixteenth.twin.linkUp = true ∧ 15 ≤ wSixteenth.twin.badFrames) ∧
    (wFollow.quietFrame quiet ∧ wFollow.variantMismatch = false ∧ wFollow.twin.role = .follow ∧ wFollow.twin.phase ≠ .none ∧
      (wFollow.port 64).state = .run ∧ mirrored (regAddr Page.owner 0x40) = false) ∧
    (wLead.quietFrame quiet ∧ wLead.variantMismatch = false ∧ wLead.twin.role ≠ .follow ∧ wLead.twin.role = .lead) ∧
    (∃ x ∈ [0x45], 0x40 ≤ x ∧ x < 0x60) ∧ (wFollow.twin.phase = .paired ∧ wFollow.twin.swapStep = none) ∧
    (wForming.quietFrame quiet ∧ wForming.twin.linkLocked = true ∧ wForming.clock.relock = none ∧ wForming.twin.phase = .forming) := by
  refine ⟨⟨.inr (.inr (.inr (.inr (.inr (.inr (.inr (.inr rfl))))))), by decide +kernel⟩, ?_⟩
  unfold State.quietFrame
  and_intros <;> decide +kernel

theorem meets_FramesCarryTheirMessages_joins :
    (wInTime.quietFrame quiet ∧ wInTime.joining = true ∧ wInTime.lateRecord batch0 = false) ∧
    (wTooLate.quietFrame quiet ∧ wTooLate.joining = true ∧ wTooLate.lateRecord batch0 = true ∧ wTooLate.twin.joinAttempts < 15) ∧
    (({ wTooLate with twin := wLastJoin.twin } : State).quietFrame quiet ∧ 15 ≤ wLastJoin.twin.joinAttempts ∧
      ({ wTooLate with twin := wLastJoin.twin } : State).lateRecord batch0 = true) ∧
    (wWindowed.quietFrame quiet ∧ wWindowed.leadSafe 3 = false ∧ wWindowed.twin.window.get (fun _ => 0) 3 = 7 ∧
      3 ∉ wWindowed.twin.diverged ∧ (8 : BitVec 16) ≠ wWindowed.twin.window.get (fun _ => 0) 3 ∧ wWindowed.twin.counted = false ∧
      wWindowed.twin.divergedAt = none) ∧ wCounted.twin.counted = true := by
  unfold State.quietFrame
  and_intros <;> decide +kernel

theorem meets_FramesCarryTheirMessages_levels :
    (levelFrame.crcOk = true ∧ wFollow.carriesPair = true ∧ levelFrame.mon = wFollow.twin.mon ∧ levelFrame.mirror = [] ∧
      levelFrame.extAt 0 = 0x21) ∧
    (wMirror.twin.linkUp = true ∧ mirrorFrame.crcOk = true ∧ wMirror.carriesPair = true ∧ mirrorFrame.mon = wMirror.twin.mon ∧
      wMirror.twin.badFrames = 0 ∧ mirrorFrame.mirror = [{ slot := 1, hop := 15 }] ∧
      bit (wMirror.rd Page.twin 0x60) (16 * 1 + 15) = true) := by
  and_intros <;> decide +kernel

/-- A follower that may take over; a lead in its takeover; the steps of a swap; a join. -/
def wTakeover : State := { (onPort base 0 id) with twin := { followTwin with heartbeat := false } }
def wNotReadyFollow : State := twinned { followTwin with linkLocked := false, heartbeat := false }
def wSense : State :=
  { (onPort { base with regs := regList [(Page.port 0, 0xa0, 1)] ++ base.regs } 0 id) with
    twin := { leadTwin with phase := .takingOver, takeover := some .sense } }
def swapping (t : Twin) (st : SwapStep) : State :=
  { (onPort base 0 id) with twin := { t with phase := .swapping, swap := .scheduled, swapStep := some st } }
def wAnnounced : State := swapping leadTwin .announced
def wPreparedLead : State := swapping leadTwin .prepared
def wPreparedFollow : State := swapping { followTwin with permit := true } .prepared
def wExchanged : State := swapping leadTwin .exchanged
def wClosedLead : State := swapping leadTwin .closed
def wClosedFollow : State := swapping followTwin .closed
def wDiverged : State := { (onPort base 64 id) with twin := { followTwin with diverged := [64] } }
def wCapturing : State := twinned { leadTwin with join := .capturing, joinSet := [64] }
def record64 : JoinRecord :=
  { port := 64, actual := 5, entry := 3, activity := 4, pass := 0, gran := 0, rows := [0, 0, 0, 0], ms := 2, cause := 0, residue := 0, n := 0, m := 1
    amp := 0, offset := 0, cand := 0, pend := 0, latches := [] }
def wLoading : State := { (onPort base 64 id) with twin := { followTwin with join := .computing, joinSet := [64], snapshot := [record64] } }

def wNoSwap : State := { base with part := .tg048 }
def wBatchLoad : State :=
  { (twinned { followTwin with join := .computing, batches := [batch0] }) with cycle := 6000000 }

theorem meets_TakeoversSwapsAndJoins_batches :
    Config.twinLink wNoSwap.part = false ∧ Config.twinLink wLead.part = true ∧ wLead.partnerInStep = true ∧
    base.partnerInStep = false ∧ (wCapturing.joinDue = true ∧ wLoading.joinDue = true) ∧
    (wBatchLoad.joinDue = true ∧ wBatchLoad.twin.role = .follow ∧ wBatchLoad.twin.join = .computing ∧ wBatchLoad.twin.snapshot = [] ∧
      wBatchLoad.twin.batches = [batch0] ∧ batch0.groupEnable = some 7) ∧
    ({ wBatchLoad with cycle := 0 } : State).joinDue = false := by and_intros <;> decide +kernel

theorem meets_TakeoversSwapsAndJoins :
    (base.twin.role ≠ .follow ∧ wNotReadyFollow.readyFollower = false ∧ wFollow.twin.heartbeat = true ∧ wFollow.twin.leadRelease = false) ∧
    (wTakeover.twin.role = .follow ∧ bit (wTakeover.rd Page.twin 0x4c) 0 = true ∧ wTakeover.readyFollower = true ∧
      wTakeover.twin.realigning = false ∧ wTakeover.twin.heartbeat = false ∧ wTakeover.clock.loop = .locked ∧
      Config.portType 0 = .p ∧ (wTakeover.port 0).state ≠ .safe) ∧ base.twin.takeover ≠ some .sense ∧
    (wSense.twin.takeover = some .sense ∧ wSense.twin.role = .lead ∧ wSense.twin.driven = true ∧
      wSense.twin.swapStep ≠ some .exchanged ∧ wSense.portMayClose 0 = true) ∧
    (wLead.twin.role = .lead ∧ wLead.partnerInStep = true ∧ wLead.twin.diverged = [] ∧ wLead.twin.swapStep = none) ∧
    base.partnerReady = false ∧ base.twin.swapStep ≠ some .announced ∧ wAnnounced.twin.swapStep = some .announced ∧
    (wPreparedLead.twin.swapStep = some .prepared ∧ wPreparedLead.twin.role = .lead) ∧
    (wPreparedFollow.twin.swapStep = some .prepared ∧ wPreparedFollow.twin.role = .follow) ∧
    wExchanged.twin.swapStep = some .exchanged ∧ (wClosedLead.twin.swapStep = some .closed ∧ wClosedLead.twin.role = .lead) ∧
    (wClosedFollow.twin.swapStep = some .closed ∧ wClosedFollow.twin.role ≠ .lead) ∧
    (wDiverged.twin.role = .follow ∧ wDiverged.twin.phase = .paired ∧ wDiverged.joining = false ∧ 64 ∈ wDiverged.divergedPorts ∧
      (wDiverged.port 64).state ∉ [.off, .absent, .safe]) ∧ (wJoining.joining = true ∧ base.joining = false) ∧
    base.twin.join ≠ .staging ∧ wJoining.twin.join = .staging ∧ (wCapturing.twin.role = .lead ∧ wCapturing.twin.join = .capturing) ∧
    (wLoading.twin.role = .follow ∧ wLoading.twin.join = .computing ∧ wLoading.twin.snapshot = [record64] ∧
      64 ∈ fittedPorts wLoading.part ∧ (wLoading.port 64).power = .on ∧ wLoading.tripHeld 64 = false ∧
      bit (wLoading.reg (portReg 64 0x50)) 7 = false ∧ record64.actual = 5) ∧ base.twin.phase = .none ∧ wFollow.twin.phase ≠ .none := by
  and_intros <;> decide +kernel

/-- Units in SAFE with their records; a disagreement seen before. -/
def safeWith (policy : Word) (r : SafeRecord) (t : Twin) : State :=
  { (onPort { base with regs := regList [(Page.health, 0x50, policy)] ++ base.regs } 64 (fun p => { p with
      state := .safe, requested := .safe, mismatch := true, safeRecord := some r })) with twin := t }
def record1 (rewritten held : Bool) : SafeRecord :=
  { was := .run, member := false, members := [], rewritten := rewritten, counted := true, held := held }
def wCheck : State := onPort base 64 (fun p => { p with seenAt := some 4 })
def wMismatch : State := safeWith 1 (record1 false false) Twin.reset
def wThird : State := { wMismatch with health := { base.health with recoveries := [(Page.port 64, [0, 0])] } }
def wStay : State := safeWith 0 (record1 true false) Twin.reset
def wPark : State := safeWith 1 (record1 true false) followTwin
def wRestart : State := safeWith 2 (record1 true false) Twin.reset
def wRecordHeld : State := safeWith 1 (record1 true true) Twin.reset

theorem meets_UnitsAreCheckedRecoveredAndResumed :
    (wNotReady.healthChecks = false ∧ base.healthChecks = true) ∧
    (wCheck.healthChecks = true ∧ 64 ∈ fittedPorts wCheck.part ∧ (wCheck.port 64).state ≠ .safe ∧ (wCheck.port 64).state ≠ .absent ∧
      (wCheck.port 64).seenAt = some 4 ∧ bits (wCheck.rd Page.health 0x48) 0 16 ≤ 50 * (4 + 1)) ∧
    (50 * 0 < bits (wParked.rd Page.health 0x48) 0 16 ∧ (wParked.port 64).seenAt = none) ∧ (base.port 143).safeRecord = none ∧
    ((wRecordHeld.port 64).safeRecord = some (record1 true true) ∧ (record1 true true).held = true) ∧
    ((wMismatch.port 64).safeRecord = some (record1 false false) ∧ (record1 false false).rewritten = false ∧
      (record1 false false).held = false ∧ (record1 false false).counted = true ∧
      ((wMismatch.health.recoveries.get (fun _ => []) (Page.port 64)).filter (fun c => decide (wMismatch.cycle < c + 12000000000))).length < 2) ∧
    2 ≤ ((wThird.health.recoveries.get (fun _ => []) (Page.port 64)).filter (fun c => decide (wThird.cycle < c + 12000000000))).length ∧
    ((wStay.port 64).safeRecord = some (record1 true false) ∧ (record1 true false).rewritten = true ∧
      bits (wStay.rd Page.health 0x50) 0 2 = 0) ∧
    (bits (wPark.rd Page.health 0x50) 0 2 ∈ [1, 3] ∧ (record1 true false).was ≠ .off ∧ (wPark.port 64).power = .on ∧ (record1 true false).counted = true ∧
      wPark.twin.role = .follow ∧ wPark.twin.phase ≠ .none) ∧
    (bits (wRestart.rd Page.health 0x50) 0 2 = 2 ∧ (record1 true false).was = .run ∧ (record1 true false).member = false ∧
      (wRestart.port 64).power = .on) := by
  decide +kernel

/-- A restart of the housekeeping core, heat and rails. -/
def wRestarting : State := { base with health := { base.health with restarting := true } }
def wHot : State := { base with health := { base.health with warning := [.precision 0] } }
def wDrivenRail : State := { wNoVana with twin := { Twin.reset with driven := true }, regs := regList [(Page.wmon, 0x80, 0x113)] ++ base.regs }

theorem meets_RestartsHeatAndRailsAreFaults :
    (wRestarting.health.restarting = true ∧ base.health.restarting = false) ∧ base.life.state ∉ [.boot, .clocking, .memory] ∧
    (Die.precision 0 ∉ base.health.warning ∧ Die.precision 0 ∉ base.health.critical ∧
      (dieLimits (.precision 0)).1 < (dieLimits (.precision 0)).2) ∧
    (base.twin.driven = false ∧ wHeld.twin.driven = true) ∧ (Die.precision 0 ∈ wHot.health.warning ∧ Die.precision 0 ∉ wHot.health.critical) ∧
    (Rail.vana ∈ wNoVana.health.rails ∧ Rail.vana ∉ base.health.rails ∧ railFitted base.part .vana = true ∧
      railFitted .tg048 .vf = false) ∧ wDrivenRail.twin.driven = true ∧ bit (wDrivenRail.reg (monReg 2 0)) 0 = true := by decide

/-- Resets, cast-on and bind-off. -/
def wReset : State := { base with life := { base.life with reset := true, state := .boot } }
def wNoSupply : State := { wReset with life := { wReset.life with supplies := false } }
def booting (n : Nonvolatile) : State := { State.reset with nv := n }
def wRefreshing : State := { (base.setStack 0 { Stack.fresh with train := .selfRefresh }) with wave := [(3, 1)] }
def wBoot : State := State.reset
def wNoFuse : State := booting { Nonvolatile.factory with lockFuses := 1 }
def wNoImage : State := booting { Nonvolatile.factory with imageA := none }
def wOtherImage : State := booting { Nonvolatile.factory with imageA := none, imageB := some (image0 0) }
def wTrained : State :=
  { ((base.setStack 0 tracking).setStack 1 tracking) with
    cal := { base.cal with factoryValid := true }, life := { base.life with state := .memory, ready := false } }
def wTrainedNoModel : State := { wTrained with cal := base.cal }

theorem meets_ResetsAndCastOnGoTheirSteps :
    (wReset.life.reset = true ∧ wReset.life.supplies = true ∧ wNoSupply.life.supplies = false ∧ base.life.reset = false) ∧
    (isDigital .vana = false ∧ isDigital .vcore = true ∧ isDigital .vhbm = true) ∧ (wRefreshing.stack (wRefreshing.stackOf 3)).train = .selfRefresh ∧
    (wNoFuse.life.state = .boot ∧ wNoFuse.life.reset = false ∧ wNoFuse.life.supplies = true ∧ wNoFuse.nv.lockFuses.toNat / 2 ≠ 3) ∧
    (wNoImage.nv.lockFuses.toNat / 2 = 3 ∧ wNoImage.imageValid false = false ∧ wNoImage.imageValid true = false) ∧
    wBoot.imageValid wBoot.nv.activeB = true ∧
    (wOtherImage.imageValid wOtherImage.nv.activeB = false ∧ wOtherImage.imageValid (!wOtherImage.nv.activeB) = true) ∧
    base.life.state ≠ .memory ∧
    (wTrained.life.state = .memory ∧ wTrained.life.ready = false ∧ wTrained.trainingEnded = true ∧ wTrained.cal.factoryValid = true ∧
      wTrained.rd Page.health 0x68 = 0 ∧ wTrained.twin.role ≠ .follow ∧ wTrained.clockService = false ∧ wTrained.paused = false ∧
      bit (wTrained.rd Page.event 0xa4) 0 = false ∧ wTrained.life.bindoff ≠ .running ∧
      (∀ k, k < 2 → (wTrained.stack k).train = .tracking)) ∧ wTrainedNoModel.cal.factoryValid = false := by decide +kernel

/-- A bind-off that may start, is refused, runs, and leads to standby; a wake monitor. -/
def wSwapScheduled : State := twinned { Twin.reset with swap := .scheduled }
def wEnding : State :=
  { (base.setStack 0 tracking) with life := { base.life with bindoff := .running } }
def wStandbyNext : State := { wEnding with regs := regList [(Page.global, 0x84, 16)] ++ base.regs }
def wStandbyWake : State :=
  { (monitored 0x341f { inWindow with mode := 3 }) with
    life := { base.life with standby := true }, wave := [(3, 1)], memctl := [(0, { Stack.fresh with train := .selfRefresh })] }
def wStandbyQuiet : State := { wStandbyWake with monitors := [] }

theorem meets_BindoffEndsAndWakes :
    (wEnding.life.bindoff = .running ∧ base.life.bindoff ≠ .running ∧ base.life.ready = true ∧ base.life.state ≠ .halted ∧
      base.life.standby = false ∧
      wEnding.commitRuns = false ∧ wStandbyNext.commitRuns = false ∧ wErasing.commitRuns = true ∧ wStoreDue.commitRuns = false ∧
      wStoreDue.cal.storeDue = true ∧ wStoreDue.cal.store ≠ .failed ∧ wStoreDue.life.ready = true) ∧ wVerify.security.update ∈ [.verifying, .programming, .paused] ∧
    (wSwapScheduled.security.update ∉ [.verifying, .programming, .paused] ∧ wSwapScheduled.twin.swap = .scheduled) ∧
    (wFollow.twin.swap ≠ .scheduled ∧ 64 ∈ fittedPorts wFollow.part ∧ (wFollow.port 64).state ∉ [.off, .absent, .safe]) ∧
    ((wEnding.stack 0).train = .tracking ∧ bit (wEnding.rd Page.global 0x84) 4 = false ∧ wEnding.twin.driven = false) ∧
    bit (wStandbyNext.rd Page.global 0x84) 4 = true ∧
    (wStandbyWake.life.standby = true ∧ 2 < Config.monitors wStandbyWake.part ∧ wStandbyWake.wakes 2 = true ∧
      (wStandbyWake.monitor 2).state.meets (bits (wStandbyWake.reg (monReg 2 0)) 12 2) (bit (wStandbyWake.reg (monReg 2 0)) 9) = true ∧
      (wStandbyWake.stack (wStandbyWake.stackOf 3)).train = .selfRefresh) ∧ wStandbyQuiet.wakes 2 = false := by decide +kernel

/-! ### The well-formedness check

Each theorem lists ill-formed commands, one for each check, all refused, and the same commands at the last value in range,
all accepted. -/

/-- No errors. -/
def noErr : SlotErrors := SlotErrors.none
def noRead : ReadErrors := ReadErrors.none

/-- A JOIN record of a port that is set below. -/
def badRecord : JoinRecord :=
  { port := 0, actual := 0, entry := 0, activity := 0, pass := 0, gran := 0, rows := [], ms := 0, cause := 0, residue := 0, n := 0, m := 1
    amp := 0, offset := 0, cand := 0, pend := 0, latches := [] }

/-- A JOIN batch with a timer. -/
def badBatch (index : Nat) : JoinBatch :=
  { batch0 with timers := [{ index := index, state := 0, mode := 0, retrig := false, period := 1, width := 1, count := 0, capture := 0
                             captValid := false, captOverrun := false, expires := 0, hop := 0 }] }

/-- An envelope spells the opcode of its row. -/
theorem test_envelopes_refused : ([
      .read .a [0, 1], .write .a [3, 1], .writeMask .a [2, 1], .claim .a [17, 1], .release .a [16, 1],
      .handover .a [19, 1], .accept .a [18, 1], .heartbeat .a [21, 1], .attest .a [33, 1],
      .noSuchOpcode .a [0x01, 1]] : List Instr).all (fun c => c.wellFormed == false) = true := by decide +kernel

/-- An envelope spells the opcode of its row: in range. -/
theorem test_envelopes_accepted : ([
      .read .a [0x01, 1], .write .a [0x02, 1], .writeMask .a [0x03, 1], .claim .a [0x10, 1], .release .a [0x11, 1],
      .handover .a [0x12, 1], .accept .a [0x13, 1], .heartbeat .a [0x14, 1], .attest .a [0x20, 1],
      .noSuchOpcode .a [0x3f, 1]] : List Instr).all (fun c => c.wellFormed == true) = true := by decide +kernel

/-- An envelope has two bytes at least. -/
theorem test_short_envelopes_refused : ([
      .read .a [0x01], .write .a [0x02], .writeMask .a [0x03], .claim .a [0x10], .release .a [0x11],
      .handover .a [0x12], .accept .a [0x13], .heartbeat .a [0x14], .attest .a [0x20]] : List Instr).all (fun c => c.wellFormed == false) = true := by decide +kernel

/-- Numbers below 65536. -/
theorem test_below_65536_refused : ([
      .setmwl .a 65536, .setmrl .a 65536] : List Instr).all (fun c => c.wellFormed == false) = true := by decide +kernel

/-- Numbers below 65536: in range. -/
theorem test_below_65536_accepted : ([
      .setmwl .a 65535, .setmrl .a 65535] : List Instr).all (fun c => c.wellFormed == true) = true := by decide +kernel

/-- A register address is a multiple of 4 below 2^24. -/
theorem test_addresses_refused : ([
      .registerWrite .a 0x1000000 0 0, .registerWrite .a 2 0 0, .loRegisterRead .a 0x1000000, .loRegisterRead .a 2,
      .channelConfigWrite .owner 0x1000000 0 0, .channelConfigWrite .owner 2 0 0] : List Instr).all (fun c => c.wellFormed == false) = true := by decide +kernel

/-- A register address is a multiple of 4 below 2^24: in range. -/
theorem test_addresses_accepted : ([
      .registerWrite .a 0xfffffc 0 0, .loRegisterRead .a 0xfffffc, .channelConfigWrite .owner 0xfffffc 0 0] : List Instr).all (fun c => c.wellFormed == true) = true := by decide +kernel

/-- A page number has 14 bits. -/
theorem test_pages_refused : ([
      .requestOff 0x4000, .requestParked 0x4000, .requestArmed 0x4000, .requestRun 0x4000, .requestPaused 0x4000,
      .requestDelivery 0x4000, .pageCommit 0x4000, .unitReset .a 0x4000, .recoveryRewrite 0x4000,
      .recoveryResume 0x4000] : List Instr).all (fun c => c.wellFormed == false) = true := by decide +kernel

/-- A page number has 14 bits: in range. -/
theorem test_pages_accepted : ([
      .requestOff 0x3fff, .requestParked 0x3fff, .requestArmed 0x3fff, .requestRun 0x3fff, .requestPaused 0x3fff,
      .requestDelivery 0x3fff, .pageCommit 0x3fff, .unitReset .a 0x3fff, .recoveryRewrite 0x3fff,
      .recoveryResume 0x3fff] : List Instr).all (fun c => c.wellFormed == true) = true := by decide +kernel

/-- Numbers below 144. -/
theorem test_below_144_refused : ([
      .commitDelivery 144, .transferEffect 144, .portPosRead .a 144, .ratioStatusRead .a 144, .tripSelWrite 144 0 0,
      .outSwitchWrite 144 true, .pulseFire 144, .hookStart 144, .hookStop 144, .hookPause 144, .hookNco 144,
      .hookCommit 144, .underrunRecovery 144 noErr, .fetchRequest 144, .readComplete 144 .clean true,
      .refetchComplete 144 .clean true true, .delayTapMove 144, .powerDownComplete 144, .powerUpComplete 144,
      .isolationSwitchStep 144, .pulseLeadingEdge 144, .pulseEnd 144, .tripPark 144 noErr, .stageFault 144, .senseOpen 144,
      .currentLimit 144] : List Instr).all (fun c => c.wellFormed == false) = true := by decide +kernel

/-- Numbers below 144: in range. -/
theorem test_below_144_accepted : ([
      .commitDelivery 143, .transferEffect 143, .portPosRead .a 143, .ratioStatusRead .a 143, .tripSelWrite 143 0 0,
      .outSwitchWrite 143 true, .pulseFire 143, .hookStart 143, .hookStop 143, .hookPause 143, .hookNco 143,
      .hookCommit 143, .underrunRecovery 143 noErr, .fetchRequest 143, .readComplete 143 .clean true,
      .refetchComplete 143 .clean true true, .delayTapMove 143, .powerDownComplete 143, .powerUpComplete 143,
      .isolationSwitchStep 143, .pulseLeadingEdge 143, .pulseEnd 143, .tripPark 143 noErr, .stageFault 143, .senseOpen 143,
      .currentLimit 143] : List Instr).all (fun c => c.wellFormed == true) = true := by decide +kernel

/-- Numbers below 512. -/
theorem test_below_512_refused : ([
      .firstQuery 512] : List Instr).all (fun c => c.wellFormed == false) = true := by decide +kernel

/-- Numbers below 512: in range. -/
theorem test_below_512_accepted : ([
      .firstQuery 511] : List Instr).all (fun c => c.wellFormed == true) = true := by decide +kernel

/-- Numbers below 32. -/
theorem test_below_32_refused : ([
      .snapSel 32, .hookTstart 32, .hookTstop 32, .hookTcapt 32, .timerWindowOpen 32, .timerExpire 32] : List Instr).all (fun c => c.wellFormed == false) = true := by decide +kernel

/-- Numbers below 32: in range. -/
theorem test_below_32_accepted : ([
      .snapSel 31, .hookTstart 31, .hookTstop 31, .hookTcapt 31, .timerWindowOpen 31, .timerExpire 31] : List Instr).all (fun c => c.wellFormed == true) = true := by decide +kernel

/-- Numbers below 2. -/
theorem test_below_2_refused : ([
      .forceDoubleWrite 2 true, .select 2, .refreshTick 2, .refreshIssue 2 0, .forcedBatch 2 0, .stackTempReading 2 0,
      .crossingBatch 2 0, .trainingComplete 2 true, .swatchStart 2 true, .swatchPoint 2 true 0 0, .swatchEnd 2,
      .legacyRelease 2, .cartridgeInsert 2, .cartridgeRemove 2, .authenticationComplete 2 (.error .bus),
      .reauthentication 2 none, .ovenReading 2 0, .ovenReadingTimeout 2,
      .lifeLogUpdate 2 0 0] : List Instr).all (fun c => c.wellFormed == false) = true := by decide +kernel

/-- Numbers below 2: in range. -/
theorem test_below_2_accepted : ([
      .forceDoubleWrite 1 true, .select 1, .refreshTick 1, .refreshIssue 1 0, .forcedBatch 1 0, .stackTempReading 1 0,
      .crossingBatch 1 0, .trainingComplete 1 true, .swatchStart 1 true, .swatchPoint 1 true 0 0, .swatchEnd 1,
      .legacyRelease 1, .cartridgeInsert 1, .cartridgeRemove 1, .authenticationComplete 1 (.error .bus),
      .reauthentication 1 none, .ovenReading 1 0, .ovenReadingTimeout 1,
      .lifeLogUpdate 1 0 0] : List Instr).all (fun c => c.wellFormed == true) = true := by decide +kernel

/-- Numbers below 262144. -/
theorem test_below_262144_refused : ([
      .pin 262144, .unpin 262144] : List Instr).all (fun c => c.wellFormed == false) = true := by decide +kernel

/-- Numbers below 262144: in range. -/
theorem test_below_262144_accepted : ([
      .pin 262143, .unpin 262143] : List Instr).all (fun c => c.wellFormed == true) = true := by decide +kernel

/-- Numbers below 4. -/
theorem test_below_4_refused : ([
      .spareTargetWrite 4 0, .substitute 4, .returnPort 4, .trigEdge 4 true, .rotationStep 4, .spareStageFault 4,
      .spareSettled 4, .handoverConnect 4, .handoverComplete 4] : List Instr).all (fun c => c.wellFormed == false) = true := by decide +kernel

/-- Numbers below 4: in range. -/
theorem test_below_4_accepted : ([
      .spareTargetWrite 3 0, .substitute 3, .returnPort 3, .trigEdge 3 true, .rotationStep 3, .spareStageFault 3,
      .spareSettled 3, .handoverConnect 3, .handoverComplete 3] : List Instr).all (fun c => c.wellFormed == true) = true := by decide +kernel

/-- Numbers below 24. -/
theorem test_below_24_refused : ([
      .monitorEnable 24, .monitorDisable 24, .syncEnWrite 24 true, .comparatorChange 24 0, .thresholdStep 24 true,
      .blankingEnd 24, .sampledTick 24 0, .wakeRequest 24] : List Instr).all (fun c => c.wellFormed == false) = true := by decide +kernel

/-- Numbers below 24: in range. -/
theorem test_below_24_accepted : ([
      .monitorEnable 23, .monitorDisable 23, .syncEnWrite 23 true, .comparatorChange 23 0, .thresholdStep 23 true,
      .blankingEnd 23, .sampledTick 23 0, .wakeRequest 23] : List Instr).all (fun c => c.wellFormed == true) = true := by decide +kernel

/-- Ports 0-143 and groups 0-31. -/
theorem test_playheads_refused : ([
      .commitPoint (.port 144) [], .commitPoint (.group 32) [], .passEnd (.port 144) noErr, .passEnd (.group 32) noErr,
      .startEffect (.port 144) noErr, .startEffect (.group 32) noErr, .pauseEffect (.port 144) noErr, .pauseEffect (.group 32) noErr,
      .stopEffect (.port 144) noErr, .stopEffect (.group 32) noErr, .immediateJumpEffect (.port 144) noErr,
      .immediateJumpEffect (.group 32) noErr, .waitRelease (.port 144) noErr, .waitRelease (.group 32) noErr, .waitTimeout (.port 144) noErr,
      .waitTimeout (.group 32) noErr, .gapEnd (.port 144) noErr, .gapEnd (.group 32) noErr, .selvedgeEnd (.port 144) noErr,
      .selvedgeEnd (.group 32) noErr, .missingSlot (.port 144) noErr, .missingSlot (.group 32) noErr, .stagingComplete (.port 144) noRead,
      .stagingComplete (.group 32) noRead, .slotBoundary (.port 144) noErr, .slotBoundary (.group 32) noErr] : List Instr).all (fun c => c.wellFormed == false) = true := by decide +kernel

/-- Ports 0-143 and groups 0-31: in range. -/
theorem test_playheads_accepted : ([
      .commitPoint (.port 143) [], .commitPoint (.group 31) [], .passEnd (.port 143) noErr, .passEnd (.group 31) noErr,
      .startEffect (.port 143) noErr, .startEffect (.group 31) noErr, .pauseEffect (.port 143) noErr, .pauseEffect (.group 31) noErr,
      .stopEffect (.port 143) noErr, .stopEffect (.group 31) noErr, .immediateJumpEffect (.port 143) noErr,
      .immediateJumpEffect (.group 31) noErr, .waitRelease (.port 143) noErr, .waitRelease (.group 31) noErr, .waitTimeout (.port 143) noErr,
      .waitTimeout (.group 31) noErr, .gapEnd (.port 143) noErr, .gapEnd (.group 31) noErr, .selvedgeEnd (.port 143) noErr,
      .selvedgeEnd (.group 31) noErr, .missingSlot (.port 143) noErr, .missingSlot (.group 31) noErr, .stagingComplete (.port 143) noRead,
      .stagingComplete (.group 31) noRead, .slotBoundary (.port 143) noErr, .slotBoundary (.group 31) noErr] : List Instr).all (fun c => c.wellFormed == true) = true := by decide +kernel

/-- Numbers below 8. -/
theorem test_below_8_refused : ([
      .tripLineAssert 8, .tripLatch 8, .gcHook 8] : List Instr).all (fun c => c.wellFormed == false) = true := by decide +kernel

/-- Numbers below 8: in range. -/
theorem test_below_8_accepted : ([
      .tripLineAssert 7, .tripLatch 7, .gcHook 7] : List Instr).all (fun c => c.wellFormed == true) = true := by decide +kernel

/-- Hooks, pseudo-channels, transfer lengths, links, dies and messages. -/
theorem test_others_refused : ([
      .hookJump 144 0, .hookJump 0 4, .parityAlert 2 0 0 0, .parityAlert 0 32 0 0, .bulkReadTlp 0 0 noRead, .bulkLinkUp 0 1,
      .bulkLinkUp 5 1, .bulkLinkUp 1 3, .targetRecompute [(.stack 2, 0)], .thermalCheck [(.precision 4, 0)],
      .thermalCheck [(.fast 2, 0)], .scheduleMessage quiet (.write 2 0 0),
      .scheduleMessage quiet (.safeMap [0x4000]), .scheduleMessage quiet (.tripPark [144]),
      .digestMessage quiet [{ entry := 145, value := 0 }], .joinMessage quiet [{ badRecord with port := 144 }] batch0, .joinMessage quiet [] (badBatch 32),
      .configMessage quiet (.register 2 0), .configMessage quiet (.entry 262144 0),
      .configMessage quiet (.descriptor 262144 0), .configMessage quiet (.bobbin 144 0),
      .healthCheck [{ page := 0x4000, kind := 0, offset := 0 }]] : List Instr).all (fun c => c.wellFormed == false) = true := by decide +kernel

/-- Hooks, pseudo-channels, transfer lengths, links, dies and messages: in range. -/
theorem test_others_accepted : ([
      .hookJump 143 3, .parityAlert 1 31 0 0, .bulkReadTlp 0 1 noRead, .bulkLinkUp 4 4, .targetRecompute [(.stack 1, 0)],
      .thermalCheck [(.precision 3, 0), (.fast 1, 0), (.sequencer, 0)], .scheduleMessage quiet (.write 4 0 0),
      .scheduleMessage quiet (.safeMap [0x3fff]), .scheduleMessage quiet (.tripPark [143]),
      .digestMessage quiet [{ entry := 144, value := 0 }], .joinMessage quiet [{ badRecord with port := 143 }] (badBatch 31),
      .configMessage quiet (.register 4 0), .configMessage quiet (.entry 262143 0),
      .configMessage quiet (.descriptor 262143 0), .configMessage quiet (.bobbin 143 0),
      .healthCheck [{ page := 0x3fff, kind := 0, offset := 0 }]] : List Instr).all (fun c => c.wellFormed == true) = true := by decide +kernel

/-! ### Steps with results that the spec gives

Each expected value is a worked example's or a table's. -/

/-- The state one step leads to with a command waiting passes a check. -/
def after (s : State) (c : Instr) (f : State → Bool) : Bool :=
  match step { s with pending := [c] } with
  | .next t => f t
  | _ => false

/-- The owner of chapter 11's worked example, with P-port 12 parked. -/
def example11 : State :=
  { onPort base 12 id with owner := { state := .owned, token := 0xa5c3, port := .a, target := 0, heard := 0, offered := 0 } }

/-- The worked example's two envelopes, before their CRC. -/
def divisorBytes : List Byte := [0x02, 0x17, 0x48, 0x30, 0x04, 0x01, 0xc3, 0xa5, 0, 0, 0, 0, 0, 0, 0x60, 0, 0, 0]
def commitBytes : List Byte :=
  [0x03, 0x18, 0x10, 0x30, 0x04, 0x01, 0xc3, 0xa5, 0, 0, 0, 0, 0, 0, 0, 0x01, 0, 0, 0, 0x01, 0, 0]

/-- An envelope with its CRC. -/
def sealed (body : List Byte) : List Byte := body ++ leBytes 4 (crc32c body).toNat

/-- R354's polynomial on the usual check string. -/
theorem test_crc32c : crc32c ("123456789".toList.map (fun c => BitVec.ofNat 8 c.toNat)) = 0xe3069283 := by decide +kernel

/-- 11, worked example: the WRITE of PORT_DIV replies 02 17 00 00, the divisor waits in the shadow. -/
theorem test_write_envelope : after example11 (.write .a (sealed divisorBytes)) (fun t =>
    ((t.i3c .a).reply.getD []).take 4 == [0x02, 0x17, 0, 0] && ((t.i3c .a).reply.getD []).length == 8 &&
      t.reg (portReg 12 0x48) == 96 && (t.port 12).div == (base.port 12).div && bit (t.port 12).shadow 2) = true := by
  decide +kernel

/-- 11, worked example: the WRITE_MASK of PAGE_CTRL replies 03 18 00 00, a commit waits, the request stays. -/
theorem test_write_mask_envelope : after example11 (.writeMask .a (sealed commitBytes)) (fun t =>
    ((t.i3c .a).reply.getD []).take 4 == [0x03, 0x18, 0, 0] && (t.port 12).commit && (t.port 12).requested == .parked &&
      (t.port 12).deliver.isNone) = true := by decide +kernel

/-- 14, worked example: NCO_NUM and PORT_DIV of port 64 written: PAGE_SHADOW reads 0x00000104. -/
theorem test_shadow_of_port_64 : after { ownedBase with ports := base.ports } (.registerWrite .a (portReg 64 0x70) 0xffffffff 5) (fun t =>
    after t (.registerWrite .a (portReg 64 0x48) 0xffffffff 2) (fun t => t.pageShadow (Page.port 64) == 0x104)) = true := by
  decide +kernel

/-- 14 R442: on a TG096 PORT100's PAGE_ID reads 0x00220064 and PORT70's reads 0. -/
theorem test_page_ids : ({ base with part := .tg096 }.headerWord (Page.port 100) 0) = 0x00220064 ∧
    ({ base with part := .tg096 }.liveReg true (regAddr (Page.port 70) 0)) = 0 := by decide +kernel

/-- 03, worked example: N = 1, M = 200 to M = 160 at residue 32: residue 25, remainder 120, one conversion. -/
def osc200 : Osc := { n := 1, m := 200, u := 32, amp := 0x40000000, offset := 0, rho := 0, conv := 0, seq := 0 }
theorem test_conversion :
    osc200.apply false { NcoItems.none with freq := some (1, 160) } = { osc200 with m := 160, u := 25, rho := 120, conv := 1, seq := 1 } ∧
    (osc200.apply false { NcoItems.none with freq := some (5, 800) }).u = 128 ∧
    (osc200.apply false { NcoItems.none with freq := some (5, 800) }).rho = 0 := by decide

/-- 03, worked example: 10 of 200 renders as 54,975,581,388. -/
theorem test_rendered_phase : renderPhase 10 200 0 = 54975581388 := by decide

/-- 04, worked example: SIZE 96 for F-port 64 takes 42 units from ports 143 to 138 and 6 from port 137. -/
def enlarging : State := base.modI3c .a (fun x => { x with tblSel := 6, tblIndex := 64 })
theorem test_bobbins : after enlarging (.tblDataWrite .a 96) (fun t =>
    [64, 65, 136, 137, 138, 143].map t.bobbinSize == [96, 48, 8, 2, 1, 1]) = true := by decide +kernel

/-- 05, R173's table: clamps of P, F and D divisors. -/
theorem test_divisor_clamps : clampDiv .p 7 = 8 ∧ clampDiv .p 96 = 96 ∧ clampDiv .f 0 = 1 ∧ clampDiv .f 1023 = 512 ∧
    clampDiv .f 5000 = 1024 ∧ clampDiv .d 0 = 1 ∧ clampDiv .d 70000 = 65536 := by decide

/-- R52, R150: 65,535 passes of a segment that the fetch engine has nothing to read for are passed over together. -/
def fetching : State :=
  { (running inPass) with
    entries := [(0, BitVec.ofNat 256 (2 ^ 48 - 2 ^ 32)), (1, BitVec.ofNat 256 (1 * 2 ^ 8)), (2, BitVec.ofNat 256 2)]
    descs := [(1, BitVec.ofNat 256 (4096 + 2 * 2 ^ 42 + 40 * 2 ^ 64))] }.modPort 64 (fun p =>
      { p with bobbin := { p.bobbin with cursor := some { entry := 0, item := BitVec.ofNat 256 (2 ^ 48 - 2 ^ 32), pass := 1, gran := 0, rows := rowsZero, count := 0, word := none } } })
theorem test_fetch_passes_over : after fetching (.fetchRequest 64) (fun t =>
    ((t.port 64).bobbin.flying.map (fun f => (f.pass, f.gran, f.addr)) == [(1, 0, 4096)]) &&
      (((t.port 64).bobbin.cursor.map (fun c => (c.entry, c.gran))) == some (1, 1))) = true := by decide +kernel

end Tests
end Sys2Proof
end

section
/-! PROOFS. The statements about what no command changes (O3) and about the I3C GET codes (O10). -/

namespace Sys2Proof
namespace Machine

/-! ### What no command changes (R1) -/

/-- The variant, the cycle count and the queue lie outside the mask of every command. -/
theorem Instr.footprint_spares_part_cycle_pending (c : Instr) :
    (Instr.footprint c).testBit 0 = false ∧ (Instr.footprint c).testBit 1 = false ∧
      (Instr.footprint c).testBit 32 = false := by
  cases c <;> simp only [Instr.footprint] <;> decide

/-- Settles O3: the areas a command can change are those of its mask, and no mask holds these three. -/
theorem commandsKeepQueueVariantCycle : Obligations.CommandsKeepQueueVariantCycle := by
  intro c s t h
  obtain ⟨hpart, hcycle, hpending⟩ := Instr.footprint_spares_part_cycle_pending c
  have hagree : Agree (Instr.footprint c) s t := exec_agree c s t h
  exact ⟨hagree.pending hpending, hagree.part hpart, hagree.cycle hcycle⟩

/-! ### The I3C ports (R350, R351) -/

@[simp] theorem State.i3c_setI3c_same (s : State) (p : I3cPort) (x : I3c) : (s.setI3c p x).i3c p = x := by
  cases p <;> rfl

/-- A common command code on a port that answers replaces that port's state and ends HDR-DDR. -/
theorem State.ccc_of_answers {s : State} (h : s.i3cAnswers = true) (p : I3cPort) (f : I3c → I3c) :
    s.ccc p f = s.setI3c p { f (s.i3c p) with hdr := false } := by
  unfold State.ccc State.modI3c
  rw [if_pos h]

/-- A direct GET code on an addressed port leaves its value in the port. -/
theorem State.cccGet_of_addressed {s : State} {p : I3cPort} (h : s.i3cAnswers = true)
    (ha : (s.i3c p).address.isSome = true) (v : Nat) :
    s.cccGet p v = s.setI3c p { s.i3c p with cccValue := v, hdr := false } := by
  unfold State.cccGet
  rw [State.ccc_of_answers h, if_pos ha]

/-- A direct GET code on a port without a dynamic address returns nothing. -/
theorem State.cccGet_of_unaddressed {s : State} {p : I3cPort} (h : s.i3cAnswers = true)
    (ha : (s.i3c p).address = none) (v : Nat) : s.cccGet p v = s.setI3c p { s.i3c p with hdr := false } := by
  unfold State.cccGet
  rw [State.ccc_of_answers h, ha]
  rfl

/-- The fields of the provisioned ID (R351). -/
theorem State.pid_fields (s : State) (p : I3cPort) :
    s.pid p / 2 ^ 33 = 0x05d3 ∧ s.pid p / 2 ^ 32 % 2 = 0 ∧ s.pid p / 2 ^ 16 % 2 ^ 16 = Config.partNumber s.part ∧
      s.pid p / 2 ^ 12 % 2 ^ 4 = portCode p ∧ s.pid p % 2 ^ 12 = s.nv.serial.toNat % 2 ^ 12 := by
  have hpart : Config.partNumber s.part < 2 ^ 16 := by cases s.part <;> decide
  have hport : portCode p < 2 ^ 4 := by cases p <;> decide
  have hserial : s.nv.serial.toNat % 2 ^ 12 < 2 ^ 12 := Nat.mod_lt _ (by decide)
  unfold State.pid
  omega

/-- The class that GETSTATUS returns fits in its four bits. -/
theorem State.lowestClass_lt (s : State) : s.lowestClass < 2 ^ 4 := by
  unfold State.lowestClass
  cases hf : ((List.range 6).map (· + 1)).find? s.classPending with
  | none => decide
  | some c =>
    have hc : c ∈ (List.range 6).map (· + 1) := List.mem_of_find?_eq_some hf
    simp only [List.mem_map, List.mem_range] at hc
    obtain ⟨i, hi, rfl⟩ := hc
    simp only [Option.getD_some]
    omega

/-- The fields of what GETSTATUS returns (R351). -/
theorem State.getStatus_fields (s : State) (p : I3cPort) :
    s.getStatus p / 2 ^ 8 = bits s.moduleState 0 8 ∧
      (s.getStatus p / 2 ^ 5 % 2 = 1 ↔ (s.i3c p).protocolError = true) ∧
      s.getStatus p % 2 ^ 4 = s.lowestClass ∧ s.getStatus p / 2 ^ 4 % 2 = 0 ∧ s.getStatus p / 2 ^ 6 % 4 = 0 := by
  have hclass := s.lowestClass_lt
  unfold State.getStatus
  cases hp : (s.i3c p).protocolError
  · simp only [b2n, Bool.false_eq_true, if_false, iff_false]
    omega
  · simp only [b2n, if_true, iff_true]
    omega

/-- Settles O10: each GET code by what it leaves in an addressed port and in one without an address, and the fields of
the two composed values. -/
theorem i3cGetCodesReturnTheirFields : Obligations.I3cGetCodesReturnTheirFields := by
  constructor
  · intro p s hs ha
    have get (v : Nat) := congrArg (Host.Outcome.next (φ := Fault) (ρ := Refusal)) (State.cccGet_of_addressed hs ha v)
    refine ⟨?_, get _, get _, get _, get _, get _, ?_⟩
    · obtain ⟨hmark, hbit, hpart, hport, hserial⟩ := s.pid_fields p
      refine ⟨_, get _, ?_⟩
      beta_reduce
      rw [State.i3c_setI3c_same]
      refine ⟨hmark, hbit, hpart, ?_, hserial, rfl⟩
      cases p <;> exact hport
    · obtain ⟨hmodule, herror, hclass, hbit4, hbits6⟩ := s.getStatus_fields p
      refine ⟨_, congrArg Host.Outcome.next (State.ccc_of_answers hs p _), ?_⟩
      beta_reduce
      rw [State.i3c_setI3c_same, if_pos ha]
      exact ⟨hmodule, herror, hclass, hbit4, hbits6, rfl⟩
  · intro p s hs ha
    have get (v : Nat) := congrArg (Host.Outcome.next (φ := Fault) (ρ := Refusal)) (State.cccGet_of_unaddressed hs ha v)
    refine ⟨get _, get _, get _, get _, get _, get _, ?_⟩
    refine (congrArg Host.Outcome.next (State.ccc_of_answers hs p _)).trans ?_
    rw [ha]
    rfl

end Machine
end Sys2Proof
end

section
/-! PROOFS. From a mask to the terms of the statements, pages and addresses, and the statement about register writes and
UNIT_RESET (O23). -/

namespace Sys2Proof
namespace Machine

/-! ### From a mask to the statements' terms -/

/-- The areas of the state, in the order of their bits. -/
def Area.all : List Area :=
  [.part, .cycle, .free, .regs, .ports, .groups, .spares, .descs, .entries, .wave, .memctl, .copies, .bobbins, .fabric,
    .timers, .i3cA, .i3cB, .owner, .bulk, .security, .ledger, .faults, .cal, .monitors, .trips, .clock, .cart, .twin,
    .health, .life, .nv, .pins, .pending]

theorem Area.mem_all (a : Area) : a ∈ Area.all := by
  cases a <;> decide

/-- Every area of the mask is one of the list. -/
def maskWithin (A : Nat) (l : List Area) : Bool := Area.all.all (fun a => !A.testBit a.index || decide (a ∈ l))

/-- What agrees outside a mask changes only the areas of a list that holds the mask's. -/
theorem Agree.changesOnly_of_within {A : Nat} {s t : State} {l : List Area} (h : Agree A s t)
    (hl : maskWithin A l = true := by decide) : s.changesOnly t l := by
  refine h.changesOnly (fun a ha => ?_)
  have hin := List.all_eq_true.mp hl a a.mem_all
  rw [ha] at hin
  simpa using hin

section Agree

variable {A : Nat} {s t : State} (h : Agree A s t) (hpart : A.testBit 0 = false := by decide)
include h hpart

/-- Registers agree where neither the register file nor the variant is in the mask. -/
theorem Agree.reg_eq (a : Nat) (hregs : A.testBit 3 = false := by decide) : t.reg a = s.reg a := by
  unfold State.reg
  rw [h.regs hregs, h.part hpart]

theorem Agree.rd_eq (page off : Nat) (hregs : A.testBit 3 = false := by decide) : t.rd page off = s.rd page off :=
  h.reg_eq hpart _ hregs

theorem Agree.port_eq (n : Nat) (hports : A.testBit 4 = false := by decide) : t.port n = s.port n := by
  unfold State.port
  rw [h.ports hports, h.part hpart]

end Agree

theorem Agree.group_eq {A : Nat} {s t : State} (h : Agree A s t) (g : Nat) (hgroups : A.testBit 5 = false := by decide) :
    t.group g = s.group g := by
  unfold State.group
  rw [h.groups hgroups]

theorem Agree.stack_eq {A : Nat} {s t : State} (h : Agree A s t) (k : Nat) (hmemctl : A.testBit 10 = false := by decide) :
    t.stack k = s.stack k := by
  unfold State.stack
  rw [h.memctl hmemctl]

/-! ### Pages and addresses (R438, R459) -/

theorem pageOf_regAddr {p o : Nat} (h : o < 0x400) : pageOf (regAddr p o) = p := by
  unfold pageOf regAddr; omega

theorem offOf_regAddr {p o : Nat} (h : o < 0x400) : offOf (regAddr p o) = o := by
  unfold offOf regAddr; omega

theorem pageKind_port {n : Nat} (h : n < 144) : pageKind (Page.port n) = .port n := by
  revert n; decide

theorem pageKind_group {g : Nat} (h : g < 32) : pageKind (Page.group g) = .group g := by
  revert g; decide

theorem pageKind_memctl {k : Nat} (h : k < 2) : pageKind (Page.memctl k) = .memctl k := by
  revert k; decide

theorem pageKind_evchan {k : Nat} (h : k < 16) : pageKind (Page.evchan k) = .evchan k := by
  revert k; decide

theorem Config.stackCount_le (v : Variant) : Config.stackCount v ≤ 2 := by
  cases v <;> decide

/-! ### Registers set to zero, flags cleared -/

/-- Registers at listed addresses set to zero: they read zero, and every other one as before. -/
theorem State.reg_foldl_setReg_zero {α : Type} (f : α → Nat) (l : List α) (s : State) (a : Nat) :
    (l.foldl (fun s x => s.setReg (f x) 0) s).reg a = if a ∈ l.map f then 0 else s.reg a := by
  induction l generalizing s with
  | nil => simp
  | cons x l ih =>
    rw [List.foldl_cons, ih, State.reg_setReg]
    by_cases hl : a ∈ l.map f <;> by_cases hx : a = f x <;> simp_all

theorem State.reg_updateIbis (s : State) (before : BitVec 6) (a : Nat) : (s.updateIbis before).reg a = s.reg a :=
  (State.updateIbis_agree s before).reg_eq (by decide) a

/-- A page's flags cleared by a W1C write (R447): the flags that act fall, no other register changes. -/
theorem State.reg_clearFlags (s : State) (page a : Nat) (w : Word) :
    (s.clearFlags page w).reg a = if a = regAddr page 0x14 then s.rd page 0x14 &&& ~~~w else s.reg a := by
  unfold State.clearFlags
  rw [State.reg_updateIbis]
  exact State.reg_setReg _ _ _ _

/-- A page cleared: its flags and the listed counters read zero, every other register as before. -/
theorem State.reg_clearPage (s : State) (page : Nat) (counters : List Nat) (a : Nat) :
    (s.clearPage page counters).reg a = if a ∈ (0x14 :: counters).map (regAddr page) then 0 else s.reg a := by
  unfold State.clearPage
  rw [State.reg_clearFlags, show ~~~(0xffffffff : Word) = 0#32 from rfl, BitVec.and_zero, List.map_cons]
  have hcounters := State.reg_foldl_setReg_zero (regAddr page) counters s a
  unfold State.wr
  rw [hcounters]
  by_cases hflags : a = regAddr page 0x14 <;> simp [hflags]

/-! ### Writes by the owner (R10, R357, R438, R447) -/

/-- What the owner's write through a port carries. -/
def ownerWrite (p : I3cPort) (mask value : Word) : RegWrite :=
  { who := .owner, port := p, mask := mask, value := value, act := value &&& mask }

/-- A register write to a word address of the register space is the owner's write there. -/
theorem exec_registerWrite {a : Nat} (hlt : a < 0x1000000) (hword : a % 4 = 0) (p : I3cPort) (mask value : Word)
    (s : State) : exec (.registerWrite p a mask value) s = .next (s.writeReg (ownerWrite p mask value) a) := by
  have ha : a % 2 ^ 24 / 4 * 4 = a := by omega
  show Host.Outcome.next (s.writeReg (ownerWrite p mask value) (a % 2 ^ 24 / 4 * 4)) = _
  rw [ha]

/-- A write to an absent page is ignored (R10). -/
theorem State.writeReg_of_absent {s : State} {a : Nat} (h : pagePresent s.part (pageOf a) = false) (w : RegWrite) :
    s.writeReg w a = s := by
  unfold State.writeReg
  exact if_pos h

/-- A write beyond the header of a present page is one of its block registers. -/
theorem State.writeReg_block {s : State} {page off : Nat} (h : pagePresent s.part page = true) (hblock : 0x40 ≤ off)
    (hoff : off < 0x400) (w : RegWrite) : s.writeReg w (regAddr page off) = s.writeBlock w page off := by
  unfold State.writeReg
  rw [pageOf_regAddr hoff, offOf_regAddr hoff]
  dsimp only
  rw [if_neg (by simp [h]), if_neg (by omega), if_neg (by omega)]

/-- A write to PAGE_FLAGS of a page that is no EVCHAN page clears the flags whose bits act (R447). -/
theorem State.writeReg_pageFlags {s : State} {page : Nat} (h : pagePresent s.part page = true)
    (hkind : ∀ k, pageKind page ≠ .evchan k) (w : RegWrite) :
    s.writeReg w (regAddr page 0x14) = s.clearFlags page w.act := by
  unfold State.writeReg
  rw [pageOf_regAddr (by decide), offOf_regAddr (by decide)]
  dsimp only
  rw [if_neg (by simp [h]), if_neg (by decide), if_pos (by decide)]
  unfold State.writeHeader
  rw [if_pos rfl]
  split
  · next k hk => exact absurd hk (hkind k)
  · rfl

/-- A write with every bit of the mask set replaces the register. -/
theorem RegWrite.over_of_full {w : RegWrite} (h : w.mask = 0xffffffff) (old : Word) : w.over old = w.value := by
  unfold RegWrite.over
  rw [h, show (0xffffffff : Word) = BitVec.allOnes 32 from rfl, BitVec.not_allOnes, BitVec.and_zero, BitVec.zero_or,
    BitVec.and_allOnes]

theorem word_toNat {n : Nat} (h : n < 2 ^ 32) : (word n).toNat = n := by
  unfold word
  rw [BitVec.toNat_ofNat, Nat.mod_eq_of_lt h]

/-- HEARTBEAT_TIMEOUT stores its value clamped (R365). -/
theorem State.rd_writeTimeout (s : State) (w : Word) :
    ((s.writeTimeout w).rd Page.owner 0x50).toNat = max 50 (min 600000 w.toNat) := by
  unfold State.writeTimeout
  rw [State.rd_wr_same, word_toNat (by omega)]

/-! #### Shadow registers of a port (R450) -/

theorem State.reg_writeShadow (s : State) (w : RegWrite) (n off : Nat) (new : Word) (groups : List (Word × Nat)) (a : Nat) :
    (s.writeShadow w n off new groups).reg a = if a = portReg n off then new else s.reg a :=
  State.reg_setReg s (portReg n off) a new

theorem State.port_writeShadow (s : State) (w : RegWrite) (n off : Nat) (new : Word) (groups : List (Word × Nat)) (m : Nat) :
    (s.writeShadow w n off new groups).port m =
      if m = n then { s.port n with
        shadow := groups.foldl (fun sh g => if w.hits g.1 then sh ||| bitWord g.2 else sh) (s.port n).shadow }
      else s.port m :=
  State.port_modPort _ n m _

/-- PORT_SEQ_START of a port of any type is the shadow of its 18-bit field (R449, R450). -/
theorem State.writePort_seqStart (s : State) (w : RegWrite) (n : Nat) :
    s.writePort w n 0x4c = s.writeShadow w n 0x4c (w.over (s.reg (portReg n 0x4c)) &&& 0x3ffff) [(0x3ffff, 3)] := by
  have hhas : portHas (Config.portType n) 0x4c = true := by cases Config.portType n <;> rfl
  unfold State.writePort
  dsimp only
  rw [hhas]
  rfl

/-- A write by the owner to PORT_SEQ_START of a fitted port. -/
theorem registerWrite_portSeqStart {p : I3cPort} {n : Nat} {mask value : Word} {s : State} (hn : n < 144)
    (hpage : pagePresent s.part (Page.port n) = true) :
    Yields (.registerWrite p (portReg n 0x4c) mask value) s (fun t =>
      t.reg (portReg n 0x4c) = (((s.reg (portReg n 0x4c) &&& ~~~mask) ||| (value &&& mask)) &&& 0x3ffff) ∧
      t.port n = { s.port n with
        shadow := if mask &&& 0x3ffff = 0 then (s.port n).shadow else (s.port n).shadow ||| 8 } ∧
      s.regsBut t [portReg n 0x4c] ∧ s.portsBut t [n] ∧ s.changesOnly t [.regs, .ports]) := by
  have hblock : s.writeReg (ownerWrite p mask value) (portReg n 0x4c) =
      s.writeShadow (ownerWrite p mask value) n 0x4c
        ((ownerWrite p mask value).over (s.reg (portReg n 0x4c)) &&& 0x3ffff) [(0x3ffff, 3)] := by
    refine (State.writeReg_block hpage (by decide) (by decide) _).trans ?_
    unfold State.writeBlock
    rw [pageKind_port hn]
    exact State.writePort_seqStart _ _ _
  refine ⟨_, exec_registerWrite ?_ ?_ p mask value s, ?_⟩
  · unfold portReg regAddr Page.port; omega
  · unfold portReg regAddr Page.port; omega
  rw [hblock]
  refine ⟨?_, ?_, fun a ha => ?_, fun m hm => ?_, ?_⟩
  · rw [State.reg_writeShadow, if_pos rfl]
    rfl
  · rw [State.port_writeShadow, if_pos rfl]
    have hshadow (sh : Word) : (if (ownerWrite p mask value).hits 0x3ffff then sh ||| bitWord 3 else sh) =
        if mask &&& 0x3ffff = 0 then sh else sh ||| 8 := by
      simp [RegWrite.hits, ownerWrite, bitWord, word]
    simp only [List.foldl_cons, List.foldl_nil, hshadow]
  · rw [State.reg_writeShadow, if_neg (by simpa using ha)]
  · rw [State.port_writeShadow, if_neg (by simpa using hm)]
  · exact (State.writeShadow_agree _ _ _ _ _ _).changesOnly_of_within

/-- A write by the owner to HEARTBEAT_TIMEOUT (R365). -/
theorem registerWrite_heartbeatTimeout (p : I3cPort) (value : Word) (s : State) :
    Yields (.registerWrite p (regAddr Page.owner 0x50) 0xffffffff value) s (fun t =>
      (t.rd Page.owner 0x50).toNat = max 50 (min 600000 value.toNat) ∧ s.regsBut t [regAddr Page.owner 0x50] ∧
      s.changesOnly t [.regs]) := by
  have hblock : s.writeReg (ownerWrite p 0xffffffff value) (regAddr Page.owner 0x50) = s.writeTimeout value := by
    refine (State.writeReg_block rfl (by decide) (by decide) _).trans ?_
    exact congrArg s.writeTimeout (RegWrite.over_of_full rfl _)
  refine ⟨_, exec_registerWrite (by decide) (by decide) p _ value s, ?_⟩
  rw [hblock]
  refine ⟨State.rd_writeTimeout s value, fun a ha => ?_, (State.writeTimeout_agree s value).changesOnly_of_within⟩
  exact (State.reg_setReg _ _ _ _).trans (if_neg (by simpa using ha))

/-- Of the pages that have it, a read-only register ignores a write (R10): OWNER_STATE, PLL_STATE, PART_ID. -/
theorem State.writeReg_readOnly (s : State) (w : RegWrite) :
    s.writeReg w (regAddr Page.owner 0x40) = s ∧ s.writeReg w (regAddr Page.clock 0x44) = s ∧
      s.writeReg w (regAddr Page.global 0x40) = s := by
  refine ⟨?_, ?_, ?_⟩ <;> exact (State.writeReg_block rfl (by decide) (by decide) w).trans rfl

/-- A write by the owner to PAGE_FLAGS of CAL (R447). -/
theorem registerWrite_calPageFlags (p : I3cPort) (mask value : Word) (s : State) :
    Yields (.registerWrite p (regAddr Page.cal 0x14) mask value) s (fun t =>
      t.rd Page.cal 0x14 = (s.rd Page.cal 0x14 &&& ~~~(value &&& mask)) ∧ s.regsBut t [regAddr Page.cal 0x14] ∧
      s.changesOnly t [.regs, .i3cA, .i3cB]) := by
  have hflags := State.writeReg_pageFlags (s := s) (page := Page.cal) rfl (fun k hk => by cases hk) (ownerWrite p mask value)
  refine ⟨_, exec_registerWrite (by decide) (by decide) p mask value s, ?_⟩
  rw [hflags]
  refine ⟨?_, fun a ha => ?_, (State.clearFlags_agree s Page.cal _).changesOnly_of_within⟩
  · exact (State.reg_clearFlags s Page.cal _ _).trans (if_pos rfl)
  · exact (State.reg_clearFlags s Page.cal _ _).trans (if_neg (by simpa using ha))

/-! ### UNIT_RESET (R457, R458) -/

theorem exec_unitReset (p : I3cPort) (page : Nat) (s : State) : exec (.unitReset p page) s = .next (s.unitReset p page) := rfl

/-- A page cleared changes no register but its flags and the listed counters. -/
theorem State.regsBut_clearPage (s : State) (page : Nat) (counters : List Nat) :
    s.regsBut (s.clearPage page counters) ((0x14 :: counters).map (regAddr page)) :=
  fun a ha => (State.reg_clearPage s page counters a).trans (if_neg ha)

theorem State.rd_clearPage {page off : Nat} {counters : List Nat} (h : off ∈ 0x14 :: counters) (s : State) :
    (s.clearPage page counters).rd page off = 0 :=
  (State.reg_clearPage s page counters _).trans (if_pos (List.mem_map_of_mem h))

theorem State.unitReset_memctl {s : State} {k : Nat} (h : k < Config.stackCount s.part) (p : I3cPort) :
    s.unitReset p (Page.memctl k) = s.resetMemctl k := by
  have hkind := pageKind_memctl (h.trans_le (Config.stackCount_le s.part))
  have hpage : pagePresent s.part (Page.memctl k) = true := by
    unfold pagePresent
    rw [hkind]
    exact decide_eq_true h
  unfold State.unitReset
  rw [hpage, hkind]
  rfl

theorem State.unitReset_evchan {s : State} {k : Nat} (h : k < 16) (p : I3cPort) :
    s.unitReset p (Page.evchan k) = s.resetChannels k := by
  have hkind := pageKind_evchan h
  have hpage : pagePresent s.part (Page.evchan k) = true := by
    unfold pagePresent
    rw [hkind]
  unfold State.unitReset
  rw [hpage, hkind]
  rfl

theorem State.stack_modStack (s : State) (k j : Nat) (f : Stack → Stack) :
    (s.modStack k f).stack j = if j = k then f (s.stack k) else s.stack j := State.stack_setStack _ _ _ _

/-- The counters, the peak register and the flags of a MEMCTL page after its UNIT_RESET (R167). -/
theorem State.rd_resetMemctl {off : Nat} (h : off ∈ [0x14, 0x50, 0x54, 0x58, 0x5c, 0x6c, 0x70, 0x74]) (s : State) (k : Nat) :
    (s.resetMemctl k).rd (Page.memctl k) off = 0 := by
  unfold State.resetMemctl
  exact ((State.modStack_agree _ k _).rd_eq (by decide) _ off).trans (State.rd_clearPage h s)

/-- UNIT_RESET of a MEMCTL page (R167): counters, peaks and flags. -/
theorem unitReset_memctl_clears {p : I3cPort} {k : Nat} {s : State} (h : k < Config.stackCount s.part) :
    Yields (.unitReset p (Page.memctl k)) s (fun t =>
      (∀ off ∈ [0x50, 0x54, 0x58, 0x5c, 0x6c, 0x70, 0x74, 0x14], t.rd (Page.memctl k) off = 0) ∧
      t.stack k = { s.stack k with peakOwed := 0, peakTemp := 0, taps := 0 } ∧ s.stacksBut t [k] ∧
      s.changesOnly t [.regs, .memctl, .i3cA, .i3cB]) := by
  refine ⟨_, exec_unitReset p _ s, ?_⟩
  rw [State.unitReset_memctl h]
  have hstacks (j : Nat) : (s.clearPage (Page.memctl k) [0x50, 0x54, 0x58, 0x5c, 0x6c, 0x70, 0x74]).stack j = s.stack j :=
    (State.clearPage_agree _ _ _).stack_eq j
  refine ⟨fun off hoff => ?_, ?_, fun j hj => ?_, (State.resetMemctl_agree s k).changesOnly_of_within⟩
  · exact State.rd_resetMemctl (by simp at hoff ⊢; tauto) s k
  · unfold State.resetMemctl
    rw [State.stack_modStack, if_pos rfl, hstacks]
  · unfold State.resetMemctl
    rw [State.stack_modStack, if_neg (by simpa using hj), hstacks]

/-- UNIT_RESET of an EVCHAN page (R267): CH_STAT of its channels. -/
theorem State.reg_resetChannels (s : State) (k a : Nat) :
    (s.resetChannels k).reg a = if a ∈ (List.range 32).map (fun i => chanReg (32 * k + i) 12) then 0 else s.reg a :=
  (State.reg_updateIbis _ _ a).trans (State.reg_foldl_setReg_zero (fun i => chanReg (32 * k + i) 12) _ s a)

theorem unitReset_evchan_clears {p : I3cPort} {k : Nat} {s : State} (h : k < 16) :
    Yields (.unitReset p (Page.evchan k)) s (fun t => (∀ i, i < 32 → t.reg (chanReg (32 * k + i) 12) = 0) ∧
      (∀ a, (∀ i, i < 32 → a ≠ chanReg (32 * k + i) 12) → t.reg a = s.reg a) ∧ s.changesOnly t [.regs, .i3cA, .i3cB]) := by
  refine ⟨_, exec_unitReset p _ s, ?_⟩
  rw [State.unitReset_evchan h]
  refine ⟨fun i hi => ?_, fun a ha => ?_, (State.resetChannels_agree s k).changesOnly_of_within⟩
  · rw [State.reg_resetChannels, if_pos (List.mem_map.mpr ⟨i, List.mem_range.mpr hi, rfl⟩)]
  · rw [State.reg_resetChannels, if_neg]
    intro hmem
    obtain ⟨i, hi, hia⟩ := List.mem_map.mp hmem
    exact ha i (List.mem_range.mp hi) hia.symm

/-- UNIT_RESET of STREAM: its counter and flags. -/
theorem unitReset_stream_clears (p : I3cPort) (s : State) :
    Yields (.unitReset p Page.stream) s (fun t => t.rd Page.stream 0x44 = 0 ∧ t.rd Page.stream 0x14 = 0 ∧
      s.regsBut t [regAddr Page.stream 0x44, regAddr Page.stream 0x14] ∧ s.changesOnly t [.regs, .i3cA, .i3cB]) := by
  have hpage : s.unitReset p Page.stream = s.clearPage Page.stream [0x44] := rfl
  refine ⟨_, exec_unitReset p _ s, ?_⟩
  rw [hpage]
  refine ⟨State.rd_clearPage (by decide) s, State.rd_clearPage (by decide) s, fun a ha => ?_,
    (State.clearPage_agree s _ _).changesOnly_of_within⟩
  exact State.regsBut_clearPage s Page.stream [0x44] a (by simp at ha ⊢; tauto)

/-- UNIT_RESET of an absent page (R10). -/
theorem State.unitReset_of_absent {s : State} {page : Nat} (h : pagePresent s.part page = false) (p : I3cPort) :
    s.unitReset p page = s := by
  unfold State.unitReset
  exact if_pos h

/-- Settles O23: a lemma for each register written and each page reset. -/
theorem registerWritesAndUnitResets : Obligations.RegisterWritesAndUnitResets := by
  refine ⟨fun p n mask value s => registerWrite_portSeqStart, registerWrite_heartbeatTimeout, ?_, registerWrite_calPageFlags,
    fun p k s => unitReset_memctl_clears, fun p k s => unitReset_evchan_clears, unitReset_stream_clears, fun p s => rfl, ?_⟩
  · intro p addr mask value s hlt hword hcase
    obtain ⟨howner, hclock, hglobal⟩ := s.writeReg_readOnly (ownerWrite p mask value)
    rw [exec_registerWrite hlt hword]
    refine congrArg Host.Outcome.next ?_
    rcases hcase with habsent | rfl | rfl | rfl
    · exact State.writeReg_of_absent habsent _
    · exact howner
    · exact hclock
    · exact hglobal
  · intro p page s habsent
    rw [exec_unitReset, State.unitReset_of_absent habsent]

end Machine
end Sys2Proof
end

section
/-! PROOFS. Commits: ordered, delivered, carried out as a transfer (for O20). -/

namespace Sys2Proof
namespace Machine

/-! ### Commits ordered (R10, R321, R449, R455) -/

theorem pagePresent_port {v : Variant} {n : Nat} (hn : n < 144) (h : Config.portFitted v n = true) :
    pagePresent v (Page.port n) = true := by
  unfold pagePresent
  rw [pageKind_port hn]
  exact h

theorem pagePresent_group {v : Variant} {g : Nat} (h : g < 32) : pagePresent v (Page.group g) = true := by
  unfold pagePresent
  rw [pageKind_group h]

theorem mem_fittedPorts_lt {v : Variant} {n : Nat} (h : n ∈ fittedPorts v) : n < 144 :=
  List.mem_range.mp (List.mem_filter.mp h).1

theorem exec_pageCommit (page : Nat) (s : State) :
    exec (.pageCommit page) s = .next (if s.writesRefused then s else s.pageCommit page) := rfl

theorem exec_commitAll (s : State) : exec .commitAll s = .next (if s.writesRefused then s else s.commitAll) := rfl

theorem exec_pageCommit_of_accepted {s : State} (h : s.writesRefused = false) (page : Nat) :
    exec (.pageCommit page) s = .next (s.pageCommit page) := by
  rw [exec_pageCommit, h]
  rfl

theorem exec_commitAll_of_accepted {s : State} (h : s.writesRefused = false) : exec .commitAll s = .next s.commitAll := by
  rw [exec_commitAll, h]
  rfl

/-- While register writes are refused no commit is ordered (R25). -/
theorem exec_commit_of_refused {c : Instr} {s : State} (hc : c = .commitAll ∨ ∃ page, c = .pageCommit page)
    (h : s.writesRefused = true) : exec c s = .next s := by
  rcases hc with rfl | ⟨page, rfl⟩
  · rw [exec_commitAll, if_pos h]
  · rw [exec_pageCommit, if_pos h]

/-- A port with a register commit on its way to it. -/
def Port.ordered (p : Port) : Port := { p with commit := true }

/-- A port's commit is on its way once ordered, unless the port is absent. -/
theorem State.orderCommit_port {n : Nat} (hn : n < 144) (s : State) :
    s.orderCommit (Page.port n) = if (s.port n).state = .absent then s else s.modPort n Port.ordered := by
  unfold State.orderCommit
  rw [pageKind_port hn]
  rfl

theorem State.orderCommit_group {g : Nat} (hg : g < 32) (s : State) : s.orderCommit (Page.group g) = s.commitGroup g := by
  unfold State.orderCommit
  rw [pageKind_group hg]

theorem State.orderCommit_clock (s : State) :
    s.orderCommit Page.clock = { s with clock := { s.clock with commit := true } } := rfl

theorem State.pageCommit_port {s : State} {n : Nat} (hn : n < 144) (hfit : Config.portFitted s.part n = true) :
    s.pageCommit (Page.port n) = (s.orderCommit (Page.port n)).ledgerCommit [Page.port n] := by
  unfold State.pageCommit
  rw [pagePresent_port hn hfit, pageKind_port hn]
  rfl

theorem State.pageCommit_group {s : State} {g : Nat} (hg : g < 32) :
    s.pageCommit (Page.group g) = (s.orderCommit (Page.group g)).ledgerCommit [Page.group g] := by
  unfold State.pageCommit
  rw [pagePresent_group hg, pageKind_group hg]
  rfl

theorem State.pageCommit_clock (s : State) :
    s.pageCommit Page.clock = (s.orderCommit Page.clock).ledgerCommit [Page.clock] := rfl

/-- PAGE_COMMIT of a fitted port: its commit is on its way. -/
theorem pageCommit_port_orders {n : Nat} {s : State} (hn : n < 144) (hfit : Config.portFitted s.part n = true)
    (hstate : (s.port n).state ≠ .absent) (hw : s.writesRefused = false) :
    Yields (.pageCommit (Page.port n)) s (fun t => t.port n = { s.port n with commit := true } ∧ s.portsBut t [n] ∧
      s.changesOnly t [.free, .regs, .ports, .i3cA, .i3cB, .ledger]) := by
  refine ⟨_, exec_pageCommit_of_accepted hw _, ?_⟩
  rw [State.pageCommit_port hn hfit, State.orderCommit_port hn, if_neg hstate]
  have hnote (m : Nat) := (State.ledgerCommit_agree (s.modPort n Port.ordered) [Page.port n]).port_eq (by decide) m
  have hagree : Agree 1146904 s ((s.modPort n Port.ordered).ledgerCommit [Page.port n]) :=
    ((Agree.refl _ s).step (State.modPort_agree _ _ _) rfl).step (State.ledgerCommit_agree _ _) rfl
  refine ⟨?_, fun m hm => ?_, hagree.changesOnly_of_within⟩
  · rw [hnote, State.port_modPort, if_pos rfl]
    rfl
  · rw [hnote, State.port_modPort, if_neg (by simpa using hm)]

/-- PAGE_COMMIT of a stitch group: its start entry moves at once (R452). -/
theorem pageCommit_group_moves {g : Nat} {s : State} (hg : g < 32) (hw : s.writesRefused = false) :
    Yields (.pageCommit (Page.group g)) s (fun t =>
      t.group g = { s.group g with
        seqStart := if (s.group g).shadow then bits (s.rd (Page.group g) 0x40) 0 18 else (s.group g).seqStart
        shadow := false } ∧
      s.groupsBut t [g] ∧ s.changesOnly t [.free, .regs, .groups, .i3cA, .i3cB, .ledger]) := by
  refine ⟨_, exec_pageCommit_of_accepted hw _, ?_⟩
  rw [State.pageCommit_group hg, State.orderCommit_group hg]
  have hnote (m : Nat) := (State.ledgerCommit_agree (s.commitGroup g) [Page.group g]).group_eq m
  have hagree : Agree 1146920 s ((s.commitGroup g).ledgerCommit [Page.group g]) :=
    ((Agree.refl _ s).step (State.commitGroup_agree _ _) rfl).step (State.ledgerCommit_agree _ _) rfl
  refine ⟨?_, fun m hm => ?_, hagree.changesOnly_of_within⟩
  · rw [hnote]
    exact (State.group_modGroup _ _ _ _).trans (if_pos rfl)
  · rw [hnote]
    exact (State.group_modGroup _ _ _ _).trans (if_neg (by simpa using hm))

/-- PAGE_COMMIT of CLOCK: its commit is on its way. -/
theorem pageCommit_clock_orders {s : State} (hw : s.writesRefused = false) :
    Yields (.pageCommit Page.clock) s (fun t => t.clock = { s.clock with commit := true } ∧
      s.changesOnly t [.free, .regs, .i3cA, .i3cB, .ledger, .clock]) := by
  refine ⟨_, exec_pageCommit_of_accepted hw _, ?_⟩
  rw [State.pageCommit_clock, State.orderCommit_clock]
  have hagree : Agree 34701320 s (State.ledgerCommit { s with clock := { s.clock with commit := true } } [Page.clock]) :=
    ((Agree.refl _ s).setClock rfl).step (State.ledgerCommit_agree _ _) rfl
  exact ⟨(State.ledgerCommit_agree _ _).clock rfl, hagree.changesOnly_of_within⟩

/-! #### COMMIT_ALL -/

/-- A page of a global commit: one of a group waits for its turn after the ports, another has its commit ordered (R455). -/
def State.orderUngrouped (s : State) (page : Nat) : State :=
  match pageKind page with
  | .group _ => s
  | _ => s.orderCommit page

/-- COMMIT_ALL: the pages counted, the commits ordered, the deliveries let go on. -/
theorem State.commitAll_eq (s : State) :
    s.commitAll = (s.pendingPages.foldl State.orderUngrouped
      ((s.ledgerCommit s.pendingPages).wr Page.global 0x80
        (word (2 ^ 8 + s.pendingPages.length % 256 * 2 ^ 16)))).commitOn := rfl

theorem State.orderUngrouped_agree (s : State) (page : Nat) : Agree 33554480 s (s.orderUngrouped page) := by
  unfold State.orderUngrouped
  split
  · exact Agree.refl _ s
  · exact State.orderCommit_agree s page

theorem State.orderUngrouped_group {g : Nat} (h : g < 32) (s : State) : s.orderUngrouped (Page.group g) = s := by
  unfold State.orderUngrouped
  rw [pageKind_group h]

theorem State.orderUngrouped_clock (s : State) : s.orderUngrouped Page.clock = s.orderCommit Page.clock := rfl

theorem State.orderUngrouped_port {n : Nat} (h : n < 144) (s : State) :
    s.orderUngrouped (Page.port n) = s.orderCommit (Page.port n) := by
  unfold State.orderUngrouped
  rw [pageKind_port h]

theorem State.foldl_orderUngrouped_agree (l : List Nat) (s : State) : Agree 33554480 s (l.foldl State.orderUngrouped s) :=
  Agree.foldl (fun _ page h => h.step (State.orderUngrouped_agree _ page) rfl) (Agree.refl _ s)

/-- A global commit's pages of groups order nothing. -/
theorem State.foldl_orderUngrouped_groups {l : List Nat} (hl : ∀ g ∈ l, g < 32) (s : State) :
    (l.map Page.group).foldl State.orderUngrouped s = s := by
  induction l with
  | nil => rfl
  | cons g l ih =>
    rw [List.map_cons, List.foldl_cons, State.orderUngrouped_group (hl g (List.mem_cons_self ..)),
      ih (fun x hx => hl x (List.mem_cons_of_mem _ hx))]

/-- A global commit's pages of ports: the commit of each of them that is not absent is on its way. -/
theorem State.port_foldl_orderUngrouped {l : List Nat} (hl : ∀ n ∈ l, n < 144) (s : State) (m : Nat)
    (hm : (s.port m).state ≠ .absent) :
    ((l.map Page.port).foldl State.orderUngrouped s).port m = if m ∈ l then (s.port m).ordered else s.port m := by
  induction l generalizing s with
  | nil => simp
  | cons n l ih =>
    have hn : n < 144 := hl n (List.mem_cons_self ..)
    have hport : (s.orderUngrouped (Page.port n)).port m = if m = n then (s.port m).ordered else s.port m := by
      rw [State.orderUngrouped_port hn, State.orderCommit_port hn]
      by_cases hmn : m = n
      · subst hmn
        rw [if_neg hm, State.port_modPort]
      · rw [if_neg hmn]
        split
        · rfl
        · rw [State.port_modPort, if_neg hmn]
    have hstate : ((s.orderUngrouped (Page.port n)).port m).state ≠ .absent := by
      rw [hport]
      split
      · exact hm
      · exact hm
    rw [List.map_cons, List.foldl_cons, ih (fun x hx => hl x (List.mem_cons_of_mem _ hx)) _ hstate, hport]
    by_cases hmn : m = n <;> by_cases hml : m ∈ l <;> simp [hmn, hml, Port.ordered]

/-- While a global commit is under way and a port's commit waits for its delivery, nothing else goes on (R455). -/
theorem State.commitOn_of_waiting {s : State} {n : Nat} (hn : n ∈ fittedPorts s.part) (h : (s.port n).commit = true) :
    s.commitOn = s := by
  unfold State.commitOn
  exact if_pos (Or.inr (List.any_eq_true.mpr ⟨n, hn, h⟩))

/-- The fitted ports with a pending shadow. -/
def State.pendingPorts (s : State) : List Nat := (fittedPorts s.part).filter (fun n => (s.port n).shadow != 0)

theorem State.pendingPorts_lt {s : State} {n : Nat} (h : n ∈ s.pendingPorts) : n < 144 :=
  mem_fittedPorts_lt (List.mem_filter.mp h).1

/-- The pages of a global commit, each order taken on its own: the ports', then CLOCK's where it is pending. -/
theorem State.foldl_orderUngrouped_pendingPages (s u : State) :
    s.pendingPages.foldl State.orderUngrouped u =
      let v := (s.pendingPorts.map Page.port).foldl State.orderUngrouped u
      if s.clock.pend then { v with clock := { v.clock with commit := true } } else v := by
  unfold State.pendingPages
  rw [List.foldl_append, List.foldl_append, State.foldl_orderUngrouped_groups]
  · cases s.clock.pend <;> rfl
  · exact fun g hg => List.mem_range.mp (List.mem_filter.mp hg).1

/-- After the orders of a global commit a pending port that is not absent has its commit on its way. -/
theorem State.port_orderPending {s u : State} (hu : ∀ n, u.port n = s.port n) {n : Nat} (hn : n ∈ fittedPorts s.part)
    (hstate : (s.port n).state ≠ .absent) (hshadow : (s.port n).shadow ≠ 0) :
    (s.pendingPages.foldl State.orderUngrouped u).port n = (s.port n).ordered := by
  have hports := State.port_foldl_orderUngrouped (fun m hm => s.pendingPorts_lt hm) u n (by rwa [hu])
  have hpending : n ∈ s.pendingPorts := List.mem_filter.mpr ⟨hn, by simpa using hshadow⟩
  rw [if_pos hpending, hu] at hports
  rw [State.foldl_orderUngrouped_pendingPages]
  cases s.clock.pend <;> exact hports

/-- Ordering ports' commits leaves CLOCK as it is. -/
theorem State.clock_foldl_orderUngrouped {l : List Nat} (hl : ∀ n ∈ l, n < 144) (s : State) :
    ((l.map Page.port).foldl State.orderUngrouped s).clock = s.clock := by
  induction l generalizing s with
  | nil => rfl
  | cons n l ih =>
    have hn : n < 144 := hl n (List.mem_cons_self ..)
    rw [List.map_cons, List.foldl_cons, ih (fun x hx => hl x (List.mem_cons_of_mem _ hx)),
      State.orderUngrouped_port hn, State.orderCommit_port hn]
    split <;> rfl

/-- After the orders of a global commit with CLOCK pending, CLOCK's commit is on its way. -/
theorem State.clock_orderPending {s u : State} (hu : u.clock = s.clock) (hpend : s.clock.pend = true) :
    (s.pendingPages.foldl State.orderUngrouped u).clock = { s.clock with commit := true } := by
  have hclock := State.clock_foldl_orderUngrouped (fun m hm => s.pendingPorts_lt hm) u
  rw [State.foldl_orderUngrouped_pendingPages]
  dsimp only
  rw [if_pos hpend, hclock, hu]

/-- COMMIT_ALL with a pending port (R455): the pages counted, the commits of ports and CLOCK on their way. -/
theorem commitAll_orders {s : State} (hw : s.writesRefused = false)
    (hex : ∃ n ∈ fittedPorts s.part, (s.port n).shadow ≠ 0 ∧ (s.port n).state ≠ .absent) :
    Yields .commitAll s (fun t => t.rd Page.global 0x80 = word (2 ^ 8 + s.pendingPages.length % 256 * 2 ^ 16) ∧
      (∀ n ∈ fittedPorts s.part, (s.port n).state ≠ .absent → (s.port n).shadow ≠ 0 →
        t.port n = { s.port n with commit := true }) ∧
      (s.clock.pend = true → t.clock = { s.clock with commit := true }) ∧
      s.changesOnly t [.free, .regs, .ports, .groups, .i3cA, .i3cB, .ledger, .clock]) := by
  obtain ⟨m, hm, hshadow, hstate⟩ := hex
  have hagree : Agree 34701368 s s.commitAll := State.commitAll_agree s
  refine ⟨_, exec_commitAll_of_accepted hw, ?_⟩
  rw [State.commitAll_eq] at hagree ⊢
  generalize hu : (s.ledgerCommit s.pendingPages).wr Page.global 0x80
    (word (2 ^ 8 + s.pendingPages.length % 256 * 2 ^ 16)) = u at hagree ⊢
  have hsu : Agree 1146888 s u := hu ▸ (State.ledgerCommit_agree s _).step (State.wr_agree _ _ _ _) rfl
  have hport (n : Nat) : u.port n = s.port n := hsu.port_eq (by decide) n
  have hcount : u.rd Page.global 0x80 = word (2 ^ 8 + s.pendingPages.length % 256 * 2 ^ 16) := hu ▸ State.rd_wr_same ..
  have hut := State.foldl_orderUngrouped_agree s.pendingPages u
  have hwaits : (s.pendingPages.foldl State.orderUngrouped u).commitOn = s.pendingPages.foldl State.orderUngrouped u := by
    refine State.commitOn_of_waiting (n := m) ?_ ?_
    · rwa [hut.part rfl, hsu.part rfl]
    · rw [State.port_orderPending hport hm hstate hshadow]
      rfl
  rw [hwaits] at hagree ⊢
  refine ⟨(hut.rd_eq (by decide) _ _).trans hcount, fun n hn hs hsh => State.port_orderPending hport hn hs hsh,
    State.clock_orderPending (hsu.clock rfl), hagree.changesOnly_of_within⟩

/-! ### Commits delivered and transfers (R174, R452, R453, R455) -/

/-- A delivered commit of a port: taken from its way, a transfer latched for slot t + Ka. -/
def Port.delivered (p : Port) (n : Nat) : Port :=
  { p with commit := false, transfers := p.transfers ++ [(p.slot + Config.ka (Config.portType n), false)] }

/-- A port's commit is delivered when no lower port's commit of a global one comes first (R455). -/
theorem exec_commitDelivery_of_first {n : Nat} {s : State} (hcommit : (s.port n).commit = true)
    (hfirst : s.committing = false ∨ ∀ m, m < n → (s.port m).commit = false) :
    exec (.commitDelivery n) s =
      .next ((s.modPort n (fun p => { p with commit := false })).latchTransfer n false).commitOn := by
  have hnone : (s.committing && (List.range n).any (fun m => (s.port m).commit)) = false := by
    rcases hfirst with hc | hm
    · rw [hc, Bool.false_and]
    · rw [Bool.and_eq_false_iff, List.any_eq_false]
      exact Or.inr (fun m hmem => by simp [hm m (List.mem_range.mp hmem)])
  refine congrArg Host.Outcome.next (if_pos ?_)
  rw [hcommit, hnone]
  rfl

theorem State.port_latchDelivered (s : State) (n m : Nat) :
    ((s.modPort n (fun p => { p with commit := false })).latchTransfer n false).port m =
      if m = n then (s.port n).delivered n else s.port m := by
  unfold State.latchTransfer
  rw [State.port_modPort, State.port_modPort, State.port_modPort, if_pos rfl]
  by_cases hmn : m = n
  · rw [if_pos hmn, if_pos hmn]
    rfl
  · rw [if_neg hmn, if_neg hmn, if_neg hmn]

/-- COMMIT_DELIVERY (R452, R455). -/
theorem commitDelivery_latches {n : Nat} {s : State} (hcommit : (s.port n).commit = true)
    (hfirst : s.committing = false ∨ ∀ m, m < n → (s.port m).commit = false) :
    Yields (.commitDelivery n) s (fun t =>
      t.port n = { s.port n with
        commit := false
        transfers := (s.port n).transfers ++ [((s.port n).slot + Config.ka (Config.portType n), false)] } ∧
      s.portsBut t [n] ∧ s.changesOnly t [.regs, .ports, .groups]) := by
  have hexec := exec_commitDelivery_of_first hcommit hfirst
  have hport (m : Nat) := (State.commitOn_agree
    ((s.modPort n (fun p => { p with commit := false })).latchTransfer n false)).port_eq (by decide) m
  have hagree : Agree 56 s _ := exec_agree _ s _ hexec
  refine ⟨_, hexec, ?_, fun m hm => ?_, hagree.changesOnly_of_within⟩
  · rw [hport, State.port_latchDelivered, if_pos rfl]
    rfl
  · rw [hport, State.port_latchDelivered, if_neg (by simpa using hm)]

/-- What a transfer makes of a port whose MODE, MARKER_ROUTE, DIV and SEQ_START are pending and no NCO field is:
MARKER_ROUTE and SEQ_START move, MODE and DIV are held (R174, R453). -/
theorem State.transfer_of_config_pending {s : State} {n : Nat} (h : (s.port n).shadow = 0xf) :
    s.transfer n false = s.setPort n { s.port n with
      mode := ((s.port n).mode &&& 0x0fff) ||| (s.reg (portReg n 0x44) &&& 0xf000)
      seqStart := bits (s.reg (portReg n 0x4c)) 0 18, shadow := 5, held := (s.port n).held ||| 5 } := by
  unfold State.transfer
  dsimp only
  rw [if_neg Bool.false_ne_true, h, if_pos (by decide), h]
  rfl

/-- The transfers latched for the coming boundary dropped, as they act. -/
def Port.dropDue (p : Port) : Port := { p with transfers := p.transfers.filter (fun x => x.1 != p.slot + 1) }

/-- A transfer that is due takes every field of a port whose four configuration fields are pending. -/
theorem transferEffect_takes {n : Nat} {s : State} (hdue : (s.port n).transfers = [((s.port n).slot + 1, false)])
    (hshadow : (s.port n).shadow = 0xf) :
    Yields (.transferEffect n) s (fun t =>
      t.port n = { s.port n with
        mode := ((s.port n).mode &&& 0x0fff) ||| (s.reg (portReg n 0x44) &&& 0xf000)
        seqStart := bits (s.reg (portReg n 0x4c)) 0 18
        shadow := 5, held := (s.port n).held ||| 5, transfers := [] } ∧
      s.portsBut t [n] ∧ s.changesOnly t [.ports]) := by
  have hfilter : (s.port n).transfers.filter (fun x => x.1 == (s.port n).slot + 1) = [((s.port n).slot + 1, false)] := by
    rw [hdue]
    simp
  have hexec : exec (.transferEffect n) s = .next ((s.modPort n Port.dropDue).transfer n false) := by
    show Host.Outcome.next (if ((s.port n).transfers.filter (fun x => x.1 == (s.port n).slot + 1)).isEmpty then s
      else (s.modPort n Port.dropDue).transfer n
        (((s.port n).transfers.filter (fun x => x.1 == (s.port n).slot + 1)).all (fun x => x.2))) = _
    rw [hfilter]
    rfl
  have hdropped : (s.modPort n Port.dropDue).port n = { s.port n with transfers := [] } := by
    rw [State.port_modPort, if_pos rfl]
    unfold Port.dropDue
    rw [hdue]
    simp
  have hagree : Agree 16 s _ := exec_agree _ s _ hexec
  have htransfer := State.transfer_of_config_pending (s := s.modPort n Port.dropDue) (n := n) (by rw [hdropped]; exact hshadow)
  rw [hdropped] at htransfer
  refine ⟨_, hexec, ?_, fun m hm => ?_, hagree.changesOnly_of_within⟩
  · rw [htransfer, State.port_setPort, if_pos rfl]
    rfl
  · have hne : m ≠ n := by simpa using hm
    rw [htransfer, State.port_setPort, if_neg hne, State.port_modPort, if_neg hne]

/-- Without a transfer due at the coming boundary nothing moves. -/
theorem exec_transferEffect_of_none_due {n : Nat} {s : State} (h : ∀ x ∈ (s.port n).transfers, x.1 ≠ (s.port n).slot + 1) :
    exec (.transferEffect n) s = .next s := by
  have hdue : (s.port n).transfers.filter (fun x => x.1 == (s.port n).slot + 1) = [] :=
    List.filter_eq_nil_iff.mpr (fun x hx => by simpa using h x hx)
  refine congrArg Host.Outcome.next (if_pos ?_)
  rw [hdue]
  rfl

end Machine
end Sys2Proof
end

section
/-! PROOFS. What a slot boundary leaves of a port's configuration, the held fields it takes, and the statement about
commits (O20). -/

namespace Sys2Proof
namespace Machine

/-! ### Held fields at a boundary of a parked port (R174) -/

/-- Two ports have one state, one slot and the same fields of mode and divisor, in force, pending and held. -/
structure Port.SameConfig (p q : Port) : Prop where
  state : q.state = p.state
  slot : q.slot = p.slot
  mode : q.mode = p.mode
  div : q.div = p.div
  shadow : q.shadow = p.shadow
  held : q.held = p.held

theorem Port.SameConfig.refl (p : Port) : p.SameConfig p := ⟨rfl, rfl, rfl, rfl, rfl, rfl⟩

theorem Port.SameConfig.trans {p q r : Port} (h : p.SameConfig q) (k : q.SameConfig r) : p.SameConfig r :=
  ⟨k.state.trans h.state, k.slot.trans h.slot, k.mode.trans h.mode, k.div.trans h.div, k.shadow.trans h.shadow,
    k.held.trans h.held⟩

/-- What a port's held fields depend on is in t as in s: those fields, its state and slot, PORT_MODE and PORT_DIV. -/
structure State.KeepsConfig (n : Nat) (s t : State) : Prop where
  port : (s.port n).SameConfig (t.port n)
  modeReg : t.reg (portReg n 0x44) = s.reg (portReg n 0x44)
  divReg : t.reg (portReg n 0x48) = s.reg (portReg n 0x48)

section KeepsConfig

variable {n : Nat} {s t u : State}

theorem State.KeepsConfig.refl (n : Nat) (s : State) : State.KeepsConfig n s s := ⟨Port.SameConfig.refl _, rfl, rfl⟩

theorem State.KeepsConfig.trans (h : State.KeepsConfig n s t) (k : State.KeepsConfig n t u) : State.KeepsConfig n s u :=
  ⟨h.port.trans k.port, k.modeReg.trans h.modeReg, k.divReg.trans h.divReg⟩

/-- Ports and registers that agree keep it. -/
theorem State.KeepsConfig.of_agree {A : Nat} (h : Agree A s t) (hpart : A.testBit 0 = false := by decide)
    (hregs : A.testBit 3 = false := by decide) (hports : A.testBit 4 = false := by decide) : State.KeepsConfig n s t :=
  ⟨by rw [h.port_eq hpart n hports]; exact Port.SameConfig.refl _, h.reg_eq hpart _ hregs, h.reg_eq hpart _ hregs⟩

/-- A port replaced by one with those fields the same keeps it. -/
theorem State.KeepsConfig.setPort (h : State.KeepsConfig n s t) (m : Nat) {q : Port} (hq : (t.port m).SameConfig q) :
    State.KeepsConfig n s (t.setPort m q) := by
  refine h.trans ⟨?_, rfl, rfl⟩
  rw [State.port_setPort]
  split
  · next hm => rw [hm]; exact hq
  · exact Port.SameConfig.refl _

/-- A change of any port that spares those fields keeps it. -/
theorem State.KeepsConfig.modPort (h : State.KeepsConfig n s t) (m : Nat) {f : Port → Port}
    (hf : ∀ p, Port.SameConfig p (f p)) : State.KeepsConfig n s (t.modPort m f) :=
  h.setPort m (hf _)

/-- A register that is neither PORT_MODE nor PORT_DIV of a page written keeps it. -/
theorem State.KeepsConfig.wr (h : State.KeepsConfig n s t) (page : Nat) {off : Nat} (w : Word) (hoff : off < 0x400 := by decide)
    (hmode : off ≠ 0x44 := by decide) (hdiv : off ≠ 0x48 := by decide) : State.KeepsConfig n s (t.wr page off w) := by
  refine h.trans ⟨Port.SameConfig.refl _, ?_, ?_⟩
  · exact (State.rd_wr t page off (Page.port n) 0x44 w hoff (by decide)).trans (if_neg (fun hc => hmode hc.2.symm))
  · exact (State.rd_wr t page off (Page.port n) 0x48 w hoff (by decide)).trans (if_neg (fun hc => hdiv hc.2.symm))

/-- A flag set keeps it. -/
theorem State.KeepsConfig.flag (h : State.KeepsConfig n s t) (page i : Nat) : State.KeepsConfig n s (t.flag page i) :=
  (h.wr page (off := 0x14) (t.rd page 0x14 ||| bitWord i)).trans (.of_agree (State.updateIbis_agree _ _))

/-- A counter at an offset above PORT_DIV's keeps it. -/
theorem State.KeepsConfig.count (h : State.KeepsConfig n s t) (page : Nat) {off : Nat} (hoff : off < 0x400 := by decide)
    (hmode : off ≠ 0x44 := by decide) (hdiv : off ≠ 0x48 := by decide) : State.KeepsConfig n s (t.count page off) :=
  h.wr page _ hoff hmode hdiv

/-- A change of a port's playhead keeps it. -/
theorem State.KeepsConfig.modPlayhead (h : State.KeepsConfig n s t) (m : Nat) (f : Playhead → Playhead) :
    State.KeepsConfig n s (t.modPlayhead (.port m) f) :=
  h.modPort m (f := fun p => { p with play := f (t.port m).play }) (fun _ => ⟨rfl, rfl, rfl, rfl, rfl, rfl⟩)

end KeepsConfig

/-! #### What a slot boundary does beside them -/

theorem State.settleJudged_keepsConfig (n : Nat) (s : State) (m : Nat) :
    State.KeepsConfig n s (s.settleJudged (.port m)) := by
  unfold State.settleJudged State.countLate
  split
  · exact (((State.KeepsConfig.refl n s).count _).flag _ _).modPlayhead m _
  · exact .refl n s

/-- A hand-over or return counted and flagged keeps it. -/
theorem State.KeepsConfig.handedOver {n : Nat} {s t : State} (h : State.KeepsConfig n s t) (g m : Nat) :
    State.KeepsConfig n s (t.handedOver g m) :=
  ((h.flag _ _).count _).flag _ _

theorem State.spareReturns_keepsConfig (n : Nat) (s : State) (m : Nat) : State.KeepsConfig n s (s.spareReturns m) := by
  unfold State.spareReturns
  extract_lets x isP
  have hspare (g : Nat) (x : Spare) : State.KeepsConfig n s (s.setSpare g x) := .of_agree (State.setSpare_agree s g x)
  split
  · exact (hspare _ _).handedOver _ _
  · exact .refl n s

/-- A port that walks shows its actual state as requested, unless a request is on its way (R85). -/
def Port.settled (p : Port) : Port := if p.deliver.isSome || !p.state.walks then p else { p with requested := p.state }

theorem Port.sameConfig_settled (p : Port) : p.SameConfig p.settled := by
  unfold Port.settled
  split
  · exact .refl p
  · exact ⟨rfl, rfl, rfl, rfl, rfl, rfl⟩

theorem State.settleRequest_keepsConfig (n : Nat) (s : State) (m : Nat) :
    State.KeepsConfig n s (s.settleRequest (.port m)) := by
  unfold State.settleRequest
  split
  · exact .refl n s
  · exact (State.KeepsConfig.refl n s).modPort m Port.sameConfig_settled

/-- A port in its next slot. -/
def Port.nextSlot (p : Port) : Port := { p with slot := p.slot + 1 }

theorem Port.SameConfig.nextSlot {p q : Port} (h : p.SameConfig q) : p.nextSlot.SameConfig q.nextSlot :=
  ⟨h.state, congrArg (· + 1) h.slot, h.mode, h.div, h.shadow, h.held⟩

/-- A port that moves into its next slot on both sides. -/
theorem State.KeepsConfig.nextSlot {n : Nat} {s t : State} (h : State.KeepsConfig n s t) {f : Port → Port}
    (hf : (t.port n).nextSlot.SameConfig (f (t.port n))) :
    State.KeepsConfig n (s.modPort n Port.nextSlot) (t.modPort n f) := by
  refine ⟨?_, h.modeReg, h.divReg⟩
  rw [State.port_modPort, State.port_modPort, if_pos rfl, if_pos rfl]
  exact h.port.nextSlot.trans hf

/-- A port passes into its next slot; what its held fields depend on stays. -/
theorem State.passSlot_keepsConfig (n : Nat) (s : State) (frozen : Bool) :
    State.KeepsConfig n (s.modPort n Port.nextSlot) (s.passSlot (.port n) frozen) := by
  have hjudged := State.settleJudged_keepsConfig n s n
  unfold State.passSlot
  extract_lets s0 slot on s1 s2
  have hplayer : State.KeepsConfig n (s.modPort n Port.nextSlot) s1 :=
    (hjudged.nextSlot (f := fun p => { p with slot := slot, play := on p.play }.takeLevels (Config.portType n)
      (s0.reg (portReg n 0x54)) (s0.reg (portReg n 0xb8))) ⟨rfl, rfl, rfl, rfl, rfl, rfl⟩).trans
      (State.spareReturns_keepsConfig n _ n)
  split
  · exact hplayer.trans (State.settleRequest_keepsConfig n _ n)
  · exact hplayer

theorem State.bridgeFault_keepsConfig (n : Nat) (s : State) (m : Nat) : State.KeepsConfig n s (s.bridgeFault m none) :=
  ((State.KeepsConfig.refl n s).count _).flag _ _

/-- A slot's output keeps it: samples, markers and the oscillator are of no concern. -/
theorem State.playSlot_keepsConfig (n : Nat) (s : State) (m : Nat) (c : Content) (acts : Acts) (lost : Bool) :
    State.KeepsConfig n s (s.playSlot m c acts lost).1 := by
  unfold State.playSlot
  extract_lets -underBinder p t count osc c1 p1 held x p2 route risen level trip out tr isP s1 s2 plays
  have hp1 : p.SameConfig p1 := by
    unfold p1
    cases c1 <;> exact ⟨rfl, rfl, rfl, rfl, rfl, rfl⟩
  have hp2 : p.SameConfig p2 := by
    unfold p2
    cases lost
    · exact hp1
    · exact hp1.trans ⟨rfl, rfl, rfl, rfl, rfl, rfl⟩
  have hs1 : State.KeepsConfig n s s1 := (State.KeepsConfig.refl n s).setPort m (hp2.trans ⟨rfl, rfl, rfl, rfl, rfl, rfl⟩)
  have hs2 : State.KeepsConfig n s s2 := by
    unfold s2
    split
    · exact hs1.flag _ _
    · exact hs1
  exact hs2.trans (.of_agree (State.contribute_agree s2 m plays))

theorem Played.rest_keepsConfig (n : Nat) (r : Played) (m : Nat) (c : Content) (acts : Acts) (errs : SlotErrors) :
    State.KeepsConfig n r.1 (Played.rest r m c acts errs).1 := by
  unfold Played.rest Played.slot
  dsimp only
  refine State.KeepsConfig.trans ?_ (State.playSlot_keepsConfig n _ m c acts _)
  split
  · exact State.bridgeFault_keepsConfig n r.1 m
  · exact .refl n r.1

/-- MODE and DIV taken from the shadow at a boundary where the divisor stands as its register has it (R174): the mode's
low bits move, the slot stays, and neither field is pending or held any longer. -/
theorem State.port_takeHeld {s : State} {n : Nat} (hdiv : (s.port n).div = (s.reg (portReg n 0x48)).toNat) :
    ((s.takeHeld n 5).port n).mode = ((s.reg (portReg n 0x44) &&& 0x0fff) ||| ((s.port n).mode &&& 0xf000)) ∧
      ((s.takeHeld n 5).port n).shadow = (s.port n).shadow &&& ~~~5 ∧
      ((s.takeHeld n 5).port n).held = (s.port n).held &&& ~~~5 ∧
      ((s.takeHeld n 5).port n).div = (s.port n).div ∧ ((s.takeHeld n 5).port n).slot = (s.port n).slot := by
  unfold State.takeHeld
  dsimp only
  rw [State.port_setPort, if_pos rfl]
  refine ⟨rfl, rfl, rfl, hdiv.symm, ?_⟩
  exact if_pos hdiv.symm

/-- What is held by a parked port is taken at once (R174). -/
theorem State.takeHeldNow_of_parked {s : State} {n : Nat} (hstate : (s.port n).state = .parked) (hheld : (s.port n).held = 5) :
    s.takeHeldNow n = s.takeHeld n 5 := by
  unfold State.takeHeldNow State.applyHeld
  rw [if_pos (Or.inl hstate), hheld]
  rfl

/-- An ordinary boundary of a unit that does not run. -/
theorem exec_slotBoundary_of_idle {u : SeqUnit} {s : State} (hmoment : s.moment u = .ordinary) (hstate : s.unitState u ≠ .run)
    (errs : SlotErrors) : exec (.slotBoundary u errs) s = .next (s.idleBoundary u errs) := by
  show execSlotBoundary u errs s = _
  unfold execSlotBoundary
  rw [hmoment]
  exact congrArg Host.Outcome.next (if_neg hstate)

/-- A parked port's boundary before its held fields are taken: it has passed into its slot, no underrun and no merge
goes on. -/
def State.parkedSlot (s : State) (n : Nat) : State :=
  ((s.passSlot (.port n) false).episodeOver n).modPort n (fun p => { p with merge := none })

theorem State.parkedSlot_keepsConfig (n : Nat) (s : State) :
    State.KeepsConfig n (s.modPort n Port.nextSlot) (s.parkedSlot n) := by
  unfold State.parkedSlot State.episodeOver
  refine ((State.passSlot_keepsConfig n s false).modPort n ?_).modPort n ?_ <;>
    exact fun _ => ⟨rfl, rfl, rfl, rfl, rfl, rfl⟩

/-- A parked port's boundary takes its held fields, then puts out the slot. -/
theorem State.idleBoundary_keepsConfig {n : Nat} {s : State} (hstate : (s.port n).state = .parked) (errs : SlotErrors) :
    State.KeepsConfig n ((s.parkedSlot n).takeHeldNow n) (s.idleBoundary (.port n) errs) := by
  have hfrozen : (s.unitState (.port n) == .paused) = false := by
    show ((s.port n).state == .paused) = false
    rw [hstate]
    rfl
  unfold State.idleBoundary
  rw [hfrozen]
  exact Played.rest_keepsConfig n ((s.parkedSlot n).takeHeldNow n, []) n
    (if ((s.parkedSlot n).takeHeldNow n).holdsOutput n then .hold else .park) Acts.none errs

/-- SLOT_BOUNDARY of a parked port that holds MODE and DIV (R174). -/
theorem slotBoundary_takesHeld {n : Nat} {errs : SlotErrors} {s : State} (hmoment : s.moment (.port n) = .ordinary)
    (hstate : (s.port n).state = .parked) (hheld : (s.port n).held = 5) (hshadow : (s.port n).shadow = 5)
    (hdiv : (s.port n).div = (s.reg (portReg n 0x48)).toNat) :
    Yields (.slotBoundary (.port n) errs) s (fun t =>
      (t.port n).mode = ((s.reg (portReg n 0x44) &&& 0x0fff) ||| ((s.port n).mode &&& 0xf000)) ∧ (t.port n).shadow = 0 ∧
      (t.port n).held = 0 ∧ (t.port n).div = (s.port n).div ∧ (t.port n).slot = (s.port n).slot + 1) := by
  have hnotrun : s.unitState (.port n) ≠ .run := by
    show (s.port n).state ≠ .run
    rw [hstate]
    decide
  have hend := State.idleBoundary_keepsConfig hstate errs
  obtain ⟨hport, hmodeReg, hdivReg⟩ := State.parkedSlot_keepsConfig n s
  rw [State.port_modPort, if_pos rfl] at hport
  have hdiv' : ((s.parkedSlot n).port n).div = ((s.parkedSlot n).reg (portReg n 0x48)).toNat := by
    rw [hport.div, hdivReg]
    exact hdiv
  rw [State.takeHeldNow_of_parked (hport.state.trans hstate) (hport.held.trans hheld)] at hend
  obtain ⟨hmode, hshadow', hheld', hdiv'', hslot⟩ := State.port_takeHeld hdiv'
  refine ⟨_, exec_slotBoundary_of_idle hmoment hnotrun errs, ?_, ?_, ?_, ?_, ?_⟩
  · rw [hend.port.mode, hmode, hmodeReg, hport.mode]
    rfl
  · rw [hend.port.shadow, hshadow', hport.shadow]
    show (s.port n).shadow &&& ~~~5 = 0
    rw [hshadow]
    rfl
  · rw [hend.port.held, hheld', hport.held]
    show (s.port n).held &&& ~~~5 = 0
    rw [hheld]
    rfl
  · exact hend.port.div.trans (hdiv''.trans hport.div)
  · exact hend.port.slot.trans (hslot.trans hport.slot)

/-- Settles O20: a lemma for each command of a commit's way, from the order to the boundary that takes what is held. -/
theorem commitsLatchAndTransfer : Obligations.CommitsLatchAndTransfer :=
  ⟨fun _ _ => pageCommit_port_orders, fun _ _ => pageCommit_group_moves, fun _ => pageCommit_clock_orders,
    fun _ _ => exec_commit_of_refused, fun _ => commitAll_orders, fun _ _ => commitDelivery_latches, fun _ _ => transferEffect_takes,
    fun _ _ _ _ => slotBoundary_takesHeld, fun _ _ => exec_transferEffect_of_none_due⟩

end Machine
end Sys2Proof
end

section
/-! PROOFS. The waveform memory: which commands reach it and the form every step keeps (for O5 and O7), and the cycle
that passes on an empty queue (for O2). -/

namespace Sys2Proof
namespace Machine

/-! ### The waveform memory (R20, R40) -/

/-- The waveform memory lies outside the mask of every command that is not listed as reaching it. -/
theorem Instr.footprint_spares_wave {c : Instr} (h : Instr.reachesMemory c = false) :
    (Instr.footprint c).testBit 9 = false := by
  have heither : (Instr.reachesMemory c || !(Instr.footprint c).testBit 9) = true := by
    cases c <;> simp only [Instr.reachesMemory, Instr.footprint] <;> decide
  simpa [h] using heither

/-- Every command that is listed as reaching the waveform memory keeps its canonical form. -/
theorem exec_keepsCanonical_of_reachesMemory {c : Instr} (h : Instr.reachesMemory c = true) (s : State) :
    Result.Keeps s (exec c s) := by
  cases c
  case postedWriteDrain => exact execPostedWriteDrain_kept _ _
  case read => exact execRead_kept _ _ _
  case write => exact execWrite_kept _ _ _
  case writeMask => exact execWriteMask_kept _ _ _
  case claim => exact execClaim_kept _ _ _
  case release => exact execRelease_kept _ _ _
  case handover => exact execHandover_kept _ _ _
  case accept => exact execAccept_kept _ _ _
  case heartbeat => exact execHeartbeat_kept _ _ _
  case attest => exact execAttest_kept _ _ _
  case noSuchOpcode => exact execNoSuchOpcode_kept _ _ _
  case registerWrite => exact execRegisterWrite_kept _ _ _ _ _
  case unitReset => exact execUnitReset_kept _ _ _
  case scheduleMessage => exact execScheduleMessage_kept _ _ _
  case configMessage => exact execConfigMessage_kept _ _ _
  case wakeRequest => exact execWakeRequest_kept _ _
  case rstNLow => exact execRstNLow_kept _
  case brownOut => exact execBrownOut_kept _ _
  all_goals cases h

/-- Every command keeps the canonical form: those that cannot reach the memory leave it as it is. -/
theorem exec_keepsCanonical (c : Instr) (s : State) : Result.Keeps s (exec c s) := by
  cases hc : Instr.reachesMemory c
  · exact fun t ht => (Kept.refl s).stepA (exec_agree c s t ht) (Instr.footprint_spares_wave hc)
  · exact exec_keepsCanonical_of_reachesMemory hc s

/-- Settles O5: a step on an empty queue leaves the memory as it is, any other runs a command, which keeps its form. -/
theorem memoryStaysCanonicalAtEveryStep : Obligations.MemoryStaysCanonicalAtEveryStep := by
  intro s t hs hstep
  unfold step at hstep
  split at hstep
  · cases hstep
    exact (Kept.refl s).stepA (State.idleCycle_agree s) rfl hs
  · exact exec_keepsCanonical _ _ t hstep hs

theorem Agree.memAddr_eq {A : Nat} {s t : State} (h : Agree A s t) (hpart : A.testBit 0 = false) (a : Nat) :
    t.memAddr a = s.memAddr a := by
  unfold State.memAddr
  rw [h.part hpart]

/-- Bytes agree where neither the waveform memory nor the variant is in the mask. -/
theorem Agree.readByte_eq {A : Nat} {s t : State} (h : Agree A s t) (hwave : A.testBit 9 = false)
    (hpart : A.testBit 0 = false) (a : Nat) : t.readByte a = s.readByte a := by
  unfold State.readByte
  rw [h.wave hwave, h.memAddr_eq hpart]

/-- Settles O7: the mask of such a command holds neither the waveform memory nor the variant, which sizes it. -/
theorem waveformMemoryFrame : Obligations.WaveformMemoryFrame := by
  intro c s t hc h
  obtain ⟨hpart, -, -⟩ := Instr.footprint_spares_part_cycle_pending c
  exact (exec_agree c s t h).readByte_eq (Instr.footprint_spares_wave hc) hpart

/-! ### A cycle without a command (R19, R263, R316, R333, R363, R365) -/

theorem step_of_empty {s : State} (h : s.pending = []) : step s = .next s.idleCycle := by
  unfold step
  rw [h]

/-- What goes on in a cycle before the owner's timers. -/
def State.idleWork (s : State) : State := s.issueReads.commitAdvances.windowsNow

theorem State.idleCycle_eq (s : State) : s.idleCycle = { s.idleWork.ownerTick with cycle := s.cycle + 1 } := rfl

theorem State.idleWork_agree (s : State) : Agree 72450140 s s.idleWork :=
  (((Agree.refl _ s).step (State.issueReads_agree s) rfl).step (State.commitAdvances_agree _) rfl).step
    (State.windowsNow_agree _) rfl

/-- The owner's timers advance by a cycle where the module is owned and they run. -/
theorem State.ownerTick_owner (s : State) :
    s.ownerTick.owner = if s.owned && s.ownerTimersRun then
      { s.owner with heard := s.owner.heard + 1, offered := s.owner.offered + 1 } else s.owner := by
  unfold State.ownerTick
  split <;> rfl

/-- Ownership and its timers depend on the owner, the security page and the health page alone. -/
theorem Agree.owned_eq {A : Nat} {s t : State} (h : Agree A s t) (howner : A.testBit 17 = false := by decide) :
    t.owned = s.owned := by
  unfold State.owned
  rw [h.owner howner]

theorem Agree.ownerTimersRun_eq {A : Nat} {s t : State} (h : Agree A s t) (hsecurity : A.testBit 19 = false := by decide)
    (hhealth : A.testBit 28 = false := by decide) : t.ownerTimersRun = s.ownerTimersRun := by
  unfold State.ownerTimersRun State.paused
  rw [h.security hsecurity, h.health hhealth]

theorem State.idleCycle_owner (s : State) :
    s.idleCycle.owner = if s.owned && s.ownerTimersRun then
      { s.owner with heard := s.owner.heard + 1, offered := s.owner.offered + 1 } else s.owner := by
  have hwork := s.idleWork_agree
  have htick := s.idleWork.ownerTick_owner
  rw [hwork.owned_eq, hwork.ownerTimersRun_eq, hwork.owner rfl] at htick
  rw [State.idleCycle_eq]
  exact htick

theorem State.issueReads_of_none_waiting {s : State} (h : s.waitingReads = []) : s.issueReads = s := by
  unfold State.issueReads
  rw [h]
  rfl

theorem State.commitAdvances_of_idle {s : State} (herase : s.cal.store ≠ .erasing)
    (hprogram : s.cal.store ≠ .programming) : s.commitAdvances = s := by
  unfold State.commitAdvances
  extract_lets go
  split
  · next h => exact absurd h herase
  · next h => exact absurd h hprogram
  · rfl

theorem State.windowsNow_of_outside {s : State} (h : ∀ k, k < 2 → (s.slot k).inWindow = false) : s.windowsNow = s := by
  unfold State.windowsNow
  simp [h]

/-- With no read to issue, no commit under way and no cartridge in its window a cycle does no work. -/
theorem State.idleWork_of_quiet {s : State} (hreads : s.waitingReads = []) (herase : s.cal.store ≠ .erasing)
    (hprogram : s.cal.store ≠ .programming) (hwindow : ∀ k, k < 2 → (s.slot k).inWindow = false) : s.idleWork = s := by
  unfold State.idleWork
  rw [State.issueReads_of_none_waiting hreads, State.commitAdvances_of_idle herase hprogram,
    State.windowsNow_of_outside hwindow]

/-- A timer that counts cycles gains one in the next cycle (R263). -/
theorem State.timerCount_next_cycle {s t : State} (htimers : t.timers = s.timers) (hcycle : t.cycle = s.cycle + 1) {k : Nat}
    (hactive : (s.timer k).active = true) (hmode : (s.timer k).mode ≠ 5) (hat : (s.timer k).at_ ≤ s.cycle) :
    t.timerCount k = (s.timerCount k + 1) % 2 ^ 48 := by
  have htimer : t.timer k = s.timer k := by unfold State.timer; rw [htimers]
  have hcounts : ((s.timer k).active && (s.timer k).mode != 5) = true := by simp [hactive, hmode]
  unfold State.timerCount
  dsimp only
  rw [htimer, if_pos hcounts, if_pos hcounts, hcycle]
  omega

/-- A timer that counts no cycles keeps its count (R263). -/
theorem State.timerCount_of_not_counting {s t : State} (htimers : t.timers = s.timers) {k : Nat}
    (h : (s.timer k).active = false ∨ (s.timer k).mode = 5) : t.timerCount k = s.timerCount k := by
  have htimer : t.timer k = s.timer k := by unfold State.timer; rw [htimers]
  have hstands : ((s.timer k).active && (s.timer k).mode != 5) = false := by
    rcases h with h | h <;> simp [h]
  unfold State.timerCount
  dsimp only
  rw [htimer, hstands]
  rfl

/-- Settles O2: the cycle count and the owner's timers directly, what else can change by the masks of the work in a
cycle, which is none where nothing waits. -/
theorem emptyQueueLetsOneCyclePass : Obligations.EmptyQueueLetsOneCyclePass := by
  intro s hempty
  have hagree := s.idleCycle_agree
  have howner := s.idleCycle_owner
  refine ⟨s.idleCycle, step_of_empty hempty, rfl, fun howned hrun => ?_, fun hstill => ?_,
    fun hreads herase hprogram hwindow => ?_, hagree.changesOnly_of_within,
    fun k => State.timerCount_next_cycle (hagree.timers rfl) rfl,
    fun k => State.timerCount_of_not_counting (hagree.timers rfl)⟩
  · rw [howner, howned, hrun]
    rfl
  · rw [howner, if_neg (by rcases hstill with h | h <;> simp [h])]
  · have hquiet : Agree 131074 s s.idleCycle := by
      rw [State.idleCycle_eq, State.idleWork_of_quiet hreads herase hprogram hwindow]
      exact ((Agree.refl _ s).step (State.ownerTick_agree s) rfl).setCycle rfl
    exact hquiet.changesOnly_of_within

end Machine
end Sys2Proof
end

section
/-! PROOFS. Registers that count, flag and show faults, as reads of them after each operation (for O39). -/

namespace Sys2Proof
namespace Machine

/-! ### Counters, flags and faults read back (R410, R412, R446, R448) -/

theorem setBits_full (w : Word) (v : Nat) : setBits w 0 32 v = word v := by
  have hw : w.toNat < 2 ^ 32 := w.isLt
  apply BitVec.eq_of_toNat_eq
  unfold setBits word
  simp only [BitVec.toNat_ofNat]
  omega

/-- A 32-bit counter reads one more, up to its largest value; every other register as before. -/
theorem State.rd_count (s : State) {p o q r : Nat} (ho : o < 0x400) (hr : r < 0x400) :
    (s.count p o).rd q r = if q = p ∧ r = o then word (min 0xffffffff ((s.rd p o).toNat + 1)) else s.rd q r := by
  have hw : (s.rd p o).toNat < 2 ^ 32 := (s.rd p o).isLt
  have hbits : bits (s.rd p o) 0 32 = (s.rd p o).toNat := by unfold bits; omega
  unfold State.count State.countField
  dsimp only
  rw [State.rd_wr _ _ _ _ _ _ ho hr, hbits, setBits_full]
  rfl

/-- A counter field of a register leaves every other register as it was. -/
theorem State.rd_countField_other (s : State) {p o q r : Nat} (lo width by_ : Nat) (ho : o < 0x400) (hr : r < 0x400)
    (h : q = p → r ≠ o) : (s.countField p o lo width by_).rd q r = s.rd q r :=
  (State.rd_wr _ _ _ _ _ _ ho hr).trans (if_neg (fun hc => h hc.1 hc.2))

theorem State.rd_flag (s : State) {p i q r : Nat} (hr : r < 0x400) :
    (s.flag p i).rd q r = if q = p ∧ r = 0x14 then s.rd p 0x14 ||| bitWord i else s.rd q r := by
  unfold State.rd
  rw [State.reg_flag]
  simp only [regAddr_inj hr (show 0x14 < 0x400 by decide)]
  rfl

theorem bit_eq_testBit (w : Word) (i : Nat) : bit w i = w.toNat.testBit i := by
  unfold bit
  rw [Nat.testBit_eq_decide_div_mod_eq]
  exact beq_eq_decide ..

theorem bit_or_bitWord (w : Word) {i : Nat} (h : i < 32) : bit (w ||| bitWord i) i = true := by
  have hpow : 2 ^ i < 2 ^ 32 := Nat.pow_lt_pow_right (by decide) h
  rw [bit_eq_testBit, BitVec.toNat_or, Nat.testBit_or, show (bitWord i).toNat = 2 ^ i from word_toNat hpow,
    Nat.testBit_two_pow_self, Bool.or_true]

/-- A flag that was set reads as set. -/
theorem State.bit_rd_flag (s : State) (p : Nat) {i : Nat} (h : i < 32) : bit ((s.flag p i).rd p 0x14) i = true := by
  rw [State.rd_flag s (by decide), if_pos ⟨rfl, rfl⟩]
  exact bit_or_bitWord _ h

/-- PAGE_FAULT shows the code in its low half, whatever it counts in the other. -/
theorem bits_pageFault {code : Nat} (h : code < 2 ^ 16) (k : Nat) : bits (word (code + k * 2 ^ 16)) 0 16 = code := by
  unfold bits word
  rw [BitVec.toNat_ofNat]
  omega

/-- A fault changes PAGE_FAULT of its page and three registers of HEALTH, and no other. -/
theorem State.rd_fault_other (s : State) {page code q r : Nat} (d : Word) (hr : r < 0x400) (hhealth : q ≠ Page.health)
    (hpage : q = page → r ≠ 0x1c) : (s.fault page code d).rd q r = s.rd q r := by
  have hlogged : ((s.pageFault page code).logFault page code d).rd q r = s.rd q r := by
    unfold State.logFault
    dsimp only
    rw [State.rd_flag _ hr, if_neg (fun h => hhealth h.1), State.rd_wr _ _ _ _ _ _ (by decide) hr,
      if_neg (fun h => hhealth h.1), State.rd_wr _ _ _ _ _ _ (by decide) hr, if_neg (fun h => hhealth h.1)]
    exact (State.rd_wr s page 0x1c q r _ (by decide) hr).trans (if_neg (fun h => hpage h.1 h.2))
  unfold State.fault
  dsimp only
  split
  · exact hlogged
  · exact ((State.emitAll_agree _ _).rd_eq (by decide) q r).trans hlogged

/-- A fault is shown on its page and on HEALTH. -/
theorem State.faulted_fault (s : State) {page code : Nat} (d : Word) (hcode : code < 2 ^ 16) (hpage : page ≠ Page.health) :
    (s.fault page code d).faulted page code := by
  have hlogged : ((s.pageFault page code).logFault page code d).faulted page code := by
    unfold State.logFault
    refine ⟨?_, ?_, State.bit_rd_flag _ _ (by decide)⟩
    · rw [State.rd_flag _ (by decide), if_neg (fun h => hpage h.1), State.rd_wr _ _ _ _ _ _ (by decide) (by decide),
        if_neg (fun h => hpage h.1), State.rd_wr _ _ _ _ _ _ (by decide) (by decide), if_neg (fun h => hpage h.1)]
      unfold State.pageFault
      exact (congrArg (bits · 0 16) (State.rd_wr_same s page 0x1c _)).trans (bits_pageFault hcode _)
    · rw [State.rd_flag _ (by decide), if_neg (by decide), State.rd_wr_same]
  unfold State.fault
  dsimp only
  split
  · exact hlogged
  · have hrd := (State.emitAll_agree ((s.pageFault page code).logFault page code d)
      [{ code := 0x40 + code, hop := 0 }, { code := 0x40, hop := 0 }]).rd_eq (by decide)
    unfold State.faulted at hlogged ⊢
    rw [hrd, hrd, hrd]
    exact hlogged

end Machine
end Sys2Proof
end

section
/-! PROOFS. What a read that returns records on its stack's page and on HEALTH (for O39). -/

namespace Sys2Proof
namespace Machine

/-! ### The pages of the stacks and of the ports (R126, R459) -/

theorem State.stackOf_lt (s : State) (a : Nat) : s.stackOf a < 2 := by
  unfold State.stackOf State.pseudo
  cases s.part <;> dsimp only <;> omega

theorem Page.memctl_ne_health (k : Nat) : Page.memctl k ≠ Page.health := by
  unfold Page.memctl Page.health
  omega

theorem Page.memctl_ne_port {k : Nat} (hk : k < 2) (n : Nat) : Page.memctl k ≠ Page.port n := by
  unfold Page.memctl Page.port
  omega

theorem Page.health_ne_port (n : Nat) : Page.health ≠ Page.port n := by
  unfold Page.health Page.port
  omega

/-! ### What depends on the variant, the stacks and the memory alone -/

section Agree

variable {A : Nat} {s t : State} (h : Agree A s t) (hpart : A.testBit 0 = false := by decide)
include h hpart

theorem Agree.pseudo_eq (a : Nat) : t.pseudo a = s.pseudo a := by
  unfold State.pseudo
  rw [h.memAddr_eq hpart, h.part hpart]

theorem Agree.stackOf_eq (a : Nat) : t.stackOf a = s.stackOf a := by
  unfold State.stackOf
  rw [h.pseudo_eq hpart]

theorem Agree.unreadable_eq (a : Nat) (hmemctl : A.testBit 10 = false := by decide) : t.unreadable a = s.unreadable a := by
  unfold State.unreadable
  dsimp only
  rw [h.pseudo_eq hpart, h.stack_eq _ hmemctl]

theorem Agree.readGranule_eq (a : Nat) (hwave : A.testBit 9 = false := by decide) :
    t.readGranule a = s.readGranule a := by
  unfold State.readGranule State.readBytes
  simp only [h.readByte_eq hwave hpart]

end Agree

/-- Whether a slot has begun depends on the port that plays it and on the groups' playheads. -/
theorem State.slotBegun_congr {s t : State} {n : Nat} (hgroups : t.groups = s.groups)
    (hgroup : (t.port n).group = (s.port n).group) (hplay : (t.port n).play = (s.port n).play)
    (hseg : (t.port n).seg = (s.port n).seg) (hplaying : (t.port n).bobbin.playing = (s.port n).bobbin.playing)
    {f g : Fetched} (hpass : g.pass = f.pass) (hgran : g.gran = f.gran) : t.slotBegun n g = s.slotBegun n f := by
  have hwalking : t.walking n = s.walking n := by
    unfold State.walking State.group
    rw [hgroups, hgroup, hplay]
  unfold State.slotBegun
  dsimp only
  rw [hwalking, hseg, hplaying, hpass, hgran]

/-! ### What a returning read records (R141, R148) -/

/-- A read's severity: uncorrectable, or of a stack or pseudo-channel that has failed. -/
theorem State.readSeverity_snd (s : State) (a : Nat) (v : Severity) :
    (s.readSeverity a v).2 = (decide (v = .uncorrectable) || s.unreadable a) := by
  unfold State.readSeverity
  split
  · next h => rcases h with h | h <;> simp [h]
  · next h =>
    obtain ⟨hv, hu⟩ := not_or.mp h
    split <;> simp [hv, hu]

theorem State.readSeverity_of_lost {s : State} {a : Nat} {v : Severity} (h : v = .uncorrectable ∨ s.unreadable a = true) :
    (s.readSeverity a v).1 = s.eccUncorr a := by
  unfold State.readSeverity
  rw [if_pos h]

theorem State.readSeverity_of_corrected {s : State} {a : Nat} (h : s.unreadable a = false) :
    (s.readSeverity a .corrected).1 = s.eccCorr a := by
  unfold State.readSeverity
  rw [if_neg (by simp [h]), if_pos rfl]

/-- An uncorrectable read is counted and flagged on its stack's page. -/
theorem State.rd_eccUncorr (s : State) (a : Nat) :
    (s.eccUncorr a).rd (Page.memctl (s.stackOf a)) 0x5c =
        word (min 0xffffffff ((s.rd (Page.memctl (s.stackOf a)) 0x5c).toNat + 1)) ∧
      bit ((s.eccUncorr a).rd (Page.memctl (s.stackOf a)) 0x14) 3 = true := by
  unfold State.eccUncorr
  refine ⟨?_, State.bit_rd_flag _ _ (by decide)⟩
  rw [State.rd_flag _ (by decide), if_neg (by simp), State.rd_wr _ _ _ _ _ _ (by decide) (by decide), if_neg (by simp),
    State.rd_wr _ _ _ _ _ _ (by decide) (by decide), if_neg (by simp), State.rd_count _ (by decide) (by decide),
    if_pos ⟨rfl, rfl⟩]

/-- A corrected read is counted and flagged on its stack's page. -/
theorem State.rd_eccCorr (s : State) (a : Nat) :
    (s.eccCorr a).rd (Page.memctl (s.stackOf a)) 0x58 =
        word (min 0xffffffff ((s.rd (Page.memctl (s.stackOf a)) 0x58).toNat + 1)) ∧
      bit ((s.eccCorr a).rd (Page.memctl (s.stackOf a)) 0x14) 2 = true := by
  unfold State.eccCorr
  refine ⟨?_, State.bit_rd_flag _ _ (by decide)⟩
  rw [State.rd_flag _ (by decide), if_neg (by simp), State.rd_count _ (by decide) (by decide), if_pos ⟨rfl, rfl⟩]

/-- A read's severity is recorded on its stack's page; PAGE_FAULT there, and every other page, stay. -/
theorem State.rd_readSeverity_other (s : State) (a : Nat) (v : Severity) {q r : Nat} (hr : r < 0x400)
    (h : q = Page.memctl (s.stackOf a) → r = 0x1c) : (s.readSeverity a v).1.rd q r = s.rd q r := by
  have hoff {o : Nat} (ho : o ≠ 0x1c) : ¬ (q = Page.memctl (s.stackOf a) ∧ r = o) :=
    fun hc => ho (hc.2.symm.trans (h hc.1))
  unfold State.readSeverity
  split
  · unfold State.eccUncorr
    dsimp only
    rw [State.rd_flag _ hr, if_neg (hoff (by decide)), State.rd_wr _ _ _ _ _ _ (by decide) hr, if_neg (hoff (by decide)),
      State.rd_wr _ _ _ _ _ _ (by decide) hr, if_neg (hoff (by decide)), State.rd_count _ (by decide) hr,
      if_neg (hoff (by decide))]
  · split
    · unfold State.eccCorr
      dsimp only
      rw [State.rd_flag _ hr, if_neg (hoff (by decide)), State.rd_count _ (by decide) hr, if_neg (hoff (by decide))]
    · rfl

/-- The latency of a read leaves its stack's read counters as they are. -/
theorem State.rd_fetchLatency_counters (s : State) (n a : Nat) (late : Bool) {r : Nat} (h : r = 0x58 ∨ r = 0x5c) :
    (s.fetchLatency n a late).rd (Page.memctl (s.stackOf a)) r = s.rd (Page.memctl (s.stackOf a)) r := by
  have hr : r < 0x400 := by omega
  have hne {o : Nat} (ho : o ≠ 0x58 ∧ o ≠ 0x5c) : r ≠ o := by omega
  have hspent (w : Word) : (s.spend.wr (Page.memctl (s.stackOf a)) 0x6c w).rd (Page.memctl (s.stackOf a)) r =
      s.rd (Page.memctl (s.stackOf a)) r :=
    (State.rd_wr s.spend _ 0x6c _ r w (by decide) hr).trans (if_neg (fun hc => hne (by decide) hc.2))
  unfold State.fetchLatency
  dsimp only
  split
  · rfl
  · split
    · rw [State.rd_fault_other _ _ hr (Page.memctl_ne_health _) (fun _ => hne (by decide)), State.rd_flag _ hr,
        if_neg (fun hc => hne (by decide) hc.2),
        State.rd_countField_other _ _ _ _ (by decide) hr (fun _ => hne (by decide))]
      exact hspent _
    · exact hspent _

/-- A late read of a port that reads in real time raises fault 0x0b on its stack's page. -/
theorem State.faulted_fetchLatency {s : State} {n : Nat} (h : s.bestEffort n = false) (a : Nat) :
    (s.fetchLatency n a true).faulted (Page.memctl (s.stackOf a)) 0xb := by
  unfold State.fetchLatency
  rw [h]
  exact State.faulted_fault _ _ (by decide) (Page.memctl_ne_health _)

/-! ### A read back from its stack -/

/-- The state after a read of a port has left its bobbin, its latency and severity recorded, and whether its data is
lost. -/
def State.arrived (s : State) (n : Nat) (b : Bobbin) (a : Nat) (v : Severity) (late : Bool) : State × Bool :=
  ((s.setPort n { s.port n with bobbin := b }).fetchLatency n a late).readSeverity a v

section arrived

variable (s : State) (n : Nat) (b : Bobbin) (a : Nat) (v : Severity) (late : Bool)

/-- The record of a read changes no port. -/
theorem State.arrived_agree_setPort :
    Agree 2203660 (s.setPort n { s.port n with bobbin := b }) (s.arrived n b a v late).1 :=
  (State.fetchLatency_agree _ n a late).step (State.readSeverity_agree _ a v) rfl

theorem State.arrived_agree : Agree 2203676 s (s.arrived n b a v late).1 :=
  ((Agree.refl _ s).step (State.setPort_agree s n _) rfl).step (State.arrived_agree_setPort s n b a v late) rfl

theorem State.port_arrived (m : Nat) :
    (s.arrived n b a v late).1.port m = if m = n then { s.port n with bobbin := b } else s.port m :=
  ((State.arrived_agree_setPort s n b a v late).port_eq (by decide) m).trans (State.port_setPort s n m _)

theorem State.port_arrived_same : (s.arrived n b a v late).1.port n = { s.port n with bobbin := b } :=
  (State.port_arrived s n b a v late n).trans (if_pos rfl)

theorem State.arrived_snd : (s.arrived n b a v late).2 = (decide (v = .uncorrectable) || s.unreadable a) := by
  have hagree : Agree 2203676 s ((s.setPort n { s.port n with bobbin := b }).fetchLatency n a late) :=
    ((Agree.refl _ s).step (State.setPort_agree s n _) rfl).step (State.fetchLatency_agree _ n a late) rfl
  exact (State.readSeverity_snd _ a v).trans (by rw [hagree.unreadable_eq])

theorem State.slotBegun_arrived (hb : b.playing = (s.port n).bobbin.playing) (f : Fetched) :
    (s.arrived n b a v late).1.slotBegun n f = s.slotBegun n f := by
  have hport := State.port_arrived_same s n b a v late
  refine State.slotBegun_congr ((State.arrived_agree s n b a v late).groups rfl) ?_ ?_ ?_ ?_ rfl rfl
  all_goals rw [hport]
  exact hb

/-- What the registers of the stacks and of HEALTH show of a read that returned (R141, R148). -/
structure State.ShowsRead (s t : State) (n a : Nat) (v : Severity) (late : Bool) : Prop where
  uncorrectable : v = .uncorrectable ∨ s.unreadable a = true →
    t.rd (Page.memctl (s.stackOf a)) 0x5c = word (min 0xffffffff ((s.rd (Page.memctl (s.stackOf a)) 0x5c).toNat + 1)) ∧
      bit (t.rd (Page.memctl (s.stackOf a)) 0x14) 3 = true
  corrected : v = .corrected → s.unreadable a = false →
    t.rd (Page.memctl (s.stackOf a)) 0x58 = word (min 0xffffffff ((s.rd (Page.memctl (s.stackOf a)) 0x58).toNat + 1)) ∧
      bit (t.rd (Page.memctl (s.stackOf a)) 0x14) 2 = true
  late : late = true → s.bestEffort n = false → t.faulted (Page.memctl (s.stackOf a)) 0xb

theorem State.arrived_showsRead : s.ShowsRead (s.arrived n b a v late).1 n a v late := by
  have hset : Agree 16 s (s.setPort n { s.port n with bobbin := b }) := State.setPort_agree s n _
  have hagree : Agree 2203676 s ((s.setPort n { s.port n with bobbin := b }).fetchLatency n a late) :=
    ((Agree.refl _ s).step hset rfl).step (State.fetchLatency_agree _ n a late) rfl
  have hcounters {r : Nat} (hr : r = 0x58 ∨ r = 0x5c) :=
    State.rd_fetchLatency_counters (s.setPort n { s.port n with bobbin := b }) n a late hr
  rw [hset.stackOf_eq] at hcounters
  unfold State.arrived
  refine ⟨fun hlost => ?_, fun hv hgood => ?_, fun hlate hreal => ?_⟩
  · have hecc := State.rd_eccUncorr ((s.setPort n { s.port n with bobbin := b }).fetchLatency n a late) a
    rw [hagree.stackOf_eq, hcounters (Or.inr rfl), hset.rd_eq] at hecc
    rw [State.readSeverity_of_lost (by rwa [hagree.unreadable_eq])]
    exact hecc
  · subst hv
    have hecc := State.rd_eccCorr ((s.setPort n { s.port n with bobbin := b }).fetchLatency n a late) a
    rw [hagree.stackOf_eq, hcounters (Or.inl rfl), hset.rd_eq] at hecc
    rw [State.readSeverity_of_corrected (by rwa [hagree.unreadable_eq])]
    exact hecc
  · subst hlate
    have hfault := State.faulted_fetchLatency (s := s.setPort n { s.port n with bobbin := b }) (n := n) hreal a
    rw [hset.stackOf_eq] at hfault
    unfold State.faulted at hfault ⊢
    rw [State.rd_readSeverity_other _ _ _ (by decide) (fun _ => rfl),
      State.rd_readSeverity_other _ _ _ (by decide) (fun h => absurd h.symm (Page.memctl_ne_health _)),
      State.rd_readSeverity_other _ _ _ (by decide) (fun h => absurd h.symm (Page.memctl_ne_health _))]
    exact hfault

end arrived

end Machine
end Sys2Proof
end

section
/-! PROOFS. What a granule that returned becomes, the next granule requested, and the statement about both (O39). -/

namespace Sys2Proof
namespace Machine

/-! ### What a granule that returned becomes (R42, R73, R141, R142) -/

theorem State.rd_dataFault_other (s : State) (n addr : Nat) (i : Option Nat) {q r : Nat} (hr : r < 0x400)
    (h : q ≠ Page.port n) : (s.dataFault n addr i).rd q r = s.rd q r := by
  have hoff {o : Nat} : ¬ (q = Page.port n ∧ r = o) := fun hc => h hc.1
  unfold State.dataFault
  dsimp only
  cases i <;> dsimp only <;>
    simp only [State.rd_flag _ hr, State.rd_wr _ _ _ _ _ _ (show 0x110 < 0x400 by decide) hr,
      State.rd_wr _ _ _ _ _ _ (show 0x10c < 0x400 by decide) hr, State.rd_count _ (show 0x108 < 0x400 by decide) hr,
      if_neg hoff]

/-- What becomes of a granule changes no other port, none of the reads in flight and no other page's register. -/
structure State.OnlyGranule (n : Nat) (s t : State) : Prop where
  other : ∀ m, m ≠ n → t.port m = s.port m
  flying : (t.port n).bobbin.flying = (s.port n).bobbin.flying
  rd : ∀ q r, r < 0x400 → q ≠ Page.port n → t.rd q r = s.rd q r

theorem State.OnlyGranule.refl (n : Nat) (s : State) : State.OnlyGranule n s s :=
  ⟨fun _ _ => rfl, rfl, fun _ _ _ _ => rfl⟩

theorem State.OnlyGranule.trans {n : Nat} {s t u : State} (h : State.OnlyGranule n s t) (k : State.OnlyGranule n t u) :
    State.OnlyGranule n s u :=
  ⟨fun m hm => (k.other m hm).trans (h.other m hm), k.flying.trans h.flying,
    fun q r hr hq => (k.rd q r hr hq).trans (h.rd q r hr hq)⟩

theorem State.onlyGranule_modPort (n : Nat) (s : State) {f : Port → Port}
    (hf : (f (s.port n)).bobbin.flying = (s.port n).bobbin.flying) : State.OnlyGranule n s (s.modPort n f) := by
  refine ⟨fun m hm => ?_, ?_, fun _ _ _ _ => rfl⟩
  · rw [State.port_modPort, if_neg hm]
  · rw [State.port_modPort, if_pos rfl, hf]

/-- What shows a read on the registers of a stack and of HEALTH shows it still once its granule is settled. -/
theorem State.ShowsRead.settled {s t u : State} {n a : Nat} {v : Severity} {late : Bool} (h : s.ShowsRead t n a v late)
    (k : State.OnlyGranule n t u) : s.ShowsRead u n a v late := by
  have hmemctl {r : Nat} (hr : r < 0x400) := k.rd (Page.memctl (s.stackOf a)) r hr (Page.memctl_ne_port (s.stackOf_lt a) n)
  have hhealth {r : Nat} (hr : r < 0x400) := k.rd Page.health r hr (Page.health_ne_port n)
  refine ⟨fun hlost => ?_, fun hv hgood => ?_, fun hlate hreal => ?_⟩
  · rw [hmemctl (by decide), hmemctl (by decide)]
    exact h.uncorrectable hlost
  · rw [hmemctl (by decide), hmemctl (by decide)]
    exact h.corrected hv hgood
  · unfold State.faulted
    rw [hmemctl (by decide), hhealth (by decide), hhealth (by decide)]
    exact h.late hlate hreal

/-- A port with the CRCs of its stream passes replaced. -/
def Port.withCrcs (p : Port) (l : List PassCrc) : Port := { p with bobbin := { p.bobbin with crcs := l } }

/-- From s to t a port's CRCs change, and registers of its page. -/
def State.OnlyCrcs (n : Nat) (s t : State) : Prop :=
  ∃ l, (∀ m, t.port m = if m = n then (s.port n).withCrcs l else s.port m) ∧
    ∀ q r, r < 0x400 → q ≠ Page.port n → t.rd q r = s.rd q r

theorem State.OnlyCrcs.refl (n : Nat) (s : State) : State.OnlyCrcs n s s := by
  refine ⟨(s.port n).bobbin.crcs, fun m => ?_, fun _ _ _ _ => rfl⟩
  split
  · next hm => rw [hm]; rfl
  · rfl

theorem State.OnlyCrcs.of_setPort {n : Nat} {s t : State} (h : Agree 4 s t) (l : List PassCrc) :
    State.OnlyCrcs n s (t.setPort n ((s.port n).withCrcs l)) := by
  refine ⟨l, fun m => ?_, fun q r _ _ => h.rd_eq (by decide) q r⟩
  rw [State.port_setPort, h.port_eq]

theorem State.OnlyCrcs.dataFault {n : Nat} {s t : State} (h : State.OnlyCrcs n s t) (addr : Nat) (i : Option Nat) :
    State.OnlyCrcs n s (t.dataFault n addr i) := by
  obtain ⟨l, hport, hrd⟩ := h
  exact ⟨l, fun m => ((State.dataFault_agree t n addr i).port_eq (by decide) m).trans (hport m),
    fun q r hr hq => (State.rd_dataFault_other t n addr i hr hq).trans (hrd q r hr hq)⟩

/-- A granule is taken into its pass's CRC; a data fault is raised where the CRC does not agree. -/
theorem State.crcArrive_onlyCrcs (s : State) (n : Nat) (f : Fetched) : State.OnlyCrcs n s (s.crcArrive n f) := by
  unfold State.crcArrive
  extract_lets -underBinder -merge p
  split
  · exact .refl n s
  · extract_lets -underBinder -merge c1 s0 others b b' s1
    have hs0 : Agree 4 s s0 := by
      unfold s0
      split
      · exact State.spend_agree s
      · exact Agree.refl _ s
    have hs1 : State.OnlyCrcs n s s1 := .of_setPort hs0 others
    split
    · exact .of_setPort hs0 (others ++ [c1])
    · split
      · exact hs1
      · exact hs1.dataFault _ _

theorem State.onlyGranule_crcArrive (n : Nat) (s : State) (f : Fetched) : State.OnlyGranule n s (s.crcArrive n f) := by
  obtain ⟨l, hport, hrd⟩ := s.crcArrive_onlyCrcs n f
  refine ⟨fun m hm => ?_, ?_, hrd⟩
  · rw [hport, if_neg hm]
  · rw [hport, if_pos rfl]
    rfl

theorem State.onlyGranule_deliver (n : Nat) (s : State) (f : Fetched) : State.OnlyGranule n s (s.deliver n f) := by
  have hcrc := State.onlyGranule_crcArrive n s f
  unfold State.deliver
  extract_lets s1
  split
  · exact hcrc
  · exact hcrc.trans (State.onlyGranule_modPort n s1 rfl)

/-- A granule that arrives for good joins the bobbin, unless its slot has begun. -/
theorem State.deliver_bobbin (s : State) (n : Nat) (f : Fetched) :
    ((s.deliver n f).port n).bobbin.present =
        (s.port n).bobbin.present ++ (if s.slotBegun n f = true then [] else [f]) ∧
      ((s.deliver n f).port n).bobbin.refetch = (s.port n).bobbin.refetch := by
  obtain ⟨l, hport, -⟩ := s.crcArrive_onlyCrcs n f
  have hn : (s.crcArrive n f).port n = (s.port n).withCrcs l := (hport n).trans (if_pos rfl)
  have hbegun : (s.crcArrive n f).slotBegun n f = s.slotBegun n f := by
    refine State.slotBegun_congr ((State.crcArrive_agree s n f).groups rfl) ?_ ?_ ?_ ?_ rfl rfl <;> rw [hn] <;> rfl
  unfold State.deliver
  dsimp only
  rw [hbegun]
  split
  · rw [hn, List.append_nil]
    exact ⟨rfl, rfl⟩
  · rw [State.port_modPort, if_pos rfl, hn]
    exact ⟨rfl, rfl⟩

/-! ### READ_COMPLETE and REFETCH_COMPLETE -/

/-- The bobbin without a read in flight. -/
def Bobbin.landed (b : Bobbin) (f : Fetched) : Bobbin := { b with flying := b.flying.erase f }

/-- A granule that waits for its refetch (R141). -/
def Port.refetching (p : Port) (f : Fetched) : Port :=
  { p with bobbin := { p.bobbin with refetch := p.bobbin.refetch ++ [{ f with issued := false, train := 0 }] } }

/-- What becomes of a read that returned, by its pass, whether its data is lost and whether its pseudo-channel can be
read. -/
def State.settleRead (r : State × Bool) (n : Nat) (f : Fetched) : State :=
  if f.pass = 0 then r.1
  else if r.2 = false then r.1.deliver n { f with data := some (r.1.readGranule f.addr) }
  else if r.1.unreadable f.addr then r.1.deliver n { f with data := none }
  else r.1.modPort n (fun p => p.refetching f)

theorem exec_readComplete {n : Nat} {s : State} {f : Fetched} (h : (s.port n).bobbin.returning = some f) (v : Severity)
    (late : Bool) : exec (.readComplete n v late) s =
      .next (State.settleRead (s.arrived n ((s.port n).bobbin.landed f) f.addr v late) n f) := by
  show execReadComplete n v late s = _
  unfold execReadComplete
  dsimp only
  rw [h]
  rfl

theorem State.onlyGranule_settleRead (r : State × Bool) (n : Nat) (f : Fetched) :
    State.OnlyGranule n r.1 (State.settleRead r n f) := by
  unfold State.settleRead
  split
  · exact .refl n r.1
  · split
    · exact State.onlyGranule_deliver n r.1 _
    · split
      · exact State.onlyGranule_deliver n r.1 _
      · exact State.onlyGranule_modPort n r.1 rfl

/-- A read of a discarded pass is dropped. -/
theorem State.settleRead_of_discarded (r : State × Bool) (n : Nat) {f : Fetched} (h : f.pass = 0) :
    State.settleRead r n f = r.1 := if_pos h

/-- A read that is good joins the bobbin with the memory's content. -/
theorem State.settleRead_of_good {r : State × Bool} {n : Nat} {f : Fetched} (hpass : f.pass ≠ 0) (hgood : r.2 = false) :
    State.settleRead r n f = r.1.deliver n { f with data := some (r.1.readGranule f.addr) } :=
  (if_neg hpass).trans (if_pos hgood)

/-- A read of an unreadable pseudo-channel is a hold. -/
theorem State.settleRead_of_unreadable {r : State × Bool} {n : Nat} {f : Fetched} (hpass : f.pass ≠ 0) (hlost : r.2 = true)
    (hchannel : r.1.unreadable f.addr = true) : State.settleRead r n f = r.1.deliver n { f with data := none } :=
  (if_neg hpass).trans ((if_neg (by simp [hlost])).trans (if_pos hchannel))

/-- A lost read of another pseudo-channel waits for its refetch. -/
theorem State.settleRead_of_lost {r : State × Bool} {n : Nat} {f : Fetched} (hpass : f.pass ≠ 0) (hlost : r.2 = true)
    (hchannel : r.1.unreadable f.addr = false) : State.settleRead r n f = r.1.modPort n (fun p => p.refetching f) :=
  (if_neg hpass).trans ((if_neg (by simp [hlost])).trans (if_neg (by simp [hchannel])))

/-- Whether a granule's slot has begun does not depend on its content. -/
theorem State.slotBegun_data (s : State) (n : Nat) (f : Fetched) (d : Option Granule) :
    s.slotBegun n { f with data := d } = s.slotBegun n f := rfl

/-- READ_COMPLETE of a port: the read that returns next leaves the bobbin, is recorded, and its granule is settled. -/
theorem readComplete_settles {n : Nat} {s : State} {f : Fetched} (h : (s.port n).bobbin.returning = some f) (v : Severity)
    (late : Bool) :
    Yields (.readComplete n v late) s (fun t => (t.port n).bobbin.flying = (s.port n).bobbin.flying.erase f ∧
      (f.pass = 0 → (t.port n).bobbin.present = (s.port n).bobbin.present ∧
        (t.port n).bobbin.refetch = (s.port n).bobbin.refetch) ∧
      (f.pass ≠ 0 → v ≠ .uncorrectable → s.unreadable f.addr = false → s.slotBegun n f = false →
        (t.port n).bobbin.present = (s.port n).bobbin.present ++ [{ f with data := some (s.readGranule f.addr) }] ∧
        (t.port n).bobbin.refetch = (s.port n).bobbin.refetch) ∧
      (f.pass ≠ 0 → v = .uncorrectable → s.unreadable f.addr = false →
        (t.port n).bobbin.present = (s.port n).bobbin.present ∧
        (t.port n).bobbin.refetch = (s.port n).bobbin.refetch ++ [{ f with issued := false, train := 0 }]) ∧
      (f.pass ≠ 0 → s.unreadable f.addr = true → s.slotBegun n f = false →
        (t.port n).bobbin.present = (s.port n).bobbin.present ++ [{ f with data := none }]) ∧
      s.ShowsRead t n f.addr v late ∧ s.portsBut t [n] ∧
      s.changesOnly t [.free, .regs, .ports, .fabric, .i3cA, .i3cB, .faults]) := by
  have hexec := exec_readComplete h v late
  have hagree := s.arrived_agree n ((s.port n).bobbin.landed f) f.addr v late
  have hports := s.port_arrived n ((s.port n).bobbin.landed f) f.addr v late
  have hlost := s.arrived_snd n ((s.port n).bobbin.landed f) f.addr v late
  have hbegun := s.slotBegun_arrived n ((s.port n).bobbin.landed f) f.addr v late rfl f
  have hshows := s.arrived_showsRead n ((s.port n).bobbin.landed f) f.addr v late
  generalize s.arrived n ((s.port n).bobbin.landed f) f.addr v late = r at *
  have hport := (hports n).trans (if_pos rfl)
  have honly := State.onlyGranule_settleRead r n f
  refine ⟨_, hexec, ?_, fun hpass => ?_, fun hpass hv hchannel hahead => ?_, fun hpass hv hchannel => ?_,
    fun hpass hchannel hahead => ?_, hshows.settled honly, fun m hm => ?_,
    Agree.changesOnly_of_within (A := 2203676) (exec_agree _ _ _ hexec)⟩
  · rw [honly.flying, hport]
    rfl
  · rw [State.settleRead_of_discarded r n hpass, hport]
    exact ⟨rfl, rfl⟩
  · rw [State.settleRead_of_good hpass (by simp [hlost, hv, hchannel]), hagree.readGranule_eq]
    have hdelivered := r.1.deliver_bobbin n { f with data := some (s.readGranule f.addr) }
    rw [State.slotBegun_data, hbegun, hahead, hport] at hdelivered
    exact hdelivered
  · rw [State.settleRead_of_lost hpass (by simp [hlost, hv]) (by rw [hagree.unreadable_eq, hchannel]), State.port_modPort,
      if_pos rfl, hport]
    exact ⟨rfl, rfl⟩
  · rw [State.settleRead_of_unreadable hpass (by simp [hlost, hchannel]) (by rw [hagree.unreadable_eq, hchannel])]
    have hdelivered := r.1.deliver_bobbin n { f with data := none }
    rw [State.slotBegun_data, hbegun, hahead, hport] at hdelivered
    exact hdelivered.1
  · rw [honly.other m (by simpa using hm), hports, if_neg (by simpa using hm)]

/-- The bobbin with its oldest refetch taken from its queue. -/
def Bobbin.refetched (b : Bobbin) (rest : List Fetched) : Bobbin := { b with refetch := rest }

/-- What a refetch that returned delivers: a hold where it is bad, or late for a slot that has not begun. -/
def State.refetchData (r : State × Bool) (n : Nat) (f : Fetched) (late : Bool) : Option Granule :=
  if r.2 = true then none else if late && !r.1.slotBegun n f then none else some (r.1.readGranule f.addr)

theorem exec_refetchComplete {n : Nat} {s : State} {f : Fetched} {rest : List Fetched}
    (h : (s.port n).bobbin.refetch = f :: rest) (v : Severity) (late slow : Bool) :
    exec (.refetchComplete n v late slow) s =
      let r := s.arrived n ((s.port n).bobbin.refetched rest) f.addr v slow
      .next (r.1.deliver n { f with data := State.refetchData r n f late }) := by
  have hexec : exec (.refetchComplete n v late slow) s =
      let r := s.arrived n ((s.port n).bobbin.refetched rest) f.addr v slow
      .next (if r.2 = true then r.1.deliver n { f with data := none }
        else r.1.deliver n { f with
          data := if late && !r.1.slotBegun n f then none else some (r.1.readGranule f.addr) }) := by
    show execRefetchComplete n v late slow s = _
    unfold execRefetchComplete
    dsimp only
    rw [h]
    rfl
  rw [hexec]
  generalize s.arrived n ((s.port n).bobbin.refetched rest) f.addr v slow = r
  unfold State.refetchData
  dsimp only
  split <;> rfl

/-- REFETCH_COMPLETE of a port: its oldest refetch leaves the queue, is recorded, and its granule or a hold is delivered. -/
theorem refetchComplete_delivers {n : Nat} {s : State} {f : Fetched} {rest : List Fetched}
    (h : (s.port n).bobbin.refetch = f :: rest) (v : Severity) (late slow : Bool) :
    Yields (.refetchComplete n v late slow) s (fun t => (t.port n).bobbin.refetch = rest ∧
      (t.port n).bobbin.flying = (s.port n).bobbin.flying ∧
      (s.slotBegun n f = true → (t.port n).bobbin.present = (s.port n).bobbin.present) ∧
      (s.slotBegun n f = false → (t.port n).bobbin.present = (s.port n).bobbin.present ++
        [{ f with data := if v ≠ .uncorrectable ∧ s.unreadable f.addr = false ∧ late = false
                          then some (s.readGranule f.addr) else none }]) ∧
      s.ShowsRead t n f.addr v slow ∧ s.portsBut t [n] ∧
      s.changesOnly t [.free, .regs, .ports, .fabric, .i3cA, .i3cB, .faults]) := by
  have hexec := exec_refetchComplete h v late slow
  have hagree := s.arrived_agree n ((s.port n).bobbin.refetched rest) f.addr v slow
  have hports := s.port_arrived n ((s.port n).bobbin.refetched rest) f.addr v slow
  have hlost := s.arrived_snd n ((s.port n).bobbin.refetched rest) f.addr v slow
  have hbegun := s.slotBegun_arrived n ((s.port n).bobbin.refetched rest) f.addr v slow rfl f
  have hshows := s.arrived_showsRead n ((s.port n).bobbin.refetched rest) f.addr v slow
  generalize s.arrived n ((s.port n).bobbin.refetched rest) f.addr v slow = r at *
  have hport := (hports n).trans (if_pos rfl)
  have honly := State.onlyGranule_deliver n r.1 { f with data := State.refetchData r n f late }
  obtain ⟨hpresent, hrefetch⟩ := r.1.deliver_bobbin n { f with data := State.refetchData r n f late }
  rw [State.slotBegun_data, hbegun, hport] at hpresent
  refine ⟨_, hexec, ?_, ?_, fun hahead => ?_, fun hahead => ?_, hshows.settled honly, fun m hm => ?_,
    Agree.changesOnly_of_within (A := 2203676) (exec_agree _ _ _ hexec)⟩
  · rw [hrefetch, hport]
    rfl
  · rw [honly.flying, hport]
    rfl
  · rw [hpresent, if_pos hahead, List.append_nil]
    rfl
  · have hdata : State.refetchData r n f late = if v ≠ .uncorrectable ∧ s.unreadable f.addr = false ∧ late = false
        then some (s.readGranule f.addr) else none := by
      unfold State.refetchData
      rw [hlost, hbegun, hahead, hagree.readGranule_eq]
      cases late <;> by_cases hv : v = .uncorrectable <;> cases s.unreadable f.addr <;> simp [hv]
    rw [hpresent, hahead, hdata]
    rfl
  · rw [honly.other m (by simpa using hm), hports, if_neg (by simpa using hm)]

/-! ### FETCH_REQUEST (R52, R129, R150) -/

theorem exec_fetchRequest (n : Nat) (s : State) : exec (.fetchRequest n) s = .next (s.requestGranule n) := rfl

/-- Without a place on the default path or without room nothing is requested. -/
theorem State.requestGranule_of_stopped {s : State} {n : Nat}
    (h : (s.port n).bobbin.cursor = none ∨ s.bobbinRoom n = false) :
    s.requestGranule n = s := by
  unfold State.requestGranule
  dsimp only
  split
  · rfl
  · next c hc =>
    rcases h with h | h
    · rw [h] at hc
      cases hc
    · exact if_pos h

/-- The request for the next granule of a segment at a cursor. -/
def Cursor.granuleRequest (c : Cursor) (a : Nat) : Request :=
  { cursor := { c with gran := c.gran + 1 }, entered := none
    item := { pass := c.count, gran := c.gran, addr := a, data := none, issued := false, train := 0 } }

/-- A segment under way, uncached, that suits the port and has data left at the cursor goes on with its next granule. -/
theorem State.nextFetch_of_open {s : State} {n fuel : Nat} {c : Cursor} {w : BitVec 256} (hword : c.word = some w)
    (hcopy : s.copyFor n (s.playedDesc n c.item) = none) (hsuits : descSuits (Config.portType n) (s.port n).mode w = true)
    (hlen : c.gran < descLen w) (hpass : c.gran < s.passLen n c.item) :
    s.nextFetch n (fuel + 1) c = .ok (c.granuleRequest (s.memAddr (dataAddr (Config.portType n) w c.gran))) := by
  have hopen : c.gran < min (descLen w) (s.passLen n c.item) := lt_min hlen hpass
  obtain ⟨entry, item, pass, gran, rows, count, word⟩ := c
  subst hword
  unfold State.nextFetch
  dsimp only at hcopy hopen ⊢
  rw [hcopy]
  simp only [Option.getD_some, Nat.max_zero, hsuits, hopen, Option.isNone_some, Cursor.granuleRequest]
  rfl

/-- A port whose bobbin has taken a request in, its cursor moved. -/
def Port.requesting (p : Port) (realTime : Bool) (size : Nat) (r : Request) : Port :=
  { p with bobbin := { p.bobbin.request realTime size r.item with
    cursor := some r.cursor, ahead := p.bobbin.ahead, crcs := p.bobbin.crcs } }

/-- A granule requested in a segment under way joins the reads in flight when a tag is free. -/
theorem State.requestGranule_of_next {s : State} {n : Nat} {c : Cursor} {r : Request}
    (hcursor : (s.port n).bobbin.cursor = some c) (hroom : s.bobbinRoom n = true)
    (hnext : s.nextFetch n fetchReach c = .ok r) (hentered : r.entered = none) :
    s.requestGranule n = if s.tagFree n r.item.addr = false then s else
      (s.setPort n ((s.port n).requesting (!s.bestEffort n) (Config.memoryBytes s.part) r)).notePeak s.lowReading := by
  unfold State.requestGranule
  dsimp only
  rw [hcursor]
  dsimp only
  rw [if_neg (by simp [hroom]), hnext]
  dsimp only
  rw [hentered]
  rfl

/-- A request joins the reads in flight, in a burst train exactly where the port reads in real time (R129). -/
theorem Bobbin.flying_request (b : Bobbin) (realTime : Bool) (size : Nat) {f : Fetched} (hf : f.train = 0) :
    ∃ train, (b.request realTime size f).flying = b.flying ++ [{ f with train := train }] ∧
      (realTime = false ↔ train = 0) := by
  unfold Bobbin.request
  extract_lets joins
  cases hreal : realTime
  · exact ⟨0, by simp [← hf], by simp⟩
  · cases hjoins : joins
    · exact ⟨b.trains + 1, rfl, by simp⟩
    · refine ⟨b.trains, rfl, ?_⟩
      have htrains : b.trains ≠ 0 := by
        intro hzero
        unfold joins at hjoins
        split at hjoins
        · simp [hzero] at hjoins
        · cases hjoins
      simp [htrains]

/-- The note of the tags held changes no port. -/
theorem State.port_notePeak_setPort (s : State) (n m : Nat) (p : Port) (low : Bool) :
    ((s.setPort n p).notePeak low).port m = if m = n then p else s.port m :=
  ((State.notePeak_agree _ low).port_eq (by decide) m).trans (State.port_setPort s n m p)

/-- FETCH_REQUEST in a segment under way, with a tag free: its next granule is in flight. -/
theorem fetchRequest_flies {n : Nat} {s : State} {c : Cursor} {r : Request} (hcursor : (s.port n).bobbin.cursor = some c)
    (hroom : s.bobbinRoom n = true) (hnext : s.nextFetch n fetchReach c = .ok r) (hentered : r.entered = none)
    (htrain : r.item.train = 0) (htag : s.tagFree n r.item.addr = true) :
    Yields (.fetchRequest n) s (fun t =>
      (∃ train, (t.port n).bobbin.flying = (s.port n).bobbin.flying ++ [{ r.item with train := train }] ∧
        (s.bestEffort n = true ↔ train = 0)) ∧
      (t.port n).bobbin.cursor = some r.cursor ∧ s.portsBut t [n] ∧ s.regsBut t [regAddr Page.stream 0x44] ∧
      s.changesOnly t [.regs, .ports]) := by
  have hrequest := State.requestGranule_of_next hcursor hroom hnext hentered
  rw [if_neg (by simp [htag])] at hrequest
  have hexec : exec (.fetchRequest n) s = .next _ := (exec_fetchRequest n s).trans (congrArg Host.Outcome.next hrequest)
  refine ⟨_, hexec, ?_, ?_, fun m hm => ?_, fun a ha => ?_,
    Agree.changesOnly_of_within (A := 24) (exec_agree _ _ _ hexec)⟩
  · rw [State.port_notePeak_setPort, if_pos rfl]
    obtain ⟨train, hflying, hreal⟩ :=
      (s.port n).bobbin.flying_request (!s.bestEffort n) (Config.memoryBytes s.part) htrain
    exact ⟨train, hflying, by simpa using hreal⟩
  · rw [State.port_notePeak_setPort, if_pos rfl]
    rfl
  · rw [State.port_notePeak_setPort, if_neg (by simpa using hm)]
  · exact (State.reg_setReg _ _ _ _).trans (if_neg (by simpa using ha))

/-- Settles O39: a request in a segment under way, a read that returns, a refetch that returns. -/
theorem readsReachTheBobbin : Obligations.ReadsReachTheBobbin := by
  intro n s _
  refine ⟨fun hstopped => ?_, fun c w hcursor hword hroom hcopy hsuits hlen hpass => ?_, fun f v late hreturning => ?_,
    fun f rest v late slow hrefetch => ?_⟩
  · rw [exec_fetchRequest, State.requestGranule_of_stopped hstopped]
  · have hnext := State.nextFetch_of_open (fuel := 4095) hword hcopy hsuits hlen hpass
    refine ⟨fun htag => ?_, fun htag => fetchRequest_flies hcursor hroom hnext rfl rfl htag⟩
    rw [exec_fetchRequest, State.requestGranule_of_next hcursor hroom hnext rfl]
    exact congrArg Host.Outcome.next (if_pos htag)
  · obtain ⟨t, hexec, hflying, hdiscarded, hgood, hlost, hunreadable, hshows, hports, hareas⟩ :=
      readComplete_settles hreturning v late
    exact ⟨t, hexec, hflying, hdiscarded, hgood, hlost, hunreadable, fun h => (hshows.uncorrectable h).symm,
      fun hv h => (hshows.corrected hv h).symm, hshows.late, hports, hareas⟩
  · obtain ⟨t, hexec, hqueue, hflying, hbegun, hahead, hshows, hports, hareas⟩ :=
      refetchComplete_delivers hrefetch v late slow
    exact ⟨t, hexec, hqueue, hflying, hbegun, hahead, fun h => (hshows.uncorrectable h).1,
      fun hv h => (hshows.corrected hv h).symm, hports, hareas⟩

end Machine
end Sys2Proof
end

section
/-! PROOFS. The posted-write drain: its statement fails of a memory that is in no canonical form (O8), and what the drain
stores in a canonical one, as every step keeps it (O5). -/

namespace Sys2Proof
namespace Machine

/-! ### A memory in no canonical form -/

/-- A memory in no canonical form, which lists the byte at address 0 twice, and a posted write of a zero to it. -/
def listedTwice : State :=
  { State.reset with
    wave := [(0, 1), (0, 1)]
    bulk := { State.reset.bulk with buffer := [{ addr := 0, bytes := [0], windows := [] }] } }

/-- Refutes O8: in a memory that lists address 0 twice, the drain of a zero removes the first entry alone, and the byte
reads as the second, 1. The statement lacks the hypothesis that the memory is canonical, which every step keeps (O5). -/
theorem not_postedWriteDrainStoresOneGranule : ¬ Obligations.PostedWriteDrainStoresOneGranule := by
  rintro ⟨-, -, hdrain⟩
  obtain ⟨t, hexec, -, -, hsupplied, -⟩ := hdrain false listedTwice _ [] rfl (by decide) (by decide)
  have hzero : t.readByte 0 = 0 := hsupplied (by decide) 0 0 rfl
  rw [← Host.Outcome.next.inj hexec] at hzero
  exact absurd hzero (by decide)

/-! ### Bytes read after bytes written (R20, R40) -/

theorem State.readByte_writeByte {s : State} (h : s.memoryCanonical) (a c : Nat) (b : Byte) :
    (s.writeByte a b).readByte c = if s.memAddr c = s.memAddr a then b else s.readByte c := by
  show Memory.read (Memory.write s.wave (s.memAddr a) b) (s.memAddr c) = _
  split
  · next hc => rw [hc, Memory.read_write_same _ _ _ h]
  · next hc => exact Memory.read_write_other _ _ _ _ hc

/-- A run of bytes that fits below the end of fitted memory, read back: the bytes written, elsewhere what was there. -/
theorem State.readByte_writeBytes {s : State} (h : s.memoryCanonical) {a : Nat} {l : List Byte}
    (hfit : a + l.length ≤ Config.memoryBytes s.part) (c : Nat) :
    (s.writeBytes a l).readByte c =
      if a ≤ s.memAddr c then l[s.memAddr c - a]?.getD (s.readByte c) else s.readByte c := by
  induction l generalizing s a with
  | nil => simp [State.writeBytes]
  | cons b l ih =>
    rw [List.length_cons] at hfit
    have ha : s.memAddr a = a := Nat.mod_eq_of_lt (by omega)
    have hrest := ih (s := s.writeByte a b) (a := a + 1) (State.writeByte_kept s a b h)
      (by show a + 1 + l.length ≤ Config.memoryBytes s.part; omega)
    rw [State.readByte_writeByte h, ha, show (s.writeByte a b).memAddr c = s.memAddr c from rfl] at hrest
    rw [State.writeBytes, hrest]
    rcases lt_trichotomy (s.memAddr c) a with hlt | heq | hgt
    · rw [if_neg (by omega), if_neg (by omega), if_neg (by omega)]
    · rw [if_neg (by omega), if_pos heq, if_pos (by omega), heq, Nat.sub_self]
      rfl
    · obtain ⟨k, hk⟩ : ∃ k, s.memAddr c = a + 1 + k := ⟨s.memAddr c - (a + 1), by omega⟩
      rw [if_pos (by omega), if_neg (by omega), if_pos (by omega), show s.memAddr c - a = k + 1 by omega,
        show s.memAddr c - (a + 1) = k by omega, List.getElem?_cons_succ]

/-- Fitted memory is whole granules. -/
theorem Config.memoryBytes_granules (v : Variant) : Config.memoryBytes v % 64 = 0 ∧ 0 < Config.memoryBytes v := by
  cases v <;> decide

/-- A granule lies below the end of fitted memory. -/
theorem State.granule_fits (s : State) (a : Nat) : s.memAddr a / 64 * 64 + 64 ≤ Config.memoryBytes s.part := by
  obtain ⟨hwhole, hsome⟩ := Config.memoryBytes_granules s.part
  have hlt : s.memAddr a < Config.memoryBytes s.part := Nat.mod_lt _ hsome
  omega

theorem State.memAddr_mod_granule (s : State) (a : Nat) : s.memAddr a % 64 = a % 64 :=
  Nat.mod_mod_of_dvd a (Nat.dvd_of_mod_eq_zero (Config.memoryBytes_granules s.part).1)

/-- Within a granule addresses do not wrap. -/
theorem State.memAddr_add {s : State} {a i : Nat} (h : i < 64 - a % 64) : s.memAddr (a + i) = s.memAddr a + i := by
  have hfits := s.granule_fits a
  have hoffset := s.memAddr_mod_granule a
  have hlt : s.memAddr a + i < Config.memoryBytes s.part := by omega
  unfold State.memAddr at hlt ⊢
  rw [← Nat.mod_add_mod, Nat.mod_eq_of_lt hlt]

/-! ### One granule written (R20, R139, R144) -/

/-- A granule of a failed pseudo-channel: a write to it is lost (R139). -/
def State.channelFailed (s : State) (base : Nat) : Bool :=
  (s.stack (s.pseudo base / 32)).failed.contains (s.pseudo base % 32)

/-- The old content of a granule is lost when a write in part cannot read it (R144). -/
def State.losesOld (s : State) (base : Nat) (bytes : List Byte) (bad : Bool) : Bool :=
  decide (bytes.length < 64) && (bad || s.unreadable base)

/-- The state before a granule's bytes are stored: zeros in it where its old content is lost. -/
def State.prepared (s : State) (base : Nat) (lost : Bool) : State :=
  if lost then (s.eccUncorr base).writeBytes base (List.replicate 64 0) else s

theorem State.prepared_kept (s : State) (base : Nat) (lost : Bool) : Kept s (s.prepared base lost) := by
  unfold State.prepared
  split
  · exact ((Kept.refl s).stepA (State.eccUncorr_agree s base) rfl).step (State.writeBytes_kept _ _ _)
  · exact Kept.refl s

theorem State.prepared_agree (s : State) (base : Nat) (lost : Bool) : Agree 98824 s (s.prepared base lost) := by
  unfold State.prepared
  split
  · exact ((Agree.refl _ s).step (State.eccUncorr_agree s base) rfl).step (State.writeBytes_agree _ _ _) rfl
  · exact Agree.refl _ s

theorem State.readByte_prepared {s : State} (hs : s.memoryCanonical) (a : Nat) (lost : Bool) (c : Nat) :
    (s.prepared (s.granuleAt a) lost).readByte c =
      if lost = true ∧ s.granuleAt c = s.granuleAt a then 0 else s.readByte c := by
  unfold State.prepared
  cases lost
  · simp
  · have hecc : Agree 98312 s (s.eccUncorr (s.granuleAt a)) := State.eccUncorr_agree _ _
    have hfits := s.granule_fits a
    have hzeros := State.readByte_writeBytes (s := s.eccUncorr (s.granuleAt a)) (a := s.granuleAt a)
      (l := List.replicate 64 0) ((Kept.refl s).stepA hecc rfl hs)
      (by rw [List.length_replicate, hecc.part rfl]; exact hfits) c
    rw [hecc.memAddr_eq rfl, hecc.readByte_eq rfl rfl] at hzeros
    rw [if_pos rfl, hzeros]
    unfold State.granuleAt
    by_cases hin : s.memAddr c / 64 * 64 = s.memAddr a / 64 * 64
    · rw [if_pos (by omega), if_pos ⟨rfl, hin⟩, List.getElem?_replicate, if_pos (by omega)]
      rfl
    · rw [if_neg (show ¬ (true = true ∧ s.memAddr c / 64 * 64 = s.memAddr a / 64 * 64) from fun h => hin h.2)]
      split
      · rw [List.getElem?_replicate, if_neg (by omega)]
        rfl
      · rfl

theorem State.writeGranule_of_failed {s : State} {a : Nat} (h : s.channelFailed (s.granuleAt a) = true) (bytes : List Byte)
    (bad : Bool) : s.writeGranule a bytes bad = s := if_pos h

/-- A byte after one granule was written: as supplied from its address on, elsewhere as it was prepared. -/
theorem State.readByte_writeGranule {s : State} (hs : s.memoryCanonical) {a : Nat} {bytes : List Byte} (bad : Bool)
    (h : s.channelFailed (s.granuleAt a) = false) (hlen : bytes.length ≤ 64 - a % 64) (c : Nat) :
    (s.writeGranule a bytes bad).readByte c =
      if s.memAddr a ≤ s.memAddr c then bytes[s.memAddr c - s.memAddr a]?.getD
        ((s.prepared (s.granuleAt a) (s.losesOld (s.granuleAt a) bytes bad)).readByte c)
      else (s.prepared (s.granuleAt a) (s.losesOld (s.granuleAt a) bytes bad)).readByte c := by
  have hprepared := s.prepared_agree (s.granuleAt a) (s.losesOld (s.granuleAt a) bytes bad)
  have hfits := s.granule_fits a
  have hoffset := s.memAddr_mod_granule a
  have hstored := State.readByte_writeBytes (a := s.memAddr a) (l := bytes)
    (s.prepared_kept (s.granuleAt a) (s.losesOld (s.granuleAt a) bytes bad) hs) (by rw [hprepared.part rfl]; omega) c
  rw [hprepared.memAddr_eq rfl] at hstored
  have hwritten : (s.writeGranule a bytes bad).readByte c =
      ((s.prepared (s.granuleAt a) (s.losesOld (s.granuleAt a) bytes bad)).writeBytes (s.memAddr a) bytes).readByte c := by
    unfold State.writeGranule
    exact (congrArg (State.readByte · c) (if_neg (by rw [← Bool.not_eq_true] at h; exact h))).trans rfl
  rw [hwritten, hstored]

/-- One granule written in a memory of canonical form: each byte supplied reads as supplied, the granule's others as
before or as zero, those outside it as before. -/
theorem State.writeGranule_stores {s : State} (hs : s.memoryCanonical) {a : Nat} {bytes : List Byte} (bad : Bool)
    (h : s.channelFailed (s.granuleAt a) = false) (hlen : bytes.length ≤ 64 - a % 64) :
    (∀ c, s.granuleAt c ≠ s.granuleAt a → (s.writeGranule a bytes bad).readByte c = s.readByte c) ∧
      (∀ i b, bytes[i]? = some b → (s.writeGranule a bytes bad).readByte (a + i) = b) ∧
      ∀ c, s.granuleAt c = s.granuleAt a → (∀ i, i < bytes.length → s.memAddr c ≠ s.memAddr (a + i)) →
        (s.writeGranule a bytes bad).readByte c =
          if s.losesOld (s.granuleAt a) bytes bad = true then 0 else s.readByte c := by
  have hread := State.readByte_writeGranule hs bad h hlen
  have hold := State.readByte_prepared hs a (s.losesOld (s.granuleAt a) bytes bad)
  have hoffset := s.memAddr_mod_granule a
  have hadd {i : Nat} (hi : i < bytes.length) : s.memAddr (a + i) = s.memAddr a + i := State.memAddr_add (by omega)
  refine ⟨fun c hc => ?_, fun i b hb => ?_, fun c hc hother => ?_⟩
  · rw [hread, (hold c).trans (if_neg fun hlost => hc hlost.2)]
    split
    · next hle =>
      have hbeyond : bytes.length ≤ s.memAddr c - s.memAddr a := by unfold State.granuleAt at hc; omega
      rw [List.getElem?_eq_none hbeyond]
      rfl
    · rfl
  · obtain ⟨hi, -⟩ := List.getElem?_eq_some_iff.mp hb
    rw [hread, hadd hi, if_pos (Nat.le_add_right _ _), Nat.add_sub_cancel_left, hb]
    rfl
  · have hunsupplied : s.memAddr a ≤ s.memAddr c → bytes[s.memAddr c - s.memAddr a]? = none := by
      intro hle
      refine List.getElem?_eq_none (Nat.le_of_not_lt fun hlt => hother _ hlt ?_)
      rw [hadd hlt]
      omega
    have hprepared : (s.writeGranule a bytes bad).readByte c =
        (s.prepared (s.granuleAt a) (s.losesOld (s.granuleAt a) bytes bad)).readByte c := by
      rw [hread]
      split
      · next hle => rw [hunsupplied hle]; rfl
      · rfl
    rw [hprepared, hold]
    simp only [hc, and_true]

/-- What the oldest buffered write has left stays at the front of the buffer. -/
def State.shifted (s : State) (w : Posted) (rest : List Posted) : State :=
  { s with bulk := { s.bulk with
    buffer := if (w.bytes.drop (64 - w.addr % 64)).isEmpty then rest
      else { w with addr := w.addr + (64 - w.addr % 64), bytes := w.bytes.drop (64 - w.addr % 64) } :: rest } }

/-- A drain whose pseudo-channel no read waits on writes the next granule of the oldest buffered write. -/
theorem exec_postedWriteDrain {s : State} {w : Posted} {rest : List Posted} (hbuffer : s.bulk.buffer = w :: rest)
    (hfree : s.channelBusy w.addr = false) (bad : Bool) :
    exec (.postedWriteDrain bad) s =
      .next ((s.shifted w rest).writeGranule w.addr (w.bytes.take (64 - w.addr % 64)) bad) := by
  show execPostedWriteDrain bad s = _
  unfold execPostedWriteDrain
  rw [hbuffer]
  exact congrArg Host.Outcome.next (if_neg (by simp [hfree]))

/-- What O8 says of the bytes holds in a memory of canonical form. -/
theorem postedWriteDrain_stores_of_canonical {s : State} (hs : s.memoryCanonical) {w : Posted} {rest : List Posted}
    (hbuffer : s.bulk.buffer = w :: rest) (hfree : s.channelBusy w.addr = false) (bad : Bool) :
    let data := w.bytes.take (64 - w.addr % 64)
    Yields (.postedWriteDrain bad) s (fun t =>
      (s.channelFailed (s.granuleAt w.addr) = true → ∀ a, t.readByte a = s.readByte a) ∧
      (s.channelFailed (s.granuleAt w.addr) = false →
        (∀ a, s.granuleAt a ≠ s.granuleAt w.addr → t.readByte a = s.readByte a) ∧
        (∀ i b, data[i]? = some b → t.readByte (w.addr + i) = b) ∧
        ∀ a, s.granuleAt a = s.granuleAt w.addr → (∀ i, i < data.length → s.memAddr a ≠ s.memAddr (w.addr + i)) →
          t.readByte a = if s.losesOld (s.granuleAt w.addr) data bad = true then 0 else s.readByte a)) := by
  intro data
  have hlen : data.length ≤ 64 - w.addr % 64 := List.length_take_le _ _
  refine ⟨_, exec_postedWriteDrain hbuffer hfree bad, fun hfailed a => ?_, fun hgood => ?_⟩
  · rw [State.writeGranule_of_failed (s := s.shifted w rest) hfailed]
    rfl
  · exact State.writeGranule_stores (s := s.shifted w rest) hs bad hgood hlen

end Machine
end Sys2Proof
end

section
/-! PROOFS. The front of the queue (O1), the values after reset (O6), commands out of their moment (O24) and the commit
point (O25). -/

namespace Sys2Proof
namespace Machine

/-! ### A step with a command waiting -/

/-- Settles O1. -/
theorem stepRunsFrontCommand : Obligations.StepRunsFrontCommand := by
  intro c rest s h
  unfold step
  rw [h]

/-! ### Reset (R422, R430) -/

/-- The spec's non-zero reset words that the statement lists, on every variant. -/
theorem resetWord_listed (v : Variant) :
    resetWord v (regAddr Page.event 0x44) = 0xffff ∧ resetWord v (regAddr Page.owner 0x50) = 2000 ∧
      resetWord v (regAddr Page.health 0x48) = 250 ∧ resetWord v (regAddr Page.health 0x50) = 1 ∧
      resetWord v (regAddr Page.clock 0x48) = 0x780 ∧ resetWord v (regAddr Page.clock 0x50) = 1 ∧
      resetWord v (regAddr Page.clock 0x58) = 3 ∧ resetWord v (regAddr Page.cal 0x44) = 0x6405e384 ∧
      resetWord v (regAddr Page.cal 0x68) = 0x14 ∧ resetWord v (regAddr Page.cart 0x60) = 0x00c35000 ∧
      resetWord v (regAddr Page.wmon 0x340) = 0xc8 ∧
      (Config.twinLink v = true → resetWord v (regAddr Page.twin 0x4c) = 0x11) := by
  cases v <;> decide

/-- Settles O6: the units as reset sets them, and the reset words of the listed registers. -/
theorem resetLeavesTheStatedValues : Obligations.ResetLeavesTheStatedValues :=
  fun v => ⟨rfl, fun _ => rfl, rfl, rfl, rfl, rfl, rfl, fun _ => rfl, resetWord_listed v⟩

/-! ### A moment that has not come (R61) -/

theorem State.whenMoment_of_ne {s : State} {u : SeqUnit} {m : Moment} (h : s.moment u ≠ m) (t : State) :
    s.whenMoment u m t = s := if_neg h

theorem State.whenMoment_of_eq {s : State} {u : SeqUnit} {m : Moment} (h : s.moment u = m) (t : State) :
    s.whenMoment u m t = t := if_pos h

/-- An ordinary boundary and the entry into SAFE are the moments of SLOT_BOUNDARY. -/
theorem exec_slotBoundary_of_other {s : State} {u : SeqUnit} (hordinary : s.moment u ≠ .ordinary)
    (hsafe : s.moment u ≠ .safe) (errs : SlotErrors) : exec (.slotBoundary u errs) s = .next s := by
  show execSlotBoundary u errs s = _
  unfold execSlotBoundary
  split
  · next h => exact absurd h hordinary
  · next h => exact absurd h hsafe
  · rfl

/-- Settles O24: every boundary command looks at the moment first. -/
theorem commandsOutOfTheirMomentDoNothing : Obligations.CommandsOutOfTheirMomentDoNothing := by
  intro u errs s
  have stays {v : SeqUnit} {m : Moment} (h : s.moment v ≠ m) (t : State) :
      Host.Outcome.next (φ := Fault) (ρ := Refusal) (s.whenMoment v m t) = .next s :=
    congrArg Host.Outcome.next (State.whenMoment_of_ne h t)
  exact ⟨fun _ h => stays h _, fun h => stays h _, fun h => stays h _, fun h => stays h _, fun h => stays h _,
    fun h => stays h _, fun h => stays h _, fun h => stays h _, fun h => stays h _, fun h => stays h _,
    fun h => stays h _, fun hordinary hsafe => exec_slotBoundary_of_other hordinary hsafe errs, fun _ h => stays h _,
    fun _ h => stays h _⟩

/-! ### The commit point (R47, R48) -/

theorem exec_commitPoint_of_moment {s : State} {u : SeqUnit} (h : s.moment u = .commit) (bad : List Nat) :
    exec (.commitPoint u bad) s = .next (s.commitNow u bad) :=
  congrArg Host.Outcome.next (State.whenMoment_of_eq h _)

/-- The playhead after the commit point. -/
def Playhead.committed (ph : Playhead) (r : Plan × Vector (BitVec 16) 4) : Playhead :=
  { ph with plan := some r.1, rows := r.2, cand := 0, pend := 0 }

theorem State.commitNow_eq (s : State) (u : SeqUnit) (bad : List Nat) :
    s.commitNow u bad = (s.setPlayhead u ((s.playhead u).committed (commitPlan s bad (s.playhead u)))).chainFault u
      (commitPlan s bad (s.playhead u)).1 := rfl

/-- A playhead replaced is the unit's; every other unit's stays, as do states and slots. -/
theorem State.setPlayhead_units (s : State) (u v : SeqUnit) (ph : Playhead) :
    (s.setPlayhead u ph).playhead v = (if v = u then ph else s.playhead v) ∧
      (s.setPlayhead u ph).unitState v = s.unitState v ∧ (s.setPlayhead u ph).unitSlot v = s.unitSlot v := by
  have hport {n m : Nat} : (s.setPlayhead (.port n) ph).port m =
      if m = n then { s.port n with play := ph } else s.port m := State.port_modPort _ _ _ _
  have hgroup {g h : Nat} : (s.setPlayhead (.group g) ph).group h =
      if h = g then { s.group g with play := ph } else s.group h := State.group_modGroup _ _ _ _
  cases u with
  | port n =>
    cases v with
    | port m =>
      simp only [State.playhead, State.unitState, State.unitSlot, hport, SeqUnit.port.injEq]
      split
      · next h => subst h; exact ⟨rfl, rfl, rfl⟩
      · exact ⟨rfl, rfl, rfl⟩
    | group g => exact ⟨rfl, rfl, rfl⟩
  | group g =>
    cases v with
    | port m => exact ⟨rfl, rfl, rfl⟩
    | group h =>
      simp only [State.playhead, State.unitState, State.unitSlot, hgroup, SeqUnit.group.injEq]
      split
      · next h => subst h; exact ⟨rfl, rfl, rfl⟩
      · exact ⟨rfl, rfl, rfl⟩

/-- Units are where they were when ports, groups and the variant are. -/
theorem Agree.units_eq {A : Nat} {s t : State} (h : Agree A s t) (v : SeqUnit) (hpart : A.testBit 0 = false := by decide)
    (hports : A.testBit 4 = false := by decide) (hgroups : A.testBit 5 = false := by decide) :
    t.playhead v = s.playhead v ∧ t.unitState v = s.unitState v ∧ t.unitSlot v = s.unitSlot v := by
  cases v with
  | port n => simp only [State.playhead, State.unitState, State.unitSlot, h.port_eq hpart n hports, and_self]
  | group g => simp only [State.playhead, State.unitState, State.unitSlot, h.group_eq g hgroups, and_self]

/-- The commit point replaces the playhead of its unit; no state, no slot and no other playhead moves. -/
theorem State.commitNow_units (s : State) (u v : SeqUnit) (bad : List Nat) :
    (s.commitNow u bad).playhead v =
        (if v = u then (s.playhead u).committed (commitPlan s bad (s.playhead u)) else s.playhead v) ∧
      (s.commitNow u bad).unitState v = s.unitState v ∧ (s.commitNow u bad).unitSlot v = s.unitSlot v := by
  obtain ⟨hplay, hstate, hslot⟩ :=
    s.setPlayhead_units u v ((s.playhead u).committed (commitPlan s bad (s.playhead u)))
  obtain ⟨hplay', hstate', hslot'⟩ :=
    (State.chainFault_agree (s.setPlayhead u ((s.playhead u).committed (commitPlan s bad (s.playhead u)))) u
      (commitPlan s bad (s.playhead u)).1).units_eq v
  rw [State.commitNow_eq]
  exact ⟨hplay'.trans hplay, hstate'.trans hstate, hslot'.trans hslot⟩

/-- Without a winner, a pass that is not the last is followed by the next of its entry (R48). -/
theorem commitPlan_of_more {s : State} {bad : List Nat} {ph : Playhead} (hnone : winner ph.word (ph.cand ||| ph.pend) = none)
    (hmore : ph.pass < playRepeat ph.word) :
    (commitPlan s bad ph).1.follow = .play ph.entry (ph.pass + 1) ph.word ∧ (commitPlan s bad ph).2 = ph.rows := by
  unfold commitPlan
  dsimp only
  rw [hnone, if_pos (by simpa using hmore)]
  exact ⟨rfl, rfl⟩

/-- With a winner, what its jump resolves to follows (R48, R57, R59). -/
theorem commitPlan_of_winner {s : State} {bad : List Nat} {ph : Playhead} {j : Nat}
    (hj : winner ph.word (ph.cand ||| ph.pend) = some j) :
    (commitPlan s bad ph).1.follow =
      (resolveFrom s bad (jumpTarget (jumpWord ph.word j)) (clearRows ph.rows (jumpClr (jumpWord ph.word j)))).1.follow := by
  unfold commitPlan
  dsimp only
  rw [hj]

/-- Settles O25: the playhead that the commit point leaves, and the plan by the cases of R48. -/
theorem commitPointFixesWhatFollows : Obligations.CommitPointFixesWhatFollows := by
  intro u bad s hmoment
  have hexec := exec_commitPoint_of_moment hmoment bad
  have hplay : (s.commitNow u bad).playhead u = (s.playhead u).committed (commitPlan s bad (s.playhead u)) :=
    (s.commitNow_units u u bad).1.trans (if_pos rfl)
  refine ⟨_, hexec, ?_⟩
  beta_reduce
  rw [hplay]
  refine ⟨rfl, rfl, rfl, rfl, rfl, rfl, rfl, (s.commitNow_units u u bad).2.2, fun v hv => ?_, fun hnone hmore => ?_,
    fun j hj => ?_, (State.commitNow_agree s u bad).changesOnly_of_within⟩
  · obtain ⟨hother, hstate, -⟩ := s.commitNow_units u v bad
    exact ⟨hother.trans (if_neg hv), hstate⟩
  · obtain ⟨hfollow, hrows⟩ := commitPlan_of_more (s := s) (bad := bad) hnone hmore
    exact ⟨congrArg some hfollow, hrows⟩
  · exact congrArg some (commitPlan_of_winner hj)

end Machine
end Sys2Proof
end

section
/-! PROOFS. The statement about PAUSE, STOP and trips fails of a frozen output (O28). -/

namespace Sys2Proof
namespace Machine

/-- An F-port in RUN with a STOP due, in an entry whose end actions set marker 0; its output is frozen as by a
LEGACY_HOLD pass (R310), though no swatch runs that a STOP would abort. -/
def frozenStop : State :=
  State.reset.setPort 64 { State.reset.port 64 with
    state := .run, requested := .run, power := .on, stale := true
    play := { Playhead.idle with
      activity := .segment, word := BitVec.ofNat 256 (2 ^ 80), pass := 1, gran := 3, len := 40, begun := true
      latches := [{ due := 1, what := .stop, hop := 0 }] } }

theorem frozenStop_walksAlone : frozenStop.walksAlone 64 := by
  unfold State.walksAlone
  decide

/-- Refutes O28: a frozen output holds its sample through the STOP, so that the slot shows no park output and the end
actions of the entry leave marker 0 set where the statement has MS clear. -/
theorem not_pauseStopAndTripPark : ¬ Obligations.PauseStopAndTripPark := by
  rintro ⟨hport, -⟩
  obtain ⟨-, hparks⟩ := hport 64 SlotErrors.none frozenStop frozenStop_walksAlone
  obtain ⟨t, hexec, -, -, -, -, -, -, hmarkers, -⟩ := hparks _ (Or.inl ⟨rfl, by decide⟩)
  rw [← Host.Outcome.next.inj hexec] at hmarkers
  exact absurd hmarkers (by decide)

end Machine
end Sys2Proof
end

section
/-! PROOFS. Reads through an I3C port: the word shown, the partners captured, the information window (O22). -/

namespace Sys2Proof
namespace Machine

/-! ### An I3C port's state replaced -/

@[simp] theorem State.i3c_modI3c_same (s : State) (p : I3cPort) (f : I3c → I3c) : (s.modI3c p f).i3c p = f (s.i3c p) :=
  State.i3c_setI3c_same s p _

/-- Only the I3C ports are kept in the fields of the I3C ports. -/
theorem Agree.i3c_eq {A : Nat} {s t : State} (h : Agree A s t) (p : I3cPort) (ha : A.testBit 15 = false := by decide)
    (hb : A.testBit 16 = false := by decide) : t.i3c p = s.i3c p := by
  cases p
  · exact h.i3cA ha
  · exact h.i3cB hb

/-! ### Captures (R440) -/

/-- The captures of a port as a table that gives none for what is not captured. -/
theorem I3c.captured_eq_get (x : I3c) (a : Nat) :
    x.captured a = Tab.get (fun _ => none) (x.captures.map (fun e => (e.1, some e.2))) a := by
  unfold I3c.captured
  induction x.captures with
  | nil => rfl
  | cons e l ih =>
    by_cases he : e.1 = a
    · rw [List.find?_cons_of_pos (by simpa using he), List.map_cons, Tab.get, if_pos he]
      rfl
    · rw [List.find?_cons_of_neg (by simpa using he), List.map_cons, Tab.get, if_neg he, ih]

/-- A register captured anew; the other captures stay. -/
theorem I3c.captured_set (x : I3c) (b : Nat) (w : Word) (a : Nat) :
    ({ x with captures := x.captures.set b w } : I3c).captured a = if a = b then some w else x.captured a := by
  have hset : (x.captures.set b w).map (fun e => (e.1, some e.2)) =
      (Tab.set (x.captures.map (fun e => (e.1, some e.2))) b (some w) : Tab (Option Word)) := by
    simp [Tab.set, List.filter_map, Function.comp_def]
  rw [I3c.captured_eq_get, I3c.captured_eq_get]
  dsimp only
  rw [hset, Tab.get_set]

/-- Registers captured in turn, each with a word that goes with its address. -/
theorem State.captured_foldl_capture (p : I3cPort) (f : Nat → Nat) (v : Nat → Word) (l : List Nat) (t : State) (a : Nat) :
    ((l.foldl (fun t off => t.modI3c p (fun x => { x with captures := x.captures.set (f off) (v (f off)) })) t).i3c p).captured a =
      if a ∈ l.map f then some (v a) else (t.i3c p).captured a := by
  induction l generalizing t with
  | nil => simp
  | cons off l ih =>
    rw [List.foldl_cons, ih, State.i3c_modI3c_same, I3c.captured_set]
    by_cases hl : a ∈ l.map f <;> by_cases hoff : a = f off <;> simp_all

/-- What a read captures (R440): its partners' live words; the other captures stay. -/
theorem State.captured_captureFor (s : State) (p : I3cPort) (owner : Bool) (a b : Nat) :
    ((s.captureFor p owner a).i3c p).captured b =
      if b ∈ (captureTargets (pageOf a) (offOf a)).map (regAddr (pageOf a)) then some (s.liveReg owner b)
      else (s.i3c p).captured b :=
  State.captured_foldl_capture p (regAddr (pageOf a)) (s.liveReg owner) _ s b

/-! ### Reads of registers (R90, R120, R440) -/

/-- A read of a register that was captured shows the captured word and leaves everything else. -/
theorem State.readShown_of_captured {s : State} {p : I3cPort} {a : Nat} {w : Word} (htables : pageOf a ≠ Page.tables)
    (hinfo : a ≠ regAddr Page.cart 0x74) (howner : ownersOnly a = false) (hcaptured : (s.i3c p).captured a = some w) :
    s.readShown p a = s.modI3c p (fun x => { x with lastRead := w }) := by
  unfold State.readShown State.readReg
  rw [if_neg (fun h => htables h.1), if_neg hinfo, hcaptured]
  dsimp only
  rw [howner]
  rfl

/-- What a read of a register notes beside its captures: TAGS_IN_FLIGHT the peak. -/
def State.noteRead (s : State) (a : Nat) : State :=
  if a = regAddr Page.stream 0x40 then s.notePeak s.lowReading else s

theorem State.noteRead_of_ne {a : Nat} (h : a ≠ regAddr Page.stream 0x40) (s : State) : s.noteRead a = s := if_neg h

theorem State.noteRead_agree (s : State) (a : Nat) : Agree 8 s (s.noteRead a) := by
  unfold State.noteRead
  split
  · exact State.notePeak_agree _ _
  · exact Agree.refl _ s

/-- A read of a register that was not captured shows its live word and captures its partners. -/
theorem State.readShown_of_uncaptured {s : State} {p : I3cPort} {a : Nat} (htables : pageOf a ≠ Page.tables)
    (hinfo : a ≠ regAddr Page.cart 0x74) (hcaptured : (s.i3c p).captured a = none) :
    s.readShown p a =
      ((s.noteRead a).captureFor p false a).spend.modI3c p (fun x => { x with lastRead := s.uncaptured false a }) := by
  unfold State.readShown State.readReg
  rw [if_neg (fun h => htables h.1), if_neg hinfo, hcaptured]
  rfl

/-- TAGS_IN_FLIGHT captures nothing. -/
theorem captureTargets_tagsInFlight :
    captureTargets (pageOf (regAddr Page.stream 0x40)) (offOf (regAddr Page.stream 0x40)) = [] := by decide

/-- What the read of a register that was not captured leaves: the word shown, the partners' live words captured, the
registers as they were but for the peak. -/
theorem State.readShown_captures {s : State} {p : I3cPort} {a : Nat} (htables : pageOf a ≠ Page.tables)
    (hinfo : a ≠ regAddr Page.cart 0x74) (hcaptured : (s.i3c p).captured a = none) :
    ((s.readShown p a).i3c p).lastRead = s.uncaptured false a ∧
      (∀ off ∈ captureTargets (pageOf a) (offOf a), ((s.readShown p a).i3c p).captured (regAddr (pageOf a) off) =
        some (s.liveReg false (regAddr (pageOf a) off))) ∧
      (a ≠ regAddr Page.stream 0x40 → Agree 98308 s (s.readShown p a)) ∧ Agree 98316 s (s.readShown p a) := by
  have hread := State.readShown_of_uncaptured htables hinfo hcaptured
  have hquiet : Agree 98308 (s.noteRead a) (s.readShown p a) := by
    rw [hread]
    exact (((Agree.refl _ _).step (State.captureFor_agree _ p false a) rfl).step (State.spend_agree _) rfl).step
      (State.modI3c_agree _ p _) rfl
  refine ⟨?_, fun off hoff => ?_, fun hne => ?_, ((Agree.refl _ s).step (State.noteRead_agree s a) rfl).step hquiet rfl⟩
  · rw [hread, State.i3c_modI3c_same]
  · have hne : a ≠ regAddr Page.stream 0x40 := by
      rintro rfl
      rw [captureTargets_tagsInFlight] at hoff
      cases hoff
    have hcaptured := State.captured_captureFor s p false a (regAddr (pageOf a) off)
    rw [if_pos (List.mem_map_of_mem hoff)] at hcaptured
    rw [hread, State.noteRead_of_ne hne, State.i3c_modI3c_same]
    exact (congrArg (I3c.captured · _) ((State.spend_agree (s.captureFor p false a)).i3c_eq p)).trans hcaptured
  · rwa [State.noteRead_of_ne hne] at hquiet

theorem exec_portPosRead (p : I3cPort) (n : Nat) (s : State) :
    exec (.portPosRead p n) s = .next (s.readShown p (portReg n 0x5c)) := rfl

theorem exec_ratioStatusRead (p : I3cPort) (n : Nat) (s : State) :
    exec (.ratioStatusRead p n) s = .next (s.readShown p (portReg n 0x11c)) := rfl

theorem exec_loRegisterRead (p : I3cPort) (a : Nat) (s : State) :
    exec (.loRegisterRead p a) s = .next (s.readShown p a) := rfl

theorem pageOf_portReg {off : Nat} (h : off < 0x400) (n : Nat) : pageOf (portReg n off) = Page.port n := pageOf_regAddr h

/-- The partners that a register of a port captures. -/
theorem captureTargets_portReg {n off : Nat} (hn : n < 144) (hoff : off < 0x400) :
    captureTargets (pageOf (portReg n off)) (offOf (portReg n off)) =
      if off = 0x5c then [0x60, 0x64, 0x68] else if off = 0x64 then [0x68] else if off = 0x80 then [0x84]
      else if off = 0x90 then [0x9c] else if off = 0x10c then [0x110]
      else if off = 0x11c then (List.range 16).map (fun i => 0x120 + 4 * i) else [] := by
  unfold portReg captureTargets
  rw [pageOf_regAddr hoff, offOf_regAddr hoff, pageKind_port hn]

/-- A read of a port's register that was not captured shows it and captures its partners on the port's page. -/
theorem State.readShown_portReg {s : State} {p : I3cPort} {n off : Nat} {l : List Nat} (hoff : off < 0x400)
    (htargets : captureTargets (pageOf (portReg n off)) (offOf (portReg n off)) = l)
    (hcaptured : (s.i3c p).captured (portReg n off) = none) :
    ((s.readShown p (portReg n off)).i3c p).lastRead = s.liveReg false (portReg n off) ∧
      (∀ o ∈ l, ((s.readShown p (portReg n off)).i3c p).captured (portReg n o) = some (s.liveReg false (portReg n o))) ∧
      s.changesOnly (s.readShown p (portReg n off)) [.free, .i3cA, .i3cB] := by
  have hne (page o : Nat) (ho : o < 0x400) (hpage : page < 0x100) : portReg n off ≠ regAddr page o := by
    unfold portReg Page.port regAddr
    omega
  have htables : pageOf (portReg n off) ≠ Page.tables := by
    rw [pageOf_portReg hoff]
    unfold Page.port Page.tables
    omega
  obtain ⟨hlast, hcaptures, hagree, -⟩ :=
    State.readShown_captures htables (hne Page.cart 0x74 (by decide) (by decide)) hcaptured
  rw [htargets, pageOf_portReg hoff] at hcaptures
  refine ⟨hlast.trans ?_, hcaptures, (hagree (hne Page.stream 0x40 (by decide) (by decide))).changesOnly_of_within⟩
  unfold State.uncaptured
  rw [if_neg (hne Page.ledger 0x50 (by decide) (by decide))]

/-! ### The snapshot of TIMER (R440) -/

/-- A low word of TIMER's snapshot captures its high word. -/
theorem timerSnapshot_targets {lo hi : Nat} (h : lo = regAddr Page.timer 0x3c4 ∧ hi = regAddr Page.timer 0x3c8 ∨
    lo = regAddr Page.timer 0x3cc ∧ hi = regAddr Page.timer 0x3d0) :
    pageOf lo = Page.timer ∧ regAddr (pageOf lo) (offOf hi) = hi ∧
      offOf hi ∈ captureTargets (pageOf lo) (offOf lo) ∧ pageOf hi = Page.timer := by
  rcases h with ⟨rfl, rfl⟩ | ⟨rfl, rfl⟩ <;> decide

/-- No register of TIMER is one of those that are read apart. -/
theorem ne_regAddr_of_pageOf {a page off : Nat} (hoff : off < 0x400) (h : pageOf a ≠ page) : a ≠ regAddr page off := by
  rintro rfl
  exact h (pageOf_regAddr hoff)

theorem loRegisterRead_timerSnapshot {p : I3cPort} {s : State} {lo hi : Nat}
    (h : lo = regAddr Page.timer 0x3c4 ∧ hi = regAddr Page.timer 0x3c8 ∨
      lo = regAddr Page.timer 0x3cc ∧ hi = regAddr Page.timer 0x3d0) :
    ((s.i3c p).captured lo = none →
      Yields (.loRegisterRead p lo) s (fun t => (t.i3c p).lastRead = s.liveReg false lo ∧
        (t.i3c p).captured hi = some (s.liveReg false hi) ∧ s.changesOnly t [.free, .i3cA, .i3cB])) ∧
    (∀ w, (s.i3c p).captured hi = some w →
      Yields (.loRegisterRead p hi) s (fun t => (t.i3c p).lastRead = w ∧ s.changesOnly t [.i3cA, .i3cB])) := by
  obtain ⟨hlo, haddr, htarget, hhi⟩ := timerSnapshot_targets h
  have hother {a page : Nat} (ha : pageOf a = Page.timer) (hpage : Page.timer ≠ page) : pageOf a ≠ page := by rwa [ha]
  refine ⟨fun hnone => ⟨_, exec_loRegisterRead p lo s, ?_⟩, fun w hw => ⟨_, exec_loRegisterRead p hi s, ?_⟩⟩
  · obtain ⟨hlast, hcaptures, hagree, -⟩ := State.readShown_captures (hother hlo (by decide))
      (ne_regAddr_of_pageOf (by decide) (hother hlo (by decide))) hnone
    have hcaptured := hcaptures _ htarget
    rw [haddr] at hcaptured
    refine ⟨hlast.trans (if_neg ?_), hcaptured, (hagree ?_).changesOnly_of_within⟩
    · exact ne_regAddr_of_pageOf (by decide) (hother hlo (by decide))
    · exact ne_regAddr_of_pageOf (by decide) (hother hlo (by decide))
  · have howner : ownersOnly hi = false := by
      unfold ownersOnly
      rw [hhi]
      rfl
    rw [State.readShown_of_captured (hother hhi (by decide)) (ne_regAddr_of_pageOf (by decide) (hother hhi (by decide)))
      howner hw]
    exact ⟨congrArg I3c.lastRead (State.i3c_modI3c_same s p _), (State.modI3c_agree s p _).changesOnly_of_within⟩

/-! ### The information window (R340, R342) -/

theorem exec_infoSelWrite (w : Word) (s : State) : exec (.infoSelWrite w) s = .next (s.infoSelect w) := rfl

theorem bits_and_one (w : Word) : bits (w &&& 1) 0 1 = bits w 0 1 := by
  unfold bits
  rw [BitVec.toNat_and, show (1 : Word).toNat = 2 ^ 1 - 1 from rfl, Nat.and_two_pow_sub_one_eq_mod]
  omega

theorem infoSelWrite_selects (w : Word) (s : State) :
    Yields (.infoSelWrite w) s (fun t => bits (t.rd Page.cart 0x70) 0 1 = bits w 0 1 ∧ t.cart = { s.cart with infoWord := 0 } ∧
      s.regsBut t [regAddr Page.cart 0x70] ∧ s.changesOnly t [.regs, .cart]) := by
  have hreg (a : Nat) : (s.infoSelect w).reg a = if a = regAddr Page.cart 0x70 then w &&& 1 else s.reg a :=
    State.reg_setReg s _ a _
  refine ⟨_, exec_infoSelWrite w s, ?_, rfl, fun a ha => ?_, (State.infoSelect_agree s w).changesOnly_of_within⟩
  · unfold State.rd
    rw [hreg, if_pos rfl, bits_and_one]
  · rw [hreg, if_neg (by simpa using ha)]

theorem exec_infoDataRead (p : I3cPort) (s : State) :
    exec (.infoDataRead p) s = .next (s.infoRead.modI3c p (fun x => { x with lastRead := s.infoData })) := rfl

theorem infoDataRead_shows (p : I3cPort) (s : State) :
    Yields (.infoDataRead p) s (fun t =>
      (t.i3c p).lastRead = s.infoWordOf (bits (s.rd Page.cart 0x70) 0 1) s.cart.infoWord ∧
      t.cart = { s.cart with infoWord := s.cart.infoWord + 1 } ∧ s.changesOnly t [.i3cA, .i3cB, .cart]) := by
  have hshown := State.modI3c_agree s.infoRead p (fun x => { x with lastRead := s.infoData })
  have hagree : Agree 67207168 s _ := ((Agree.refl _ s).step (State.modCart_agree s _) rfl).step hshown rfl
  exact ⟨_, exec_infoDataRead p s, congrArg I3c.lastRead (State.i3c_modI3c_same _ p _), hshown.cart rfl,
    hagree.changesOnly_of_within⟩

/-- Settles O22: a lemma for the registers of a port, for TIMER's snapshot, for any register that is read through the
captures, and for the two registers of the information window. -/
theorem readsCaptureTheirPartners : Obligations.ReadsCaptureTheirPartners := by
  intro p s
  refine ⟨fun n hn hnone => ⟨_, exec_portPosRead p n s, ?_⟩, fun n hn hnone => ⟨_, exec_ratioStatusRead p n s, ?_⟩,
    fun lo hi => loRegisterRead_timerSnapshot, fun a htables hinfo hnone => ⟨_, exec_loRegisterRead p a s, ?_⟩,
    fun w => infoSelWrite_selects w s, infoDataRead_shows p s⟩
  · exact State.readShown_portReg (by decide) (captureTargets_portReg hn (by decide)) hnone
  · obtain ⟨hlast, hcaptures, hagree⟩ :=
      State.readShown_portReg (by decide) (captureTargets_portReg hn (by decide)) hnone
    exact ⟨hlast, fun i hi => hcaptures _ (List.mem_map_of_mem (List.mem_range.mpr hi)), hagree⟩
  · obtain ⟨hlast, hcaptures, hquiet, hagree⟩ := State.readShown_captures htables hinfo hnone
    exact ⟨hlast, hcaptures, fun hne => (hquiet hne).regs rfl, hagree.changesOnly_of_within⟩

end Machine
end Sys2Proof
end

section
/-! PROOFS. The window of TABLES: selector, index, staged words, whole entries stored, the bobbin allocation (O21). -/

namespace Sys2Proof
namespace Machine

/-! ### Selector and index (R463, R465) -/

theorem exec_tblSelWrite (p : I3cPort) (w : Word) (s : State) : exec (.tblSelWrite p w) s = .next (s.tblSel p w) := rfl

theorem exec_tblIndexWrite (p : I3cPort) (w : Word) (s : State) :
    exec (.tblIndexWrite p w) s = .next (s.tblIndex p w) := rfl

theorem exec_tblDataWrite (p : I3cPort) (w : Word) (s : State) :
    exec (.tblDataWrite p w) s = .next (s.tblWrite p w) := rfl

theorem exec_tblDataRead (p : I3cPort) (s : State) :
    exec (.tblDataRead p) s = .next ((s.tblAccess p false).spend.modI3c p (fun x =>
      { x with lastRead := s.tableWord (s.i3c p).tblSel (s.i3c p).tblIndex })) := rfl

/-- Keeping staged words for one entry changes nothing but the staged words. -/
theorem I3c.keepStaged_eq (x : I3c) (sel entry : Nat) :
    x.keepStaged sel entry = { x with staged := (x.keepStaged sel entry).staged } := by
  unfold I3c.keepStaged
  split
  · split <;> rfl
  · rfl

/-- Staged words that are kept were staged, for an entry of that table. -/
theorem I3c.staged_keepStaged {x : I3c} {sel entry : Nat} {e : Nat × Nat × Tab Word}
    (h : (x.keepStaged sel entry).staged = some e) : x.staged = some e ∧ e.1 = sel := by
  unfold I3c.keepStaged at h
  split at h
  · next t en ws hx =>
    split at h
    · next hkept =>
      rw [hx, Option.some.injEq] at h
      exact ⟨hx.trans (congrArg some h), h ▸ hkept.1⟩
    · cases h
  · next hnone => rw [hnone] at h; cases h

theorem tblSelWrite_selects (p : I3cPort) (w : Word) (s : State) :
    Yields (.tblSelWrite p w) s (fun t => (t.i3c p).tblSel = bits w 0 3 ∧ (t.i3c p).tblIndex = (s.i3c p).tblIndex ∧
      (∀ e, (t.i3c p).staged = some e → (s.i3c p).staged = some e ∧ e.1 = bits w 0 3) ∧
      t = s.setI3c p { s.i3c p with tblSel := bits w 0 3, staged := (t.i3c p).staged }) := by
  have hkeeps := I3c.keepStaged_eq { s.i3c p with tblSel := bits w 0 3 } (bits w 0 3)
    ((s.i3c p).tblIndex / entryWords (bits w 0 3))
  have hport : (s.tblSel p w).i3c p = I3c.keepStaged { s.i3c p with tblSel := bits w 0 3 } (bits w 0 3)
      ((s.i3c p).tblIndex / entryWords (bits w 0 3)) := State.i3c_modI3c_same s p _
  refine ⟨_, exec_tblSelWrite p w s, ?_, ?_, fun e he => ?_, ?_⟩
  · rw [hport, hkeeps]
  · rw [hport, hkeeps]
  · rw [hport] at he
    exact I3c.staged_keepStaged (x := { s.i3c p with tblSel := bits w 0 3 }) he
  · rw [hport]
    exact congrArg (s.setI3c p) hkeeps

theorem bits_setBits_two (w : Word) (b : Bool) : bits (setBits w 2 1 (b2n b)) 2 1 = b2n b := by
  have hw := w.isLt
  unfold bits setBits word
  rw [BitVec.toNat_ofNat]
  cases b <;> simp only [b2n, if_true, Bool.false_eq_true, if_false] <;> omega

theorem tblIndexWrite_clamps (p : I3cPort) (w : Word) (s : State) :
    Yields (.tblIndexWrite p w) s (fun t =>
      (t.i3c p).tblIndex = min (bits w 0 22) (s.tableWords (s.i3c p).tblSel - 1) ∧
      bits (t.i3c p).tblStatus 2 1 = b2n (decide (s.tableWords (s.i3c p).tblSel - 1 < bits w 0 22)) ∧
      t = s.setI3c p { s.i3c p with
        tblIndex := (t.i3c p).tblIndex, tblStatus := (t.i3c p).tblStatus, staged := (t.i3c p).staged }) := by
  let x : I3c := { s.i3c p with
    tblIndex := min (bits w 0 22) (s.tableWords (s.i3c p).tblSel - 1)
    tblStatus := setBits (s.i3c p).tblStatus 2 1 (b2n (decide (s.tableWords (s.i3c p).tblSel - 1 < bits w 0 22))) }
  have hkeeps := I3c.keepStaged_eq x x.tblSel (x.tblIndex / entryWords x.tblSel)
  have hport : (s.tblIndex p w).i3c p = x.keepStaged x.tblSel (x.tblIndex / entryWords x.tblSel) :=
    State.i3c_modI3c_same s p _
  refine ⟨_, exec_tblIndexWrite p w s, ?_, ?_, ?_⟩
  · rw [hport, hkeeps]
  · rw [hport, hkeeps]
    exact bits_setBits_two _ _
  · rw [hport, hkeeps]
    exact congrArg (s.setI3c p) hkeeps

/-! ### An access of TBL_DATA (R465) -/

theorem bits_setBits_refused (w : Word) (b : Bool) (v : Nat) : bits (setBits (setBits w 0 1 (b2n b)) 3 1 v) 0 1 = b2n b := by
  have hw := w.isLt
  unfold bits setBits word
  rw [BitVec.toNat_ofNat, BitVec.toNat_ofNat]
  cases b <;> simp only [b2n, if_true, Bool.false_eq_true, if_false] <;> omega

/-- An access moves the index on and says whether it was refused; staged words and the selector stay. -/
theorem State.i3c_tblAccess (s : State) (p : I3cPort) (refused : Bool) :
    ((s.tblAccess p refused).i3c p).tblIndex = s.nextIndex (s.i3c p).tblSel (s.i3c p).tblIndex ∧
      ((s.tblAccess p refused).i3c p).staged = (s.i3c p).staged ∧
      bits ((s.tblAccess p refused).i3c p).tblStatus 0 1 = b2n refused := by
  have hport := State.i3c_modI3c_same s p (fun x => { x with
    tblIndex := s.nextIndex x.tblSel x.tblIndex
    tblStatus := setBits (setBits x.tblStatus 0 1 (b2n refused)) 3 1 (b2n (x.tblSel == 3 && s.security.report.isEmpty)) })
  unfold State.tblAccess
  rw [hport]
  exact ⟨rfl, rfl, bits_setBits_refused _ _ _⟩

theorem I3c.stagedFor_of_staged {x : I3c} {sel entry : Nat} {ws : Tab Word} (h : x.staged = some (sel, entry, ws)) :
    x.stagedFor sel entry = ws := by
  unfold I3c.stagedFor
  rw [h]
  exact if_pos ⟨rfl, rfl⟩

/-- A word staged by a port: the window stands at the same word, with the word among those staged for its entry. -/
theorem State.i3c_stage (s : State) (p : I3cPort) (sel entry i : Nat) (w : Word) :
    (s.stage p sel entry i w).i3c p =
      { s.i3c p with staged := some (sel, entry, ((s.i3c p).stagedFor sel entry).set i w) } :=
  State.i3c_modI3c_same s p _

theorem State.i3c_unstage (s : State) (p : I3cPort) : (s.unstage p).i3c p = { s.i3c p with staged := none } :=
  State.i3c_modI3c_same s p _

/-- What a staged word leaves in the window. -/
theorem State.stage_tblAccess {s : State} {p : I3cPort} {sel i : Nat} (hsel : (s.i3c p).tblSel = sel)
    (hi : (s.i3c p).tblIndex = i) (hnext : s.nextIndex sel i = i + 1) (entry k : Nat) (w : Word) :
    let t := (s.stage p sel entry k w).tblAccess p false
    ((t.i3c p).stagedFor sel entry).get (fun _ => 0) k = w ∧ (t.i3c p).tblIndex = i + 1 ∧
      bits (t.i3c p).tblStatus 0 1 = 0 ∧ s.changesOnly t [.i3cA, .i3cB] := by
  intro t
  obtain ⟨hindex, hstaged, hstatus⟩ := State.i3c_tblAccess (s.stage p sel entry k w) p false
  have hagree : Agree 98304 s t :=
    ((Agree.refl _ s).step (State.stage_agree s p sel entry k w) rfl).step (State.tblAccess_agree _ p false) rfl
  have hwindow := State.i3c_stage s p sel entry k w
  rw [hwindow] at hindex hstaged
  refine ⟨?_, hindex.trans ?_, hstatus, hagree.changesOnly_of_within⟩
  · rw [I3c.stagedFor_of_staged hstaged, Tab.get_set_same]
  · show (s.stage p sel entry k w).nextIndex (s.i3c p).tblSel (s.i3c p).tblIndex = i + 1
    rw [hsel, hi, ← hnext]
    unfold State.nextIndex State.tableWords
    rw [(State.stage_agree s p sel entry k w).security rfl]

/-! ### Words and entries written (R46, R229) -/

/-- The tables with a fixed number of words. -/
theorem State.nextIndex_of_words {s : State} {sel k : Nat} (h : s.tableWords sel = k) (i : Nat) :
    s.nextIndex sel i = if k ≤ i + 1 then 0 else i + 1 := by
  unfold State.nextIndex
  rw [h]

/-- A descriptor stored. -/
def State.storeDesc (s : State) (j : Nat) (d : BitVec 256) : State := { s with descs := s.descs.set j d }

/-- A sequence entry stored. -/
def State.storeEntry (s : State) (j : Nat) (e : BitVec 256) : State := { s with entries := s.entries.set j e }

/-- A write to the descriptor store: the last word of an entry stores it, another word is staged. -/
theorem State.tblWrite_desc {s : State} {p : I3cPort} {i : Nat} (hsel : (s.i3c p).tblSel = 0)
    (hi : (s.i3c p).tblIndex = i) (hlt : i < 2097152) (w : Word) :
    s.tblWrite p w = if i % 8 = 7 then
      ((s.storeDesc (i / 8) (storedDesc (mergeEntry (s.desc (i / 8)) ((s.i3c p).stagedFor 0 (i / 8)) w))).unstage
        p).tblAccess p false
      else (s.stage p 0 (i / 8) (i % 8) w).tblAccess p false := by
  have hmin : min i (s.tableWords 0 - 1) = i := Nat.min_eq_left (Nat.le_sub_one_of_lt hlt)
  unfold State.tblWrite
  dsimp only
  rw [hsel, hi, hmin]
  rfl

/-- A write to the entry store: the last word of an entry stores it, another word is staged. -/
theorem State.tblWrite_entry {s : State} {p : I3cPort} {i : Nat} (hsel : (s.i3c p).tblSel = 1)
    (hi : (s.i3c p).tblIndex = i) (hlt : i < 2097152) (w : Word) :
    s.tblWrite p w = if i % 8 = 7 then
      ((s.storeEntry (i / 8) (storedEntry (mergeEntry (s.entryAt (i / 8)) ((s.i3c p).stagedFor 1 (i / 8)) w))).unstage
        p).tblAccess p false
      else (s.stage p 1 (i / 8) (i % 8) w).tblAccess p false := by
  have hmin : min i (s.tableWords 1 - 1) = i := Nat.min_eq_left (Nat.le_sub_one_of_lt hlt)
  unfold State.tblWrite
  dsimp only
  rw [hsel, hi, hmin]
  rfl

/-- The band table with both words of an entry stored. -/
def Clock.storeBand (c : Clock) (i : Nat) (w0 w1 : Word) : Clock :=
  { c with bands := (c.bands.set (i - 1) (storedBand 0 w0)).set i (storedBand 1 w1) }

/-- A write to the band table: the second word of an entry stores it, the first is staged. -/
theorem State.tblWrite_band {s : State} {p : I3cPort} {i : Nat} (hsel : (s.i3c p).tblSel = 2)
    (hi : (s.i3c p).tblIndex = i) (hlt : i < 32) (w : Word) :
    s.tblWrite p w = if i % 2 = 1 then
      ((s.modClock (fun c => c.storeBand i
        (((s.i3c p).stagedFor 2 (i / 2)).get (fun _ => s.clock.bandWord (i - 1)) 0) w)).unstage p).tblAccess p false
      else (s.stage p 2 (i / 2) 0 w).tblAccess p false := by
  have hmin : min i (s.tableWords 2 - 1) = i := Nat.min_eq_left (Nat.le_sub_one_of_lt hlt)
  unfold State.tblWrite
  dsimp only
  rw [hsel, hi, hmin]
  rfl

/-- A write to the bobbin allocation, where it is accepted. -/
theorem State.tblWrite_bobbin {s : State} {p : I3cPort} {i : Nat} (hsel : (s.i3c p).tblSel = 6)
    (hi : (s.i3c p).tblIndex = i) (hlt : i < 144) (hmay : s.mayAllocate = true) (w : Word) :
    s.tblWrite p w = (s.allocate i (bits w 0 12)).tblAccess p false := by
  have hmin : min i (s.tableWords 6 - 1) = i := Nat.min_eq_left (Nat.le_sub_one_of_lt hlt)
  unfold State.tblWrite
  dsimp only
  rw [hsel, hi, hmin, hmay]
  rfl

/-- A write that is refused: the allocation while a port is elsewhere, and every table that is only read. -/
theorem State.tblWrite_refused {s : State} {p : I3cPort}
    (h : ((s.i3c p).tblSel = 6 ∧ s.mayAllocate = false) ∨ (s.i3c p).tblSel ∈ [3, 4, 5, 7]) (w : Word) :
    s.tblWrite p w = (s.tblAccess p true).flag Page.tables 0 := by
  unfold State.tblWrite
  dsimp only
  rcases h with ⟨hsel, hmay⟩ | hsel
  · rw [hsel, hmay]
    rfl
  · simp only [List.mem_cons, List.not_mem_nil, or_false] at hsel
    rcases hsel with hsel | hsel | hsel | hsel <;> simp only [hsel]

theorem tblDataWrite_stages {p : I3cPort} {s : State} {w : Word} {i k : Nat} (hsel : (s.i3c p).tblSel = k) (hk : k < 2)
    (hi : (s.i3c p).tblIndex = i) (hword : i % 8 ≠ 7) (hlt : i < 2097152) :
    Yields (.tblDataWrite p w) s (fun t =>
      ((t.i3c p).stagedFor k (i / 8)).get (fun _ => 0) (i % 8) = w ∧ (t.i3c p).tblIndex = i + 1 ∧
      bits (t.i3c p).tblStatus 0 1 = 0 ∧ s.changesOnly t [.i3cA, .i3cB]) := by
  refine ⟨_, exec_tblDataWrite p w s, ?_⟩
  obtain rfl | rfl : k = 0 ∨ k = 1 := by omega
  · rw [State.tblWrite_desc hsel hi hlt, if_neg hword]
    exact State.stage_tblAccess hsel hi ((State.nextIndex_of_words (k := 2097152) rfl i).trans (if_neg (by omega))) _ _ w
  · rw [State.tblWrite_entry hsel hi hlt, if_neg hword]
    exact State.stage_tblAccess hsel hi ((State.nextIndex_of_words (k := 2097152) rfl i).trans (if_neg (by omega))) _ _ w

/-- What storing an entry leaves in the window, the stores apart: nothing staged, the index on the next word. -/
theorem State.unstage_tblAccess {u : State} {p : I3cPort} {sel i k : Nat} (hsel : (u.i3c p).tblSel = sel)
    (hi : (u.i3c p).tblIndex = i) (hwords : (u.unstage p).tableWords sel = k) :
    (((u.unstage p).tblAccess p false).i3c p).staged = none ∧
      (((u.unstage p).tblAccess p false).i3c p).tblIndex = (if k ≤ i + 1 then 0 else i + 1) ∧
      Agree 98304 u ((u.unstage p).tblAccess p false) := by
  obtain ⟨hindex, hstaged, -⟩ := State.i3c_tblAccess (u.unstage p) p false
  rw [State.i3c_unstage] at hindex hstaged
  refine ⟨hstaged, hindex.trans ?_,
    ((Agree.refl _ u).step (State.unstage_agree u p) rfl).step (State.tblAccess_agree _ p false) rfl⟩
  dsimp only
  rw [hsel, hi, State.nextIndex_of_words hwords]

theorem i3c_of_ports (p : I3cPort) {s u : State} (ha : u.i3cA = s.i3cA) (hb : u.i3cB = s.i3cB) : u.i3c p = s.i3c p := by
  cases p
  · exact ha
  · exact hb

theorem tblDataWrite_storesDesc {p : I3cPort} {s : State} {w : Word} {i : Nat} (hsel : (s.i3c p).tblSel = 0)
    (hi : (s.i3c p).tblIndex = i) (hword : i % 8 = 7) (hlt : i < 2097152) :
    Yields (.tblDataWrite p w) s (fun t =>
      t.desc (i / 8) = storedDesc (mergeEntry (s.desc (i / 8)) ((s.i3c p).stagedFor 0 (i / 8)) w) ∧
      (∀ j, j ≠ i / 8 → t.desc j = s.desc j) ∧ (t.i3c p).staged = none ∧
      (t.i3c p).tblIndex = (if i = 2097151 then 0 else i + 1) ∧ s.changesOnly t [.descs, .i3cA, .i3cB]) := by
  refine ⟨_, exec_tblDataWrite p w s, ?_⟩
  rw [State.tblWrite_desc hsel hi hlt, if_pos hword]
  generalize storedDesc (mergeEntry (s.desc (i / 8)) ((s.i3c p).stagedFor 0 (i / 8)) w) = d
  have hport : (s.storeDesc (i / 8) d).i3c p = s.i3c p := i3c_of_ports p rfl rfl
  obtain ⟨hstaged, hindex, hagree⟩ := State.unstage_tblAccess (u := s.storeDesc (i / 8) d) (p := p)
    (k := 2097152) ((congrArg I3c.tblSel hport).trans hsel) ((congrArg I3c.tblIndex hport).trans hi) rfl
  have hdesc (j : Nat) : (((s.storeDesc (i / 8) d).unstage p).tblAccess p false).desc j =
      if j = i / 8 then d else s.desc j := by
    unfold State.desc
    rw [hagree.descs rfl]
    exact Tab.get_set (fun _ => 0) s.descs _ d j
  have hwhole : Agree 98432 s _ := ((Agree.refl _ s).setDescs rfl).step hagree rfl
  refine ⟨(hdesc _).trans (if_pos rfl), fun j hj => (hdesc j).trans (if_neg hj), hstaged, hindex.trans ?_,
    hwhole.changesOnly_of_within⟩
  simp only [show (2097152 ≤ i + 1) = (i = 2097151) from propext (by omega)]

theorem tblDataWrite_storesEntry {p : I3cPort} {s : State} {w : Word} {i : Nat} (hsel : (s.i3c p).tblSel = 1)
    (hi : (s.i3c p).tblIndex = i) (hword : i % 8 = 7) (hlt : i < 2097152) :
    Yields (.tblDataWrite p w) s (fun t =>
      t.entryAt (i / 8) = storedEntry (mergeEntry (s.entryAt (i / 8)) ((s.i3c p).stagedFor 1 (i / 8)) w) ∧
      (∀ j, j ≠ i / 8 → t.entryAt j = s.entryAt j) ∧ (t.i3c p).staged = none ∧
      (t.i3c p).tblIndex = (if i = 2097151 then 0 else i + 1) ∧ s.changesOnly t [.entries, .i3cA, .i3cB]) := by
  refine ⟨_, exec_tblDataWrite p w s, ?_⟩
  rw [State.tblWrite_entry hsel hi hlt, if_pos hword]
  generalize storedEntry (mergeEntry (s.entryAt (i / 8)) ((s.i3c p).stagedFor 1 (i / 8)) w) = d
  have hport : (s.storeEntry (i / 8) d).i3c p = s.i3c p := i3c_of_ports p rfl rfl
  obtain ⟨hstaged, hindex, hagree⟩ := State.unstage_tblAccess (u := s.storeEntry (i / 8) d) (p := p)
    (k := 2097152) ((congrArg I3c.tblSel hport).trans hsel) ((congrArg I3c.tblIndex hport).trans hi) rfl
  have hentry (j : Nat) :
      (((s.storeEntry (i / 8) d).unstage p).tblAccess p false).entryAt j =
        if j = i / 8 then d else s.entryAt j := by
    unfold State.entryAt
    rw [hagree.entries rfl]
    exact Tab.get_set (fun _ => 0) s.entries _ d j
  have hwhole : Agree 98560 s _ := ((Agree.refl _ s).setEntries rfl).step hagree rfl
  refine ⟨(hentry _).trans (if_pos rfl), fun j hj => (hentry j).trans (if_neg hj), hstaged, hindex.trans ?_,
    hwhole.changesOnly_of_within⟩
  simp only [show (2097152 ≤ i + 1) = (i = 2097151) from propext (by omega)]

theorem tblDataWrite_stagesBand {p : I3cPort} {s : State} {w : Word} {i : Nat} (hsel : (s.i3c p).tblSel = 2)
    (hi : (s.i3c p).tblIndex = i) (hword : i % 2 = 0) (hlt : i < 32) :
    Yields (.tblDataWrite p w) s (fun t => ((t.i3c p).stagedFor 2 (i / 2)).get (fun _ => 0) 0 = w ∧
      (t.i3c p).tblIndex = i + 1 ∧ s.changesOnly t [.i3cA, .i3cB]) := by
  refine ⟨_, exec_tblDataWrite p w s, ?_⟩
  rw [State.tblWrite_band hsel hi hlt, if_neg (by omega)]
  obtain ⟨hstaged, hindex, -, hquiet⟩ := State.stage_tblAccess hsel hi
    ((State.nextIndex_of_words (s := s) (sel := 2) (k := 32) rfl i).trans (if_neg (by omega))) (i / 2) 0 w
  exact ⟨hstaged, hindex, hquiet⟩

/-- The words of the band table after an entry was stored. -/
theorem Clock.bandWord_storeBand (c : Clock) (i : Nat) (w0 w1 : Word) (j : Nat) :
    (c.storeBand i w0 w1).bandWord j =
      if j = i then w1 &&& 0x8000ff3f else if j = i - 1 then w0 &&& 0x01ffffff else c.bandWord j := by
  unfold Clock.storeBand Clock.bandWord
  dsimp only
  rw [Tab.get_set, Tab.get_set]
  rfl

theorem tblDataWrite_storesBand {p : I3cPort} {s : State} {w : Word} {i : Nat} (hsel : (s.i3c p).tblSel = 2)
    (hi : (s.i3c p).tblIndex = i) (hword : i % 2 = 1) (hlt : i < 32) :
    Yields (.tblDataWrite p w) s (fun t => t.clock.bandWord i = w &&& 0x8000ff3f ∧
      t.clock.bandWord (i - 1) =
        ((s.i3c p).stagedFor 2 (i / 2)).get (fun _ => s.clock.bandWord (i - 1)) 0 &&& 0x01ffffff ∧
      (∀ j, j ≠ i → j ≠ i - 1 → t.clock.bandWord j = s.clock.bandWord j) ∧
      t.clock = { s.clock with bands := t.clock.bands } ∧ (t.i3c p).staged = none ∧
      (t.i3c p).tblIndex = (if i = 31 then 0 else i + 1) ∧ s.changesOnly t [.clock, .i3cA, .i3cB]) := by
  refine ⟨_, exec_tblDataWrite p w s, ?_⟩
  rw [State.tblWrite_band hsel hi hlt, if_pos hword]
  generalize Tab.get (fun _ => s.clock.bandWord (i - 1)) ((s.i3c p).stagedFor 2 (i / 2)) 0 = w0
  have hmod := State.modClock_agree s (fun c => c.storeBand i w0 w)
  have hport := hmod.i3c_eq p
  obtain ⟨hstaged, hindex, hagree⟩ := State.unstage_tblAccess (u := s.modClock (fun c => c.storeBand i w0 w)) (p := p)
    (k := 32) ((congrArg I3c.tblSel hport).trans hsel) ((congrArg I3c.tblIndex hport).trans hi) rfl
  have hclock : (((s.modClock (fun c => c.storeBand i w0 w)).unstage p).tblAccess p false).clock =
      s.clock.storeBand i w0 w := hagree.clock rfl
  have hwhole : Agree 33652736 s _ := ((Agree.refl _ s).step hmod rfl).step hagree rfl
  have hword' (j : Nat) := Clock.bandWord_storeBand s.clock i w0 w j
  refine ⟨?_, ?_, fun j hj hj' => ?_, ?_, hstaged, hindex.trans ?_, hwhole.changesOnly_of_within⟩
  · rw [hclock, hword', if_pos rfl]
  · rw [hclock, hword', if_neg (by omega), if_pos rfl]
  · rw [hclock, hword', if_neg hj, if_neg hj']
  · rw [hclock]
    rfl
  · simp only [show (32 ≤ i + 1) = (i = 31) from propext (by omega)]

/-! ### The bobbin allocation (R152, R153) -/

/-- Without an excess no size is lowered. -/
theorem reduceBobbins_zero (sizes : Tab Nat) (size : Nat → Nat) (l : List Nat) : reduceBobbins sizes size l 0 = sizes := by
  induction l with
  | nil => rfl
  | cons n l ih =>
    unfold reduceBobbins
    dsimp only
    rw [Nat.zero_min, if_pos rfl, Nat.zero_sub, ih]

/-- A port beyond the list keeps its size. -/
theorem get_reduceBobbins_of_notMem (d : Nat → Nat) (size : Nat → Nat) {l : List Nat} {m : Nat} (h : m ∉ l)
    (sizes : Tab Nat) (excess : Nat) : (reduceBobbins sizes size l excess).get d m = sizes.get d m := by
  induction l generalizing sizes excess with
  | nil => rfl
  | cons n l ih =>
    obtain ⟨hmn, hml⟩ := not_or.mp (List.mem_cons.not.mp h)
    unfold reduceBobbins
    dsimp only
    rw [ih hml]
    split
    · rfl
    · exact Tab.get_set_other d sizes _ hmn

/-- The sizes of the listed ports lowered: their sum falls by the excess, as far as none falls below 1. -/
theorem sum_reduceBobbins (d : Nat → Nat) (size : Nat → Nat) {l : List Nat} (hl : l.Nodup) {sizes : Tab Nat}
    (hsize : ∀ n ∈ l, sizes.get d n = size n) (excess : Nat) :
    (l.map ((reduceBobbins sizes size l excess).get d)).sum + min excess (l.map (fun n => size n - 1)).sum =
      (l.map size).sum := by
  induction l generalizing sizes excess with
  | nil => simp
  | cons n l ih =>
    obtain ⟨hn, hnodup⟩ := List.nodup_cons.mp hl
    let lowered : Tab Nat := if min excess (size n - 1) = 0 then sizes else sizes.set n (size n - min excess (size n - 1))
    have hget (m : Nat) (hm : m ∈ n :: l) :
        lowered.get d m = if m = n then size n - min excess (size n - 1) else size m := by
      have hold := hsize m hm
      unfold lowered
      split
      · next hcut =>
        split
        · next hmn => rw [hold, hmn, hcut, Nat.sub_zero]
        · exact hold
      · rw [Tab.get_set]
        split
        · rfl
        · exact hold
    have hrest := ih hnodup (sizes := lowered) (fun m hm => (hget m (List.mem_cons_of_mem _ hm)).trans
      (if_neg (by rintro rfl; exact hn hm))) (excess - min excess (size n - 1))
    have hhead : (reduceBobbins sizes size (n :: l) excess).get d n = size n - min excess (size n - 1) :=
      (get_reduceBobbins_of_notMem d size hn lowered _).trans ((hget n (List.mem_cons_self ..)).trans (if_pos rfl))
    have htail : reduceBobbins sizes size (n :: l) excess =
        reduceBobbins lowered size l (excess - min excess (size n - 1)) := rfl
    rw [List.map_cons, List.map_cons, List.map_cons, List.sum_cons, List.sum_cons, List.sum_cons, hhead, htail]
    omega

/-- Sizes are at most 1 larger in sum than what may be cut from them, port by port. -/
theorem sum_le_sum_pred (size : Nat → Nat) (l : List Nat) :
    (l.map size).sum ≤ (l.map (fun n => size n - 1)).sum + l.length := by
  induction l with
  | nil => simp
  | cons n l ih =>
    simp only [List.map_cons, List.sum_cons, List.length_cons]
    omega

theorem fittedPorts_nodup (v : Variant) : (fittedPorts v).Nodup := List.nodup_range.filter _

theorem fittedPorts_length_le (v : Variant) : (fittedPorts v).length ≤ 144 :=
  (List.length_filter_le _ _).trans (List.length_range ▸ le_rfl)

/-- The sizes with one port's asked for. -/
def State.askedSize (s : State) (i size : Nat) (n : Nat) : Nat := if n = i then max 1 size else s.bobbinSize n

/-- What an accepted write asks for, before the total is looked at. -/
def State.asked (s : State) (i size : Nat) : State := { s with bobbins := s.bobbins.set i (max 1 size) }

theorem State.bobbinSize_asked (s : State) (i size n : Nat) : (s.asked i size).bobbinSize n = s.askedSize i size n :=
  Tab.get_set _ _ _ _ _

/-- The total of the fitted ports' sizes. -/
def State.bobbinTotal (s : State) : Nat := ((fittedPorts s.part).map s.bobbinSize).sum

/-- An accepted write of a fitted port: what is asked for, lowered by what exceeds 2,048 units. -/
theorem State.allocate_of_fitted {s : State} {i size : Nat} (hfit : Config.portFitted s.part i = true)
    (hsize : size < 4096) :
    s.allocate i size = { s.asked i size with
      bobbins := reduceBobbins (s.asked i size).bobbins (s.asked i size).bobbinSize (fittedPorts s.part).reverse
        ((s.asked i size).bobbinTotal - 2048) } := by
  unfold State.allocate State.bobbinTotal State.asked
  rw [if_neg (by simp [hfit]), Nat.mod_eq_of_lt hsize, List.sum_eq_foldl]

/-- The total never passes 2,048 units. -/
theorem State.bobbinTotal_allocate {s : State} {i size : Nat} (hfit : Config.portFitted s.part i = true)
    (hsize : size < 4096) : (s.allocate i size).bobbinTotal ≤ 2048 := by
  have hsum := sum_reduceBobbins (fun n => if Config.portFitted s.part n then Config.defaultBobbin (Config.portType n) else 0)
    (s.asked i size).bobbinSize (List.nodup_reverse.mpr (fittedPorts_nodup s.part)) (sizes := (s.asked i size).bobbins)
    (fun _ _ => rfl) ((s.asked i size).bobbinTotal - 2048)
  have hpred := sum_le_sum_pred (s.asked i size).bobbinSize (fittedPorts s.part)
  have hports := fittedPorts_length_le s.part
  have hasked : (s.asked i size).bobbinTotal = (List.map (s.asked i size).bobbinSize (fittedPorts s.part)).sum := rfl
  rw [List.map_reverse, List.map_reverse, List.map_reverse, List.sum_reverse, List.sum_reverse, List.sum_reverse] at hsum
  have htotal : (s.allocate i size).bobbinTotal = (List.map (Tab.get
      (fun n => if Config.portFitted s.part n then Config.defaultBobbin (Config.portType n) else 0)
      (reduceBobbins (s.asked i size).bobbins (s.asked i size).bobbinSize (fittedPorts s.part).reverse
        ((s.asked i size).bobbinTotal - 2048))) (fittedPorts s.part)).sum := by
    rw [State.allocate_of_fitted hfit hsize]
    rfl
  omega

/-- Where what is asked for fits, it is what there is. -/
theorem State.bobbinSize_allocate {s : State} {i size : Nat} (hfit : Config.portFitted s.part i = true)
    (hsize : size < 4096) (hfits : ((fittedPorts s.part).map (s.askedSize i size)).sum ≤ 2048) (n : Nat) :
    (s.allocate i size).bobbinSize n = s.askedSize i size n := by
  have hasked : (s.asked i size).bobbinTotal = ((fittedPorts s.part).map (s.askedSize i size)).sum :=
    congrArg (fun f => (List.map f (fittedPorts s.part)).sum) (funext (s.bobbinSize_asked i size))
  rw [State.allocate_of_fitted hfit hsize, Nat.sub_eq_zero_of_le (hasked ▸ hfits), reduceBobbins_zero]
  exact s.bobbinSize_asked i size n

theorem State.bobbinSize_of_eq {s t : State} (hpart : t.part = s.part) (h : t.bobbins = s.bobbins) :
    t.bobbinSize = s.bobbinSize := by
  unfold State.bobbinSize
  rw [hpart, h]

theorem tblDataWrite_allocates {p : I3cPort} {s : State} {w : Word} {i : Nat} (hsel : (s.i3c p).tblSel = 6)
    (hi : (s.i3c p).tblIndex = i) (hlt : i < 144) (hmay : s.mayAllocate = true) :
    Yields (.tblDataWrite p w) s (fun t =>
      (Config.portFitted s.part i = false → t.bobbins = s.bobbins) ∧
      (Config.portFitted s.part i = true →
        ((fittedPorts s.part).map t.bobbinSize).foldl (· + ·) 0 ≤ 2048 ∧
        (((fittedPorts s.part).map (fun n => if n = i then max 1 (bits w 0 12) else s.bobbinSize n)).foldl (· + ·) 0 ≤ 2048 →
          t.bobbinSize i = max 1 (bits w 0 12) ∧ ∀ n, n ≠ i → t.bobbinSize n = s.bobbinSize n)) ∧
      (t.i3c p).tblIndex = (if i = 143 then 0 else i + 1) ∧ s.changesOnly t [.bobbins, .i3cA, .i3cB]) := by
  refine ⟨_, exec_tblDataWrite p w s, ?_⟩
  rw [State.tblWrite_bobbin hsel hi hlt hmay]
  have hsize : bits w 0 12 < 4096 := Nat.mod_lt _ (by decide)
  have halloc := State.allocate_agree s i (bits w 0 12)
  have haccess := State.tblAccess_agree (s.allocate i (bits w 0 12)) p false
  have hwhole : Agree 102400 s _ := ((Agree.refl _ s).step halloc rfl).step haccess rfl
  have hbobbins : ((s.allocate i (bits w 0 12)).tblAccess p false).bobbins = (s.allocate i (bits w 0 12)).bobbins :=
    haccess.bobbins rfl
  have hsizes := State.bobbinSize_of_eq (haccess.part rfl) hbobbins
  obtain ⟨hindex, -, -⟩ := State.i3c_tblAccess (s.allocate i (bits w 0 12)) p false
  refine ⟨fun hnone => ?_, fun hfit => ⟨?_, fun hfits => ?_⟩, hindex.trans ?_, hwhole.changesOnly_of_within⟩
  · rw [hbobbins]
    unfold State.allocate
    rw [if_pos hnone]
  · rw [hsizes, ← List.sum_eq_foldl]
    have htotal := State.bobbinTotal_allocate hfit hsize
    unfold State.bobbinTotal at htotal
    rwa [halloc.part rfl] at htotal
  · rw [← List.sum_eq_foldl] at hfits
    have hnew (n : Nat) := State.bobbinSize_allocate hfit hsize hfits n
    rw [hsizes]
    exact ⟨(hnew i).trans (if_pos rfl), fun n hn => (hnew n).trans (if_neg hn)⟩
  · rw [halloc.i3c_eq p, hsel, hi, State.nextIndex_of_words (k := 144) rfl]
    simp only [show (144 ≤ i + 1) = (i = 143) from propext (by omega)]

/-! ### Writes that are refused, and reads (R229, R464, R465) -/

/-- A flag that comes up changes the waiting IBIs of a port, never its window. -/
theorem State.tblStatus_flag (s : State) (page i : Nat) (p : I3cPort) :
    ((s.flag page i).i3c p).tblStatus = (s.i3c p).tblStatus := by
  unfold State.flag State.setFlags State.updateIbis
  dsimp only
  split <;> cases p <;> rfl

theorem tblDataWrite_refuses {p : I3cPort} {s : State} {w : Word}
    (h : ((s.i3c p).tblSel = 6 ∧ s.mayAllocate = false) ∨ (s.i3c p).tblSel ∈ [3, 4, 5, 7]) :
    Yields (.tblDataWrite p w) s (fun t => bits (t.i3c p).tblStatus 0 1 = 1 ∧ s.flagged t Page.tables 1 ∧
      s.changesOnly t [.regs, .i3cA, .i3cB]) := by
  refine ⟨_, exec_tblDataWrite p w s, ?_⟩
  rw [State.tblWrite_refused h]
  obtain ⟨-, -, hstatus⟩ := State.i3c_tblAccess s p true
  have haccess := State.tblAccess_agree s p true
  have hwhole : Agree 98312 s _ :=
    ((Agree.refl _ s).step haccess rfl).step (State.flag_agree _ Page.tables 0) rfl
  refine ⟨?_, ?_, hwhole.changesOnly_of_within⟩
  · rw [State.tblStatus_flag]
    exact hstatus
  · unfold State.flagged
    rw [State.rd_flag _ (by decide), if_pos ⟨rfl, rfl⟩, haccess.rd_eq]
    rfl

theorem tblDataRead_shows (p : I3cPort) (s : State) :
    Yields (.tblDataRead p) s (fun t => (t.i3c p).lastRead = s.tableWord (s.i3c p).tblSel (s.i3c p).tblIndex ∧
      (t.i3c p).tblIndex = (if s.tableWords (s.i3c p).tblSel ≤ (s.i3c p).tblIndex + 1 then 0 else (s.i3c p).tblIndex + 1) ∧
      (t.i3c p).staged = (s.i3c p).staged ∧ s.changesOnly t [.free, .i3cA, .i3cB]) := by
  refine ⟨_, exec_tblDataRead p s, ?_⟩
  obtain ⟨hindex, hstaged, -⟩ := State.i3c_tblAccess s p false
  have hspend : (s.tblAccess p false).spend.i3c p = (s.tblAccess p false).i3c p := (State.spend_agree _).i3c_eq p
  have hwhole : Agree 98308 s _ :=
    (((Agree.refl _ s).step (State.tblAccess_agree s p false) rfl).step (State.spend_agree _) rfl).step
      (State.modI3c_agree _ p (fun x => { x with
        lastRead := s.tableWord (s.i3c p).tblSel (s.i3c p).tblIndex })) rfl
  refine ⟨?_, ?_, ?_, hwhole.changesOnly_of_within⟩ <;> rw [State.i3c_modI3c_same]
  · rw [hspend]
    exact hindex
  · rw [hspend]
    exact hstaged

/-! ### The other port's window -/

theorem State.i3c_modI3c_other {p q : I3cPort} (h : q ≠ p) (s : State) (f : I3c → I3c) : (s.modI3c p f).i3c q = s.i3c q := by
  match p, q with
  | .a, .b => rfl
  | .b, .a => rfl
  | .a, .a => exact absurd rfl h
  | .b, .b => exact absurd rfl h

theorem window_keepsOther {p q : I3cPort} (h : q ≠ p) (w : Word) (s : State) (c : Instr)
    (hc : c = .tblSelWrite p w ∨ c = .tblIndexWrite p w ∨ c = .tblDataRead p) :
    Yields c s (fun t => t.i3c q = s.i3c q) := by
  rcases hc with rfl | rfl | rfl
  · exact ⟨_, exec_tblSelWrite p w s, State.i3c_modI3c_other h s _⟩
  · exact ⟨_, exec_tblIndexWrite p w s, State.i3c_modI3c_other h s _⟩
  · refine ⟨_, exec_tblDataRead p s, ?_⟩
    dsimp only
    rw [State.i3c_modI3c_other h, (State.spend_agree _).i3c_eq q]
    exact State.i3c_modI3c_other h s _

/-- Settles O21: what each access of the window does is read off its own equation. -/
theorem tableWindowStagesEntries : Obligations.TableWindowStagesEntries := by
  intro p s
  exact ⟨fun w => tblSelWrite_selects p w s, fun w => tblIndexWrite_clamps p w s,
    fun _ _ _ hsel hk hi hword hlt => tblDataWrite_stages hsel hk hi hword hlt,
    fun _ _ hsel hi hword hlt => tblDataWrite_storesDesc hsel hi hword hlt,
    fun _ _ hsel hi hword hlt => tblDataWrite_storesEntry hsel hi hword hlt,
    fun _ _ hsel hi hword hlt => tblDataWrite_stagesBand hsel hi hword hlt,
    fun _ _ hsel hi hword hlt => tblDataWrite_storesBand hsel hi hword hlt,
    fun _ _ hsel hi hlt hmay => tblDataWrite_allocates hsel hi hlt hmay,
    fun _ h => tblDataWrite_refuses h, tblDataRead_shows p s,
    fun _ w h c hc => window_keepsOther h w s c hc⟩

end Machine
end Sys2Proof
end

section
/-! PROOFS. Where a port stands: what the parts of a slot boundary leave of a port's place in its sequence, of its
registers and of its flags. -/

namespace Sys2Proof
namespace Machine

/-! ### Standing as a port -/

/-- A port with what a boundary changes beside its place erased: its output, its oscillator, its bobbin and pass, the request
it shows, what it reserves, its latches and the event that acts. -/
def Port.stand (p : Port) : Port :=
  { p with
    requested := .off, osc := Osc.reset, merge := none, ms := 0, seg := Seg.none, bobbin := Bobbin.empty, underrun := false
    out := [], last := Sample.zero, limited := false, park := 0, stale := false, holdPark := false, ramp := none, swing := 0
    demand := 0, shares := [], admitted := false
    play := { p.play with latches := [], judged := none, begun := false, hop := 0 } }

/-- A change that does not look at what is erased takes ports that stand alike to ports that stand alike. -/
theorem Port.stand_congr {p q : Port} (h : q.stand = p.stand) (f : Port → Port)
    (hf : ∀ r, (f r).stand = (f r.stand).stand := by exact fun _ => rfl) : (f q).stand = (f p).stand := by
  rw [hf q, hf p, h]

/-- A port with its playhead changed. -/
def Port.on (p : Port) (f : Playhead → Playhead) : Port := { p with play := f p.play }

/-- A latch is one of a list's kinds, or one that the playing of a granule adds: SAFE after a data error, a recovery. -/
def Latch.among (l : Latch) (ls : List Latch) : Prop := l.what = .safe ∨ l.what = .recover ∨ ∃ k ∈ ls, k.what = l.what

/-- In t the port n stands as p does; the listed registers of its page are as in s, and its flags are no fewer. -/
structure State.Stands (n : Nat) (offs : List Nat) (s : State) (p : Port) (t : State) : Prop where
  quiet : ∀ o ∈ offs, o ∈ [0x58, 0x100, 0x104, 0x114]
  stand : (t.port n).stand = p.stand
  latches : ∀ l ∈ (t.port n).play.latches, l.among p.play.latches
  regs : ∀ o ∈ offs, t.rd (Page.port n) o = s.rd (Page.port n) o
  flags : ∀ i, bit (s.rd (Page.port n) 0x14) i = true → bit (t.rd (Page.port n) 0x14) i = true

theorem bit_or_left {w v : Word} {i : Nat} (hw : bit w i = true) : bit (w ||| v) i = true := by
  rw [bit_eq_testBit] at hw ⊢
  rw [BitVec.toNat_or, Nat.testBit_or, hw, Bool.true_or]

section Stands

variable {n : Nat} {offs : List Nat} {s t : State} {p : Port}

theorem State.Stands.refl (n : Nat) (s : State) (offs : List Nat)
    (hquiet : ∀ o ∈ offs, o ∈ [0x58, 0x100, 0x104, 0x114] := by decide) : State.Stands n offs s (s.port n) s :=
  ⟨hquiet, rfl, fun l hl => .inr (.inr ⟨l, hl, rfl⟩), fun _ _ => rfl, fun _ h => h⟩

variable (h : State.Stands n offs s p t)
include h

theorem State.Stands.trans {q : Port} {u : State} (k : State.Stands n offs t q u) (hq : q.stand = p.stand)
    (hl : q.play.latches = (t.port n).play.latches) : State.Stands n offs s p u := by
  refine ⟨h.quiet, k.stand.trans hq, fun l hmem => ?_, fun o ho => (k.regs o ho).trans (h.regs o ho),
    fun i hi => k.flags i (h.flags i hi)⟩
  rcases k.latches l hmem with hsafe | hrecover | ⟨x, hx, hwhat⟩
  · exact .inl hsafe
  · exact .inr (.inl hrecover)
  · rw [hl] at hx
    unfold Latch.among
    rw [← hwhat]
    exact h.latches x hx

/-- What agrees on the ports and the registers stands alike. -/
theorem State.Stands.agree {A : Nat} {u : State} (k : Agree A t u) (hpart : A.testBit 0 = false := by decide)
    (hregs : A.testBit 3 = false := by decide) (hports : A.testBit 4 = false := by decide) : State.Stands n offs s p u := by
  refine ⟨h.quiet, ?_, ?_, fun o ho => ?_, fun i hi => ?_⟩
  · rw [k.port_eq hpart n hports]
    exact h.stand
  · rw [k.port_eq hpart n hports]
    exact h.latches
  · rw [k.rd_eq hpart _ _ hregs]
    exact h.regs o ho
  · rw [k.rd_eq hpart _ _ hregs]
    exact h.flags i hi

/-! #### The fields of a port that stands as another -/

theorem State.Stands.slot_eq : (t.port n).slot = p.slot :=
  show (t.port n).stand.slot = p.stand.slot from congrArg Port.slot h.stand

theorem State.Stands.state_eq : (t.port n).state = p.state :=
  show (t.port n).stand.state = p.stand.state from congrArg Port.state h.stand

theorem State.Stands.group_eq : (t.port n).group = p.group :=
  show (t.port n).stand.group = p.stand.group from congrArg Port.group h.stand

theorem State.Stands.held_eq : (t.port n).held = p.held :=
  show (t.port n).stand.held = p.stand.held from congrArg Port.held h.stand

theorem State.Stands.seqStart_eq : (t.port n).seqStart = p.seqStart :=
  show (t.port n).stand.seqStart = p.stand.seqStart from congrArg Port.seqStart h.stand

theorem State.Stands.forced_eq : (t.port n).forced = p.forced :=
  show (t.port n).stand.forced = p.stand.forced from congrArg Port.forced h.stand

theorem State.Stands.entry_eq : (t.port n).play.entry = p.play.entry :=
  show (t.port n).stand.play.entry = p.stand.play.entry from congrArg (fun q : Port => q.play.entry) h.stand

theorem State.Stands.word_eq : (t.port n).play.word = p.play.word :=
  show (t.port n).stand.play.word = p.stand.play.word from congrArg (fun q : Port => q.play.word) h.stand

theorem State.Stands.start_eq : (t.port n).play.start = p.play.start :=
  show (t.port n).stand.play.start = p.stand.play.start from congrArg (fun q : Port => q.play.start) h.stand

theorem State.Stands.activity_eq : (t.port n).play.activity = p.play.activity :=
  show (t.port n).stand.play.activity = p.stand.play.activity from congrArg (fun q : Port => q.play.activity) h.stand

theorem State.Stands.pass_eq : (t.port n).play.pass = p.play.pass :=
  show (t.port n).stand.play.pass = p.stand.play.pass from congrArg (fun q : Port => q.play.pass) h.stand

theorem State.Stands.gran_eq : (t.port n).play.gran = p.play.gran :=
  show (t.port n).stand.play.gran = p.stand.play.gran from congrArg (fun q : Port => q.play.gran) h.stand

theorem State.Stands.len_eq : (t.port n).play.len = p.play.len :=
  show (t.port n).stand.play.len = p.stand.play.len from congrArg (fun q : Port => q.play.len) h.stand

theorem State.Stands.rows_eq : (t.port n).play.rows = p.play.rows :=
  show (t.port n).stand.play.rows = p.stand.play.rows from congrArg (fun q : Port => q.play.rows) h.stand

theorem State.Stands.pend_eq : (t.port n).play.pend = p.play.pend :=
  show (t.port n).stand.play.pend = p.stand.play.pend from congrArg (fun q : Port => q.play.pend) h.stand

theorem State.Stands.plan_eq : (t.port n).play.plan = p.play.plan :=
  show (t.port n).stand.play.plan = p.stand.play.plan from congrArg (fun q : Port => q.play.plan) h.stand

theorem State.Stands.trans_eq : (t.port n).play.trans = p.play.trans :=
  show (t.port n).stand.play.trans = p.stand.play.trans from congrArg (fun q : Port => q.play.trans) h.stand

/-- The port replaced by one that stands as p' does. -/
theorem State.Stands.setPort {q p' : Port} (hq : q.stand = p'.stand) (hlatches : p'.play.latches = p.play.latches)
    (hsub : ∀ l ∈ q.play.latches, l.what = .safe ∨ l.what = .recover ∨ l ∈ (t.port n).play.latches) :
    State.Stands n offs s p' (t.setPort n q) := by
  refine ⟨h.quiet, ?_, fun l hl => ?_, h.regs, h.flags⟩
  · rw [State.port_setPort, if_pos rfl]
    exact hq
  · rw [State.port_setPort, if_pos rfl] at hl
    rw [hlatches]
    rcases hsub l hl with hsafe | hrecover | hmem
    · exact .inl hsafe
    · exact .inr (.inl hrecover)
    · exact h.latches l hmem

/-- The port changed by a function that takes what stands as p to what stands as p'. -/
theorem State.Stands.modPort {f : Port → Port} {p' : Port} (hf : ∀ q, q.stand = p.stand → (f q).stand = p'.stand)
    (hlatches : p'.play.latches = p.play.latches := by rfl)
    (hsub : ∀ q : Port, ∀ l ∈ (f q).play.latches, l.what = .safe ∨ l.what = .recover ∨ l ∈ q.play.latches :=
      by exact fun _ _ hl => Or.inr (Or.inr hl)) :
    State.Stands n offs s p' (t.modPort n f) :=
  h.setPort (hf _ h.stand) hlatches (hsub _)

/-- A change of the port that its standing does not show. -/
theorem State.Stands.modPort_same {f : Port → Port} (hf : ∀ q, (f q).stand = q.stand)
    (hsub : ∀ q : Port, ∀ l ∈ (f q).play.latches, l.what = .safe ∨ l.what = .recover ∨ l ∈ q.play.latches :=
      by exact fun _ _ hl => Or.inr (Or.inr hl)) :
    State.Stands n offs s p (t.modPort n f) :=
  h.modPort (fun q hq => (hf q).trans hq) rfl hsub

theorem State.Stands.modPlayhead {f : Playhead → Playhead} {p' : Port}
    (hf : ∀ q : Port, q.stand = p.stand → { q with play := f q.play }.stand = p'.stand)
    (hlatches : p'.play.latches = p.play.latches := by rfl)
    (hsub : ∀ x : Playhead, ∀ l ∈ (f x).latches, l ∈ x.latches := by exact fun _ _ hl => hl) :
    State.Stands n offs s p' (t.modPlayhead (.port n) f) :=
  h.modPort (f := fun q => { q with play := f q.play }) hf hlatches (fun q l hl => .inr (.inr (hsub q.play l hl)))

/-- The playhead changed in the fields that show where the port stands. -/
theorem State.Stands.onPlay (f : Playhead → Playhead)
    (hf : ∀ q : Port, (q.on f).stand = (q.stand.on f).stand := by exact fun _ => rfl)
    (hlatches : (f p.play).latches = p.play.latches := by rfl)
    (hsub : ∀ x : Playhead, ∀ l ∈ (f x).latches, l ∈ x.latches := by exact fun _ _ hl => hl) :
    State.Stands n offs s (p.on f) (t.modPlayhead (.port n) f) :=
  h.modPlayhead (fun _ hq => Port.stand_congr hq (fun q => q.on f) hf) hlatches hsub

/-- A register written that is none of those watched. -/
theorem State.Stands.wr (page : Nat) {o : Nat} (w : Word) (ho : o < 0x400 := by decide)
    (hother : o ∉ [0x14, 0x58, 0x100, 0x104, 0x114] := by decide) : State.Stands n offs s p (t.wr page o w) := by
  obtain ⟨hflag, hquiet⟩ := not_or.mp (List.mem_cons.not.mp hother)
  have hlt (r : Nat) (hr : r ∈ [0x58, 0x100, 0x104, 0x114]) : r < 0x400 :=
    (show ∀ r ∈ [0x58, 0x100, 0x104, 0x114], r < 0x400 by decide) r hr
  refine ⟨h.quiet, h.stand, h.latches, fun r hr => ?_, fun i hi => ?_⟩
  · rw [State.rd_wr _ _ _ _ _ _ ho (hlt r (h.quiet r hr)), if_neg (fun (hc : _ ∧ r = o) => hquiet (hc.2 ▸ h.quiet r hr))]
    exact h.regs r hr
  · rw [State.rd_wr _ _ _ _ _ _ ho (by decide), if_neg (fun hc => hflag hc.2.symm)]
    exact h.flags i hi

/-- A counter advanced that is not watched. -/
theorem State.Stands.count (page : Nat) {o : Nat} (ho : o < 0x400 := by decide)
    (hwatch : o ≠ 0x14 ∧ o ∉ offs) : State.Stands n offs s p (t.count page o) := by
  have hlt (r : Nat) (hr : r ∈ [0x58, 0x100, 0x104, 0x114]) : r < 0x400 :=
    (show ∀ r ∈ [0x58, 0x100, 0x104, 0x114], r < 0x400 by decide) r hr
  refine ⟨h.quiet, h.stand, h.latches, fun r hr => ?_, fun i hi => ?_⟩
  · rw [State.rd_count _ ho (hlt r (h.quiet r hr)), if_neg (fun (hc : _ ∧ r = o) => hwatch.2 (hc.2 ▸ hr))]
    exact h.regs r hr
  · rw [State.rd_count _ ho (by decide), if_neg (fun hc => hwatch.1 hc.2.symm)]
    exact h.flags i hi

/-- A counter advanced that is never watched. -/
theorem State.Stands.count_other (page : Nat) {o : Nat} (ho : o < 0x400 := by decide)
    (hother : o ∉ [0x14, 0x58, 0x100, 0x104, 0x114] := by decide) : State.Stands n offs s p (t.count page o) :=
  h.wr page _ ho hother

/-- A flag set on any page. -/
theorem State.Stands.flag (page i : Nat) : State.Stands n offs s p (t.flag page i) := by
  have hport : (t.flag page i).port n = t.port n := (State.flag_agree t page i).port_eq rfl n
  refine ⟨h.quiet, ?_, ?_, fun r hr => ?_, fun j hj => ?_⟩
  · rw [hport]
    exact h.stand
  · rw [hport]
    exact h.latches
  · have hne : r ≠ 0x14 ∧ r < 0x400 :=
      (show ∀ r ∈ [0x58, 0x100, 0x104, 0x114], r ≠ 0x14 ∧ r < 0x400 by decide) r (h.quiet r hr)
    rw [State.rd_flag _ hne.2, if_neg (fun hc => hne.1 hc.2)]
    exact h.regs r hr
  · rw [State.rd_flag _ (by decide)]
    split
    · next hc =>
      obtain ⟨rfl, -⟩ := hc
      exact bit_or_left (h.flags j hj)
    · exact h.flags j hj

/-- A change of any port that leaves the port n standing. -/
theorem State.Stands.modPort_any (m : Nat) {f : Port → Port} (hf : ∀ q : Port, q.stand = p.stand → (f q).stand = p.stand)
    (hsub : ∀ q : Port, ∀ l ∈ (f q).play.latches, l ∈ q.play.latches := by exact fun _ _ hl => hl) :
    State.Stands n offs s p (t.modPort m f) := by
  by_cases hm : m = n
  · subst hm
    exact h.modPort hf rfl (fun q l hl => .inr (.inr (hsub q l hl)))
  · have hport : (t.modPort m f).port n = t.port n := (State.port_modPort _ _ _ _).trans (if_neg (Ne.symm hm))
    refine ⟨h.quiet, ?_, ?_, h.regs, h.flags⟩
    · rw [hport]
      exact h.stand
    · rw [hport]
      exact h.latches

/-! #### Faults and ledger entries -/

theorem State.Stands.fault (page code : Nat) (detail : Word) : State.Stands n offs s p (t.fault page code detail) := by
  have hlogged : State.Stands n offs s p ((t.pageFault page code).logFault page code detail) := by
    unfold State.logFault State.pageFault
    exact (((h.wr page (o := 0x1c) _).agree ((Agree.refl 2097152 _).setFaults rfl)).wr _ _).wr _ _ |>.flag _ _
  unfold State.fault
  dsimp only
  split
  · exact hlogged
  · exact hlogged.agree (State.emitAll_agree _ _)

theorem State.Stands.chainFault (u : SeqUnit) (pl : Plan) : State.Stands n offs s p (t.chainFault u pl) := by
  unfold State.chainFault
  split
  · exact h.fault _ _ _
  · exact h

theorem State.Stands.dataFault (m addr : Nat) (i : Option Nat) : State.Stands n offs s p (t.dataFault m addr i) := by
  have hcounted := ((h.count_other (Page.port m) (o := 0x108)).wr (Page.port m) (o := 0x10c) (lo32 addr)).wr (Page.port m)
    (o := 0x110) (word (addr / 2 ^ 32 % 256))
  unfold State.dataFault
  cases i with
  | none => exact hcounted
  | some i => exact hcounted.flag _ _

theorem State.Stands.bridgeFault (m : Nat) (a : Option Nat) : State.Stands n offs s p (t.bridgeFault m a) := by
  cases a with
  | none => exact (h.count_other (Page.port m) (o := 0x108)).flag _ _
  | some a => exact h.dataFault m a (some 2)

theorem State.Stands.granuleFault (addr : Nat) : State.Stands n offs s p (t.granuleFault n addr) := by
  have hfault := h.dataFault n addr (some 2)
  unfold State.granuleFault
  dsimp only
  split
  · refine hfault.modPort_same (fun _ => rfl) (fun q l hl => ?_)
    rcases List.mem_append.mp hl with hold | hnew
    · exact .inr (.inr hold)
    · exact .inl (congrArg Latch.what (List.mem_singleton.mp hnew))
  · exact hfault

theorem State.Stands.ledgerPut (kind flags : Nat) (payload : List Byte) (content : List Nat) :
    State.Stands n offs s p (t.ledgerPut kind flags payload content) := by
  unfold State.ledgerPut
  split
  · exact h.agree (State.ledgerAppend_agree _ _ _ _ _)
  · exact ((h.agree ((Agree.refl 1048576 _).setLedger rfl)).count_other _).flag _ _

theorem State.Stands.ledgerCheckpoint : State.Stands n offs s p t.ledgerCheckpoint := by
  unfold State.ledgerCheckpoint
  dsimp only
  split
  · exact (h.ledgerPut _ _ _ _).ledgerPut _ _ _ _
  · exact h.ledgerPut _ _ _ _

theorem State.Stands.ledgerNote (kind : Nat) (content : List Nat) : State.Stands n offs s p (t.ledgerNote kind content) := by
  unfold State.ledgerNote State.ledgerWrite
  dsimp only
  split
  · have hput := h.ledgerPut kind 0 [] content
    split
    · exact (hput.agree ((Agree.refl 1048576 _).setLedger rfl)).ledgerCheckpoint
    · exact hput.agree ((Agree.refl 1048576 _).setLedger rfl)
  · exact h.ledgerPut _ _ _ _

/-! #### Swatches that end (R302) -/

theorem State.Stands.releaseSwatch (hstate : p.state ≠ .service) (x : Swatch) :
    State.Stands n offs s p (t.releaseSwatch x) := by
  have hport (m : Nat) : State.Stands n offs s p (t.modPort m (fun q =>
      { q with state := if q.state = .service then .parked else q.state, stale := if x.legacy then false else q.stale })) := by
    refine h.modPort_any m (fun q hq => ?_)
    have hkept : q.state ≠ .service := fun hs => hstate ((congrArg Port.state hq).symm.trans hs)
    rw [← hq]
    simp only [if_neg hkept]
    rfl
  unfold State.releaseSwatch
  dsimp only
  split <;> split
  · exact (hport _).agree (State.modSpare_agree _ _ _)
  · exact h.agree (State.modSpare_agree _ _ _)
  · exact hport _
  · exact h

theorem State.Stands.calResult (result reason item : Nat) : State.Stands n offs s p (t.calResult result reason item) := by
  have hflagged := (h.wr Page.cal (o := 0x4c) (word (result + reason * 16 + item * 2 ^ 16))).flag Page.cal 0
  unfold State.calResult
  dsimp only
  split
  · exact hflagged.agree (State.setCalItem_agree _ _ _)
  · exact hflagged

theorem State.Stands.legacyOn : State.Stands n offs s p t.legacyOn := by
  unfold State.legacyOn
  dsimp only
  split
  · split
    · exact (h.agree ((Agree.refl 4194304 _).setCal rfl)).ledgerNote _ _
    · exact h
  · exact h

theorem State.Stands.abortSwatch (hstate : p.state ≠ .service) (k reason : Nat) :
    State.Stands n offs s p (t.abortSwatch k reason) := by
  unfold State.abortSwatch
  dsimp only
  split
  · exact h
  · next x _ =>
    have hreleased := (h.agree (State.setAdc_agree t k none)).releaseSwatch hstate x
    split
    · exact hreleased.legacyOn
    · split
      · exact ((hreleased.calResult _ _ _).agree (State.legacyNote_agree _ _)).legacyOn
      · exact hreleased.calResult _ _ _

theorem State.Stands.abortWhere (hstate : p.state ≠ .service) (f : Swatch → Bool) (reason : Nat) :
    State.Stands n offs s p (t.abortWhere f reason) := by
  have hone {u : State} (hu : State.Stands n offs s p u) (k : Nat) : State.Stands n offs s p
      (match u.adc k with
      | .some x => if f x then u.abortSwatch k reason else u
      | .none => u) := by
    split
    · split
      · exact hu.abortSwatch hstate k reason
      · exact hu
    · exact hu
  exact hone (hone h 0) 1

theorem State.Stands.abortUnit (hstate : p.state ≠ .service) : State.Stands n offs s p (t.abortUnit (.port n)) :=
  h.abortWhere hstate _ _

theorem State.Stands.endDelaySwatch (hstate : p.state ≠ .service) (m : Nat) :
    State.Stands n offs s p (t.endDelaySwatch m) := by
  unfold State.endDelaySwatch
  dsimp only
  split
  · exact (h.abortWhere hstate _ _).agree (State.spend_agree _)
  · exact h

end Stands

end Machine
end Sys2Proof
end

section
/-! PROOFS. A slot boundary by its parts: into the next slot, the players' output, and a granule played, each with where it
leaves the port standing. -/

namespace Sys2Proof
namespace Machine

/-! ### Into the next slot (R36, R58, R85) -/

/-- A port in its next slot, its acting event settled and its latches those that go on. -/
def Port.intoSlot (p : Port) (t : PType) (frozen : Bool) (park swing : Word) : Port :=
  { p with slot := p.slot + 1, play := { p.play with
      judged := none, latches := latchesInto (p.slot + 1) frozen p.play.latches } }.takeLevels t park swing

/-- A port whose acting jump event is settled. -/
def Port.unjudged (p : Port) : Port := { p with play := { p.play with judged := none } }

theorem State.settleJudged_port (s : State) (n : Nat) : s.settleJudged (.port n) =
    if (s.port n).play.lateNow then (s.countLate (.port n)).modPort n Port.unjudged else s := rfl

theorem State.settleRequest_port (s : State) (n : Nat) : s.settleRequest (.port n) =
    if (s.port n).play.latches.any (fun l => match l.what with
      | .start | .pause | .stop => true
      | .request _ => decide ((s.port n).slot < l.due)
      | _ => false) then s else s.modPort n Port.settled := rfl

/-- A port in its next slot, before its requested state is settled. -/
def State.intoSlot (s : State) (n : Nat) (frozen : Bool) : State :=
  (s.modPort n (fun p => p.intoSlot (Config.portType n) frozen (s.reg (portReg n 0x54)) (s.reg (portReg n 0xb8)))).spareReturns n

theorem State.passSlot_port (s : State) (n : Nat) (frozen : Bool) : s.passSlot (.port n) frozen =
    if ((s.settleJudged (.port n)).port n).play.latches.any
        (fun l => decide (l.due ≤ ((s.settleJudged (.port n)).port n).slot + 1)) then
      ((s.settleJudged (.port n)).intoSlot n frozen).settleRequest (.port n)
    else (s.settleJudged (.port n)).intoSlot n frozen := rfl

theorem State.port_settleJudged (s : State) (n : Nat) :
    (s.settleJudged (.port n)).port n = if (s.port n).play.lateNow then (s.port n).unjudged else s.port n := by
  rw [State.settleJudged_port]
  split
  · rw [State.port_modPort, if_pos rfl, (State.countLate_agree s (.port n)).port_eq rfl n]
  · rfl

theorem State.port_spareReturns (s : State) (n m : Nat) : (s.spareReturns n).port m = s.port m :=
  (State.spareReturns_agree s n).port_eq rfl m

theorem State.port_settleRequest (s : State) (n : Nat) :
    (s.settleRequest (.port n)).port n = s.port n ∨ (s.settleRequest (.port n)).port n = (s.port n).settled := by
  rw [State.settleRequest_port]
  split
  · exact .inl rfl
  · exact .inr ((State.port_modPort _ _ _ _).trans (if_pos rfl))

theorem State.port_intoSlot (s : State) (n : Nat) (frozen : Bool) : (s.intoSlot n frozen).port n =
    (s.port n).intoSlot (Config.portType n) frozen (s.reg (portReg n 0x54)) (s.reg (portReg n 0xb8)) :=
  (State.port_spareReturns _ n n).trans ((State.port_modPort _ _ _ _).trans (if_pos rfl))

/-- What a port is after it passed into its next slot. -/
theorem State.port_passSlot (s : State) (n : Nat) (frozen : Bool) : ∃ park swing,
    (s.passSlot (.port n) frozen).port n = (s.port n).intoSlot (Config.portType n) frozen park swing ∨
      (s.passSlot (.port n) frozen).port n = ((s.port n).intoSlot (Config.portType n) frozen park swing).settled := by
  have hinto := (s.settleJudged (.port n)).port_intoSlot n frozen
  have hjudged (park swing : Word) : ((s.settleJudged (.port n)).port n).intoSlot (Config.portType n) frozen park swing =
      (s.port n).intoSlot (Config.portType n) frozen park swing := by
    rw [State.port_settleJudged]
    split <;> rfl
  rw [hjudged] at hinto
  refine ⟨(s.settleJudged (.port n)).reg (portReg n 0x54), (s.settleJudged (.port n)).reg (portReg n 0xb8), ?_⟩
  rw [State.passSlot_port, ← hinto]
  split
  · exact State.port_settleRequest _ n
  · exact .inl rfl

theorem Port.stand_settled (p : Port) : p.settled.stand = p.stand := by
  unfold Port.settled
  split <;> rfl

/-- A latch that goes on into a slot was one of the port's. -/
theorem mem_latchesInto {slot : Nat} {frozen : Bool} {ls : List Latch} {l : Latch} (h : l ∈ latchesInto slot frozen ls) :
    ∃ k ∈ ls, k.what = l.what := by
  obtain ⟨k, hk, hl⟩ := List.mem_map.mp (List.mem_filter.mp h).1
  refine ⟨k, hk, ?_⟩
  rw [← hl]
  split <;> rfl

/-- What a port keeps as it passes into its next slot, the place apart. -/
structure Port.Passed (p q : Port) : Prop where
  stand : q.stand = p.nextSlot.stand
  latches : ∀ l ∈ q.play.latches, ∃ k ∈ p.play.latches, k.what = l.what
  seg : q.seg = p.seg
  bobbin : q.bobbin = p.bobbin
  underrun : q.underrun = p.underrun
  stale : q.stale = p.stale
  last : q.last = p.last

theorem Port.passed_intoSlot (p : Port) (t : PType) (frozen : Bool) (park swing : Word) :
    p.Passed (p.intoSlot t frozen park swing) :=
  ⟨rfl, fun _ hl => mem_latchesInto hl, rfl, rfl, rfl, rfl, rfl⟩

theorem Port.Passed.settled {p q : Port} (h : p.Passed q) : p.Passed q.settled := by
  refine ⟨q.stand_settled.trans h.stand, ?_, ?_, ?_, ?_, ?_, ?_⟩ <;> unfold Port.settled <;> split
  · exact h.latches
  · exact h.latches
  · exact h.seg
  · exact h.seg
  · exact h.bobbin
  · exact h.bobbin
  · exact h.underrun
  · exact h.underrun
  · exact h.stale
  · exact h.stale
  · exact h.last
  · exact h.last

theorem State.passed_passSlot (s : State) (n : Nat) (frozen : Bool) :
    (s.port n).Passed ((s.passSlot (.port n) frozen).port n) := by
  obtain ⟨park, swing, hport | hport⟩ := s.port_passSlot n frozen <;> rw [hport]
  · exact Port.passed_intoSlot _ _ _ _ _
  · exact (Port.passed_intoSlot _ _ _ _ _).settled

section Stands

variable {n : Nat} {offs : List Nat} {s t : State} {p : Port} (h : State.Stands n offs s p t)
include h

theorem State.Stands.settleRequest : State.Stands n offs s p (t.settleRequest (.port n)) := by
  rw [State.settleRequest_port]
  split
  · exact h
  · refine h.modPort_same Port.stand_settled (fun q l hl => .inr (.inr ?_))
    unfold Port.settled at hl
    split at hl <;> exact hl

/-- The acting event settled: a late one is counted. -/
theorem State.Stands.settleJudged (hcount : (t.port n).play.lateNow = false ∨ 0x104 ∉ offs) :
    State.Stands n offs s p (t.settleJudged (.port n)) := by
  rw [State.settleJudged_port]
  split
  · next hlate =>
    have hoff : 0x104 ∉ offs := hcount.resolve_left (by rw [hlate]; decide)
    exact ((h.count _ (o := 0x104) (by decide) ⟨by decide, hoff⟩).flag _ _).modPort_same (fun _ => rfl)
  · exact h

theorem State.Stands.handedOver (g m : Nat) : State.Stands n offs s p (t.handedOver g m) :=
  ((h.flag (Page.port m) 12).count_other (Page.spare g) (o := 0x4c)).flag (Page.spare g) 1

theorem State.Stands.spareReturns (m : Nat) : State.Stands n offs s p (t.spareReturns m) := by
  have hspare (g : Nat) (x : Spare) : State.Stands n offs s p (t.setSpare g x) := h.agree (State.setSpare_agree t g x)
  unfold State.spareReturns
  extract_lets x isP
  split
  · exact (hspare _ _).handedOver _ _
  · exact h

/-- What the port is replaced by has passed into its next slot. -/
theorem State.Stands.setPort_passed {q : Port} (hq : (t.port n).Passed q) :
    State.Stands n offs s p.nextSlot (t.setPort n q) := by
  refine ⟨h.quiet, ?_, fun l hl => ?_, h.regs, h.flags⟩ <;> rw [State.port_setPort, if_pos rfl] at *
  · exact hq.stand.trans (congrArg Port.nextSlot h.stand)
  · obtain ⟨k, hk, hwhat⟩ := hq.latches l hl
    unfold Latch.among
    rw [← hwhat]
    exact h.latches k hk

theorem State.Stands.intoSlot (frozen : Bool) : State.Stands n offs s p.nextSlot (t.intoSlot n frozen) := by
  unfold State.intoSlot State.modPort
  exact (h.setPort_passed (Port.passed_intoSlot _ _ _ _ _)).spareReturns n

/-- The port passes into its next slot. -/
theorem State.Stands.passSlot (frozen : Bool) (hcount : (t.port n).play.lateNow = false ∨ 0x104 ∉ offs) :
    State.Stands n offs s p.nextSlot (t.passSlot (.port n) frozen) := by
  have hinto := (h.settleJudged hcount).intoSlot frozen
  rw [State.passSlot_port]
  split
  · exact hinto.settleRequest
  · exact hinto

end Stands
end Machine
end Sys2Proof
end

section
/-! PROOFS. A port's output in a slot, and the granule that it plays: where they leave the port standing. -/

namespace Sys2Proof
namespace Machine

/-! ### A slot's output (R68, R95, R105) -/

/-- A port with what a slot puts out erased, the oscillator and the marker state too. -/
def Port.still (p : Port) : Port :=
  { p with osc := Osc.reset, ms := 0, out := [], last := Sample.zero, limited := false, ramp := none }

theorem Port.stand_of_still {p q : Port} (h : q.still = p.still) : q.stand = p.stand :=
  show q.still.stand = p.still.stand from congrArg Port.stand h

theorem Port.requested_of_still {p q : Port} (h : q.still = p.still) : q.requested = p.requested :=
  show q.still.requested = p.still.requested from congrArg Port.requested h

theorem Port.underrun_of_still {p q : Port} (h : q.still = p.still) : q.underrun = p.underrun :=
  show q.still.underrun = p.still.underrun from congrArg Port.underrun h

theorem Port.play_of_still {p q : Port} (h : q.still = p.still) : q.play = p.play :=
  show q.still.play = p.still.play from congrArg Port.play h

/-- A slot's output replaces the port by one that differs in what it puts out, and sets at most the flag of R178; a sample
held keeps its value. -/
theorem State.playSlot_eq (s : State) (n : Nat) (c : Content) (acts : Acts) (lost : Bool) :
    ∃ (q : Port) (flagged : Bool) (plays : List Nat),
    (s.playSlot n c acts lost).1 =
      (if flagged then (s.setPort n q).flag (Page.port n) 11 else s.setPort n q).contribute n plays ∧
    q.still = (s.port n).still ∧
    (c = .hold → (s.port n).forced = false → q.last.value = (s.port n).last.value) := by
  generalize hr : s.playSlot n c acts lost = r
  unfold State.playSlot at hr
  extract_lets -underBinder p t count osc c1 p1 held x p2 route risen level trip out tr isP s1 s2 plays at hr
  have hp1 : p1.still = p.still := by
    unfold p1
    cases c1 <;> rfl
  have hp2 : p2.still = p.still := by
    unfold p2
    cases lost
    · exact hp1
    · exact hp1
  have hold (hc : c = .hold) : p2.last.value = p.last.value := by
    have hc1 : c1 = .hold := by
      unfold c1
      split
      · rfl
      · exact hc
    unfold p2 p1
    rw [hc1]
    cases lost <;> rfl
  have hunforced (hf : (s.port n).forced = false) (y : Sample) : trip y = y := if_neg (by rw [show p.forced = false from hf]; decide)
  refine ⟨_, _, plays, (congrArg Prod.fst hr).symm, hp2, fun hc hf => ?_⟩
  exact (congrArg Sample.value (hunforced hf p2.last)).trans (hold hc)

theorem State.port_playSlot {s : State} {n : Nat} {c : Content} {acts : Acts} {lost : Bool} {q : Port} {flagged : Bool}
    {plays : List Nat} (h : (s.playSlot n c acts lost).1 =
      (if flagged then (s.setPort n q).flag (Page.port n) 11 else s.setPort n q).contribute n plays) :
    (s.playSlot n c acts lost).1.port n = q := by
  have hset : (s.setPort n q).port n = q := (State.port_setPort _ _ _ _).trans (if_pos rfl)
  rw [h, (State.contribute_agree _ n plays).port_eq rfl n]
  split
  · rw [(State.flag_agree _ (Page.port n) 11).port_eq rfl n, hset]
  · exact hset

theorem State.still_playSlot (s : State) (n : Nat) (c : Content) (acts : Acts) (lost : Bool) :
    ((s.playSlot n c acts lost).1.port n).still = (s.port n).still := by
  obtain ⟨q, flagged, plays, heq, hstill, -⟩ := s.playSlot_eq n c acts lost
  rw [State.port_playSlot heq, hstill]

theorem State.last_playSlot_hold {s : State} {n : Nat} (hforced : (s.port n).forced = false) (acts : Acts) (lost : Bool) :
    ((s.playSlot n .hold acts lost).1.port n).last.value = (s.port n).last.value := by
  obtain ⟨q, flagged, plays, heq, -, hlast⟩ := s.playSlot_eq n .hold acts lost
  rw [State.port_playSlot heq, hlast rfl hforced]

theorem State.Stands.playSlot {n : Nat} {offs : List Nat} {s t : State} {p : Port} (h : State.Stands n offs s p t)
    (c : Content) (acts : Acts) (lost : Bool) : State.Stands n offs s p (t.playSlot n c acts lost).1 := by
  obtain ⟨q, flagged, plays, heq, hstill, -⟩ := t.playSlot_eq n c acts lost
  have hplay := Port.play_of_still hstill
  have hset : State.Stands n offs s p (t.setPort n q) :=
    h.setPort ((Port.stand_of_still hstill).trans h.stand) rfl (fun l hl => .inr (.inr (hplay ▸ hl)))
  rw [heq]
  cases flagged with
  | false => exact hset.agree (State.contribute_agree _ n plays)
  | true => exact (hset.flag _ _).agree (State.contribute_agree _ n plays)

theorem State.port_bridgeFault (s : State) (n m : Nat) (a : Option Nat) : (s.bridgeFault n a).port m = s.port m :=
  (State.bridgeFault_agree s n a).port_eq rfl m

theorem Played.still_rest (r : Played) (n : Nat) (c : Content) (acts : Acts) (errs : SlotErrors) :
    ((Played.rest r n c acts errs).1.port n).still = (r.1.port n).still := by
  refine (State.still_playSlot _ n c acts _).trans ?_
  split
  · rw [State.port_bridgeFault]
  · rfl

theorem State.still_rest (s : State) (n : Nat) (c : Content) (acts : Acts) (errs : SlotErrors) (evs : List (Nat × Nat)) :
    ((Played.rest (s, evs) n c acts errs).1.port n).still = (s.port n).still := Played.still_rest (s, evs) n c acts errs

theorem Played.last_rest_hold {r : Played} {n : Nat} (hforced : (r.1.port n).forced = false) (acts : Acts)
    (errs : SlotErrors) : ((Played.rest r n .hold acts errs).1.port n).last.value = (r.1.port n).last.value := by
  have hsame : (if errs.bridge.contains n then (r.1.bridgeFault n none, r.2) else r).1.port n = r.1.port n := by
    split
    · exact State.port_bridgeFault _ _ _ _
    · rfl
  refine (State.last_playSlot_hold ?_ acts _).trans ?_
  · rw [hsame]
    exact hforced
  · rw [hsame]

section Stands

variable {n : Nat} {offs : List Nat} {s t : State} {p : Port}

theorem State.Stands.rest {r : Played} (h : State.Stands n offs s p r.1) (c : Content) (acts : Acts) (errs : SlotErrors) :
    State.Stands n offs s p (Played.rest r n c acts errs).1 := by
  refine State.Stands.playSlot ?_ c acts _
  split
  · exact h.bridgeFault n none
  · exact h

variable (h : State.Stands n offs s p t)
include h

theorem State.Stands.rest_pair (c : Content) (acts : Acts) (errs : SlotErrors) (evs : List (Nat × Nat)) :
    State.Stands n offs s p (Played.rest (t, evs) n c acts errs).1 :=
  State.Stands.rest (r := (t, evs)) h c acts errs

theorem State.Stands.episodeOver : State.Stands n offs s p (t.episodeOver n) := h.modPort_same (fun _ => rfl)

theorem State.Stands.endMerge : State.Stands n offs s p (t.endMerge (.port n)) :=
  h.modPort_same (f := fun q => { q with merge := none }) (fun _ => rfl)

theorem State.Stands.setUnitState (st : UState) :
    State.Stands n offs s { p with state := st } (t.setUnitState (.port n) st) :=
  (h.modPort (f := fun q => { q with state := st }) (p' := { p with state := st })
    (fun _ hq => Port.stand_congr hq (fun q => { q with state := st }))).settleRequest

theorem State.Stands.playAll (c : Content) (acts : Acts) (errs : SlotErrors) (evs : List (Nat × Nat)) :
    State.Stands n offs s p (t.playAll (.port n) c acts errs evs).1 := by
  refine State.Stands.rest ?_ c acts errs
  split
  · exact h
  · exact h.episodeOver

end Stands

theorem State.Stands.done {n : Nat} {offs : List Nat} {s : State} {p : Port} {r : Played}
    (h : State.Stands n offs s p r.1) (hop : Nat) : State.Stands n offs s p (r.done hop) :=
  h.agree (State.emitAll_agree _ _)

/-! ### A granule played (R38-R41, R73, R142-R145) -/

/-- An underrun episode begins at a port, where none is running (R73). -/
def State.starve (s : State) (n : Nat) : State :=
  if (s.port n).underrun then s
  else ((s.count (Page.port n) 0x100).flag (Page.port n) 0).modPort n (fun p => { p with underrun := true })

/-- A port's recovery latched for the slot at which it begins (R74), in granule i of a pass. -/
def Port.awaitRecovery (ka i : Nat) (p : Port) : Port :=
  { p with play := { p.play with
    begun := p.play.begun && i == 0 && p.play.pass == 1
    latches := p.play.latches ++ [{ due := p.slot + ka, what := .recover, hop := p.play.hop }] } }

/-- A missing granule of a frozen output, or of one that a rail holds off, counts nothing (R310, R435). -/
theorem Played.underrun_of_held {r : Played} {n : Nat} (h : (r.1.port n).stale = true ∨ r.1.railHolds n = true) (i : Nat)
    (member : Bool) : Played.underrun r n i member = (r, false) := by
  unfold Played.underrun
  rw [if_pos (by simpa using h)]

/-- A missing granule of a port that does not park on it: an episode begins or goes on, and a recovery may be latched. -/
theorem Played.underrun_of_policy {r : Played} {n : Nat} (hstale : (r.1.port n).stale = false)
    (hrail : r.1.railHolds n = false) (hpolicy : bits (r.1.rd (Page.port n) 0x58) 0 2 ≠ 1) (i : Nat) (member : Bool) :
    (Played.underrun r n i member).2 = false ∧ ((Played.underrun r n i member).1.1 = r.1.starve n ∨
      (Played.underrun r n i member).1.1 =
        (r.1.starve n).modPort n (Port.awaitRecovery (Config.ka (Config.portType n)) i)) := by
  unfold Played.underrun State.starve
  extract_lets u pg q policy r1 cut
  have hr1 : r1.1 = if (r.1.port n).underrun then r.1
      else ((r.1.count (Page.port n) 0x100).flag (Page.port n) 0).modPort n (fun p => { p with underrun := true }) := by
    unfold r1
    split <;> rfl
  rw [if_neg (by rw [show q.stale = false from hstale, show u.railHolds n = false from hrail]; decide),
    if_neg (show ¬ policy = 1 from hpolicy), ← hr1]
  split
  · exact ⟨rfl, .inr rfl⟩
  · exact ⟨rfl, .inl rfl⟩

/-- A missing granule leaves a port that does not park on an underrun where it stands. -/
theorem State.Stands.underrun {n : Nat} {offs : List Nat} {s : State} {p : Port} {r : Played}
    (h : State.Stands n offs s p r.1) (hcount : 0x100 ∉ offs) (hpolicy : bits (r.1.rd (Page.port n) 0x58) 0 2 ≠ 1) (i : Nat)
    (member : Bool) :
    State.Stands n offs s p (Played.underrun r n i member).1.1 ∧ (Played.underrun r n i member).2 = false := by
  have hstarved : State.Stands n offs s p (r.1.starve n) := by
    unfold State.starve
    split
    · exact h
    · exact ((h.count _ (o := 0x100) (by decide) ⟨by decide, hcount⟩).flag _ _).modPort_same
        (f := fun q => { q with underrun := true }) (fun _ => rfl)
  by_cases hheld : (r.1.port n).stale = true ∨ r.1.railHolds n = true
  · rw [Played.underrun_of_held hheld]
    exact ⟨h, rfl⟩
  · obtain ⟨hstale, hrail⟩ := not_or.mp hheld
    obtain ⟨hparks, hstate | hstate⟩ := Played.underrun_of_policy (Bool.eq_false_iff.mpr hstale)
      (Bool.eq_false_iff.mpr hrail) hpolicy i member
    · rw [hstate]
      exact ⟨hstarved, hparks⟩
    · rw [hstate]
      refine ⟨hstarved.modPort_same (fun _ => rfl) (fun q l hl => ?_), hparks⟩
      rcases List.mem_append.mp hl with hold | hnew
      · exact .inr (.inr hold)
      · exact .inr (.inl (congrArg Latch.what (List.mem_singleton.mp hnew)))

/-- A state in which the port n stands as one of a kind of ports. -/
def State.StandsAs (n : Nat) (offs : List Nat) (s : State) (P : Port → Prop) (t : State) : Prop :=
  ∃ p, P p ∧ State.Stands n offs s p t

theorem State.StandsAs.map {n : Nat} {offs : List Nat} {s t u : State} {P : Port → Prop} (h : State.StandsAs n offs s P t)
    (f : ∀ {p}, State.Stands n offs s p t → State.Stands n offs s p u) : State.StandsAs n offs s P u := by
  obtain ⟨p, hp, hstands⟩ := h
  exact ⟨p, hp, f hstands⟩

/-- A granule played leaves its port standing as one of a kind, where an underrun does. -/
theorem State.StandsAs.granule {n : Nat} {offs : List Nat} {s : State} {P : Port → Prop} {r : Played}
    (h : State.StandsAs n offs s P r.1) (i : Nat) (acts : Acts) (errs : SlotErrors) (member : Bool)
    (hunderrun : ∀ v, State.StandsAs n offs s P v → State.StandsAs n offs s P (Played.underrun (v, r.2) n i member).1.1) :
    State.StandsAs n offs s P (Played.granule r n i acts errs member).1 := by
  unfold Played.granule
  extract_lets q t addr lost u a held play
  have hu : State.StandsAs n offs s P u := by
    unfold u
    split
    · exact h.map fun k => k.bridgeFault n (some addr)
    · exact h
  have hheld {v : State} (hv : State.StandsAs n offs s P v) : State.StandsAs n offs s P (held v).1 :=
    hv.map fun k => k.episodeOver.playSlot _ _ _
  have hfault : State.StandsAs n offs s P (u.granuleFault n addr) := hu.map fun k => k.granuleFault addr
  have hplay {v : State} (hv : State.StandsAs n offs s P v) (g : Granule) : State.StandsAs n offs s P (play v g).1 := by
    unfold play
    split
    · exact hheld (hv.map fun k => (k.granuleFault addr).fault _ _ _)
    · exact hv.map fun k => (k.episodeOver.modPort_same
        (f := fun p => { p with seg := { p.seg with tail := (rawSamples t g).getLast?.getD 0 } })
        (fun _ => rfl)).playSlot _ _ _
  split
  · split
    · exact hheld (hu.map fun k => k.dataFault n _ _)
    · exact hheld hu
  · split
    · exact hu.map fun k => k.episodeOver.playSlot _ _ _
    · split
      · split
        · exact hplay hu _
        · exact hheld hfault
      · split
        · have hpresent : State.StandsAs n offs s P (u.modPort n (fun p => { p with bobbin := { p.bobbin with
              present := p.bobbin.present.filter (fun f => !(f.pass == p.bobbin.playing && f.gran == i)) } })) :=
            hu.map fun k => k.modPort_same (fun _ => rfl)
          split
          · exact hplay hpresent _
          · exact hheld (hpresent.map fun k => k.granuleFault _)
        · split
          · exact hheld hfault
          · exact (hunderrun u hu).map fun k => k.playSlot _ _ _

/-- A granule played leaves a port that does not park on an underrun where it stands. -/
theorem State.Stands.granule {n : Nat} {offs : List Nat} {s : State} {p : Port} {r : Played}
    (h : State.Stands n offs s p r.1) (hcount : 0x100 ∉ offs) (hwatch : 0x58 ∈ offs)
    (hpolicy : bits (s.rd (Page.port n) 0x58) 0 2 ≠ 1) (i : Nat) (acts : Acts) (errs : SlotErrors) (member : Bool) :
    State.Stands n offs s p (Played.granule r n i acts errs member).1 := by
  have hkind : State.StandsAs n offs s (· = p) r.1 := ⟨p, rfl, h⟩
  obtain ⟨_, rfl, hstands⟩ := hkind.granule i acts errs member fun v hv => by
    obtain ⟨_, rfl, hv⟩ := hv
    have hpolicy' : bits (v.rd (Page.port n) 0x58) 0 2 ≠ 1 := by
      rw [hv.regs 0x58 hwatch]
      exact hpolicy
    exact ⟨_, rfl, (State.Stands.underrun (r := (v, r.2)) hv hcount hpolicy' i member).1⟩
  exact hstands

/-- The granule that the playhead stands at, played by the port alone. -/
theorem State.playGranule_port (s : State) (n : Nat) (acts : Acts) (errs : SlotErrors) (evs : List (Nat × Nat)) :
    (s.playGranule (.port n) acts errs evs).1 = (Played.granule (s, evs) n (s.port n).play.gran acts errs false).1 := rfl

theorem State.Stands.playGranule {n : Nat} {offs : List Nat} {s t : State} {p : Port} (h : State.Stands n offs s p t)
    (hcount : 0x100 ∉ offs) (hwatch : 0x58 ∈ offs) (hpolicy : bits (s.rd (Page.port n) 0x58) 0 2 ≠ 1) (acts : Acts)
    (errs : SlotErrors) (evs : List (Nat × Nat)) : State.Stands n offs s p (t.playGranule (.port n) acts errs evs).1 := by
  rw [State.playGranule_port]
  exact State.Stands.granule (r := (t, evs)) h hcount hwatch hpolicy _ _ _ _

end Machine
end Sys2Proof
end

section
/-! PROOFS. What follows at a boundary: a pass, a selvedge, a WAIT, a GAP or a HALT, and a plan carried out. -/

namespace Sys2Proof
namespace Machine

/-! ### A port parks (R49, R84, R193) -/

theorem State.leaveGroup_of_none {s : State} {n : Nat} (h : (s.port n).group = none) : s.leaveGroup n = s := by
  unfold State.leaveGroup
  rw [h]

theorem State.applyHeld_of_zero {s : State} {n : Nat} (h : (s.port n).held = 0) : s.applyHeld n = s := if_pos h

/-- A port whose playhead was idled as it parked, a request being carried out against PARKED or none. -/
def Port.parkedWith (p : Port) (again : Option UState) : Port :=
  { p with
    state := .parked, deliver := again, pulse := none, restart := false
    play := { Playhead.idle with rows := p.play.rows, latches := p.play.latches } }

/-- A port that stands outside a group is brought to PARKED. -/
theorem State.Stands.toParked {n : Nat} {offs : List Nat} {s t : State} {p : Port} (h : State.Stands n offs s p t)
    (hgroup : p.group = none) :
    State.Stands n offs s (p.parkedWith (requestDue p.slot (t.port n).play.latches)) (t.toParked n .parked) := by
  have hgroup' : (t.port n).group = none := h.group_eq.trans hgroup
  have hslot : (t.port n).slot = p.slot := h.slot_eq
  have hreleased : State.Stands n offs s p (t.releaseData n) :=
    (h.agree ((Agree.refl 2048 t).setCopies rfl)).modPort_same
      (f := fun q => { q with demand := 0, shares := [], admitted := false }) (fun _ => rfl)
  have hport : (t.releaseData n).port n = { t.port n with demand := 0, shares := [], admitted := false } :=
    (State.port_modPort _ _ _ _).trans (if_pos rfl)
  unfold State.toParked
  rw [State.leaveGroup_of_none hgroup']
  refine hreleased.setPort ?_ rfl (fun l hl => .inr (.inr (List.mem_of_mem_filter hl)))
  rw [hport, ← hslot]
  exact Port.stand_congr h.stand (fun q => q.parkedWith (requestDue (t.port n).slot (t.port n).play.latches))

/-- A latch among kinds that hold no request is none. -/
theorem Latch.among.not_request {l : Latch} {ls : List Latch} (h : l.among ls) (hnone : ∀ k ∈ ls, ∀ st, k.what ≠ .request st)
    (st : UState) : l.what ≠ .request st := by
  rcases h with hsafe | hrecover | ⟨k, hk, hwhat⟩
  · rw [hsafe]
    exact Latched.noConfusion
  · rw [hrecover]
    exact Latched.noConfusion
  · rw [← hwhat]
    exact hnone k hk st

theorem requestDue_of_none {ls : List Latch} (h : ∀ l ∈ ls, ∀ st, l.what ≠ .request st) (slot : Nat) :
    requestDue slot ls = none := by
  unfold requestDue
  rw [List.getLast?_eq_none_iff, List.filterMap_eq_nil_iff]
  intro x hx
  split
  · next st hst => exact absurd hst (h x hx st)
  · rfl

/-- Without a request among its latches a port that is brought to PARKED shows PARKED. -/
theorem State.requested_toParked {s : State} {n : Nat} (hgroup : (s.port n).group = none)
    (hnone : ∀ l ∈ (s.port n).play.latches, ∀ st, l.what ≠ .request st) :
    ((s.toParked n .parked).port n).requested = .parked := by
  have hport : (s.releaseData n).port n = { s.port n with demand := 0, shares := [], admitted := false } :=
    (State.port_modPort _ _ _ _).trans (if_pos rfl)
  unfold State.toParked
  rw [State.leaveGroup_of_none hgroup, State.port_modPort, if_pos rfl, hport]
  show (requestDue (s.port n).slot (s.port n).play.latches).getD .parked = .parked
  rw [requestDue_of_none hnone]
  rfl

/-- What a park at a boundary does beside bringing the port to PARKED. -/
theorem State.parkAt_eq {s : State} {n : Nat} (hgroup : (s.port n).group = none) (hheld : (s.port n).held = 0)
    (kind : ParkKind) : ∃ hold ramp,
    s.parkAt n kind = (s.toParked n .parked).modPort n (fun p => { p with holdPark := hold, ramp := ramp }) := by
  have hkept : ((s.toParked n .parked).port n).held = 0 :=
    (State.Stands.toParked (State.Stands.refl n s []) hgroup).held_eq.trans hheld
  refine ⟨_, _, State.applyHeld_of_zero ?_⟩
  rw [State.port_modPort, if_pos rfl]
  exact hkept

/-- A port outside a group parks at a boundary. -/
theorem State.Stands.parkUnit {n : Nat} {offs : List Nat} {s t : State} {p : Port} (h : State.Stands n offs s p t)
    (hgroup : p.group = none) (hheld : p.held = 0) (kind : Nat → ParkKind) :
    State.Stands n offs s (p.parkedWith (requestDue p.slot (t.port n).play.latches)) (t.parkUnit (.port n) kind) := by
  obtain ⟨hold, ramp, heq⟩ := State.parkAt_eq (h.group_eq.trans hgroup) (h.held_eq.trans hheld) (kind n)
  show State.Stands n offs s _ (t.parkAt n (kind n))
  rw [heq]
  exact (h.toParked hgroup).modPort_same (f := fun p => { p with holdPark := hold, ramp := ramp }) (fun _ => rfl)

/-- Without a request among its latches a port that parks shows PARKED. -/
theorem State.Stands.requested_parkUnit {n : Nat} {offs : List Nat} {s t : State} {p : Port} (h : State.Stands n offs s p t)
    (hgroup : p.group = none) (hheld : p.held = 0) (hnone : ∀ l ∈ p.play.latches, ∀ st, l.what ≠ .request st)
    (kind : Nat → ParkKind) : ((t.parkUnit (.port n) kind).port n).requested = .parked := by
  have hgroup' := h.group_eq.trans hgroup
  obtain ⟨hold, ramp, heq⟩ := State.parkAt_eq hgroup' (h.held_eq.trans hheld) (kind n)
  show ((t.parkAt n (kind n)).port n).requested = .parked
  rw [heq, State.port_modPort, if_pos rfl]
  exact State.requested_toParked hgroup' (fun l hl st => (h.latches l hl).not_request hnone st)

/-! ### What follows (R47, R49, R62-R67) -/

theorem State.Stands.refetchPass {n : Nat} {offs : List Nat} {s t : State} {p : Port} (h : State.Stands n offs s p t)
    (entry pass : Nat) (word : BitVec 256) (rows : Vector (BitVec 16) 4) :
    State.Stands n offs s p (t.refetchPass n entry pass word rows) :=
  h.modPort_same (f := fun p => { p with bobbin := p.bobbin.startAt entry pass word rows }) (fun _ => rfl)

/-- The port takes up the segment of a pass, the fetch engine sent to it where it has read ahead something else. -/
def State.takeSeg (s : State) (n entry pass : Nat) (word : BitVec 256) (rows : Vector (BitVec 16) 4) (bad : Bool) : State :=
  let seg := s.beginSeg n word bad
  let s0 := if seg.streamed && !(s.port n).bobbin.fetchesNext seg.desc seg.word then s.refetchPass n entry pass word rows
    else s
  s0.modPort n (fun p => { p with
    seg := seg
    bobbin := if seg.streamed then { p.bobbin with
        playing := p.bobbin.playing + 1
        present := p.bobbin.present.filter (fun f => decide (p.bobbin.playing < f.pass))
        ahead := p.bobbin.ahead.drop 1 } else p.bobbin })

/-- A playhead at the first granule of a pass. -/
def Playhead.beginPass (ph : Playhead) (entry pass : Nat) (word : BitVec 256) (len : Nat) (streamed : Bool) : Playhead :=
  { ph with
    entry := entry, word := word, activity := .segment, pass := pass, gran := 0, len := len, plan := .none, begun := true
    trans := if streamed then .none else ph.trans }

theorem State.beginPass_port (s : State) (n entry pass : Nat) (word : BitVec 256) (acts : Acts) (errs : SlotErrors)
    (evs : List (Nat × Nat)) : ∃ len streamed acts',
    s.beginPass (.port n) entry pass word acts errs evs =
      ((s.takeSeg n entry pass word (s.port n).play.rows errs.desc).modPlayhead (.port n)
        (fun ph => ph.beginPass entry pass word len streamed)).playGranule (.port n) acts' errs evs :=
  ⟨_, _, _, rfl⟩

theorem State.Stands.takeSeg {n : Nat} {offs : List Nat} {s t : State} {p : Port} (h : State.Stands n offs s p t)
    (entry pass : Nat) (word : BitVec 256) (rows : Vector (BitVec 16) 4) (bad : Bool) :
    State.Stands n offs s p (t.takeSeg n entry pass word rows bad) := by
  unfold State.takeSeg
  dsimp only
  refine State.Stands.modPort_same ?_ (fun _ => rfl)
  split
  · exact h.refetchPass _ _ _ _
  · exact h

/-- A pass that begins. -/
theorem State.Stands.beginPass {n : Nat} {offs : List Nat} {s t : State} {p : Port} (h : State.Stands n offs s p t)
    (hcount : 0x100 ∉ offs) (hwatch : 0x58 ∈ offs) (hpolicy : bits (s.rd (Page.port n) 0x58) 0 2 ≠ 1) (entry pass : Nat)
    (word : BitVec 256) (acts : Acts) (errs : SlotErrors) (evs : List (Nat × Nat)) : ∃ len streamed,
    State.Stands n offs s (p.on (fun ph => ph.beginPass entry pass word len streamed))
      (t.beginPass (.port n) entry pass word acts errs evs).1 := by
  obtain ⟨len, streamed, acts', heq⟩ := t.beginPass_port n entry pass word acts errs evs
  rw [heq]
  exact ⟨len, streamed, ((h.takeSeg entry pass word _ errs.desc).onPlay _).playGranule hcount hwatch hpolicy _ _ _⟩

/-- A playhead in a selvedge before a pass. -/
def Playhead.toSelvedge (ph : Playhead) (entry pass : Nat) (word : BitVec 256) (need : Nat) : Playhead :=
  { ph with
    entry := entry, word := word, activity := .selvedge, pass := pass, gran := 0, len := need, cand := 0, plan := .none
    begun := false, trans := .none }

/-- A playhead in a WAIT. -/
def Playhead.toWait (ph : Playhead) (entry : Nat) (word : BitVec 256) : Playhead :=
  { ph with
    entry := entry, word := word, activity := .wait, pass := 0, gran := 0, len := waitTimeout word, cand := 0
    pend := 0, plan := .none, begun := false }

/-- A playhead in a GAP. -/
def Playhead.toGap (ph : Playhead) (entry : Nat) (word : BitVec 256) (len : Nat) : Playhead :=
  { ph with
    entry := entry, word := word, activity := .gap, pass := 0, gran := 0, len := len, cand := 0, plan := .none
    begun := false }

theorem State.follow_wait (s : State) (n entry : Nat) (word : BitVec 256) (acts : Acts) (errs : SlotErrors)
    (evs : List (Nat × Nat)) : s.follow (.port n) (.wait entry word) acts errs evs =
      (s.modPlayhead (.port n) (fun ph => ph.toWait entry word)).playAll (.port n) .hold acts errs evs := rfl

theorem State.follow_gap (s : State) (n entry : Nat) (word : BitVec 256) (acts : Acts) (errs : SlotErrors)
    (evs : List (Nat × Nat)) : s.follow (.port n) (.gap entry word) acts errs evs =
      (s.modPlayhead (.port n) (fun ph => ph.toGap entry word (gapSlots (s.unitType (.port n)) word))).playAll (.port n)
        (gapContent word) acts errs evs := rfl

theorem State.follow_play (s : State) (n entry pass : Nat) (word : BitVec 256) (acts : Acts) (errs : SlotErrors)
    (evs : List (Nat × Nat)) : s.follow (.port n) (.play entry pass word) acts errs evs =
      if s.selvedgeNeeded (.port n) word errs.desc = 0 then s.beginPass (.port n) entry pass word acts errs evs
      else (((s.count (Page.port n) 0x118).flag (Page.port n) 3).modPlayhead (.port n)
        (fun ph => ph.toSelvedge entry pass word (s.selvedgeNeeded (.port n) word errs.desc))).playAll (.port n) .hold acts errs
          evs := rfl

theorem State.follow_halt (s : State) (n : Nat) (acts : Acts) (errs : SlotErrors) (evs : List (Nat × Nat)) :
    ∃ kind, s.follow (.port n) .halt acts errs evs =
      Played.rest ((s.flag (Page.port n) 4).parkUnit (.port n) kind, evs) n .park acts errs := ⟨_, rfl⟩

/-- Without a transition outstanding no selvedge is needed (R62). -/
theorem State.selvedgeNeeded_of_none {s : State} {n : Nat} (h : (s.port n).play.trans = none) (word : BitVec 256) (bad : Bool) :
    s.selvedgeNeeded (.port n) word bad = 0 := by
  unfold State.selvedgeNeeded
  rw [show (s.playhead (.port n)).trans = none from h]

/-- Where what follows takes a port p that has reached a slot. -/
def Port.Follows (p q : Port) (f : Follow) : Prop :=
  q.slot = p.slot ∧ (p.play.pend = 0 → q.play.pend = 0) ∧
  match f with
  | .play e k w => q.state = p.state ∧ q.play.entry = e ∧ q.play.word = w ∧ q.play.pass = k ∧ q.play.gran = 0 ∧
      q.play.plan = none ∧ (q.play.activity = .segment ∨ q.play.activity = .selvedge ∧ p.play.trans ≠ none)
  | .wait e _ => q.state = p.state ∧ q.play.entry = e ∧ q.play.activity = .wait ∧ q.play.gran = 0 ∧ q.play.rows = p.play.rows
  | .gap e _ => q.state = p.state ∧ q.play.entry = e ∧ q.play.activity = .gap ∧ q.play.gran = 0
  | .halt => q.state = .parked ∧ q.play.activity = .idle ∧
      ((∀ l ∈ p.play.latches, ∀ st, l.what ≠ .request st) → q.requested = .parked)

/-- What follows takes a port that walks alone where it says, in the slot that the port has reached. -/
theorem State.Stands.follow {n : Nat} {offs : List Nat} {s t : State} {p : Port} (h : State.Stands n offs s p t)
    (hgroup : p.group = none) (hheld : p.held = 0) (hcount : 0x100 ∉ offs) (hwatch : 0x58 ∈ offs)
    (hpolicy : bits (s.rd (Page.port n) 0x58) 0 2 ≠ 1) (f : Follow) (acts : Acts) (errs : SlotErrors)
    (evs : List (Nat × Nat)) :
    p.Follows ((t.follow (.port n) f acts errs evs).1.port n) f ∧
      ∃ p', State.Stands n offs s p' (t.follow (.port n) f acts errs evs).1 := by
  cases f with
  | play entry pass word =>
    rw [State.follow_play]
    split
    · obtain ⟨len, streamed, hpass⟩ := h.beginPass hcount hwatch hpolicy entry pass word acts errs evs
      exact ⟨⟨hpass.slot_eq, fun hpend => hpass.pend_eq.trans hpend, hpass.state_eq, hpass.entry_eq, hpass.word_eq,
        hpass.pass_eq, hpass.gran_eq, hpass.plan_eq, .inl hpass.activity_eq⟩, _, hpass⟩
    · next hneed =>
      have hselvedge := (((h.count_other (Page.port n) (o := 0x118)).flag (Page.port n) 3).onPlay
        (fun ph => ph.toSelvedge entry pass word (t.selvedgeNeeded (.port n) word errs.desc))).playAll .hold acts errs evs
      have htrans : p.play.trans ≠ none := fun hnone =>
        hneed (State.selvedgeNeeded_of_none (h.trans_eq.trans hnone) word errs.desc)
      exact ⟨⟨hselvedge.slot_eq, fun hpend => hselvedge.pend_eq.trans hpend, hselvedge.state_eq, hselvedge.entry_eq,
        hselvedge.word_eq, hselvedge.pass_eq, hselvedge.gran_eq, hselvedge.plan_eq, .inr ⟨hselvedge.activity_eq, htrans⟩⟩, _,
        hselvedge⟩
  | wait entry word =>
    rw [State.follow_wait]
    have hwait := (h.onPlay (fun ph => ph.toWait entry word)).playAll .hold acts errs evs
    exact ⟨⟨hwait.slot_eq, fun _ => hwait.pend_eq, hwait.state_eq, hwait.entry_eq, hwait.activity_eq, hwait.gran_eq,
      hwait.rows_eq⟩, _, hwait⟩
  | gap entry word =>
    rw [State.follow_gap]
    have hgap := (h.onPlay (fun ph => ph.toGap entry word (gapSlots (t.unitType (.port n)) word))).playAll
      (gapContent word) acts errs evs
    exact ⟨⟨hgap.slot_eq, fun hpend => hgap.pend_eq.trans hpend, hgap.state_eq, hgap.entry_eq, hgap.activity_eq,
      hgap.gran_eq⟩, _, hgap⟩
  | halt =>
    obtain ⟨kind, heq⟩ := t.follow_halt n acts errs evs
    rw [heq]
    have hflag := h.flag (Page.port n) 4
    have hpark := (hflag.parkUnit hgroup hheld kind).rest_pair .park acts errs evs
    refine ⟨⟨hpark.slot_eq, fun _ => hpark.pend_eq, hpark.state_eq, hpark.activity_eq, fun hnone => ?_⟩, _, hpark⟩
    exact (Port.requested_of_still (State.still_rest _ n .park acts errs evs)).trans (hflag.requested_parkUnit hgroup hheld hnone kind)

end Machine
end Sys2Proof
end

section
/-! PROOFS. Plans carried out at a boundary, the moments that lead to them, and where each takes a port's playhead (O26). -/

namespace Sys2Proof
namespace Machine

/-! ### A plan carried out (R70) -/

/-- A playhead as a plan is carried out in a slot: its row counters, and the transition that a plan off the default path is. -/
def Playhead.takePlan (ph : Playhead) (pl : Plan) (rows : Vector (BitVec 16) 4) (slot : Nat) : Playhead :=
  { ph with rows := rows, trans := if pl.offPath then some slot else ph.trans }

/-- A port in its next slot as a plan is carried out there. -/
def Port.takePlan (p : Port) (pl : Plan) (rows : Vector (BitVec 16) 4) : Port :=
  p.nextSlot.on (fun ph => ph.takePlan pl rows (p.slot + 1))

/-- The slot passed and the plan taken up, before its fetches, loads and continuation. -/
def State.takePlan (s : State) (n : Nat) (pl : Plan) (rows : Vector (BitVec 16) 4) (hop : Option Nat) : State :=
  (s.passSlot (.port n) false).modPlayhead (.port n) (fun ph =>
    { ph.takePlan pl rows ((s.passSlot (.port n) false).port n).slot with
      hop := hop.getD ph.hop, latches := ph.latches.filter (fun l => l.what != .release) })

/-- The fetch engine sent where a plan needs it. -/
def State.aimFetch (s : State) (n : Nat) (pl : Plan) (rows : Vector (BitVec 16) 4) : State :=
  if pl.offPath then s.redirect (.port n) pl.follow rows
  else if pl.retrack then s.retrack (.port n) pl.follow rows else s

theorem State.carryOut_port (s : State) (n : Nat) (pl : Plan) (rows : Vector (BitVec 16) 4) (hop : Option Nat)
    (errs : SlotErrors) : ∃ acts evs hop',
    s.carryOut (.port n) pl rows hop errs =
      ((((s.takePlan n pl rows hop).aimFetch n pl rows).modPort n
        (fun p => p.applyLoads (Config.portType n) pl.loads)).follow (.port n) pl.follow acts errs evs).done hop' :=
  ⟨_, _, _, rfl⟩

theorem Port.stand_applyLoads (p : Port) (t : PType) (loads : List NcoItems) : (p.applyLoads t loads).stand = p.stand := by
  unfold Port.applyLoads
  split
  · rfl
  · dsimp only
    split <;> rfl

theorem Port.play_applyLoads (p : Port) (t : PType) (loads : List NcoItems) : (p.applyLoads t loads).play = p.play := by
  unfold Port.applyLoads
  split
  · rfl
  · dsimp only
    split <;> rfl

section Stands

variable {n : Nat} {offs : List Nat} {s t : State} {p : Port} (h : State.Stands n offs s p t)
include h

theorem State.Stands.takePlan (hcount : 0x104 ∉ offs) (pl : Plan) (rows : Vector (BitVec 16) 4) (hop : Option Nat) :
    State.Stands n offs s (p.takePlan pl rows) (t.takePlan n pl rows hop) := by
  have hpassed := h.passSlot false (.inr hcount)
  unfold State.takePlan
  rw [hpassed.slot_eq]
  refine hpassed.modPlayhead (fun q hq => ?_) rfl (fun x l hl => List.mem_of_mem_filter hl)
  exact Port.stand_congr hq (fun r => r.on (fun ph => ph.takePlan pl rows (p.slot + 1)))

theorem State.Stands.aimFetch (pl : Plan) (rows : Vector (BitVec 16) 4) :
    State.Stands n offs s p (t.aimFetch n pl rows) := by
  unfold State.aimFetch
  split
  · exact h.modPort_same (f := fun q => { q with bobbin := match t.followPlay pl.follow rows with
      | .some (e, k, x, r) => q.bobbin.startAt e k x r
      | .none => q.bobbin.discard }) (fun _ => rfl)
  · split
    · unfold State.retrack
      split
      · exact h
      · next e k x r _ =>
        have hsame (d : Nat × BitVec 256) (q : Port) : { q with bobbin := q.bobbin.retrack e x r d }.stand = q.stand := rfl
        exact h.modPort_same (hsame (t.playedDesc n x, t.playedWord n (t.playedDesc n x)))
    · exact h

/-- A plan carried out takes a port that walks alone where it says, in the next slot. -/
theorem State.Stands.carryOut (hgroup : p.group = none) (hheld : p.held = 0) (hquiet : 0x100 ∉ offs ∧ 0x104 ∉ offs)
    (hwatch : 0x58 ∈ offs) (hpolicy : bits (s.rd (Page.port n) 0x58) 0 2 ≠ 1) (pl : Plan) (rows : Vector (BitVec 16) 4)
    (hop : Option Nat) (errs : SlotErrors) :
    (p.takePlan pl rows).Follows ((t.carryOut (.port n) pl rows hop errs).port n) pl.follow ∧
      ∃ p', State.Stands n offs s p' (t.carryOut (.port n) pl rows hop errs) := by
  obtain ⟨acts, evs, hop', heq⟩ := t.carryOut_port n pl rows hop errs
  have hloaded := ((h.takePlan hquiet.2 pl rows hop).aimFetch pl rows).modPort_same
    (f := fun q => q.applyLoads (Config.portType n) pl.loads) (fun q => q.stand_applyLoads _ _)
    (fun q l hl => .inr (.inr (q.play_applyLoads _ _ ▸ hl)))
  obtain ⟨hfollows, p', hstands⟩ := hloaded.follow hgroup hheld hquiet.1 hwatch hpolicy pl.follow acts errs evs
  rw [heq]
  refine ⟨?_, p', hstands.done hop'⟩
  rw [show (Played.done _ hop').port n = _ from (State.emitAll_agree _ _).port_eq rfl n]
  exact hfollows

end Stands
/-! ### The entry that a resolution begins with (R48, R49, R145) -/

section Resolution

variable {s : State} {bad : List Nat} {e : Nat} (hfits : e < 2 ^ 18) (hgood : e ∉ bad) (rows : Vector (BitVec 16) 4)

include hfits hgood in
/-- An entry that can be read is executed as the kind that it has. -/
theorem resolveKind_eq : (if 2 ^ 18 ≤ e ∨ bad.contains e = true then EntryKind.halt else entryKind (s.entryAt e)) =
    entryKind (s.entryAt e) :=
  if_neg (not_or.mpr ⟨Nat.not_le.mpr hfits, by rwa [List.contains_iff_mem]⟩)

include hfits hgood

theorem resolveFrom_of_play (hkind : entryKind (s.entryAt e) = .play) :
    (resolveFrom s bad e rows).1.follow = .play e 1 (s.entryAt e) := by
  unfold resolveFrom resolve
  dsimp only
  rw [resolveKind_eq hfits hgood, hkind]
  rfl

theorem resolveFrom_of_wait (hkind : entryKind (s.entryAt e) = .wait) :
    (resolveFrom s bad e rows).1.follow = .wait e (s.entryAt e) ∧ (resolveFrom s bad e rows).2 = rows := by
  unfold resolveFrom resolve
  dsimp only
  rw [resolveKind_eq hfits hgood, hkind]
  exact ⟨rfl, rfl⟩

theorem resolveFrom_of_gap (hkind : entryKind (s.entryAt e) = .gap) :
    (resolveFrom s bad e rows).1.follow = .gap e (s.entryAt e) := by
  unfold resolveFrom resolve
  dsimp only
  rw [resolveKind_eq hfits hgood, hkind]
  rfl

theorem resolveFrom_of_halt (hkind : entryKind (s.entryAt e) = .halt) : (resolveFrom s bad e rows).1.follow = .halt := by
  unfold resolveFrom resolve
  dsimp only
  rw [resolveKind_eq hfits hgood, hkind]
  rfl

end Resolution

/-- An entry read with an uncorrectable error is executed as HALT (R145). -/
theorem resolveFrom_of_bad {s : State} {bad : List Nat} {e : Nat} (hbad : e ∈ bad) (rows : Vector (BitVec 16) 4) :
    (resolveFrom s bad e rows).1.follow = .halt := by
  unfold resolveFrom resolve
  dsimp only
  rw [if_pos (Or.inr (List.contains_iff_mem.mpr hbad))]
  rfl

/-! ### From a moment to its entry -/

/-- What a port p is at, in its next slot, after a resolution from an entry with row counters. -/
structure Port.Enters (s : State) (p q : Port) (e : Nat) (rows : Vector (BitVec 16) 4) : Prop where
  slot : q.slot = p.slot + 1
  pend : p.play.pend = 0 → q.play.pend = 0
  play : entryKind (s.entryAt e) = .play → q.state = p.state ∧ q.play.entry = e ∧ q.play.pass = 1 ∧ q.play.gran = 0 ∧
    (q.play.activity = .segment ∨ q.play.activity = .selvedge)
  wait : entryKind (s.entryAt e) = .wait → q.state = p.state ∧ q.play.entry = e ∧ q.play.activity = .wait ∧ q.play.gran = 0 ∧
    q.play.rows = rows
  gap : entryKind (s.entryAt e) = .gap → q.state = p.state ∧ q.play.entry = e ∧ q.play.activity = .gap ∧ q.play.gran = 0
  halt : entryKind (s.entryAt e) = .halt → q.state = .parked ∧ q.play.activity = .idle ∧
    ((∀ l ∈ p.play.latches, ∀ st, l.what ≠ .request st) → q.requested = .parked)

/-- What follows a resolution, off the default path or on it, is what the entry's kind says. -/
theorem Port.Follows.enters {s : State} {bad : List Nat} {p q : Port} {e : Nat} {rows : Vector (BitVec 16) 4} {pl : Plan}
    (hfits : e < 2 ^ 18) (hgood : e ∉ bad) (hpl : pl.follow = (resolveFrom s bad e rows).1.follow)
    (h : (p.takePlan pl (resolveFrom s bad e rows).2).Follows q pl.follow) : Port.Enters s p q e rows := by
  rw [hpl] at h
  refine ⟨h.1, h.2.1, fun hkind => ?_, fun hkind => ?_, fun hkind => ?_, fun hkind => ?_⟩
  · rw [resolveFrom_of_play hfits hgood rows hkind] at h
    obtain ⟨-, -, hstate, hentry, -, hpass, hgran, -, hactivity⟩ := h
    exact ⟨hstate, hentry, hpass, hgran, hactivity.imp_right And.left⟩
  · obtain ⟨hfollow, hrows⟩ := resolveFrom_of_wait hfits hgood rows hkind
    rw [hfollow, hrows] at h
    obtain ⟨-, -, hstate, hentry, hactivity, hgran, hkept⟩ := h
    exact ⟨hstate, hentry, hactivity, hgran, hkept⟩
  · rw [resolveFrom_of_gap hfits hgood rows hkind] at h
    obtain ⟨-, -, hstate, hentry, hactivity, hgran⟩ := h
    exact ⟨hstate, hentry, hactivity, hgran⟩
  · rw [resolveFrom_of_halt hfits hgood rows hkind] at h
    obtain ⟨-, -, hstate, hactivity, hrequested⟩ := h
    exact ⟨hstate, hactivity, hrequested⟩

/-- A port that runs and enters an entry has landed there as the statement says. -/
theorem Port.Enters.landsOn {s u t : State} {n e : Nat} {p : Port} {rows : Vector (BitVec 16) 4}
    (h : Port.Enters u p (t.port n) e rows) (hentry : u.entryAt e = s.entryAt e) (hslot : p.slot = (s.port n).slot)
    (hrun : p.state = .run) (hlatches : ∀ l ∈ p.play.latches, l ∈ (s.port n).play.latches) : s.landsOn t n e := by
  have hkind : entryKind (u.entryAt e) = entryKind (s.entryAt e) := congrArg entryKind hentry
  refine ⟨h.slot.trans (congrArg (· + 1) hslot), ?_⟩
  split
  · next hk =>
    obtain ⟨hstate, hentry, hactivity, hgran, -⟩ := h.wait (hkind.trans hk)
    exact ⟨hstate.trans hrun, hentry, hactivity, hgran⟩
  · next hk =>
    obtain ⟨hstate, hentry, hactivity, hgran⟩ := h.gap (hkind.trans hk)
    exact ⟨hstate.trans hrun, hentry, hactivity, hgran⟩
  · next hk =>
    obtain ⟨hstate, hentry, hpass, hgran, hactivity⟩ := h.play (hkind.trans hk)
    exact ⟨hstate.trans hrun, hentry, hpass, hgran, hactivity⟩
  · next hk =>
    obtain ⟨hstate, hactivity, hrequested⟩ := h.halt (hkind.trans hk)
    exact ⟨hstate, hactivity, fun hnone => hrequested (fun l hl => hnone l (hlatches l hl))⟩
  · trivial

end Machine
end Sys2Proof
end

section
/-! PROOFS. The moments that send a port's playhead to an entry: START, jump, release, timeout, GAP end, recovery (O26). -/

namespace Sys2Proof
namespace Machine

/-! ### Continuing and jumping (R52, R58) -/

/-- A port p that no group moves, with nothing held by R174 and an underrun policy that does not park. -/
structure State.Alone (s : State) (n : Nat) (p : Port) : Prop where
  group : p.group = none
  held : p.held = 0
  policy : bits (s.rd (Page.port n) 0x58) 0 2 ≠ 1

theorem State.walksAlone.alone {s : State} {n : Nat} (h : s.walksAlone n) : State.Alone s n (s.port n) :=
  ⟨h.2.1, h.2.2.1, h.2.2.2⟩

/-- A transition off the default path clears the events of the playhead. -/
def Playhead.clearEvents (ph : Playhead) : Playhead := { ph with cand := 0, pend := 0 }

/-- The state in which a transition off the default path resolves its entry. -/
def State.clearEvents (s : State) (n : Nat) : State :=
  (s.settleJudged (.port n)).modPlayhead (.port n) (fun ph => { ph with
    cand := 0, pend := 0, latches := ph.latches.filter (fun l => l.what != .recover) })

/-- A plan as a transition off the default path. -/
def Plan.off (pl : Plan) : Plan := { pl with offPath := true }

theorem State.jumpTo_port (s : State) (n e : Nat) (rows : Vector (BitVec 16) 4) (hop : Option Nat) (errs : SlotErrors) :
    s.jumpTo (.port n) e rows hop errs =
      ((s.clearEvents n).chainFault (.port n) (resolveFrom (s.clearEvents n) errs.entries e rows).1).carryOut (.port n)
        (resolveFrom (s.clearEvents n) errs.entries e rows).1.off
        (resolveFrom (s.clearEvents n) errs.entries e rows).2 hop errs := rfl

theorem State.entryAt_clearEvents (s : State) (n e : Nat) : (s.clearEvents n).entryAt e = s.entryAt e := by
  have hagree : Agree 98360 s (s.clearEvents n) :=
    ((Agree.refl _ s).step (State.settleJudged_agree s (.port n)) rfl).step (State.modPlayhead_agree _ _ _) rfl
  unfold State.entryAt
  rw [hagree.entries rfl]

section Stands

variable {n : Nat} {s t : State} {p : Port} (h : State.Stands n [0x58] s p t) (halone : State.Alone s n p)
include h halone

theorem State.Stands.continueAt {e : Nat} {errs : SlotErrors} (hfits : e < 2 ^ 18) (hgood : e ∉ errs.entries)
    (hop : Option Nat) :
    Port.Enters t p ((t.continueAt (.port n) e hop errs).port n) e (t.port n).play.rows ∧
      ∃ p', State.Stands n [0x58] s p' (t.continueAt (.port n) e hop errs) := by
  obtain ⟨hfollows, hstands⟩ := (h.chainFault (.port n) (resolveFrom t errs.entries e (t.port n).play.rows).1).carryOut
    halone.group halone.held (by decide) (by decide) halone.policy _ (resolveFrom t errs.entries e (t.port n).play.rows).2 hop errs
  exact ⟨hfollows.enters hfits hgood rfl, hstands⟩

theorem State.Stands.jumpTo {e : Nat} {errs : SlotErrors} (hfits : e < 2 ^ 18) (hgood : e ∉ errs.entries)
    (rows : Vector (BitVec 16) 4) (hop : Option Nat) :
    Port.Enters t (p.on Playhead.clearEvents) ((t.jumpTo (.port n) e rows hop errs).port n) e rows ∧
      ∃ p', State.Stands n [0x58] s p' (t.jumpTo (.port n) e rows hop errs) := by
  have hcleared : State.Stands n [0x58] s (p.on Playhead.clearEvents) (t.clearEvents n) :=
    (h.settleJudged (.inr (by decide))).modPlayhead (fun _ hq => Port.stand_congr hq (fun q => q.on Playhead.clearEvents)) rfl
      (fun _ _ hl => List.mem_of_mem_filter hl)
  have hkind : (t.clearEvents n).entryAt e = t.entryAt e := t.entryAt_clearEvents n e
  rw [State.jumpTo_port]
  obtain ⟨hfollows, hstands⟩ :=
    (hcleared.chainFault (.port n) (resolveFrom (t.clearEvents n) errs.entries e rows).1).carryOut halone.group halone.held
      (by decide) (by decide) halone.policy (resolveFrom (t.clearEvents n) errs.entries e rows).1.off
      (resolveFrom (t.clearEvents n) errs.entries e rows).2 hop errs
  refine ⟨?_, hstands⟩
  have hfollow : (resolveFrom (t.clearEvents n) errs.entries e rows).1.off.follow =
      (resolveFrom (t.clearEvents n) errs.entries e rows).1.follow := rfl
  have henters := hfollows.enters hfits hgood hfollow
  obtain ⟨hslot, hpend, hplay, hwait, hgap, hhalt⟩ := henters
  rw [hkind] at hplay hwait hgap hhalt
  exact ⟨hslot, hpend, hplay, hwait, hgap, hhalt⟩

end Stands
/-! ### Which moment has come (R61) -/

theorem State.ownMoment_cases {s : State} {n : Nat} {m : Moment} (h : s.ownMoment n = some m) :
    m = .transfer ∨ m = .trip ∨ m = .safe := by
  unfold State.ownMoment at h
  dsimp only at h
  split at h
  · exact .inl (Option.some.inj h).symm
  · split at h
    · exact .inr (.inl (Option.some.inj h).symm)
    · split at h
      · exact .inr (.inr (Option.some.inj h).symm)
      · cases h

/-- The moments of a playhead that runs. -/
def Moment.ofRun (m : Moment) : Bool :=
  match m with
  | .jump | .recover | .release | .timeout | .gapEnd | .selvedgeEnd | .commit | .passEnd | .missing => true
  | _ => false

/-- The moments that the playhead's position dictates. -/
def Moment.ofPosition (m : Moment) : Bool :=
  match m with
  | .timeout | .gapEnd | .selvedgeEnd | .commit | .passEnd | .missing => true
  | _ => false

/-- A moment of a running playhead comes to a port that runs; one that its position dictates is that of its position. -/
theorem State.run_of_moment {s : State} {n : Nat} {m : Moment} (h : s.moment (.port n) = m) (hrun : m.ofRun = true) :
    (s.port n).state = .run ∧ (m.ofPosition = true → s.runMoment (.port n) = m) := by
  unfold State.moment at h
  dsimp only at h
  split at h
  · next m' hown =>
    subst h
    split at hown
    · cases Option.some.inj hown
      exact absurd hrun (by decide)
    · split at hown
      · cases Option.some.inj hown
        exact absurd hrun (by decide)
      · rcases State.ownMoment_cases hown with rfl | rfl | rfl <;> exact absurd hrun (by decide)
  · split at h
    · exact absurd (h ▸ hrun) (by decide)
    · split at h
      · exact absurd (h ▸ hrun) (by decide)
      · split at h
        · exact absurd (h ▸ hrun) (by decide)
        · split at h
          · exact absurd (h ▸ hrun) (by decide)
          · split at h
            · exact absurd (h ▸ hrun) (by decide)
            · next hstate =>
              refine ⟨not_not.mp hstate, fun hposition => ?_⟩
              split at h
              · exact absurd (h ▸ hposition) (by decide)
              · split at h
                · exact absurd (h ▸ hposition) (by decide)
                · split at h
                  · exact absurd (h ▸ hposition) (by decide)
                  · exact h

theorem State.gap_of_runMoment {s : State} {n : Nat} (h : s.runMoment (.port n) = .gapEnd) :
    (s.port n).play.activity = .gap ∧ ¬ (s.port n).play.gran + 1 < (s.port n).play.len := by
  unfold State.runMoment at h
  dsimp only at h
  split at h
  · cases h
  · split at h <;> cases h
  · next hgap =>
    split at h
    · cases h
    · next hlen => exact ⟨hgap, hlen⟩
  · split at h <;> cases h
  · split at h
    · cases h
    · split at h
      · cases h
      · split at h
        · cases h
        · split at h <;> cases h

theorem State.runMoment_of_gap {s : State} {n : Nat} (hgap : (s.port n).play.activity = .gap)
    (hlen : ¬ (s.port n).play.gran + 1 < (s.port n).play.len) : s.runMoment (.port n) = .gapEnd := by
  unfold State.runMoment
  dsimp only
  rw [show (s.playhead (.port n)).activity = .gap from hgap]
  exact if_neg hlen

/-! ### The boundary of a running port by its moment -/

section Boundary

variable {s : State} {n : Nat} (errs : SlotErrors)

theorem State.runBoundary_of_timeout (h : s.runMoment (.port n) = .timeout) : s.runBoundary (.port n) errs =
    if field (s.port n).play.word 82 1 = 1 then (s.flag (Page.port n) 6).jumpTo (.port n)
      (field (s.port n).play.word 64 18) (s.port n).play.rows none errs
    else (s.flag (Page.port n) 6).continueAt (.port n) ((s.port n).play.entry + 1) none errs := by
  unfold State.runBoundary
  rw [if_neg (by rw [h]; decide)]
  dsimp only
  rw [h]
  rfl

theorem State.runBoundary_of_gapEnd (h : s.runMoment (.port n) = .gapEnd) : s.runBoundary (.port n) errs =
    s.continueAt (.port n) ((s.port n).play.entry + 1) none errs := by
  unfold State.runBoundary
  rw [if_neg (by rw [h]; decide)]
  dsimp only
  rw [h]
  rfl

theorem State.runBoundary_of_selvedgeEnd (h : s.runMoment (.port n) = .selvedgeEnd) : s.runBoundary (.port n) errs =
    (((s.passSlot (.port n) false).endMerge (.port n)).beginPass (.port n) (s.port n).play.entry (s.port n).play.pass
      (s.port n).play.word Acts.none errs []).done (s.port n).play.hop := by
  unfold State.runBoundary
  rw [if_neg (by rw [h]; decide)]
  dsimp only
  rw [h]
  rfl

theorem State.runBoundary_of_ordinary (h : s.runMoment (.port n) = .ordinary) : s.runBoundary (.port n) errs =
    s.goOn (.port n) errs := by
  unfold State.runBoundary
  rw [if_neg (by rw [h]; decide)]
  dsimp only
  rw [h]

end Boundary

/-! ### Where the moments take a port -/

section Lands

variable {n : Nat} {s r t : State} {p : Port} (h : State.Stands n [0x58] r p t) (halone : State.Alone r n p)
  (hentries : t.entries = s.entries) (hslot : p.slot = (s.port n).slot) (hrun : p.state = .run)
  (hlatches : p.play.latches = (s.port n).play.latches) {e : Nat} {errs : SlotErrors} (hfits : e < 2 ^ 18)
  (hgood : e ∉ errs.entries)

include h halone hentries hslot hrun hlatches hfits hgood

theorem State.Stands.landsOn_continueAt (hop : Option Nat) : s.landsOn (t.continueAt (.port n) e hop errs) n e := by
  have hentry : t.entryAt e = s.entryAt e := congrArg (fun l => Tab.get (fun _ => 0) l e) hentries
  exact (h.continueAt halone hfits hgood hop).1.landsOn hentry hslot hrun (fun _ hl => hlatches ▸ hl)

theorem State.Stands.landsOn_jumpTo (rows : Vector (BitVec 16) 4) (hop : Option Nat) :
    s.landsOn (t.jumpTo (.port n) e rows hop errs) n e ∧ ((t.jumpTo (.port n) e rows hop errs).port n).play.pend = 0 ∧
      (entryKind (s.entryAt e) = .wait → ((t.jumpTo (.port n) e rows hop errs).port n).play.rows = rows) := by
  have hentry : t.entryAt e = s.entryAt e := congrArg (fun l => Tab.get (fun _ => 0) l e) hentries
  obtain ⟨henters, -⟩ := h.jumpTo halone hfits hgood rows hop
  refine ⟨henters.landsOn hentry hslot hrun (fun _ hl => hlatches ▸ hl), henters.pend rfl, fun hkind => ?_⟩
  obtain ⟨-, -, -, -, hrows⟩ := henters.wait (hentry ▸ hkind)
  exact hrows

end Lands

/-- A resolution that begins with an entry that cannot be read parks the port in the next slot (R145). -/
theorem State.Stands.continueAt_bad {n : Nat} {s t : State} {p : Port} (h : State.Stands n [0x58] s p t)
    (halone : State.Alone s n p) {e : Nat} {errs : SlotErrors} (hbad : e ∈ errs.entries) (hop : Option Nat) :
    ((t.continueAt (.port n) e hop errs).port n).slot = p.slot + 1 ∧
      ((t.continueAt (.port n) e hop errs).port n).state = .parked := by
  obtain ⟨hfollows, -⟩ := (h.chainFault (.port n) (resolveFrom t errs.entries e (t.port n).play.rows).1).carryOut
    halone.group halone.held (by decide) (by decide) halone.policy _ (resolveFrom t errs.entries e (t.port n).play.rows).2 hop errs
  rw [resolveFrom_of_bad hbad] at hfollows
  exact ⟨hfollows.1, hfollows.2.2.1⟩

/-- A port that runs and whose point swatches are aborted stands as it stood. -/
theorem State.abortUnit_stands {n : Nat} {s : State} (hrun : (s.port n).state = .run) :
    State.Stands n [0x58] s (s.port n) (s.abortUnit (.port n)) :=
  (State.Stands.refl n s [0x58]).abortUnit (by rw [hrun]; decide)

theorem State.runMoment_abortUnit {n : Nat} {s : State} (hrun : (s.port n).state = .run) (hgap : s.runMoment (.port n) = .gapEnd) :
    (s.abortUnit (.port n)).runMoment (.port n) = .gapEnd := by
  have hstands := State.abortUnit_stands hrun
  obtain ⟨hactivity, hlen⟩ := State.gap_of_runMoment hgap
  exact State.runMoment_of_gap (hstands.activity_eq.trans hactivity) (by rwa [hstands.gran_eq, hstands.len_eq])

theorem exec_gapEnd_of_moment {n : Nat} {errs : SlotErrors} {s : State} (hmoment : s.moment (.port n) = .gapEnd) :
    exec (.gapEnd (.port n) errs) s =
    .next ((s.abortUnit (.port n)).continueAt (.port n) ((s.port n).play.entry + 1) none errs) := by
  obtain ⟨hrun, hgap⟩ := State.run_of_moment hmoment rfl
  refine congrArg Host.Outcome.next ((State.whenMoment_of_eq hmoment _).trans ?_)
  rw [State.runBoundary_of_gapEnd errs (State.runMoment_abortUnit hrun (hgap rfl)),
    (State.abortUnit_stands hrun).entry_eq]

section Moments

variable {n : Nat} {errs : SlotErrors} {s : State} (halone : s.walksAlone n)
include halone

theorem waitRelease_lands (hmoment : s.moment (.port n) = .release) (hfits : (s.port n).play.entry + 1 < 2 ^ 18)
    (hgood : (s.port n).play.entry + 1 ∉ errs.entries) :
    Yields (.waitRelease (.port n) errs) s (fun t => s.landsOn t n ((s.port n).play.entry + 1)) := by
  obtain ⟨hrun, -⟩ := State.run_of_moment hmoment rfl
  exact ⟨_, congrArg Host.Outcome.next (State.whenMoment_of_eq hmoment _),
    (State.Stands.refl n s [0x58]).landsOn_continueAt halone.alone rfl rfl hrun rfl hfits hgood _⟩

theorem gapEnd_lands (hmoment : s.moment (.port n) = .gapEnd) (hfits : (s.port n).play.entry + 1 < 2 ^ 18)
    (hgood : (s.port n).play.entry + 1 ∉ errs.entries) :
    Yields (.gapEnd (.port n) errs) s (fun t => s.landsOn t n ((s.port n).play.entry + 1)) := by
  obtain ⟨hrun, -⟩ := State.run_of_moment hmoment rfl
  exact ⟨_, exec_gapEnd_of_moment hmoment, (State.abortUnit_stands hrun).landsOn_continueAt halone.alone
    ((State.abortUnit_agree s (.port n)).entries rfl) rfl hrun rfl hfits hgood _⟩

theorem continues_bad {c : Instr} {e : Nat} (hbad : e ∈ errs.entries)
    (hc : c = .waitRelease (.port n) errs ∧ s.moment (.port n) = .release ∨
      c = .gapEnd (.port n) errs ∧ s.moment (.port n) = .gapEnd) (he : e = (s.port n).play.entry + 1) :
    Yields c s (fun t => (t.port n).slot = (s.port n).slot + 1 ∧ (t.port n).state = .parked) := by
  subst he
  rcases hc with ⟨rfl, hmoment⟩ | ⟨rfl, hmoment⟩
  · exact ⟨_, congrArg Host.Outcome.next (State.whenMoment_of_eq hmoment _),
      (State.Stands.refl n s [0x58]).continueAt_bad halone.alone hbad _⟩
  · obtain ⟨hrun, -⟩ := State.run_of_moment hmoment rfl
    exact ⟨_, exec_gapEnd_of_moment hmoment, (State.abortUnit_stands hrun).continueAt_bad halone.alone hbad _⟩

theorem immediateJump_lands {j e : Nat} {clr : BitVec 4} {l : Latch} (hmoment : s.moment (.port n) = .jump)
    (hfits : e < 2 ^ 18) (hgood : e ∉ errs.entries)
    (hdue : (s.port n).play.dueAt ((s.port n).slot + 1) (fun x => match x with | .jump .. => true | _ => false) = some l)
    (hwhat : l.what = .jump j e clr) :
    Yields (.immediateJumpEffect (.port n) errs) s (fun t => s.landsOn t n e ∧ (t.port n).play.pend = 0 ∧
      (entryKind (s.entryAt e) = .wait → (t.port n).play.rows = clearRows (s.port n).play.rows clr)) := by
  obtain ⟨hrun, -⟩ := State.run_of_moment hmoment rfl
  have hjump : s.jumpNow (.port n) errs =
      (s.abortUnit (.port n)).jumpTo (.port n) e (clearRows (s.port n).play.rows clr) (some l.hop) errs := by
    obtain ⟨due, what, hop⟩ := l
    dsimp only at hwhat
    subst hwhat
    unfold State.jumpNow
    dsimp only
    split
    · next heq =>
      cases heq.symm.trans hdue
      rfl
    · next hnone => exact absurd hdue (hnone _ _ _ _ _)
  refine ⟨_, congrArg Host.Outcome.next ((State.whenMoment_of_eq hmoment _).trans hjump), ?_⟩
  exact (State.abortUnit_stands hrun).landsOn_jumpTo halone.alone ((State.abortUnit_agree s (.port n)).entries rfl) rfl
    hrun rfl hfits hgood _ _

theorem underrunRecovery_lands {e : Nat} (hmoment : s.moment (.port n) = .recover)
    (he : e = bits (s.reg (portReg n 0x58)) 10 18) (hgood : e ∉ errs.entries) :
    Yields (.underrunRecovery n errs) s (fun t => s.landsOn t n e ∧ (t.port n).play.pend = 0 ∧
      (entryKind (s.entryAt e) = .wait → (t.port n).play.rows = rowsZero)) := by
  obtain ⟨hrun, -⟩ := State.run_of_moment hmoment rfl
  have hfits : e < 2 ^ 18 := he ▸ Nat.mod_lt _ (by decide)
  subst he
  exact ⟨_, congrArg Host.Outcome.next (State.whenMoment_of_eq hmoment _),
    (State.Stands.refl n s [0x58]).landsOn_jumpTo halone.alone rfl rfl hrun rfl hfits hgood rowsZero none⟩

theorem waitTimeout_lands {e : Nat} (hmoment : s.moment (.port n) = .timeout)
    (he : e = if field (s.port n).play.word 82 1 = 1 then field (s.port n).play.word 64 18 else (s.port n).play.entry + 1)
    (hfits : e < 2 ^ 18) (hgood : e ∉ errs.entries) :
    Yields (.waitTimeout (.port n) errs) s (fun t => bit (t.rd (Page.port n) 0x14) 6 = true ∧ s.landsOn t n e) := by
  obtain ⟨hrun, htimeout⟩ := State.run_of_moment hmoment rfl
  have hflag : (s.flag (Page.port n) 6).port n = s.port n := (State.flag_agree s _ 6).port_eq rfl n
  have hset : bit ((s.flag (Page.port n) 6).rd (Page.port n) 0x14) 6 = true := s.bit_rd_flag _ (by decide)
  have hentries : (s.flag (Page.port n) 6).entries = s.entries := (State.flag_agree s _ 6).entries rfl
  have hstands := State.Stands.refl n (s.flag (Page.port n) 6) [0x58]
  have halone' : State.Alone (s.flag (Page.port n) 6) n (s.port n) :=
    ⟨halone.alone.group, halone.alone.held, by rw [State.rd_flag _ (by decide), if_neg (by simp)]; exact halone.alone.policy⟩
  rw [hflag] at hstands
  have hexec := congrArg (Host.Outcome.next (φ := Fault) (ρ := Refusal)) ((State.whenMoment_of_eq hmoment _).trans
    (State.runBoundary_of_timeout errs (htimeout rfl)))
  refine ⟨_, hexec, ?_⟩
  split at he
  · next hto =>
    subst he
    rw [if_pos hto]
    obtain ⟨-, p', hkept⟩ := hstands.jumpTo halone' hfits hgood (s.port n).play.rows none
    exact ⟨hkept.flags 6 hset, (hstands.landsOn_jumpTo halone' hentries rfl hrun rfl hfits hgood _ _).1⟩
  · next hto =>
    subst he
    rw [if_neg hto]
    obtain ⟨-, p', hkept⟩ := hstands.continueAt halone' hfits hgood none
    exact ⟨hkept.flags 6 hset, hstands.landsOn_continueAt halone' hentries rfl hrun rfl hfits hgood _⟩

end Moments

/-! ### START (R84, R87) -/

/-- A port that a START sets running, its hold and ramp ended. -/
def State.started (s : State) (n hop : Nat) : State :=
  ((s.setUnitState (.port n) .run).modPlayhead (.port n) (fun ph => { ph with hop := hop })).modPort n
    (fun p => { p with holdPark := false, ramp := .none })

/-- The hop count of the START that takes effect at the coming boundary. -/
def State.startHop (s : State) (n : Nat) : Nat :=
  match (s.playhead (.port n)).dueAt (s.unitSlot (.port n) + 1) (· == .start) with
  | .some l => l.hop
  | .none => 0

theorem exec_startEffect_of_moment {n : Nat} {s : State} (hmoment : s.moment (.port n) = .start) (errs : SlotErrors) :
    exec (.startEffect (.port n) errs) s = .next (s.startNow (.port n) (s.startHop n) errs) :=
  congrArg Host.Outcome.next (State.whenMoment_of_eq hmoment _)

theorem State.startNow_port (s : State) (n hop : Nat) (errs : SlotErrors) : s.startNow (.port n) hop errs =
    if pulseUnit (Config.portType n) (s.port n).mode then
      (if (s.port n).state = .armed then (s.started n hop).modPort n (fun p => p.line (bit (s.reg (portReg n 0x160)) 0))
        else s.started n hop).goOn (.port n) errs
    else if (s.port n).state = .armed then
      (s.started n hop).continueAt (.port n) ((s.started n hop).port n).play.start (some hop) errs
    else if ((s.port n).play.dueAt ((s.port n).slot + 1) (· == .recover)).isSome then (s.started n hop).recoverNow n errs
    else (s.started n hop).runBoundary (.port n) errs := rfl
theorem State.startNow_of_armed {n : Nat} {s : State} (hstate : (s.port n).state = .armed)
    (hpulse : pulseUnit (Config.portType n) (s.port n).mode = false) (hop : Nat) (errs : SlotErrors) :
    s.startNow (.port n) hop errs =
      (s.started n hop).continueAt (.port n) ((s.started n hop).port n).play.start (some hop) errs := by
  rw [State.startNow_port, if_neg (Bool.eq_false_iff.mp hpulse), if_pos hstate]

theorem State.Stands.started {n : Nat} {offs : List Nat} {s t : State} {p : Port} (h : State.Stands n offs s p t) (hop : Nat) :
    State.Stands n offs s { p with state := .run } (t.started n hop) :=
  ((h.setUnitState .run).modPlayhead (f := fun ph => { ph with hop := hop }) (fun _ hq => hq)).modPort_same
    (f := fun p => { p with holdPark := false, ramp := .none }) (fun _ => rfl)

theorem State.started_agree (s : State) (n hop : Nat) : Agree 48 s (s.started n hop) :=
  (((Agree.refl 48 s).step (State.setUnitState_agree s (.port n) .run) rfl).step (State.modPlayhead_agree _ _ _) rfl).step
    (State.modPort_agree _ _ _) rfl

theorem startEffect_lands {n : Nat} {errs : SlotErrors} {s : State} (halone : s.walksAlone n)
    (hmoment : s.moment (.port n) = .start) (hstate : (s.port n).state = .armed)
    (hpulse : pulseUnit (Config.portType n) (s.port n).mode = false) (hfits : (s.port n).play.start < 2 ^ 18)
    (hgood : (s.port n).play.start ∉ errs.entries) :
    Yields (.startEffect (.port n) errs) s (fun t => s.landsOn t n (s.port n).play.start) := by
  have hstarted := (State.Stands.refl n s [0x58]).started (s.startHop n)
  have halone' : State.Alone s n { s.port n with state := .run } :=
    ⟨halone.alone.group, halone.alone.held, halone.alone.policy⟩
  refine ⟨_, exec_startEffect_of_moment hmoment errs, ?_⟩
  rw [State.startNow_of_armed hstate hpulse, hstarted.start_eq]
  exact hstarted.landsOn_continueAt halone' ((State.started_agree s n _).entries rfl) rfl rfl rfl hfits hgood _

/-- Settles O26: each moment sends the playhead to an entry by a resolution, and what follows the resolution takes it
there. -/
theorem playheadsGoWhereTheirMomentSends : Obligations.PlayheadsGoWhereTheirMomentSends :=
  fun _ _ _ halone => ⟨fun hmoment hstate hpulse hfits hgood => startEffect_lands halone hmoment hstate hpulse hfits hgood,
    fun _ _ _ _ hmoment hfits hgood hdue hwhat => immediateJump_lands halone hmoment hfits hgood hdue hwhat,
    fun hmoment hfits hgood => waitRelease_lands halone hmoment hfits hgood,
    fun _ hmoment he hfits hgood => waitTimeout_lands halone hmoment he hfits hgood,
    fun hmoment hfits hgood => gapEnd_lands halone hmoment hfits hgood,
    fun _ hmoment he hgood => underrunRecovery_lands halone hmoment he hgood,
    fun _ _ _ hbad hc he => continues_bad halone hbad hc he⟩

end Machine
end Sys2Proof
end

section
/-! PROOFS. Passes and selvedges that end, slots in which a position goes on, missing granules, and the rest of the slot
boundaries of a port that walks alone (O27). -/

namespace Sys2Proof
namespace Machine

/-! ### Passes and selvedges that end (R47, R63, R70) -/

theorem exec_passEnd_of_plan {n : Nat} {s : State} {pl : Plan} (hmoment : s.moment (.port n) = .passEnd)
    (hplan : (s.port n).play.plan = some pl) (errs : SlotErrors) :
    exec (.passEnd (.port n) errs) s = .next (s.carryOut (.port n) pl (s.port n).play.rows pl.hop errs) := by
  refine congrArg Host.Outcome.next ((State.whenMoment_of_eq hmoment _).trans ?_)
  have hplan' : (s.playhead (.port n)).plan = some pl := hplan
  unfold State.endPass
  rw [hplan']
  dsimp only [Option.isNone]
  rw [if_neg Bool.false_ne_true, hplan']
  rfl

theorem passEnd_beginsPass {n : Nat} {errs : SlotErrors} {s : State} (halone : s.walksAlone n) {pl : Plan} {e k : Nat}
    {w : BitVec 256} (hmoment : s.moment (.port n) = .passEnd) (hplan : (s.port n).play.plan = some pl)
    (hfollow : pl.follow = .play e k w) (hpath : pl.offPath = false) (htrans : (s.port n).play.trans = none) :
    Yields (.passEnd (.port n) errs) s (fun t => (t.port n).slot = (s.port n).slot + 1 ∧ (t.port n).state = .run ∧
      (t.port n).play.entry = e ∧ (t.port n).play.word = w ∧ (t.port n).play.pass = k ∧ (t.port n).play.gran = 0 ∧
      (t.port n).play.activity = .segment ∧ (t.port n).play.plan = none) := by
  obtain ⟨hrun, -⟩ := State.run_of_moment hmoment rfl
  obtain ⟨hfollows, -⟩ := (State.Stands.refl n s [0x58]).carryOut halone.alone.group halone.alone.held (by decide) (by decide)
    halone.alone.policy pl (s.port n).play.rows pl.hop errs
  rw [hfollow] at hfollows
  obtain ⟨hslot, -, hstate, hentry, hword, hpass, hgran, hnoplan, hactivity⟩ := hfollows
  have hkept : ((s.port n).takePlan pl (s.port n).play.rows).play.trans = none := by
    show (if pl.offPath then some ((s.port n).slot + 1) else (s.port n).play.trans) = none
    rw [hpath]
    exact htrans
  exact ⟨_, exec_passEnd_of_plan hmoment hplan errs, hslot, hstate.trans hrun, hentry, hword, hpass, hgran,
    hactivity.resolve_right (fun hselvedge => hselvedge.2 hkept), hnoplan⟩

theorem selvedgeEnd_beginsPass {n : Nat} {errs : SlotErrors} {s : State} (halone : s.walksAlone n)
    (hmoment : s.moment (.port n) = .selvedgeEnd) :
    Yields (.selvedgeEnd (.port n) errs) s (fun t => (t.port n).slot = (s.port n).slot + 1 ∧ (t.port n).state = .run ∧
      (t.port n).play.entry = (s.port n).play.entry ∧ (t.port n).play.pass = (s.port n).play.pass ∧ (t.port n).play.gran = 0 ∧
      (t.port n).play.activity = .segment) := by
  obtain ⟨hrun, hselvedge⟩ := State.run_of_moment hmoment rfl
  obtain ⟨len, streamed, hpass⟩ := ((State.Stands.refl n s [0x58]).passSlot false (.inr (by decide))).endMerge.beginPass
    (by decide) (by decide) halone.alone.policy (s.port n).play.entry (s.port n).play.pass (s.port n).play.word Acts.none errs []
  have hdone := hpass.done (s.port n).play.hop
  refine ⟨_, congrArg Host.Outcome.next ((State.whenMoment_of_eq hmoment _).trans
    (State.runBoundary_of_selvedgeEnd errs (hselvedge rfl))), ?_⟩
  exact ⟨hdone.slot_eq, hdone.state_eq.trans hrun, hdone.entry_eq, hdone.pass_eq, hdone.gran_eq, hdone.activity_eq⟩

/-! ### A position that goes on (R34, R71, R95) -/

/-- A playhead's position one granule on. -/
def Playhead.nextGran (ph : Playhead) : Playhead := { ph with gran := ph.gran + 1 }

/-- A slot in which a running position goes on, before its output. -/
def State.advance (s : State) (n : Nat) : State :=
  ((s.passSlot (.port n) false).modPlayhead (.port n) Playhead.nextGran).endMerge (.port n)

theorem State.advance_agree (s : State) (n : Nat) : Agree 98424 s (s.advance n) := by
  have hpassed : Agree 98424 s (s.passSlot (.port n) false) := State.passSlot_agree s (.port n) false
  have hplay := hpassed.step (State.modPlayhead_agree (s.passSlot (.port n) false) (.port n) Playhead.nextGran) rfl
  exact hplay.step (State.endMerge_agree _ (.port n)) rfl

theorem State.port_advance (s : State) (n : Nat) : (s.advance n).port n =
    { ((s.passSlot (.port n) false).port n).on Playhead.nextGran with merge := none } := by
  have hmerge : (s.advance n).port n = { ((s.passSlot (.port n) false).modPlayhead (.port n) Playhead.nextGran).port n with
      merge := none } := (State.port_modPort _ n n (fun p => { p with merge := none })).trans (if_pos rfl)
  have hplay : ((s.passSlot (.port n) false).modPlayhead (.port n) Playhead.nextGran).port n =
      ((s.passSlot (.port n) false).port n).on Playhead.nextGran := (State.port_modPort _ _ _ _).trans (if_pos rfl)
  rw [hmerge, hplay]

theorem State.last_advance (s : State) (n : Nat) : ((s.advance n).port n).last = (s.port n).last := by
  rw [State.port_advance]
  exact (s.passed_passSlot n false).last

theorem State.Stands.advance {n : Nat} {offs : List Nat} {s t : State} {p : Port} (h : State.Stands n offs s p t)
    (hcount : (t.port n).play.lateNow = false ∨ 0x104 ∉ offs) :
    State.Stands n offs s (p.nextSlot.on Playhead.nextGran) (t.advance n) :=
  ((h.passSlot false hcount).onPlay Playhead.nextGran).endMerge

theorem State.activity_passSlot (s : State) (n : Nat) (frozen : Bool) :
    ((s.passSlot (.port n) frozen).port n).play.activity = (s.port n).play.activity :=
  ((State.Stands.refl n s [] (by decide)).passSlot frozen (.inr (by decide))).activity_eq

/-- A slot of a WAIT, or of a port whose playhead is idle. -/
theorem State.goOn_of_hold {s : State} {n : Nat}
    (hactivity : (s.port n).play.activity = .wait ∨ (s.port n).play.activity = .idle) (errs : SlotErrors) :
    ∃ hop, s.goOn (.port n) errs = ((s.advance n).playAll (.port n) .hold Acts.none errs []).done hop := by
  unfold State.goOn
  dsimp only
  rw [show ((s.passSlot (.port n) false).playhead (.port n)).activity = (s.port n).play.activity from
    s.activity_passSlot n false]
  rcases hactivity with hwait | hidle
  · rw [hwait]
    exact ⟨_, rfl⟩
  · rw [hidle]
    exact ⟨_, rfl⟩

/-- A slot of a GAP. -/
theorem State.goOn_of_gap {s : State} {n : Nat} (hactivity : (s.port n).play.activity = .gap) (errs : SlotErrors) :
    ∃ c hop, s.goOn (.port n) errs = ((s.advance n).playAll (.port n) c Acts.none errs []).done hop := by
  unfold State.goOn
  dsimp only
  rw [show ((s.passSlot (.port n) false).playhead (.port n)).activity = (s.port n).play.activity from
    s.activity_passSlot n false, hactivity]
  exact ⟨_, _, rfl⟩

/-- No recovery comes to a playhead that passes into its next slot. -/
theorem Port.Passed.recovering {p q : Port} (h : p.Passed q) (hnone : p.play.recovering = false) :
    q.play.recovering = false := by
  unfold Playhead.recovering at hnone ⊢
  rw [List.any_eq_false] at hnone ⊢
  intro l hl
  obtain ⟨k, hk, hwhat⟩ := h.latches l hl
  rw [← hwhat]
  exact hnone k hk

/-- A slot of a pass that no recovery holds. -/
theorem State.goOn_of_segment {s : State} {n : Nat} (hactivity : (s.port n).play.activity = .segment)
    (hrecovering : (s.port n).play.recovering = false) (errs : SlotErrors) :
    ∃ hop, s.goOn (.port n) errs = ((s.advance n).playGranule (.port n) Acts.none errs []).done hop := by
  unfold State.goOn
  dsimp only
  rw [show ((s.passSlot (.port n) false).playhead (.port n)).activity = (s.port n).play.activity from
    s.activity_passSlot n false, hactivity]
  dsimp only
  have hnone : ((s.passSlot (.port n) false).playhead (.port n)).recovering = false :=
    (s.passed_passSlot n false).recovering hrecovering
  rw [if_neg (Bool.eq_false_iff.mp hnone)]
  exact ⟨_, rfl⟩

theorem State.walking_of_none {s : State} {n : Nat} (h : (s.port n).group = none) : s.walking n = (s.port n).play := by
  unfold State.walking
  rw [h]

/-- A slot that plays one content without a recovery ends an underrun episode. -/
theorem State.underrun_playAll {s : State} {n : Nat} (hgroup : (s.port n).group = none)
    (hrecovering : (s.port n).play.recovering = false) (c : Content) (acts : Acts) (errs : SlotErrors)
    (evs : List (Nat × Nat)) : ((s.playAll (.port n) c acts errs evs).1.port n).underrun = false := by
  have hover : s.playAll (.port n) c acts errs evs = Played.rest (s.episodeOver n, evs) n c acts errs := by
    show Played.rest (if (s.walking n).recovering then (s, evs) else (s.episodeOver n, evs)) n c acts errs = _
    rw [State.walking_of_none hgroup, if_neg (Bool.eq_false_iff.mp hrecovering)]
  rw [hover, Port.underrun_of_still (State.still_rest (s.episodeOver n) n c acts errs evs)]
  exact congrArg Port.underrun ((State.port_modPort _ _ _ _).trans (if_pos rfl))

theorem Played.done_eq (r : Played) (hop : Nat) : ∃ es, r.done hop = r.1.emitAll es := ⟨_, rfl⟩

theorem State.port_done (r : Played) (hop n : Nat) : (r.done hop).port n = r.1.port n :=
  (State.emitAll_agree _ _).port_eq rfl n

theorem exec_slotBoundary_of_run {u : SeqUnit} {s : State} (hmoment : s.moment u = .ordinary) (hstate : s.unitState u = .run)
    (errs : SlotErrors) : exec (.slotBoundary u errs) s = .next (s.goOn u errs) := by
  show execSlotBoundary u errs s = _
  unfold execSlotBoundary
  rw [hmoment]
  exact congrArg Host.Outcome.next (if_pos hstate)

theorem slotBoundary_goesOn {n : Nat} {errs : SlotErrors} {s : State} (halone : s.walksAlone n)
    (hmoment : s.moment (.port n) = .ordinary) (hrun : (s.port n).state = .run)
    (hactivity : (s.port n).play.activity = .wait ∨ (s.port n).play.activity = .gap) :
    Yields (.slotBoundary (.port n) errs) s (fun t => (t.port n).slot = (s.port n).slot + 1 ∧
      (t.port n).play.gran = (s.port n).play.gran + 1 ∧ (t.port n).play.entry = (s.port n).play.entry ∧
      (t.port n).play.activity = (s.port n).play.activity ∧ (t.port n).state = .run ∧
      ((s.port n).play.recovering = false → (t.port n).underrun = false)) := by
  have hplays : ∃ c hop, s.goOn (.port n) errs = ((s.advance n).playAll (.port n) c Acts.none errs []).done hop := by
    rcases hactivity with hwait | hgap
    · exact ⟨.hold, State.goOn_of_hold (.inl hwait) errs⟩
    · exact State.goOn_of_gap hgap errs
  obtain ⟨c, hop, heq⟩ := hplays
  have hadvance := (State.Stands.refl n s []).advance (.inr (by decide))
  have hstands := (hadvance.playAll c Acts.none errs []).done hop
  refine ⟨_, exec_slotBoundary_of_run hmoment hrun errs, ?_⟩
  rw [heq]
  refine ⟨hstands.slot_eq, hstands.gran_eq, hstands.entry_eq, hstands.activity_eq, hstands.state_eq.trans hrun,
    fun hrecovering => ?_⟩
  rw [State.port_done]
  refine State.underrun_playAll (hadvance.group_eq.trans halone.alone.group) ?_ c Acts.none errs []
  rw [State.port_advance]
  exact (s.passed_passSlot n false).recovering hrecovering

/-- An ordinary boundary of a parked port that holds nothing back leaves it parked. -/
theorem slotBoundary_staysParked {n : Nat} {errs : SlotErrors} {s : State} (halone : s.walksAlone n)
    (hmoment : s.moment (.port n) = .ordinary) (hstate : (s.port n).state = .parked) :
    Yields (.slotBoundary (.port n) errs) s (fun t => (t.port n).slot = (s.port n).slot + 1 ∧ (t.port n).state = .parked) := by
  have hnotrun : s.unitState (.port n) ≠ .run := fun h => by
    rw [show s.unitState (.port n) = (s.port n).state from rfl, hstate] at h
    cases h
  obtain ⟨hport, -, -⟩ := State.parkedSlot_keepsConfig n s
  rw [State.port_modPort, if_pos rfl] at hport
  have hheld : ((s.parkedSlot n).port n).held = 0 := hport.held.trans halone.alone.held
  have hnothing : (s.parkedSlot n).takeHeldNow n = s.parkedSlot n := by
    unfold State.takeHeldNow
    rw [State.applyHeld_of_zero hheld, ite_self]
  have hend := State.idleBoundary_keepsConfig hstate errs
  rw [hnothing] at hend
  exact ⟨_, exec_slotBoundary_of_idle hmoment hnotrun errs, hend.port.slot.trans hport.slot,
    hend.port.state.trans (hport.state.trans hstate)⟩

/-! ### START of a paused port and of a pulse unit (R87, R188) -/

theorem Playhead.dueAt_of_not_recovering {ph : Playhead} (h : ph.recovering = false) (slot : Nat) :
    ph.dueAt slot (· == .recover) = none := by
  unfold Playhead.recovering at h
  rw [List.any_eq_false] at h
  unfold Playhead.dueAt
  rw [List.find?_eq_none]
  intro l hl hdue
  exact h l hl (Bool.and_elim_right hdue)

theorem State.startNow_of_paused {n : Nat} {s : State} (hstate : (s.port n).state = .paused)
    (hpulse : pulseUnit (Config.portType n) (s.port n).mode = false) (hrecovering : (s.port n).play.recovering = false)
    (hop : Nat) (errs : SlotErrors) :
    s.startNow (.port n) hop errs = (s.started n hop).runBoundary (.port n) errs := by
  rw [State.startNow_port, if_neg (Bool.eq_false_iff.mp hpulse), if_neg (by rw [hstate]; decide),
    Playhead.dueAt_of_not_recovering hrecovering]
  exact if_neg Bool.false_ne_true

theorem State.runMoment_of_wait {s : State} {n : Nat} (hwait : (s.port n).play.activity = .wait)
    (hlen : (s.port n).play.len = 0) : s.runMoment (.port n) = .ordinary := by
  unfold State.runMoment
  dsimp only
  rw [show (s.playhead (.port n)).activity = .wait from hwait]
  exact if_neg (fun h => h.1 hlen)

theorem startEffect_resumes {n : Nat} {errs : SlotErrors} {s : State} (hmoment : s.moment (.port n) = .start)
    (hstate : (s.port n).state = .paused) (hwait : (s.port n).play.activity = .wait) (hlen : (s.port n).play.len = 0)
    (hrecovering : (s.port n).play.recovering = false) (hpulse : pulseUnit (Config.portType n) (s.port n).mode = false) :
    Yields (.startEffect (.port n) errs) s (fun t => (t.port n).slot = (s.port n).slot + 1 ∧ (t.port n).state = .run ∧
      (t.port n).play.entry = (s.port n).play.entry ∧ (t.port n).play.gran = (s.port n).play.gran + 1) := by
  have hstarted := (State.Stands.refl n s []).started (s.startHop n)
  have hwait' := hstarted.activity_eq.trans hwait
  obtain ⟨hop, heq⟩ := State.goOn_of_hold (.inl hwait') errs
  have hstands := ((hstarted.advance (.inr (by decide))).playAll .hold Acts.none errs []).done hop
  refine ⟨_, exec_startEffect_of_moment hmoment errs, ?_⟩
  rw [State.startNow_of_paused hstate hpulse hrecovering,
    State.runBoundary_of_ordinary errs (State.runMoment_of_wait hwait' (hstarted.len_eq.trans hlen)), heq]
  exact ⟨hstands.slot_eq, hstands.state_eq, hstands.entry_eq, hstands.gran_eq⟩

theorem State.startNow_of_pulseUnit {n : Nat} {s : State} (hstate : (s.port n).state = .armed)
    (hpulse : pulseUnit (Config.portType n) (s.port n).mode = true) (hop : Nat) (errs : SlotErrors) :
    s.startNow (.port n) hop errs =
      ((s.started n hop).modPort n (fun p => p.line (bit (s.reg (portReg n 0x160)) 0))).goOn (.port n) errs := by
  rw [State.startNow_port, if_pos hpulse, if_pos hstate]

/-- A sample held through a slot that goes on keeps its value. -/
theorem State.last_playAll_hold {s : State} {n : Nat} (hforced : (s.port n).forced = false) (acts : Acts) (errs : SlotErrors)
    (evs : List (Nat × Nat)) :
    ((s.playAll (.port n) .hold acts errs evs).1.port n).last.value = (s.port n).last.value := by
  have hsame : (if (s.walking n).recovering then (s, evs) else (s.episodeOver n, evs)).1.port n =
      { s.port n with underrun := (if (s.walking n).recovering then (s, evs) else (s.episodeOver n, evs)).1.port n |>.underrun } := by
    split
    · rfl
    · rw [show (s.episodeOver n).port n = { s.port n with underrun := false } from
        (State.port_modPort _ _ _ _).trans (if_pos rfl)]
  refine (Played.last_rest_hold ?_ acts errs).trans ?_
  · rw [hsame]
    exact hforced
  · rw [hsame]

theorem startEffect_idlesLine {n : Nat} {errs : SlotErrors} {s : State} (hmoment : s.moment (.port n) = .start)
    (hstate : (s.port n).state = .armed) (hpulse : pulseUnit (Config.portType n) (s.port n).mode = true)
    (hforced : (s.port n).forced = false) (hidle : (s.port n).play.activity = .idle) :
    Yields (.startEffect (.port n) errs) s (fun t => (t.port n).state = .run ∧
      (t.port n).last.value = b2n (bit (s.reg (portReg n 0x160)) 0)) := by
  have hline := ((State.Stands.refl n s []).started (s.startHop n)).modPort_same
    (f := fun p => p.line (bit (s.reg (portReg n 0x160)) 0)) (fun _ => rfl)
  obtain ⟨hop, heq⟩ := State.goOn_of_hold (.inr (hline.activity_eq.trans hidle)) errs
  have hadvance := hline.advance (.inr (by decide))
  have hstands := (hadvance.playAll .hold Acts.none errs []).done hop
  have hvalue : (((s.started n (s.startHop n)).modPort n
      (fun p => p.line (bit (s.reg (portReg n 0x160)) 0))).port n).last.value = b2n (bit (s.reg (portReg n 0x160)) 0) := by
    rw [State.port_modPort, if_pos rfl]
    rfl
  refine ⟨_, exec_startEffect_of_moment hmoment errs, ?_⟩
  rw [State.startNow_of_pulseUnit hstate hpulse, heq]
  refine ⟨hstands.state_eq, ?_⟩
  rw [State.port_done, State.last_playAll_hold (hadvance.forced_eq.trans hforced), State.last_advance]
  exact hvalue

/-! ### A missing granule (R73, R74) -/

theorem State.missing_of_runMoment {s : State} {n : Nat} (h : s.runMoment (.port n) = .missing) :
    (s.port n).play.activity = .segment ∧ (s.port n).play.recovering = false ∧
      (s.port n).misses ((s.port n).play.gran + 1) = true := by
  unfold State.runMoment at h
  dsimp only at h
  split at h
  · cases h
  · split at h <;> cases h
  · split at h <;> cases h
  · split at h <;> cases h
  · next hsegment =>
    split at h
    · cases h
    · next hrecovering =>
      split at h
      · cases h
      · split at h
        · cases h
        · split at h
          · next hmisses =>
            refine ⟨hsegment, Bool.eq_false_iff.mpr hrecovering, ?_⟩
            exact (Bool.or_false _).symm.trans hmisses
          · cases h

theorem Port.misses_congr {p q : Port} (hseg : q.seg = p.seg) (hbobbin : q.bobbin = p.bobbin) (i : Nat) :
    q.misses i = p.misses i := by
  unfold Port.misses
  rw [hseg, hbobbin]

theorem State.misses_advance (s : State) (n i : Nat) : ((s.advance n).port n).misses i = (s.port n).misses i := by
  have hpassed := s.passed_passSlot n false
  refine Port.misses_congr ?_ ?_ i <;> rw [State.port_advance]
  · exact hpassed.seg
  · exact hpassed.bobbin

/-- A missing granule is an underrun, and the output that follows it plays one content. -/
theorem Played.granule_of_missing {r : Played} {n i : Nat} (hmisses : (r.1.port n).misses i = true) (acts : Acts)
    (errs : SlotErrors) (member : Bool) : ∃ u c acts' lost,
    (u = r.1 ∨ ∃ addr, u = r.1.bridgeFault n (some addr)) ∧
      (Played.granule r n i acts errs member).1 =
        ((Played.underrun (u, r.2) n i member).1.1.playSlot n c acts' lost).1 := by
  unfold Port.misses Seg.streams at hmisses
  simp only [Bool.and_eq_true, Bool.not_eq_true', decide_eq_true_eq, Option.isNone_iff_eq_none] at hmisses
  obtain ⟨⟨⟨⟨hmatch, hcached⟩, hdata⟩, habsent⟩, hfetched⟩ := hmisses
  unfold Played.granule
  extract_lets p t addr lost u a held play
  have hu : u = r.1 ∨ ∃ addr, u = r.1.bridgeFault n (some addr) := by
    unfold u
    split
    · exact .inr ⟨addr, rfl⟩
    · exact .inl rfl
  rw [if_neg (show ¬ p.seg.mismatch = true from Bool.eq_false_iff.mp hmatch), if_neg (show ¬ p.seg.data ≤ i from not_le.mpr hdata),
    dif_neg (show ¬ i < p.seg.cached.length from not_lt.mpr hcached), show p.bobbin.has p.bobbin.playing i = none from habsent]
  dsimp only
  rw [if_neg (show ¬ p.bobbin.refetching p.bobbin.playing i = true from Bool.eq_false_iff.mp hfetched)]
  exact ⟨u, _, _, lost, hu, rfl⟩

/-- The slot of a missing granule: the position goes on, the underrun policy acts, one content plays. -/
theorem State.goOn_of_missing {s : State} {n : Nat} (hmissing : s.runMoment (.port n) = .missing) (errs : SlotErrors) :
    ∃ u i c acts lost es, (u = s.advance n ∨ ∃ addr, u = (s.advance n).bridgeFault n (some addr)) ∧
      s.goOn (.port n) errs = ((Played.underrun (u, []) n i false).1.1.playSlot n c acts lost).1.emitAll es := by
  obtain ⟨hsegment, hrecovering, hmisses⟩ := State.missing_of_runMoment hmissing
  obtain ⟨hop, heq⟩ := State.goOn_of_segment hsegment hrecovering errs
  have hgran : ((s.advance n).port n).play.gran = (s.port n).play.gran + 1 :=
    ((State.Stands.refl n s [] (by decide)).advance (.inr (by decide))).gran_eq
  have hmisses' : ((s.advance n).port n).misses ((s.advance n).port n).play.gran = true := by
    rw [hgran, State.misses_advance]
    exact hmisses
  obtain ⟨u, c, acts, lost, hu, hgranule⟩ := Played.granule_of_missing (r := (s.advance n, [])) hmisses' Acts.none errs false
  obtain ⟨es, hdone⟩ := Played.done_eq ((s.advance n).playGranule (.port n) Acts.none errs []) hop
  refine ⟨u, ((s.advance n).port n).play.gran, c, acts, lost, es, hu, ?_⟩
  rw [heq, hdone, State.playGranule_port, hgranule]

/-- What the underrun of a missing slot finds: the port as it advanced, its episode and what holds its output as before. -/
theorem State.Stands.ofMissing {n : Nat} {offs : List Nat} {s u : State} (hoffs : 0x104 ∉ offs)
    (hquiet : ∀ o ∈ offs, o ∈ [0x58, 0x100, 0x104, 0x114])
    (hu : u = s.advance n ∨ ∃ addr, u = (s.advance n).bridgeFault n (some addr)) :
    State.Stands n offs s ((s.port n).nextSlot.on Playhead.nextGran) u ∧ (u.port n).underrun = (s.port n).underrun ∧
      (u.port n).stale = (s.port n).stale ∧ u.railHolds n = s.railHolds n := by
  have hadvance := (State.Stands.refl n s offs hquiet).advance (.inr hoffs)
  have hpassed := s.passed_passSlot n false
  have hunderrun : ((s.advance n).port n).underrun = (s.port n).underrun := by
    rw [State.port_advance]
    exact hpassed.underrun
  have hstale : ((s.advance n).port n).stale = (s.port n).stale := by
    rw [State.port_advance]
    exact hpassed.stale
  have hrail : (s.advance n).railHolds n = s.railHolds n := by
    unfold State.railHolds
    rw [(s.advance_agree n).health rfl]
  rcases hu with hu | ⟨addr, hu⟩
  · rw [hu]
    exact ⟨hadvance, hunderrun, hstale, hrail⟩
  · rw [hu]
    have hfault := State.bridgeFault_agree (s.advance n) n (some addr)
    refine ⟨hadvance.bridgeFault n (some addr), ?_, ?_, ?_⟩
    · rw [State.port_bridgeFault, hunderrun]
    · rw [State.port_bridgeFault, hstale]
    · rw [← hrail]
      unfold State.railHolds
      rw [hfault.health rfl]

theorem exec_missingSlot_of_moment {n : Nat} {s : State} (hmoment : s.moment (.port n) = .missing) (errs : SlotErrors) :
    exec (.missingSlot (.port n) errs) s = .next (s.goOn (.port n) errs) :=
  congrArg Host.Outcome.next (State.whenMoment_of_eq hmoment _)

/-- On a frozen output, or one that a rail holds off, a missing granule counts no underrun (R310, R435). -/
theorem missingSlot_held {n : Nat} {errs : SlotErrors} {s : State} (hmoment : s.moment (.port n) = .missing)
    (hheld : (s.port n).stale = true ∨ s.railHolds n = true) :
    Yields (.missingSlot (.port n) errs) s (fun t => (t.port n).slot = (s.port n).slot + 1 ∧ (t.port n).state = .run ∧
      t.rd (Page.port n) 0x100 = s.rd (Page.port n) 0x100) := by
  obtain ⟨hrun, hmissing⟩ := State.run_of_moment hmoment rfl
  obtain ⟨u, i, c, acts, lost, es, hu, heq⟩ := State.goOn_of_missing (hmissing rfl) errs
  obtain ⟨hstands, -, hstale, hrail⟩ := State.Stands.ofMissing (offs := [0x100]) (by decide) (by decide) hu
  refine ⟨_, exec_missingSlot_of_moment hmoment errs, ?_⟩
  rw [heq, Played.underrun_of_held (r := (u, [])) (by rw [hstale, hrail]; exact hheld)]
  have hplayed := (hstands.playSlot c acts lost).agree (State.emitAll_agree _ es)
  exact ⟨hplayed.slot_eq, hplayed.state_eq.trans hrun, hplayed.regs 0x100 (by decide)⟩

/-- A port in which an episode begins: counted, flagged, running (R73). -/
theorem State.starve_begins {s : State} {n : Nat} (h : (s.port n).underrun = false) :
    ((s.starve n).port n).underrun = true ∧
      (s.starve n).rd (Page.port n) 0x100 = word (min 0xffffffff ((s.rd (Page.port n) 0x100).toNat + 1)) ∧
      bit ((s.starve n).rd (Page.port n) 0x14) 0 = true := by
  have hcount := s.rd_count (p := Page.port n) (o := 0x100) (q := Page.port n) (r := 0x100) (by decide) (by decide)
  have hflag := (s.count (Page.port n) 0x100).rd_flag (p := Page.port n) (i := 0) (q := Page.port n) (r := 0x100) (by decide)
  unfold State.starve
  rw [if_neg (by rw [h]; decide)]
  refine ⟨?_, ?_, (s.count (Page.port n) 0x100).bit_rd_flag (Page.port n) (by decide)⟩
  · rw [State.port_modPort, if_pos rfl]
  · exact hflag.trans ((if_neg (by simp)).trans (hcount.trans (if_pos ⟨rfl, rfl⟩)))

/-- A missing granule outside an episode counts one underrun; the position goes on. -/
theorem missingSlot_underruns {n : Nat} {errs : SlotErrors} {s : State} (halone : s.walksAlone n)
    (hmoment : s.moment (.port n) = .missing) (hepisode : (s.port n).underrun = false) (hstale : (s.port n).stale = false)
    (hrail : s.railHolds n = false) :
    Yields (.missingSlot (.port n) errs) s (fun t => (t.port n).slot = (s.port n).slot + 1 ∧
      (t.port n).play.gran = (s.port n).play.gran + 1 ∧ (t.port n).underrun = true ∧
      t.rd (Page.port n) 0x100 = word (min 0xffffffff ((s.rd (Page.port n) 0x100).toNat + 1)) ∧
      bit (t.rd (Page.port n) 0x14) 0 = true) := by
  obtain ⟨-, hmissing⟩ := State.run_of_moment hmoment rfl
  obtain ⟨u, i, c, acts, lost, es, hu, heq⟩ := State.goOn_of_missing (hmissing rfl) errs
  obtain ⟨hstands, hunder, hstale', hrail'⟩ := State.Stands.ofMissing (offs := [0x58, 0x100]) (by decide) (by decide) hu
  have hpolicy : bits (u.rd (Page.port n) 0x58) 0 2 ≠ 1 := by
    rw [hstands.regs 0x58 (by decide)]
    exact halone.alone.policy
  obtain ⟨hbegun, hcounted, hflagged⟩ := State.starve_begins (hunder.trans hepisode)
  obtain ⟨-, hstate⟩ := Played.underrun_of_policy (r := (u, [])) (hstale'.trans hstale) (hrail'.trans hrail) hpolicy i false
  obtain ⟨hstands', -⟩ := (State.Stands.ofMissing (offs := [0x58]) (by decide) (by decide) hu).1.underrun (r := (u, []))
    (by decide) hpolicy i false
  have hplace := (hstands'.playSlot c acts lost).agree (State.emitAll_agree _ es)
  generalize (Played.underrun (u, []) n i false).1.1 = v at *
  have hv : (v.port n).underrun = true ∧ v.rd (Page.port n) 0x100 = (u.starve n).rd (Page.port n) 0x100 ∧
      bit (v.rd (Page.port n) 0x14) 0 = true := by
    rcases hstate with hv | hv
    · rw [hv]
      exact ⟨hbegun, rfl, hflagged⟩
    · rw [hv]
      refine ⟨?_, rfl, hflagged⟩
      rw [State.port_modPort, if_pos rfl]
      exact hbegun
  obtain ⟨hrunning, hcount, hflag⟩ := hv
  have hkept := ((State.Stands.refl n v [0x100]).playSlot c acts lost).agree (State.emitAll_agree _ es)
  refine ⟨_, exec_missingSlot_of_moment hmoment errs, ?_⟩
  rw [heq]
  refine ⟨hplace.slot_eq, hplace.gran_eq, ?_, ?_, hkept.flags 0 hflag⟩
  · rw [(State.emitAll_agree _ es).port_eq rfl n, Port.underrun_of_still (State.still_playSlot v n c acts lost)]
    exact hrunning
  · rw [hkept.regs 0x100 (by decide), hcount, hcounted, hstands.regs 0x100 (by decide)]

/-- Settles O27: each boundary's slot by its parts, and where they leave the port standing. -/
theorem passesSelvedgesUnderrunsAndSlots : Obligations.PassesSelvedgesUnderrunsAndSlots :=
  fun _ _ _ halone => ⟨fun _ _ _ _ hmoment hplan hfollow hpath htrans =>
      passEnd_beginsPass halone hmoment hplan hfollow hpath htrans,
    fun hmoment => selvedgeEnd_beginsPass halone hmoment,
    fun hmoment hepisode hstale hrail => missingSlot_underruns halone hmoment hepisode hstale hrail,
    fun hmoment hheld => missingSlot_held hmoment hheld,
    fun hmoment hrun hactivity => slotBoundary_goesOn halone hmoment hrun hactivity,
    fun hmoment hstate => slotBoundary_staysParked halone hmoment hstate,
    fun hmoment hstate hwait hlen hrecovering hpulse => startEffect_resumes hmoment hstate hwait hlen hrecovering hpulse,
    fun hmoment hstate hpulse hforced hidle => startEffect_idlesLine hmoment hstate hpulse hforced hidle⟩

end Machine
end Sys2Proof
end

section
/-! PROOFS. Activations at a port's hooks: commands and transfers latched, jump events judged, late events counted (O31). -/

namespace Sys2Proof
namespace Machine

/-! ### An activation taken (R245) -/

/-- A state from which an activation was taken. -/
def State.took (s : State) (x : Activation) : State :=
  { s with fabric := { s.fabric with acts := s.fabric.acts.erase x } }

theorem State.took_agree (s : State) (x : Activation) : Agree 8192 s (s.took x) := (Agree.refl 8192 s).setFabric rfl

theorem State.onAct_of_none {s : State} {a : Nat} (h : s.fabric.acts.find? (fun y => y.hook == a) = none)
    (f : Activation → State → State) : s.onAct a f = s := by
  unfold State.onAct State.takeAct
  rw [h]

theorem State.onAct_of_some {s : State} {a : Nat} {x : Activation} (h : s.fabric.acts.find? (fun y => y.hook == a) = some x)
    (f : Activation → State → State) : s.onAct a f = f x (s.took x) := by
  unfold State.onAct State.takeAct
  rw [h]
  rfl

/-! ### START, STOP and PAUSE at a hook (R60) -/

/-- A hook, its offset and the command that it latches, where the port is no pulse unit. -/
def isCommandHook (s : State) (n : Nat) (c : Instr) (off : Nat) (what : Latched) : Prop :=
  (c = .hookStop n ∧ off = 0xd4 ∧ what = .stop) ∨ (c = .hookPause n ∧ off = 0xd8 ∧ what = .pause) ∨
    (c = .hookStart n ∧ off = 0xd0 ∧ what = .start ∧ pulseUnit (Config.portType n) (s.port n).mode = false)

section CommandHook

variable {s : State} {n : Nat} {c : Instr} {off : Nat} {what : Latched} (hn : n < 144) (hc : isCommandHook s n c off what)
include hn hc

theorem exec_commandHook_of_none (hnone : s.fabric.acts.find? (fun y => y.hook == portReg n off) = none) :
    exec c s = .next s := by
  rcases hc with ⟨rfl, rfl, rfl⟩ | ⟨rfl, rfl, rfl⟩ | ⟨rfl, rfl, rfl, -⟩ <;>
    exact congrArg Host.Outcome.next ((if_pos hn).trans (State.onAct_of_none hnone _))

theorem exec_commandHook_of_some {x : Activation}
    (hsome : s.fabric.acts.find? (fun y => y.hook == portReg n off) = some x) :
    exec c s = .next ((s.took x).hookLatch n what (x.hop + 1)) := by
  rcases hc with ⟨rfl, rfl, rfl⟩ | ⟨rfl, rfl, rfl⟩ | ⟨rfl, rfl, rfl, hpulse⟩
  · exact congrArg Host.Outcome.next ((if_pos hn).trans (State.onAct_of_some hsome _))
  · exact congrArg Host.Outcome.next ((if_pos hn).trans (State.onAct_of_some hsome _))
  · have hplain : ((s.took x).isPulse n && ((s.took x).port n).state != .paused) = false := by
      have hnot : (s.took x).isPulse n = false := by
        unfold State.isPulse
        rw [(s.took_agree x).port_eq rfl n, hpulse, Bool.and_false]
      rw [hnot, Bool.false_and]
    refine congrArg Host.Outcome.next ((if_pos hn).trans ((State.onAct_of_some hsome _).trans ?_))
    exact if_neg (Bool.eq_false_iff.mp hplain)

end CommandHook

theorem State.hookLatch_of_idle {s : State} {n : Nat} (h : s.hooksAct n = false) (what : Latched) (hop : Nat) :
    s.hookLatch n what hop = s := by
  unfold State.hookLatch
  split
  · exact if_neg (Bool.eq_false_iff.mp h)
  · rfl

theorem State.hookLatch_of_steered {s : State} {n : Nat} {u : SeqUnit} (hu : s.steered n = some u) (h : s.hooksAct n = true)
    (what : Latched) (hop : Nat) : s.hookLatch n what hop = s.latch u what hop := by
  unfold State.hookLatch
  rw [hu]
  exact if_pos h

theorem State.steered_of_none {s : State} {n : Nat} (h : (s.port n).group = none) : s.steered n = some (.port n) := by
  unfold State.steered
  rw [h]

/-- A playhead with one more latch. -/
def Playhead.latch (ph : Playhead) (l : Latch) : Playhead := { ph with latches := ph.latches ++ [l] }

/-- A change of one port from a state that took an activation leaves the rest. -/
theorem State.took_modPort (s : State) (x : Activation) (n : Nat) (f : Port → Port) :
    ((s.took x).modPort n f).port n = f (s.port n) ∧ s.portsBut ((s.took x).modPort n f) [n] ∧
      s.changesOnly ((s.took x).modPort n f) [.ports, .fabric] := by
  refine ⟨(State.port_modPort _ _ _ _).trans (if_pos rfl), fun m hm => ?_, ?_⟩
  · exact (State.port_modPort _ _ _ _).trans (if_neg (by simpa using hm))
  · have hagree : Agree 8208 s ((s.took x).modPort n f) :=
      ((Agree.refl _ s).step (s.took_agree x) rfl).step (State.modPort_agree _ n f) rfl
    exact hagree.changesOnly_of_within

theorem commandHook_latches {s : State} {n : Nat} {c : Instr} {off : Nat} {what : Latched} {x : Activation} (hn : n < 144)
    (hgroup : (s.port n).group = none) (hc : isCommandHook s n c off what)
    (hsome : s.fabric.acts.find? (fun y => y.hook == portReg n off) = some x) (hacts : s.hooksAct n = true) :
    Yields c s (fun t =>
      t.port n = { s.port n with play := { (s.port n).play with
        latches := (s.port n).play.latches ++
          [{ due := (s.port n).slot + Config.ka (Config.portType n), what := what, hop := x.hop + 1 }] } } ∧
      t.fabric = { s.fabric with acts := s.fabric.acts.erase x } ∧ s.portsBut t [n] ∧ s.changesOnly t [.ports, .fabric]) := by
  have hsteered : (s.took x).steered n = some (.port n) := State.steered_of_none hgroup
  have hlatch := State.hookLatch_of_steered hsteered (show (s.took x).hooksAct n = true from hacts) what (x.hop + 1)
  refine ⟨_, (exec_commandHook_of_some hn hc hsome).trans (congrArg Host.Outcome.next hlatch), ?_⟩
  obtain ⟨hport, hothers, hquiet⟩ := s.took_modPort x n (fun p => p.on (fun ph => ph.latch
    { due := (s.port n).slot + Config.ka (Config.portType n), what := what, hop := x.hop + 1 }))
  exact ⟨hport, rfl, hothers, hquiet⟩

theorem exec_commandHook_of_idle {s : State} {n : Nat} {c : Instr} {off : Nat} {what : Latched} {x : Activation} (hn : n < 144)
    (hc : isCommandHook s n c off what) (hsome : s.fabric.acts.find? (fun y => y.hook == portReg n off) = some x)
    (hidle : s.hooksAct n = false) : exec c s = .next (s.took x) :=
  (exec_commandHook_of_some hn hc hsome).trans
    (congrArg Host.Outcome.next (State.hookLatch_of_idle (show (s.took x).hooksAct n = false from hidle) _ _))

/-! ### Transfers at a hook (R106, R452) -/

theorem transferHook_latches {s : State} {n : Nat} {c : Instr} {off : Nat} {nco : Bool} {x : Activation} (hn : n < 144)
    (hc : (c = .hookNco n ∧ off = 0xdc ∧ nco = true) ∨ (c = .hookCommit n ∧ off = 0xe0 ∧ nco = false))
    (hsome : s.fabric.acts.find? (fun y => y.hook == portReg n off) = some x) (hacts : s.hooksAct n = true) :
    Yields c s (fun t =>
      t.port n = { s.port n with transfers := (s.port n).transfers ++ [((s.port n).slot + Config.ka (Config.portType n), nco)] } ∧
      t.fabric = { s.fabric with acts := s.fabric.acts.erase x } ∧ s.portsBut t [n] ∧ s.changesOnly t [.ports, .fabric]) := by
  have hexec : exec c s = .next ((s.took x).latchTransfer n nco) := by
    rcases hc with ⟨rfl, rfl, rfl⟩ | ⟨rfl, rfl, rfl⟩ <;>
      exact congrArg Host.Outcome.next ((if_pos hn).trans ((State.onAct_of_some hsome _).trans (if_pos hacts)))
  obtain ⟨hport, hothers, hquiet⟩ := s.took_modPort x n (fun p =>
    { p with transfers := p.transfers ++ [(p.slot + Config.ka (Config.portType n), nco)] })
  exact ⟨_, hexec, hport, rfl, hothers, hquiet⟩

/-! ### Jump events at a hook (R53-R60, R65) -/

theorem getLsbD_maskBit {j : Nat} (hj : j < 4) (m : BitVec 4) : (maskBit m j true).getLsbD j = true := by
  have hbit : (BitVec.ofNat 4 (2 ^ j)).getLsbD j = true := by
    rw [BitVec.getLsbD_ofNat, decide_eq_true hj, Nat.testBit_two_pow_self]
    rfl
  unfold maskBit
  rw [if_pos rfl, BitVec.getLsbD_or, hbit, Bool.or_true]

/-- A jump event taken at a port's hook while no other has acted in the slot, by how it is judged. -/
theorem hookJump_takes {s : State} {n j : Nat} {x : Activation} {r : Judged × Option Latch} (hn : n < 144) (hj : j < 4)
    (hgroup : (s.port n).group = none) (hsome : s.fabric.acts.find? (fun y => y.hook == hookJ n j) = some x)
    (hacts : s.hooksAct n = true) (hrun : (s.port n).state = .run) (hjudged : (s.port n).play.judged = none)
    (hr : judgeJump (s.port n).play (s.port n).slot (Config.ka (Config.portType n)) (Config.ka (Config.portType n)) j
      (x.hop + 1) = some r) :
    ∃ t, exec (.hookJump n j) s = .next t ∧ (t.port n).play = (s.port n).play.takeJump j (x.hop + 1) r ∧
      s.portsBut t [n] ∧ s.changesOnly t [.ports, .fabric] := by
  have htaken : (s.port n).play.jumpEvent (s.port n).slot (Config.ka (Config.portType n)) (Config.ka (Config.portType n)) j
      (x.hop + 1) = (s.port n).play.takeJump j (x.hop + 1) r := by
    unfold Playhead.jumpEvent
    rw [hr, hjudged]
  have hevent : (s.took x).jumpEvent (.port n) j (x.hop + 1) =
      (s.took x).modPort n (fun p => { p with play := (s.port n).play.takeJump j (x.hop + 1) r }) := by
    unfold State.jumpEvent
    rw [if_neg (not_not.mpr (show (s.took x).unitState (.port n) = .run from hrun)), ← htaken]
    rfl
  have hsteered : (s.took x).steered n = some (.port n) := State.steered_of_none hgroup
  have hexec : exec (.hookJump n j) s = .next ((s.took x).jumpEvent (.port n) j (x.hop + 1)) := by
    refine congrArg Host.Outcome.next ((if_pos ⟨hn, hj⟩).trans ((State.onAct_of_some hsome _).trans ?_))
    rw [hsteered]
    exact if_pos hacts
  obtain ⟨hport, hothers, hquiet⟩ := s.took_modPort x n (fun p => { p with play := (s.port n).play.takeJump j (x.hop + 1) r })
  exact ⟨_, hexec.trans (congrArg Host.Outcome.next hevent), congrArg Port.play hport, hothers, hquiet⟩

section Judge

variable {ph : Playhead} {t ka k j hop : Nat}

theorem judgeJump_candidate (hsegment : ph.activity = .segment) (hen : jumpEn (jumpWord ph.word j) = true)
    (himm : jumpImm (jumpWord ph.word j) = false) (hbefore : ph.gran + k < ph.len) :
    judgeJump ph t ka k j hop = some (.candidate (!ph.cand.getLsbD j), none) := by
  unfold judgeJump
  rw [hsegment]
  dsimp only
  rw [hen, himm]
  exact if_pos (Or.inr hbefore)

theorem judgeJump_late (hsegment : ph.activity = .segment) (hen : jumpEn (jumpWord ph.word j) = true)
    (himm : jumpImm (jumpWord ph.word j) = false) (hafter : ph.len ≤ ph.gran + k) :
    judgeJump ph t ka k j hop = some (.late (!ph.pend.getLsbD j), none) := by
  unfold judgeJump
  rw [hsegment]
  dsimp only
  rw [hen, himm]
  exact if_neg (not_or.mpr ⟨by decide, Nat.not_lt.mpr hafter⟩)

theorem judgeJump_immediate (hsegment : ph.activity = .segment) (hen : jumpEn (jumpWord ph.word j) = true)
    (himm : jumpImm (jumpWord ph.word j) = true) :
    judgeJump ph t ka k j hop = some (.immediate, some
      { due := t + ka, hop := hop, what := .jump j (jumpTarget (jumpWord ph.word j)) (jumpClr (jumpWord ph.word j)) }) := by
  unfold judgeJump
  rw [hsegment]
  dsimp only
  rw [hen, himm]
  rfl

theorem judgeJump_release (hwait : ph.activity = .wait) (hmask : (waitMask ph.word).getLsbD j = true) :
    judgeJump ph t ka k j hop = some (.release, some { due := t + ka, what := .release, hop := hop }) := by
  unfold judgeJump
  rw [hwait]
  exact if_pos hmask

end Judge

/-! ### A late event counted when its slot ends (R55) -/

theorem State.lateNow_settleJudged (s : State) (n : Nat) : ((s.settleJudged (.port n)).port n).play.lateNow = false := by
  rw [State.port_settleJudged]
  split
  · rfl
  · next h => exact Bool.eq_false_iff.mpr h

theorem State.settleJudged_of_settled {s : State} {n : Nat} (h : (s.port n).play.lateNow = false) :
    s.settleJudged (.port n) = s := by
  rw [State.settleJudged_port]
  exact if_neg (Bool.eq_false_iff.mp h)

/-- Passing into a slot settles the acting event first, which then changes nothing more. -/
theorem State.passSlot_settled (s : State) (n : Nat) (frozen : Bool) :
    (s.settleJudged (.port n)).passSlot (.port n) frozen = s.passSlot (.port n) frozen := by
  rw [State.passSlot_port, State.settleJudged_of_settled (s.lateNow_settleJudged n), ← State.passSlot_port]

theorem State.goOn_settled (s : State) (n : Nat) (errs : SlotErrors) :
    (s.settleJudged (.port n)).goOn (.port n) errs = s.goOn (.port n) errs := by
  unfold State.goOn
  rw [State.passSlot_settled]

/-- A late event settled is counted and flagged. -/
theorem State.settleJudged_counts {s : State} {n : Nat} (h : (s.port n).play.lateNow = true) :
    (s.settleJudged (.port n)).rd (Page.port n) 0x104 = word (min 0xffffffff ((s.rd (Page.port n) 0x104).toNat + 1)) ∧
      bit ((s.settleJudged (.port n)).rd (Page.port n) 0x14) 1 = true := by
  have hcount := s.rd_count (p := Page.port n) (o := 0x104) (q := Page.port n) (r := 0x104) (by decide) (by decide)
  have hflag := (s.count (Page.port n) 0x104).rd_flag (p := Page.port n) (i := 1) (q := Page.port n) (r := 0x104) (by decide)
  rw [State.settleJudged_port, if_pos h]
  refine ⟨?_, (s.count (Page.port n) 0x104).bit_rd_flag (Page.port n) (by decide)⟩
  exact hflag.trans ((if_neg (by simp)).trans (hcount.trans (if_pos ⟨rfl, rfl⟩)))

/-- A slot that goes on plays one content, or the granule that the position has come to. -/
theorem State.goOn_plays (s : State) (n : Nat) (errs : SlotErrors) : ∃ hop,
    (∃ c, s.goOn (.port n) errs = ((s.advance n).playAll (.port n) c Acts.none errs []).done hop) ∨
      s.goOn (.port n) errs = ((s.advance n).playGranule (.port n) Acts.none errs []).done hop := by
  unfold State.goOn
  refine ⟨((s.passSlot (.port n) false).playhead (.port n)).hop, ?_⟩
  dsimp only
  split
  · split
    · exact .inl ⟨_, rfl⟩
    · exact .inr rfl
  · exact .inl ⟨_, rfl⟩
  · exact .inl ⟨_, rfl⟩
  · exact .inl ⟨_, rfl⟩
  · exact .inl ⟨_, rfl⟩

/-- An underrun, parking or not, leaves the registers of its port's page but 0x100, and loses no flag. -/
theorem State.StandsAs.underrun {n : Nat} {s v : State} (h : State.StandsAs n [0x104] s (fun _ => True) v)
    (evs : List (Nat × Nat)) (i : Nat) (member : Bool) :
    State.StandsAs n [0x104] s (fun _ => True) (Played.underrun (v, evs) n i member).1.1 := by
  obtain ⟨p, -, hv⟩ := h
  unfold Played.underrun
  extract_lets u pg q policy r1 cut
  have hr1 : State.Stands n [0x104] s p r1.1 := by
    unfold r1
    split
    · exact hv
    · exact ((hv.count _ (o := 0x100) (by decide) ⟨by decide, by decide⟩).flag _ _).modPort_same
        (f := fun q => { q with underrun := true }) (fun _ => rfl)
  have hany {t : State} (hports : Agree 2096 r1.1 t) : State.StandsAs n [0x104] s (fun _ => True) t := by
    refine ⟨t.port n, trivial, hr1.quiet, rfl, fun l hl => .inr (.inr ⟨l, hl, rfl⟩), fun o ho => ?_, fun j hj => ?_⟩
    · rw [hports.rd_eq rfl _ _ rfl]
      exact hr1.regs o ho
    · rw [hports.rd_eq rfl _ _ rfl]
      exact hr1.flags j hj
  have hlatched (f : Port → Port) : State.StandsAs n [0x104] s (fun _ => True) (r1.1.modPort n f) :=
    hany ((Agree.refl 2096 r1.1).step (State.modPort_agree r1.1 n f) rfl)
  split
  · exact ⟨p, trivial, hv⟩
  · split
    · exact hany (State.parkAt_agree r1.1 n .ramped)
    · split
      · exact hlatched (Port.awaitRecovery (Config.ka (Config.portType n)) i)
      · exact ⟨p, trivial, hr1⟩

/-- A slot that goes on with no late event standing leaves the counter of late events, and loses no flag. -/
theorem State.goOn_keepsLate {s : State} {n : Nat} (hsettled : (s.port n).play.lateNow = false) (errs : SlotErrors) :
    State.StandsAs n [0x104] s (fun _ => True) (s.goOn (.port n) errs) := by
  have hadvance := (State.Stands.refl n s [0x104]).advance (.inl hsettled)
  obtain ⟨hop, ⟨c, heq⟩ | heq⟩ := s.goOn_plays n errs
  · rw [heq]
    exact ⟨_, trivial, (hadvance.playAll c Acts.none errs []).done hop⟩
  · obtain ⟨es, hdone⟩ := Played.done_eq ((s.advance n).playGranule (.port n) Acts.none errs []) hop
    rw [heq, hdone, State.playGranule_port]
    have hplayed : State.StandsAs n [0x104] s (fun _ => True)
        (Played.granule (s.advance n, []) n ((s.advance n).port n).play.gran Acts.none errs false).1 :=
      State.StandsAs.granule ⟨_, trivial, hadvance⟩ _ _ _ _ fun v hv => hv.underrun [] _ _
    exact hplayed.map fun k => k.agree (State.emitAll_agree _ es)

theorem slotBoundary_countsLate {n : Nat} {errs : SlotErrors} {s : State} (hmoment : s.moment (.port n) = .ordinary)
    (hrun : (s.port n).state = .run) (hlate : (s.port n).play.lateNow = true) :
    Yields (.slotBoundary (.port n) errs) s (fun t =>
      t.rd (Page.port n) 0x104 = word (min 0xffffffff ((s.rd (Page.port n) 0x104).toNat + 1)) ∧
      bit (t.rd (Page.port n) 0x14) 1 = true) := by
  obtain ⟨hcount, hflag⟩ := State.settleJudged_counts hlate
  obtain ⟨_, -, hkept⟩ := State.goOn_keepsLate (s.lateNow_settleJudged n) errs
  rw [State.goOn_settled] at hkept
  exact ⟨_, exec_slotBoundary_of_run hmoment hrun errs, (hkept.regs 0x104 (by decide)).trans hcount, hkept.flags 1 hflag⟩

/-! ### The hooks of a stitch group's members (R79) -/

theorem State.steered_of_leader {s : State} {n g : Nat} (hgroup : (s.port n).group = some g)
    (hleader : (s.group g).leader = some n) : s.steered n = some (.group g) := by
  unfold State.steered
  rw [hgroup]
  exact if_pos hleader

theorem State.steered_of_member {s : State} {n g : Nat} (hgroup : (s.port n).group = some g)
    (hleader : (s.group g).leader ≠ some n) : s.steered n = none := by
  unfold State.steered
  rw [hgroup]
  exact if_neg hleader

theorem State.hookLatch_of_unsteered {s : State} {n : Nat} (h : s.steered n = none) (what : Latched) (hop : Nat) :
    s.hookLatch n what hop = s := by
  unfold State.hookLatch
  rw [h]

/-- A group with one more latch. -/
def Group.latch (q : Group) (l : Latch) : Group := { q with play := q.play.latch l }

/-- A change of one group from a state that took an activation leaves the rest. -/
theorem State.took_modGroup (s : State) (x : Activation) (g : Nat) (f : Group → Group) :
    ((s.took x).modGroup g f).group g = f (s.group g) ∧ s.groupsBut ((s.took x).modGroup g f) [g] ∧
      s.changesOnly ((s.took x).modGroup g f) [.groups, .fabric] := by
  refine ⟨(State.group_modGroup _ _ _ _).trans (if_pos rfl), fun m hm => ?_, ?_⟩
  · exact (State.group_modGroup _ _ _ _).trans (if_neg (by simpa using hm))
  · have hagree : Agree 8224 s ((s.took x).modGroup g f) :=
      ((Agree.refl _ s).step (s.took_agree x) rfl).step (State.modGroup_agree _ g f) rfl
    exact hagree.changesOnly_of_within

theorem leaderHook_latches {s : State} {n g : Nat} {c : Instr} {off : Nat} {what : Latched} {x : Activation} (hn : n < 144)
    (hgroup : (s.port n).group = some g) (hleader : (s.group g).leader = some n) (hc : isCommandHook s n c off what)
    (hsome : s.fabric.acts.find? (fun y => y.hook == portReg n off) = some x) (hacts : s.hooksAct n = true) :
    Yields c s (fun t =>
      (t.group g).play.latches = (s.group g).play.latches ++
        [{ due := (s.group g).slot + Config.ka (Config.portType n), what := what, hop := x.hop + 1 }] ∧
      s.groupsBut t [g] ∧ s.changesOnly t [.groups, .fabric]) := by
  have hsteered : (s.took x).steered n = some (.group g) := State.steered_of_leader hgroup hleader
  have hlatch := State.hookLatch_of_steered hsteered (show (s.took x).hooksAct n = true from hacts) what (x.hop + 1)
  have hka : (s.took x).unitKa (.group g) = Config.ka (Config.portType n) := by
    show Config.ka (Config.portType ((s.group g).leader.getD 0)) = _
    rw [hleader]
    rfl
  have hnew : (s.took x).latch (.group g) what (x.hop + 1) = (s.took x).modGroup g (fun q => q.latch
      { due := (s.group g).slot + Config.ka (Config.portType n), what := what, hop := x.hop + 1 }) := by
    rw [← hka]
    rfl
  obtain ⟨hplay, hothers, hquiet⟩ := s.took_modGroup x g (fun q => q.latch
    { due := (s.group g).slot + Config.ka (Config.portType n), what := what, hop := x.hop + 1 })
  exact ⟨_, (exec_commandHook_of_some hn hc hsome).trans (congrArg Host.Outcome.next (hlatch.trans hnew)),
    congrArg (fun q => q.play.latches) hplay, hothers, hquiet⟩

theorem memberHook_idles {s : State} {n g : Nat} {c : Instr} {off : Nat} {what : Latched} {x : Activation} (hn : n < 144)
    (hgroup : (s.port n).group = some g) (hleader : (s.group g).leader ≠ some n) (hc : isCommandHook s n c off what)
    (hsome : s.fabric.acts.find? (fun y => y.hook == portReg n off) = some x) : exec c s = .next (s.took x) := by
  have hunsteered : (s.took x).steered n = none := State.steered_of_member hgroup hleader
  exact (exec_commandHook_of_some hn hc hsome).trans
    (congrArg Host.Outcome.next (State.hookLatch_of_unsteered hunsteered _ _))

/-- Settles O31: an activation is taken, and what its hook latches or judges stands in the unit that it steers. -/
theorem portHooksActOnTheirPlayhead : Obligations.PortHooksActOnTheirPlayhead := by
  refine ⟨fun n s hn hgroup => ⟨fun c off what hc => ?_, fun c off nco x hc hsome hacts => ?_,
    fun j x hj hsome hacts hrun hjudged => ⟨?_, ?_, ?_, ?_⟩⟩,
    fun n errs s _ hmoment hrun hlate => slotBoundary_countsLate hmoment hrun hlate,
    fun n g c off what x s hn hgroup hc hsome hacts => ⟨fun hleader => ?_, fun hleader => ?_⟩⟩
  case refine_1 =>
    exact ⟨exec_commandHook_of_none hn hc, fun x hsome => ⟨commandHook_latches hn hgroup hc hsome,
      exec_commandHook_of_idle hn hc hsome⟩⟩
  case refine_2 => exact transferHook_latches hn hc hsome hacts
  case refine_3 =>
    intro hsegment hen himm hbefore
    obtain ⟨t, hexec, hplay, hkept⟩ := hookJump_takes hn hj hgroup hsome hacts hrun hjudged
      (judgeJump_candidate hsegment hen himm hbefore)
    refine ⟨t, hexec, ?_, ?_, ?_, hkept⟩ <;> rw [hplay]
    · exact getLsbD_maskBit hj _
    · rfl
    · exact List.append_nil _
  case refine_4 =>
    intro hsegment hen himm hafter
    obtain ⟨t, hexec, hplay, hkept⟩ := hookJump_takes hn hj hgroup hsome hacts hrun hjudged
      (judgeJump_late hsegment hen himm hafter)
    refine ⟨t, hexec, ?_, ?_, ?_, hkept⟩ <;> rw [hplay]
    · exact getLsbD_maskBit hj _
    · rfl
    · rfl
  case refine_5 =>
    intro hsegment hen himm
    obtain ⟨t, hexec, hplay, hkept⟩ := hookJump_takes hn hj hgroup hsome hacts hrun hjudged
      (judgeJump_immediate hsegment hen himm)
    refine ⟨t, hexec, ?_, ?_, hkept⟩ <;> rw [hplay]
    · rfl
    · rfl
  case refine_6 =>
    intro hwait hmask
    obtain ⟨t, hexec, hplay, hkept⟩ := hookJump_takes hn hj hgroup hsome hacts hrun hjudged (judgeJump_release hwait hmask)
    refine ⟨t, hexec, ?_, hkept⟩
    rw [hplay]
    rfl
  case refine_7 => exact leaderHook_latches hn hgroup hleader (hc.imp id .inl) hsome hacts
  case refine_8 => exact memberHook_idles hn hgroup hleader (hc.imp id .inl) hsome

end Machine
end Sys2Proof
end

section
/-! PROOFS. Requests shown at once and delivered to a unit (O19). -/

namespace Sys2Proof
namespace Machine

/-! ### A request written (R85, R493) -/

/-- A command of a page that writes a requested state there. -/
def isRequest (c : Nat → Instr) (st : UState) : Prop :=
  c = .requestOff ∧ st = .off ∨ c = .requestParked ∧ st = .parked ∨ c = .requestArmed ∧ st = .armed ∨
    c = .requestRun ∧ st = .run ∨ c = .requestPaused ∧ st = .paused

theorem exec_request {c : Nat → Instr} {st : UState} (hc : isRequest c st) (page : Nat) (s : State) :
    exec (c page) s = .next (s.request page st) := by
  rcases hc with ⟨rfl, rfl⟩ | ⟨rfl, rfl⟩ | ⟨rfl, rfl⟩ | ⟨rfl, rfl⟩ | ⟨rfl, rfl⟩ <;> rfl

theorem sameRequest_of_ne {shown st : UState} (h : shown ≠ st) (now : UState) (deliver : Option UState) :
    UState.sameRequest shown now st deliver = false := by
  unfold UState.sameRequest
  rw [decide_eq_false h, Bool.false_and]

section Request

variable {s : State} {st : UState}

theorem State.request_port {n : Nat} (hn : n < 144) (hfitted : (s.port n).state ≠ .absent) (hsafe : (s.port n).state ≠ .safe)
    (hfree : s.mustStay = false) (hother : (s.port n).requested ≠ st) :
    s.request (Page.port n) st =
      s.setPort n { s.port n with requested := st, deliver := some st, withCommit := false, restart := false } := by
  unfold State.request
  rw [pageKind_port hn]
  dsimp only
  rw [if_neg hfitted, if_neg hsafe, hfree, sameRequest_of_ne hother]
  rfl

theorem State.request_safePort {n : Nat} (hn : n < 144) (hsafe : (s.port n).state = .safe) :
    s.request (Page.port n) st = s.setPort n { s.port n with requested := .safe, deliver := none } := by
  unfold State.request
  rw [pageKind_port hn]
  dsimp only
  rw [if_neg (by rw [hsafe]; decide), if_pos hsafe]

theorem State.request_group {g : Nat} (hg : g < 32) (hsafe : (s.group g).state ≠ .safe) (hfree : s.mustStay = false)
    (hother : (s.group g).requested ≠ st) :
    s.request (Page.group g) st = s.setGroup g { s.group g with requested := st, deliver := some st, restart := false } := by
  unfold State.request
  rw [pageKind_group hg]
  dsimp only
  rw [if_neg hsafe, hfree, sameRequest_of_ne hother]
  rfl

end Request

/-- A port replaced, and nothing else. -/
theorem State.setPort_only (s : State) (n : Nat) (p : Port) :
    (s.setPort n p).port n = p ∧ s.portsBut (s.setPort n p) [n] ∧ s.changesOnly (s.setPort n p) [.ports] := by
  refine ⟨(State.port_setPort _ _ _ _).trans (if_pos rfl), fun m hm => ?_, ?_⟩
  · exact (State.port_setPort _ _ _ _).trans (if_neg (by simpa using hm))
  · exact (State.setPort_agree s n p).changesOnly_of_within

/-- A group replaced, and nothing else. -/
theorem State.setGroup_only (s : State) (g : Nat) (x : Group) :
    (s.setGroup g x).group g = x ∧ s.groupsBut (s.setGroup g x) [g] ∧ s.changesOnly (s.setGroup g x) [.groups] := by
  refine ⟨(State.group_setGroup _ _ _ _).trans (if_pos rfl), fun m hm => ?_, ?_⟩
  · exact (State.group_setGroup _ _ _ _).trans (if_neg (by simpa using hm))
  · exact (State.setGroup_agree s g x).changesOnly_of_within

/-! ### A request delivered (R84, R175) -/

/-- A port whose request reached the data path. -/
def Port.unasked (p : Port) : Port := { p with deliver := none }

theorem execRequestDelivery_port {s : State} {n : Nat} (hn : n < 144) (hcommit : (s.port n).withCommit = false)
    (hquiet : (s.port n).deliver = some .armed → s.quieting = false) :
    exec (.requestDelivery (Page.port n)) s = .next (s.deliverRequest (Page.port n)) := by
  have hready : ((s.port n).deliver == some .armed && s.quieting) = false := by
    by_cases h : (s.port n).deliver = some .armed
    · rw [hquiet h, Bool.and_false]
    · rw [beq_false_of_ne h, Bool.false_and]
  show execRequestDelivery (Page.port n) s = _
  unfold execRequestDelivery
  rw [pageKind_port hn]
  dsimp only
  rw [hcommit, hready]
  rfl

section Deliver

variable {s : State} {n : Nat} (hn : n < 144)
include hn

theorem State.deliverRequest_of_none (hnone : (s.port n).deliver = none) : s.deliverRequest (Page.port n) = s := by
  unfold State.deliverRequest
  rw [pageKind_port hn]
  dsimp only
  rw [hnone]

theorem State.deliverRequest_of_some {st : UState} (hsome : (s.port n).deliver = some st) :
    s.deliverRequest (Page.port n) = (s.modPort n Port.unasked).deliverPort n st := by
  unfold State.deliverRequest
  rw [pageKind_port hn]
  dsimp only
  rw [hsome]
  rfl

end Deliver

theorem State.port_unasked (s : State) (n : Nat) : (s.modPort n Port.unasked).port n = (s.port n).unasked :=
  (State.port_modPort _ _ _ _).trans (if_pos rfl)

section DeliverPort

variable {s : State} {n : Nat} (hgroup : (s.port n).group = none)
include hgroup

theorem State.deliverPort_armed (hpower : (s.port n).power = .on) (hstate : (s.port n).state = .parked)
    (hfree : s.mustStay = false) (htrip : s.tripHeld n = false) : s.deliverPort n .armed = s.beginStaging n := by
  unfold State.deliverPort
  dsimp only
  rw [hgroup, hpower, hstate]
  unfold State.deliverParked
  dsimp only
  rw [hfree, htrip]
  rfl

theorem State.deliverPort_parked_of_off (hpower : (s.port n).power = .off) (hstate : (s.port n).state = .off)
    (hrunning : s.life.bindoff ≠ .running) (hdone : s.life.bindoff ≠ .done) :
    s.deliverPort n .parked = s.modPort n (fun p => { p with power := .up }) := by
  unfold State.deliverPort
  dsimp only
  rw [hgroup, hpower, hstate]
  show (if UState.parked = .parked ∧ s.life.bindoff ≠ .running ∧ s.life.bindoff ≠ .done then _ else _) = _
  exact if_pos ⟨rfl, hrunning, hdone⟩

theorem State.deliverPort_run (hpower : (s.port n).power = .on)
    (hstate : (s.port n).state = .armed ∨ (s.port n).state = .run ∨ (s.port n).state = .paused) :
    s.deliverPort n .run = s.latch (.port n) .start 0 := by
  unfold State.deliverPort
  dsimp only
  rw [hgroup, hpower]
  rcases hstate with h | h | h <;> rw [h] <;> rfl

end DeliverPort

/-! ### A port begins staging (R84, R86) -/

theorem State.rd_mapSet {page off m : Nat} (hoff : off + 4 * (m / 32) < 0x400) (s : State) (v : Bool) {q r : Nat}
    (hpage : q ≠ page) (hr : r < 0x400) : (s.mapSet page off m v).rd q r = s.rd q r :=
  (State.rd_wr _ _ _ _ _ _ hoff hr).trans (if_neg fun h => hpage h.1)

theorem State.rd_clearAdmission {s : State} {n : Nat} (hn : n < 144) : (s.clearAdmission n).rd (Page.port n) 0x114 = 0 := by
  have hword : n / 32 ≤ 4 := by omega
  have hstream : Page.port n ≠ Page.stream := by unfold Page.port Page.stream; omega
  have hcache : Page.port n ≠ Page.cache := by unfold Page.port Page.cache; omega
  unfold State.clearAdmission
  rw [State.rd_mapSet (by omega) _ _ hcache (by decide), State.rd_mapSet (by omega) _ _ hstream (by decide)]
  exact State.rd_wr_same s (Page.port n) 0x114 0

theorem State.endDelaySwatch_of_none {s : State} (h0 : s.cal.adc0 = none) (h1 : s.cal.adc1 = none) (n : Nat) :
    s.endDelaySwatch n = s := by
  unfold State.endDelaySwatch
  rw [h0, h1]
  rfl

/-- A port that has just been armed, in READY. -/
def Port.staging (cycle : Nat) (p : Port) : Port :=
  { p with
    state := .ready, requested := .armed, deliver := none, ms := 0, armedAt := cycle
    play := { Playhead.idle with start := p.seqStart } }

theorem State.beginStaging_eq (s : State) (n : Nat) :
    s.beginStaging n = ((s.clearAdmission n).endDelaySwatch n).modPort n (Port.staging s.cycle) := rfl

theorem State.clearAdmission_port (s : State) (n m : Nat) : (s.clearAdmission n).port m = s.port m :=
  (State.clearAdmission_agree s n).port_eq rfl m

/-- What leads to a port's staging leaves the port where it stands, with its admission cleared. -/
theorem State.stands_beforeStaging {s : State} {n : Nat} (hn : n < 144) (hstate : (s.port n).state = .parked) :
    (((s.clearAdmission n).endDelaySwatch n).port n).seqStart = (s.port n).seqStart ∧
      ((s.clearAdmission n).endDelaySwatch n).rd (Page.port n) 0x114 = 0 := by
  have hstands := (State.Stands.refl n (s.clearAdmission n) [0x114]).endDelaySwatch
    (by rw [State.clearAdmission_port, hstate]; decide) n
  refine ⟨hstands.seqStart_eq.trans ?_, (hstands.regs 0x114 (by decide)).trans (State.rd_clearAdmission hn)⟩
  rw [State.clearAdmission_port]

theorem State.port_beginStaging {s : State} {n : Nat} (hn : n < 144) (hstate : (s.port n).state = .parked) :
    ((s.beginStaging n).port n).state = .ready ∧ ((s.beginStaging n).port n).requested = .armed ∧
      ((s.beginStaging n).port n).deliver = none ∧ ((s.beginStaging n).port n).ms = 0 ∧
      ((s.beginStaging n).port n).play = { Playhead.idle with start := (s.port n).seqStart } ∧
      (s.beginStaging n).reg (portReg n 0x114) = 0 := by
  obtain ⟨hstart, hreg⟩ := State.stands_beforeStaging hn hstate
  rw [State.beginStaging_eq, State.port_modPort, if_pos rfl]
  refine ⟨rfl, rfl, rfl, rfl, ?_, hreg⟩
  unfold Port.staging
  rw [hstart]

/-- Where no swatch runs, staging changes its port and registers only. -/
theorem State.beginStaging_only {s : State} (h0 : s.cal.adc0 = none) (h1 : s.cal.adc1 = none) (n : Nat) :
    s.portsBut (s.beginStaging n) [n] ∧ Agree 24 s (s.beginStaging n) := by
  have hcal := (State.clearAdmission_agree s n).cal rfl
  have hnone : (s.clearAdmission n).endDelaySwatch n = s.clearAdmission n :=
    State.endDelaySwatch_of_none (by rw [hcal, h0]) (by rw [hcal, h1]) n
  rw [State.beginStaging_eq, hnone]
  refine ⟨fun m hm => ?_, ?_⟩
  · rw [State.port_modPort, if_neg (by simpa using hm), State.clearAdmission_port]
  · exact ((Agree.refl 24 s).step (State.clearAdmission_agree s n) rfl).step (State.modPort_agree _ n _) rfl

/-! ### The deliveries -/

theorem requestDelivery_arms {s : State} {n : Nat} (hn : n < 144) (hcommit : (s.port n).withCommit = false)
    (hgroup : (s.port n).group = none) (hdeliver : (s.port n).deliver = some .armed) (hstate : (s.port n).state = .parked)
    (hpower : (s.port n).power = .on) (hfree : s.mustStay = false) (htrip : s.tripHeld n = false)
    (hquiet : s.quieting = false) :
    Yields (.requestDelivery (Page.port n)) s (fun t =>
      (t.port n).state = .ready ∧ (t.port n).requested = .armed ∧ (t.port n).deliver = none ∧ (t.port n).ms = 0 ∧
      (t.port n).play = { Playhead.idle with start := (s.port n).seqStart } ∧ t.reg (portReg n 0x114) = 0 ∧
      (s.cal.adc0 = none → s.cal.adc1 = none → s.portsBut t [n] ∧ s.changesOnly t [.regs, .ports]) ∧
      s.changesOnly t [.free, .regs, .ports, .spares, .i3cA, .i3cB, .ledger, .cal]) := by
  have hport := s.port_unasked n
  have hstage := State.deliverPort_armed (s := s.modPort n Port.unasked) (n := n) (by rw [hport]; exact hgroup)
    (by rw [hport]; exact hpower) (by rw [hport]; exact hstate) hfree htrip
  refine ⟨_, (execRequestDelivery_port hn hcommit (fun _ => hquiet)).trans (congrArg Host.Outcome.next
    ((State.deliverRequest_of_some hn hdeliver).trans hstage)), ?_⟩
  obtain ⟨hready, hrequested, hnone, hms, hplay, hreg⟩ :=
    State.port_beginStaging (s := s.modPort n Port.unasked) hn (by rw [hport]; exact hstate)
  refine ⟨hready, hrequested, hnone, hms, ?_, hreg, fun h0 h1 => ?_, ?_⟩
  · rw [hplay, hport]
    rfl
  · obtain ⟨hothers, hkept⟩ := State.beginStaging_only (s := s.modPort n Port.unasked) h0 h1 n
    refine ⟨fun m hm => (hothers m hm).trans ?_, ?_⟩
    · rw [State.port_modPort, if_neg (by simpa using hm)]
    · exact (((Agree.refl 24 s).step (State.modPort_agree s n _) rfl).step hkept rfl).changesOnly_of_within
  · exact ((Agree.refl 5341276 s).step (State.modPort_agree s n _) rfl).step (State.beginStaging_agree _ n) rfl
      |>.changesOnly_of_within

theorem requestDelivery_powersUp {s : State} {n : Nat} (hn : n < 144) (hcommit : (s.port n).withCommit = false)
    (hgroup : (s.port n).group = none) (hdeliver : (s.port n).deliver = some .parked) (hstate : (s.port n).state = .off)
    (hpower : (s.port n).power = .off) (hrunning : s.life.bindoff ≠ .running) (hdone : s.life.bindoff ≠ .done) :
    Yields (.requestDelivery (Page.port n)) s (fun t => t.port n = { s.port n with deliver := none, power := .up } ∧
      s.portsBut t [n] ∧ s.changesOnly t [.ports]) := by
  have hport := s.port_unasked n
  have hup := State.deliverPort_parked_of_off (s := s.modPort n Port.unasked) (n := n) (by rw [hport]; exact hgroup)
    (by rw [hport]; exact hpower) (by rw [hport]; exact hstate) hrunning hdone
  refine ⟨_, (execRequestDelivery_port hn hcommit (fun h => ?_)).trans (congrArg Host.Outcome.next
    ((State.deliverRequest_of_some hn hdeliver).trans hup)), ?_, fun m hm => ?_, ?_⟩
  · rw [hdeliver] at h
    cases h
  · rw [State.port_modPort, if_pos rfl, hport]
    rfl
  · have hne : m ≠ n := by simpa using hm
    rw [State.port_modPort, if_neg hne, State.port_modPort, if_neg hne]
  · exact ((Agree.refl 16 s).step (State.modPort_agree s n _) rfl).step (State.modPort_agree _ n _) rfl
      |>.changesOnly_of_within

theorem State.latch_port (s : State) (n : Nat) (what : Latched) (hop : Nat) : s.latch (.port n) what hop = s.modPort n
    (fun p => p.on fun ph => ph.latch { due := (s.port n).slot + Config.ka (Config.portType n), what := what, hop := hop }) := rfl

theorem requestDelivery_starts {s : State} {n : Nat} (hn : n < 144) (hcommit : (s.port n).withCommit = false)
    (hgroup : (s.port n).group = none) (hdeliver : (s.port n).deliver = some .run)
    (hstate : (s.port n).state = .armed ∨ (s.port n).state = .run ∨ (s.port n).state = .paused)
    (hpower : (s.port n).power = .on) :
    Yields (.requestDelivery (Page.port n)) s (fun t =>
      (t.port n).state = (s.port n).state ∧ (t.port n).deliver = none ∧
      (∃ l, l.what = .start ∧ l.due = (s.port n).slot + Config.ka (Config.portType n) ∧ l ∈ (t.port n).play.latches) ∧
      s.portsBut t [n] ∧ s.changesOnly t [.ports]) := by
  have hport := s.port_unasked n
  have hstart := State.deliverPort_run (s := s.modPort n Port.unasked) (n := n) (by rw [hport]; exact hgroup)
    (by rw [hport]; exact hpower) (by rw [hport]; exact hstate)
  rw [State.latch_port, hport] at hstart
  refine ⟨_, (execRequestDelivery_port hn hcommit (fun h => ?_)).trans (congrArg Host.Outcome.next
    ((State.deliverRequest_of_some hn hdeliver).trans hstart)), ?_, ?_,
    ⟨{ due := (s.port n).slot + Config.ka (Config.portType n), what := .start, hop := 0 }, rfl, rfl, ?_⟩, fun m hm => ?_, ?_⟩
  · rw [hdeliver] at h
    cases h
  · rw [State.port_modPort, if_pos rfl, hport]
    rfl
  · rw [State.port_modPort, if_pos rfl, hport]
    rfl
  · rw [State.port_modPort, if_pos rfl]
    exact List.mem_append_right _ (List.mem_singleton.mpr rfl)
  · have hne : m ≠ n := by simpa using hm
    rw [State.port_modPort, if_neg hne, State.port_modPort, if_neg hne]
  · exact ((Agree.refl 16 s).step (State.modPort_agree s n _) rfl).step (State.modPort_agree _ n _) rfl
      |>.changesOnly_of_within

/-- Settles O19: a request replaces one port's or one group's shown state, and its delivery is the branch it names. -/
theorem requestsAreShownAndDelivered : Obligations.RequestsAreShownAndDelivered := by
  refine ⟨fun c st n s hn hc => ⟨fun hfitted hsafe hfree hother => ?_, fun hsafe => ?_, fun g hg hsafe hfree hother => ?_⟩,
    fun n s hn hcommit hgroup => ⟨fun hnone => ?_, fun hdeliver hstate hpower hfree htrip hquiet => ?_,
      fun hdeliver hstate hpower hrunning hdone => ?_, fun hdeliver hstate hpower => ?_⟩⟩
  · exact ⟨_, (exec_request hc _ s).trans (congrArg _ (State.request_port hn hfitted hsafe hfree hother)),
      s.setPort_only n _⟩
  · exact ⟨_, (exec_request hc _ s).trans (congrArg _ (State.request_safePort hn hsafe)), s.setPort_only n _⟩
  · exact ⟨_, (exec_request hc _ s).trans (congrArg _ (State.request_group hg hsafe hfree hother)), s.setGroup_only g _⟩
  · have hquiet : (s.port n).deliver = some .armed → s.quieting = false := fun h => by rw [hnone] at h; cases h
    exact (execRequestDelivery_port hn hcommit hquiet).trans
      (congrArg Host.Outcome.next (State.deliverRequest_of_none hn hnone))
  · exact requestDelivery_arms hn hcommit hgroup hdeliver hstate hpower hfree htrip hquiet
  · exact requestDelivery_powersUp hn hcommit hgroup hdeliver hstate hpower hrunning hdone
  · exact requestDelivery_starts hn hcommit hgroup hdeliver hstate hpower

end Machine
end Sys2Proof
end

section
/-! PROOFS. Pinning: an operation begun, and its completion by its cases (the first clauses of O40). -/

namespace Sys2Proof
namespace Machine

/-! ### PIN and UNPIN (R157, R375) -/

theorem exec_pin {c : Instr} {d : Nat} {un : Bool} (hc : (c = .pin d ∧ un = false) ∨ (c = .unpin d ∧ un = true)) (s : State) :
    exec c s = .next (s.pinStart d un) := by
  rcases hc with ⟨rfl, rfl⟩ | ⟨rfl, rfl⟩ <;> rfl

theorem State.pinStart_of_go {s : State} (hgo : bit (s.rd Page.cache 0x48) 31 = true) (d : Nat) (un : Bool) :
    s.pinStart d un = s := by
  unfold State.pinStart
  exact if_pos hgo

theorem State.pinStart_of_idle {s : State} (hidle : bit (s.rd Page.cache 0x48) 31 = false) (d : Nat) (un : Bool) :
    s.pinStart d un = { s.wr Page.cache 0x48 (word (d % 2 ^ 18 + b2n un * 2 ^ 24 + 2 ^ 31)) with
      security := { s.security with pinHeld := s.quieting } } := by
  unfold State.pinStart
  rw [if_neg (Bool.eq_false_iff.mp hidle)]
  rfl

theorem pin_sets {c : Instr} {d : Nat} {un : Bool} {s : State}
    (hc : (c = .pin d ∧ un = false) ∨ (c = .unpin d ∧ un = true)) (hidle : bit (s.rd Page.cache 0x48) 31 = false) :
    Yields c s (fun t =>
      t.rd Page.cache 0x48 = word (d % 2 ^ 18 + b2n un * 2 ^ 24 + 2 ^ 31) ∧
      t.security = { s.security with pinHeld := s.quieting } ∧ s.regsBut t [regAddr Page.cache 0x48] ∧
      s.changesOnly t [.regs, .security]) := by
  have hagree := State.pinStart_agree s d un
  have hstart := State.pinStart_of_idle hidle d un
  refine ⟨_, exec_pin hc s, ?_, ?_, fun a ha => ?_, hagree.changesOnly_of_within⟩
  · rw [hstart]
    exact State.rd_wr_same s Page.cache 0x48 _
  · rw [hstart]
  · rw [hstart]
    exact (State.reg_setReg s _ _ _).trans (if_neg (by simpa using ha))

/-! ### The result of an operation -/

theorem bit_setBits_go (w : Word) : bit (setBits w 31 1 0) 31 = false := by
  have hw := w.isLt
  have hgo : (w.toNat - w.toNat / 2 ^ 31 % 2 ^ 1 * 2 ^ 31 + 0 % 2 ^ 1 * 2 ^ 31) % 2 ^ 32 / 2 ^ 31 % 2 = 0 := by omega
  unfold bit setBits word
  rw [BitVec.toNat_ofNat, hgo]
  rfl

theorem bits_setBits_go (w : Word) : bits (setBits w 31 1 0) 0 18 = bits w 0 18 := by
  have hw := w.isLt
  unfold bits setBits word
  rw [BitVec.toNat_ofNat]
  omega

section PinResult

variable (s : State) (result : Nat)

theorem State.rd_pinResult (o : Nat) (ho : o < 0x400) (hflags : o ≠ 0x14) : (s.pinResult result).rd Page.cache o =
    if o = 0x4c then word result else if o = 0x48 then setBits (s.rd Page.cache 0x48) 31 1 0 else s.rd Page.cache o := by
  unfold State.pinResult
  rw [State.rd_flag _ ho, if_neg (fun h => hflags h.2), State.rd_wr _ _ _ _ _ _ (by decide) ho,
    State.rd_wr _ _ _ _ _ _ (by decide) ho]
  simp only [true_and]

theorem State.pinResult_status : (s.pinResult result).rd Page.cache 0x4c = word result :=
  s.rd_pinResult result 0x4c (by decide) (by decide)

theorem State.pinResult_ctrl : (s.pinResult result).rd Page.cache 0x48 = setBits (s.rd Page.cache 0x48) 31 1 0 :=
  s.rd_pinResult result 0x48 (by decide) (by decide)

theorem State.pinResult_done : bit ((s.pinResult result).rd Page.cache 0x14) 0 = true := State.bit_rd_flag _ _ (by decide)

theorem State.pinResult_copies : (s.pinResult result).copies = s.copies := (s.pinResult_agree result).copies rfl

end PinResult

/-! ### Reads of the waveform memory counted (R141) -/

theorem State.rd_eccUncorr_other (s : State) (a : Nat) {q r : Nat} (hr : r < 0x400) (hq : ∀ k < 2, q ≠ Page.memctl k) :
    (s.eccUncorr a).rd q r = s.rd q r := by
  have hread := s.rd_readSeverity_other a .uncorrectable hr (fun h => absurd h (hq _ (s.stackOf_lt a)))
  unfold State.readSeverity at hread
  rwa [if_pos (.inl rfl)] at hread

theorem State.rd_eccCorr_other (s : State) (a : Nat) {q r : Nat} (hr : r < 0x400) (hq : ∀ k < 2, q ≠ Page.memctl k) :
    (s.eccCorr a).rd q r = s.rd q r := by
  have hne : q ≠ Page.memctl (s.stackOf a) := hq _ (s.stackOf_lt a)
  unfold State.eccCorr
  rw [State.rd_flag _ hr, if_neg (fun h => hne h.1), State.rd_count _ (by decide) hr, if_neg (fun h => hne h.1)]

/-- Counting reads changes registers of the stacks' pages only. -/
theorem State.rd_countReads (s : State) (reads : ReadErrors) (l : List Nat) {q r : Nat} (hr : r < 0x400)
    (hq : ∀ k < 2, q ≠ Page.memctl k) : (s.countReads reads l).rd q r = s.rd q r := by
  induction l generalizing s with
  | nil => rfl
  | cons a l ih =>
    refine (ih _).trans ?_
    dsimp only
    split
    · exact State.rd_eccUncorr_other _ _ hr hq
    · split
      · rw [State.rd_eccUncorr_other _ _ hr hq, State.rd_eccUncorr_other _ _ hr hq]
      · split
        · exact State.rd_eccUncorr_other _ _ hr hq
        · split
          · exact State.rd_eccCorr_other _ _ hr hq
          · rfl

theorem Page.cache_ne_memctl : ∀ k < 2, Page.cache ≠ Page.memctl k := by decide

/-! ### PIN_COMPLETE (R144, R157) -/

/-- The pinned copy of a descriptor. -/
def State.pinnedOf (s : State) (d : Nat) : Option Copy := s.copies.find? (fun c => c.pinned && c.desc == d)

/-- A new pinned copy of a descriptor, with what its granules read. -/
def State.newPinned (s : State) (reads : ReadErrors) (d : Nat) : Copy :=
  { desc := d, addr := descAddr (s.desc d), len := descLen (s.desc d), whole := true
    data := (dataAddrs (ptypeOf (s.desc d)) (s.desc d) 0 (descLen (s.desc d))).map (s.copied reads)
    marks := ((markAddrs (ptypeOf (s.desc d)) (s.desc d)).map (s.copied reads)).map (fun g => g.getD 0)
    users := [], pinned := true, touched := false }

/-- The granules of a descriptor's segment, its marker granules apart. -/
def State.segmentReads (s : State) (d : Nat) : List Nat :=
  dataAddrs (ptypeOf (s.desc d)) (s.desc d) 0 (descLen (s.desc d))

/-- The marker granules of a descriptor's segment. -/
def State.segmentMarks (s : State) (d : Nat) : List Nat := markAddrs (ptypeOf (s.desc d)) (s.desc d)

/-- A state in which a new pinned copy was placed and its reads were counted. -/
def State.withPinned (s : State) (reads : ReadErrors) (d : Nat) : State :=
  { s with copies := s.copies ++ [s.newPinned reads d] }.countReads reads (s.segmentMarks d ++ s.segmentReads d)

/-- A granule of a new pinned copy is poisoned. -/
def State.poisons (s : State) (reads : ReadErrors) (d : Nat) : Bool :=
  ((s.segmentReads d).map (s.copied reads) ++ (s.segmentMarks d).map (s.copied reads)).any Option.isNone

section PinComplete

variable {s : State} {reads : ReadErrors} {d : Nat} (hgo : bit (s.rd Page.cache 0x48) 31 = true)
  (hheld : s.security.pinHeld = false) (hd : bits (s.rd Page.cache 0x48) 0 18 = d)
include hgo hheld hd

theorem State.pinComplete_of_used {c : Copy} (hold : s.pinnedOf d = some c) (hused : c.users ≠ [] ∨ s.stagesWith c = true) :
    s.pinComplete reads = s.pinResult 1 := by
  have hinUse : (!c.users.isEmpty || s.stagesWith c) = true := by
    rcases hused with h | h
    · rw [List.isEmpty_eq_false_iff.mpr h]
      rfl
    · rw [h, Bool.or_true]
  unfold State.pinnedOf at hold
  unfold State.pinComplete
  dsimp only
  rw [if_neg (by simp [hgo, hheld]), hd, hold]
  exact if_pos hinUse

theorem State.pinComplete_of_absent (hold : s.pinnedOf d = none) (hun : bit (s.rd Page.cache 0x48) 24 = true) :
    s.pinComplete reads = s.pinResult 3 := by
  unfold State.pinnedOf at hold
  unfold State.pinComplete
  dsimp only
  rw [if_neg (by simp [hgo, hheld]), hd, hold]
  exact if_pos hun

theorem State.pinComplete_of_unpinned {c : Copy} (hold : s.pinnedOf d = some c) (hun : bit (s.rd Page.cache 0x48) 24 = true)
    (husers : c.users = []) (hstages : s.stagesWith c = false) :
    s.pinComplete reads = { s with copies := s.copies.filter (· != c) }.pinResult 0 := by
  unfold State.pinnedOf at hold
  unfold State.pinComplete
  dsimp only
  rw [if_neg (by simp [hgo, hheld]), hd, hold]
  dsimp only
  rw [if_neg (by simp [husers, hstages])]
  exact if_pos hun

theorem State.pinComplete_of_full (hold : s.pinnedOf d = none) (hpin : bit (s.rd Page.cache 0x48) 24 = false)
    (hfull : cacheBlocks < s.cacheUsed + blocksOf (descLen (s.desc d)) + blocksOf (descMarks (ptypeOf (s.desc d)) (s.desc d))) :
    s.pinComplete reads = s.pinResult 2 := by
  unfold State.pinnedOf at hold
  unfold State.pinComplete
  dsimp only
  rw [if_neg (by simp [hgo, hheld]), hd, hold]
  dsimp only
  rw [if_neg (by simp), if_neg (by simp [hpin])]
  exact if_pos (by rw [← Nat.add_assoc]; exact hfull)

theorem State.pinComplete_of_room (hold : s.pinnedOf d = none) (hpin : bit (s.rd Page.cache 0x48) 24 = false)
    (hroom : s.cacheUsed + blocksOf (descLen (s.desc d)) + blocksOf (descMarks (ptypeOf (s.desc d)) (s.desc d)) ≤ cacheBlocks) :
    s.pinComplete reads = (s.withPinned reads d).pinResult (if s.poisons reads d then 4 else 0) := by
  unfold State.pinnedOf at hold
  unfold State.pinComplete
  dsimp only
  rw [if_neg (by simp [hgo, hheld]), hd, hold]
  dsimp only
  rw [if_neg (by simp), if_neg (by simp [hpin])]
  refine (if_neg ?_).trans rfl
  rw [← Nat.add_assoc]
  exact Nat.not_lt.mpr hroom

omit hd in
/-- However it ends, an operation loads its result on the control word that it found. -/
theorem State.pinComplete_ends :
    ∃ t result, s.pinComplete reads = State.pinResult t result ∧ t.rd Page.cache 0x48 = s.rd Page.cache 0x48 := by
  unfold State.pinComplete
  extract_lets ctrl d' old inUse w t rest addrs marks blocks data marked c poisoned
  rw [if_neg (by simp [show bit ctrl 31 = true from hgo, hheld])]
  split
  · exact ⟨s, 1, rfl, rfl⟩
  · split
    · clear_value old
      cases old with
      | none => exact ⟨s, 3, rfl, rfl⟩
      | some c => exact ⟨_, 0, rfl, rfl⟩
    · split
      · exact ⟨s, 2, rfl, rfl⟩
      · exact ⟨_, _, rfl, State.rd_countReads _ _ _ (by decide) Page.cache_ne_memctl⟩

end PinComplete

/-- Where every granule reads well, a copy takes the memory's content and nothing in it is poisoned. -/
theorem State.copied_of_readable {s : State} {reads : ReadErrors} {a : Nat} (hbad : reads.bad = [])
    (hreadable : s.unreadable (s.memAddr a) = false) : s.copied reads a = some (s.readGranule (s.memAddr a)) := by
  unfold State.copied
  dsimp only
  rw [hbad, hreadable]
  rfl

theorem State.not_poisons {s : State} {reads : ReadErrors} {d : Nat} (hbad : reads.bad = [])
    (hreadable : ∀ a ∈ s.segmentReads d ++ s.segmentMarks d, s.unreadable (s.memAddr a) = false) :
    s.poisons reads d = false := by
  unfold State.poisons
  rw [← List.map_append, List.any_eq_false]
  intro g hg
  obtain ⟨a, ha, rfl⟩ := List.mem_map.mp hg
  rw [State.copied_of_readable hbad (hreadable a ha)]
  exact Bool.false_ne_true

theorem State.newPinned_data {s : State} {reads : ReadErrors} {d : Nat} (hbad : reads.bad = [])
    (hreadable : ∀ a ∈ s.segmentReads d ++ s.segmentMarks d, s.unreadable (s.memAddr a) = false) :
    (s.newPinned reads d).data = (s.segmentReads d).map (fun a => some (s.readGranule (s.memAddr a))) :=
  List.map_congr_left fun a ha => State.copied_of_readable hbad (hreadable a (List.mem_append_left _ ha))

theorem length_dataAddrs (t : PType) (w : BitVec 256) (i j : Nat) : (dataAddrs t w i j).length = j - i := by
  unfold dataAddrs
  rw [List.length_map, List.length_range]

theorem State.newPinned_length (s : State) (reads : ReadErrors) (d : Nat) :
    (s.newPinned reads d).data.length = descLen (s.desc d) :=
  (List.length_map _).trans (length_dataAddrs _ _ _ _)

theorem State.copies_withPinned (s : State) (reads : ReadErrors) (d : Nat) :
    (s.withPinned reads d).copies = s.copies ++ [s.newPinned reads d] :=
  (State.countReads_agree _ reads _).copies rfl

/-! ### The tags that staging and pin reads hold (R168) -/

theorem State.rd_lowReads (s : State) {q r : Nat} (hr : r < 0x400) (hq : q ≠ Page.stream) : s.lowReads.rd q r = s.rd q r :=
  (State.rd_wr s Page.stream 0x44 q r _ (by decide) hr).trans (if_neg fun h => hq h.1)

theorem Page.port_ne_stream (n : Nat) : Page.port n ≠ Page.stream := by
  unfold Page.port Page.stream
  omega

theorem State.reach_lowReads (s : State) (fuel : Nat) (todo seen : List Nat) :
    s.lowReads.reach fuel todo seen = s.reach fuel todo seen := by
  induction fuel generalizing todo seen with
  | zero => rfl
  | succ fuel ih =>
    cases todo with
    | nil => rfl
    | cons i todo =>
      unfold State.reach
      simp only [ih]
      rfl

theorem State.stagedDescs_lowReads (s : State) (n start : Nat) : s.lowReads.stagedDescs n start = s.stagedDescs n start := by
  have hpolicy : s.lowReads.reg (portReg n 0x58) = s.reg (portReg n 0x58) := s.rd_lowReads (by decide) (Page.port_ne_stream n)
  unfold State.stagedDescs
  dsimp only
  rw [hpolicy, State.reach_lowReads]
  rfl

theorem State.stagesWith_lowReads (s : State) (c : Copy) : s.lowReads.stagesWith c = s.stagesWith c := by
  unfold State.stagesWith
  simp only [State.stagedDescs_lowReads]
  rfl

theorem exec_pinComplete_of_go {s : State} (hgo : bit (s.rd Page.cache 0x48) 31 = true) (hheld : s.security.pinHeld = false)
    (reads : ReadErrors) : exec (.pinComplete reads) s = .next (s.lowReads.pinComplete reads) :=
  congrArg Host.Outcome.next (if_pos ⟨hgo, hheld⟩)

theorem exec_pinComplete_of_idle {s : State} (hidle : bit (s.rd Page.cache 0x48) 31 = false ∨ s.security.pinHeld = true)
    (reads : ReadErrors) : exec (.pinComplete reads) s = .next s := by
  refine congrArg Host.Outcome.next (if_neg fun h => ?_)
  obtain ⟨hgo, hheld⟩ := h
  rcases hidle with hidle | hidle
  · rw [hgo] at hidle
    cases hidle
  · rw [hheld] at hidle
    cases hidle

/-! #### What a completion leaves -/

theorem State.lowReads_ctrl (s : State) : s.lowReads.rd Page.cache 0x48 = s.rd Page.cache 0x48 :=
  s.rd_lowReads (by decide) (by decide)

section Completed

variable {s : State} (reads : ReadErrors) {d : Nat} (hgo : bit (s.rd Page.cache 0x48) 31 = true)
  (hheld : s.security.pinHeld = false)
include hgo hheld

theorem pinCompleted_done :
    bit ((s.lowReads.pinComplete reads).rd Page.cache 0x48) 31 = false ∧
      bits ((s.lowReads.pinComplete reads).rd Page.cache 0x48) 0 18 = bits (s.rd Page.cache 0x48) 0 18 ∧
      bit ((s.lowReads.pinComplete reads).rd Page.cache 0x14) 0 = true := by
  obtain ⟨t, result, hends, hfound⟩ := State.pinComplete_ends (s := s.lowReads) (reads := reads)
    (by rw [State.lowReads_ctrl, hgo]) hheld
  rw [hends, State.pinResult_ctrl, hfound, State.lowReads_ctrl]
  exact ⟨bit_setBits_go _, bits_setBits_go _, State.pinResult_done _ _⟩

variable (hd : bits (s.rd Page.cache 0x48) 0 18 = d)
include hd

theorem pinCompleted_used {c : Copy} (hold : s.pinnedOf d = some c) (hused : c.users ≠ [] ∨ s.stagesWith c = true) :
    (s.lowReads.pinComplete reads).rd Page.cache 0x4c = 1 ∧ (s.lowReads.pinComplete reads).copies = s.copies := by
  rw [State.pinComplete_of_used (s := s.lowReads) (by rwa [State.lowReads_ctrl]) hheld (by rwa [State.lowReads_ctrl]) hold
    (by rwa [State.stagesWith_lowReads])]
  exact ⟨State.pinResult_status _ _, State.pinResult_copies _ _⟩

theorem pinCompleted_absent (hun : bit (s.rd Page.cache 0x48) 24 = true) (hold : s.pinnedOf d = none) :
    (s.lowReads.pinComplete reads).rd Page.cache 0x4c = 3 ∧ (s.lowReads.pinComplete reads).copies = s.copies := by
  rw [State.pinComplete_of_absent (s := s.lowReads) (by rwa [State.lowReads_ctrl]) hheld (by rwa [State.lowReads_ctrl]) hold
    (by rwa [State.lowReads_ctrl])]
  exact ⟨State.pinResult_status _ _, State.pinResult_copies _ _⟩

theorem pinCompleted_unpinned {c : Copy} (hun : bit (s.rd Page.cache 0x48) 24 = true) (hold : s.pinnedOf d = some c)
    (husers : c.users = []) (hstages : s.stagesWith c = false) :
    (s.lowReads.pinComplete reads).rd Page.cache 0x4c = 0 ∧
      (s.lowReads.pinComplete reads).copies = s.copies.filter (fun x => x ≠ c) := by
  rw [State.pinComplete_of_unpinned (s := s.lowReads) (by rwa [State.lowReads_ctrl]) hheld (by rwa [State.lowReads_ctrl]) hold
    (by rwa [State.lowReads_ctrl]) husers (by rwa [State.stagesWith_lowReads])]
  refine ⟨State.pinResult_status _ _, (State.pinResult_copies _ _).trans ?_⟩
  exact List.filter_congr fun x _ => by simp [bne, beq_eq_decide]

theorem pinCompleted_full (hpin : bit (s.rd Page.cache 0x48) 24 = false) (hold : s.pinnedOf d = none)
    (hfull : cacheBlocks < s.cacheUsed + blocksOf (descLen (s.desc d)) + blocksOf (descMarks (ptypeOf (s.desc d)) (s.desc d))) :
    (s.lowReads.pinComplete reads).rd Page.cache 0x4c = 2 ∧ (s.lowReads.pinComplete reads).copies = s.copies := by
  rw [State.pinComplete_of_full (s := s.lowReads) (by rwa [State.lowReads_ctrl]) hheld (by rwa [State.lowReads_ctrl]) hold
    (by rwa [State.lowReads_ctrl]) hfull]
  exact ⟨State.pinResult_status _ _, State.pinResult_copies _ _⟩

theorem pinCompleted_pins (hpin : bit (s.rd Page.cache 0x48) 24 = false) (hold : s.pinnedOf d = none)
    (hroom : s.cacheUsed + blocksOf (descLen (s.desc d)) + blocksOf (descMarks (ptypeOf (s.desc d)) (s.desc d)) ≤ cacheBlocks) :
    (s.lowReads.pinComplete reads).copies = s.copies ++ [s.lowReads.newPinned reads d] ∧ (reads.bad = [] →
      (∀ a ∈ s.segmentReads d ++ s.segmentMarks d, s.unreadable (s.memAddr a) = false) →
        (s.lowReads.pinComplete reads).rd Page.cache 0x4c = 0 ∧ (s.lowReads.newPinned reads d).data =
          (s.segmentReads d).map (fun a => some (s.readGranule (s.memAddr a)))) := by
  rw [State.pinComplete_of_room (s := s.lowReads) (by rwa [State.lowReads_ctrl]) hheld (by rwa [State.lowReads_ctrl]) hold
    (by rwa [State.lowReads_ctrl]) hroom]
  refine ⟨?_, fun hbad hreadable => ⟨?_, State.newPinned_data hbad hreadable⟩⟩
  · rw [State.pinResult_copies, State.copies_withPinned]
    rfl
  · rw [State.pinResult_status, State.not_poisons (s := s.lowReads) hbad hreadable]
    rfl

end Completed

theorem pinCompleted_only (reads : ReadErrors) (s : State) :
    s.changesOnly (s.lowReads.pinComplete reads) [.free, .regs, .copies, .i3cA, .i3cB] := by
  have hlow : Agree 100364 s s.lowReads := (Agree.refl _ s).step (State.lowReads_agree s) rfl
  exact (hlow.step (State.pinComplete_agree _ reads) rfl).changesOnly_of_within

end Machine
end Sys2Proof
end

section
/-! PROOFS. The end of staging: a unit armed or parked as a whole, and a port that needs nothing cached (O40). -/

namespace Sys2Proof
namespace Machine

/-! ### Staging and its two ends (R84, R154) -/

/-- One player staged and admitted, unless the staging has failed. -/
def Staging.stagePlayer (start : Nat) (reads : ReadErrors) (x : Staging) (n : Nat) : Staging :=
  if x.failed then x
  else
    let pulse := pulseUnit (Config.portType n) (x.s.port n).mode
    let ds := if pulse then [] else x.s.stagedDescs n start
    let y := if pulse then x else Staging.port x n ds reads
    if y.failed then y else { y with s := y.s.takeCommand n ds }

/-- The players of a unit staged in turn. -/
def State.stagePlayers (s : State) (u : SeqUnit) (reads : ReadErrors) : Staging :=
  (s.players u).foldl (Staging.stagePlayer (s.startEntry u) reads) { s := s, failed := false }

/-- The players of a unit that staging served, armed. -/
def State.armAll (s : State) (ns : List Nat) (u : SeqUnit) (start : Nat) (reads : ReadErrors) : State :=
  (((ns.foldl (fun s n => s.armPort n start reads) s).modPlayhead u (fun ph => { ph with rows := rowsZero })).setUnitState
    u .armed).restartUnit u

theorem State.stagingComplete_of_ready {s : State} {u : SeqUnit} (h : s.unitState u = .ready) (reads : ReadErrors) :
    s.stagingComplete u reads = if (s.stagePlayers u reads).failed then (s.stagePlayers u reads).s.abandonStaging u
      else (s.stagePlayers u reads).s.armAll (s.players u) u (s.startEntry u) reads := by
  unfold State.stagingComplete
  exact if_neg (not_not.mpr h)

theorem State.stagePlayers_agree (s : State) (u : SeqUnit) (reads : ReadErrors) : Agree 100376 s (s.stagePlayers u reads).s := by
  unfold State.stagePlayers
  refine Agree.foldls (fun x n hx => ?_) (Agree.refl _ s)
  have hport (ds : List Nat) : Agree 100376 s (Staging.port x n ds reads).s := hx.step (Staging.port_agree x n ds reads) rfl
  unfold Staging.stagePlayer
  dsimp only
  split
  · exact hx
  · split
    · exact hx.step (State.takeCommand_agree _ _ _) rfl
    · split
      · exact hport _
      · exact (hport _).step (State.takeCommand_agree _ _ _) rfl

theorem Agree.players_eq {A : Nat} {s t : State} (h : Agree A s t) (hgroups : A.testBit 5 = false) (u : SeqUnit) :
    t.players u = s.players u := by
  cases u with
  | port n => rfl
  | group g => exact congrArg Group.members (h.group_eq g hgroups)

/-! ### The states of the players -/

/-- What gives one port a state and leaves those of the others gives it to every port of a list. -/
theorem State.state_foldl {f : State → Nat → State} {st : UState}
    (hf : ∀ s n m, ((f s n).port m).state = if m = n then st else (s.port m).state) (l : List Nat) {s : State} {m : Nat}
    (h : m ∈ l ∨ (s.port m).state = st) : ((l.foldl f s).port m).state = st := by
  induction l generalizing s with
  | nil => exact h.resolve_left List.not_mem_nil
  | cons n l ih =>
    refine ih ?_
    rw [hf]
    split
    · exact .inr rfl
    · next hne =>
      rcases h with hmem | hstate
      · exact .inl ((List.mem_cons.mp hmem).resolve_left hne)
      · exact .inr hstate

/-- What leaves every port's state leaves it over a list. -/
theorem State.state_foldl_same {f : State → Nat → State} (hf : ∀ s n m, ((f s n).port m).state = (s.port m).state)
    (l : List Nat) (s : State) (m : Nat) : ((l.foldl f s).port m).state = (s.port m).state := by
  induction l generalizing s with
  | nil => rfl
  | cons n l ih => exact (ih _).trans (hf s n m)

/-- A change of one port that leaves its state leaves every port's. -/
theorem State.state_modPort_same (s : State) (n m : Nat) {f : Port → Port} (hf : ∀ p, (f p).state = p.state) :
    ((s.modPort n f).port m).state = (s.port m).state := by
  rw [State.port_modPort]
  split
  · next h => rw [hf, h]
  · rfl

theorem State.state_leaveGroup (s : State) (n m : Nat) : ((s.leaveGroup n).port m).state = (s.port m).state := by
  unfold State.leaveGroup
  split
  · rfl
  · extract_lets lens s1
    have hs1 : (s1.port m).state = (s.port m).state := by
      unfold s1
      exact State.state_modPort_same s n m (f := fun p => { p with group := none }) (fun _ => rfl)
    split
    · exact hs1
    · exact hs1

theorem State.state_toParked (s : State) (n m : Nat) :
    ((s.toParked n .parked).port m).state = if m = n then .parked else (s.port m).state := by
  have hreleased : (((s.leaveGroup n).releaseData n).port m).state = (s.port m).state :=
    (State.state_modPort_same (s.leaveGroup n) n m (f := fun p => { p with demand := 0, shares := [], admitted := false })
      (fun _ => rfl)).trans (s.state_leaveGroup n m)
  unfold State.toParked
  dsimp only
  rw [State.port_modPort]
  split
  · rfl
  · exact hreleased

theorem State.state_settleRequest (s : State) (u : SeqUnit) (m : Nat) :
    ((s.settleRequest u).port m).state = (s.port m).state := by
  have hplayers : (((s.players u).foldl (fun s n => s.modPort n (fun p =>
      if p.deliver.isSome || !p.state.walks then p else { p with requested := p.state })) s).port m).state =
      (s.port m).state :=
    State.state_foldl_same (fun t n m => State.state_modPort_same t n m fun p => by split <;> rfl) _ s m
  unfold State.settleRequest
  split
  · rfl
  · cases u with
    | port n => exact hplayers
    | group g => exact hplayers

theorem State.state_setUnitState (s : State) (u : SeqUnit) (st : UState) {m : Nat} (hm : m ∈ s.players u) :
    ((s.setUnitState u st).port m).state = st := by
  have hplayers : (((s.players u).foldl (fun s n => s.modPort n (fun p => { p with state := st })) s).port m).state = st :=
    State.state_foldl (fun t n m => by rw [State.port_modPort]; split <;> rfl) _ (.inl hm)
  unfold State.setUnitState
  dsimp only
  rw [State.state_settleRequest]
  cases u with
  | port n => exact hplayers
  | group g => exact hplayers

theorem State.state_restartUnit (s : State) (u : SeqUnit) (m : Nat) : ((s.restartUnit u).port m).state = (s.port m).state := by
  unfold State.restartUnit
  split
  · split
    · exact State.state_modPort_same s _ m (fun _ => rfl)
    · rfl
  · split <;> rfl

theorem Agree.foldl_armPort (s : State) (ns : List Nat) (start : Nat) (reads : ReadErrors) :
    Agree 98332 s (ns.foldl (fun s n => s.armPort n start reads) s) :=
  Agree.foldl (fun _ _ h => h.step (State.armPort_agree _ _ _ _) rfl) (Agree.refl _ s)

theorem State.modPlayhead_players (s : State) (u : SeqUnit) {f : Playhead → Playhead} :
    (s.modPlayhead u f).players u = s.players u := by
  cases u with
  | port n => rfl
  | group g =>
    show ((s.modGroup g _).group g).members = (s.group g).members
    rw [State.group_modGroup, if_pos rfl]

theorem State.state_armAll {s : State} {u : SeqUnit} {start : Nat} {reads : ReadErrors} {m : Nat} (hm : m ∈ s.players u) :
    ((s.armAll (s.players u) u start reads).port m).state = .armed := by
  unfold State.armAll
  rw [State.state_restartUnit, State.state_setUnitState]
  rw [State.modPlayhead_players, (Agree.foldl_armPort s _ start reads).players_eq rfl]
  exact hm

/-- A unit in READY ends with all its players armed, or with all of them parked. -/
theorem State.stagingComplete_whole {s : State} {u : SeqUnit} (hready : s.unitState u = .ready) (reads : ReadErrors) :
    (∀ n ∈ s.players u, ((s.stagingComplete u reads).port n).state = .armed) ∨
      (∀ n ∈ s.players u, ((s.stagingComplete u reads).port n).state = .parked) := by
  have hplayers : (s.stagePlayers u reads).s.players u = s.players u := (s.stagePlayers_agree u reads).players_eq rfl u
  rw [State.stagingComplete_of_ready hready, ← hplayers]
  split
  · refine .inr fun n hn => ?_
    unfold State.abandonStaging
    exact State.state_foldl (fun t n m => t.state_toParked n m) _ (.inl hn)
  · exact .inl fun n hn => State.state_armAll hn

theorem exec_stagingComplete_of_ready {u : SeqUnit} {s : State} (hready : s.unitState u = .ready)
    (hfirst : s.stagingWaits u = false) (reads : ReadErrors) :
    exec (.stagingComplete u reads) s = .next (s.lowReads.stagingComplete u reads) :=
  congrArg Host.Outcome.next (if_pos ⟨hready, hfirst⟩)

theorem exec_stagingComplete_of_idle {u : SeqUnit} {s : State} (h : s.unitState u ≠ .ready ∨ s.stagingWaits u = true)
    (reads : ReadErrors) : exec (.stagingComplete u reads) s = .next s := by
  refine congrArg Host.Outcome.next (if_neg fun hruns => ?_)
  obtain ⟨hready, hfirst⟩ := hruns
  rcases h with h | h
  · exact h hready
  · rw [hfirst] at h
    cases h

theorem State.unitState_lowReads (s : State) (u : SeqUnit) : s.lowReads.unitState u = s.unitState u := by
  cases u <;> rfl

theorem State.players_lowReads (s : State) (u : SeqUnit) : s.lowReads.players u = s.players u := by
  cases u <;> rfl

/-! ### A port that needs nothing cached (R86, R154) -/

theorem foldl_same {α β : Type} {f : α → β → α} {a : α} {l : List β} (h : ∀ b ∈ l, f a b = a) : l.foldl f a = a := by
  induction l with
  | nil => rfl
  | cons b l ih =>
    rw [List.foldl_cons, h b (List.mem_cons_self ..)]
    exact ih fun c hc => h c (List.mem_cons_of_mem _ hc)

/-- A descriptor of a port's that the cache holds nothing of: neither a segment of its data nor marker granules. -/
def needsNothing (t : PType) (w : BitVec 256) : Prop := descRes w ≠ 0 ∧ descRes w ≠ 2 ∧ descMarks t w = 0

theorem State.takePinned_of_none {s : State} (hpinned : ∀ c ∈ s.copies, c.pinned = false) (n : Nat) (ds : List Nat) :
    s.takePinned n ds = s := by
  unfold State.takePinned
  refine foldl_same fun d _ => if_neg ?_
  rw [List.any_eq_true]
  rintro ⟨c, hc, hserves⟩
  rw [hpinned c hc, Bool.false_and] at hserves
  cases hserves

theorem Staging.item_of_needsNothing {s : State} {n d : Nat} (h : needsNothing (Config.portType n) (s.desc d)) (order : Nat)
    (reads : ReadErrors) : Staging.item { s := s, failed := false } n order reads d = { s := s, failed := false } := by
  obtain ⟨hcache, hhead, hmarks⟩ := h
  unfold Staging.item
  dsimp only
  rw [if_neg Bool.false_ne_true]
  split
  · exact if_pos hmarks
  · exact if_pos hcache
  · exact if_pos hhead

theorem Staging.recovery_of_policy {s : State} {n : Nat} (h : bits (s.reg (portReg n 0x58)) 0 2 ≠ 2) (reads : ReadErrors) :
    Staging.recovery { s := s, failed := false } n reads = { s := s, failed := false } := by
  unfold Staging.recovery
  exact if_pos (.inr h)

theorem Staging.port_of_needsNothing {s : State} {n : Nat} {ds : List Nat} (hpinned : ∀ c ∈ s.copies, c.pinned = false)
    (hpolicy : bits (s.reg (portReg n 0x58)) 0 2 ≠ 2) (hds : ∀ d ∈ ds, needsNothing (Config.portType n) (s.desc d))
    (reads : ReadErrors) : Staging.port { s := s, failed := false } n ds reads = { s := s, failed := false } := by
  have hitems (order : Nat) : ds.foldl (fun x d => Staging.item x n order reads d) { s := s, failed := false } =
      { s := s, failed := false } := foldl_same fun d hd => Staging.item_of_needsNothing (hds d hd) order reads
  unfold Staging.port
  dsimp only
  rw [State.takePinned_of_none hpinned, hitems 1, Staging.recovery_of_policy hpolicy, hitems 3, hitems 4]

/-- Such a port's staging places nothing: it ends with the port's admission. -/
theorem State.stagePlayers_of_needsNothing {s : State} {n : Nat} (hpinned : ∀ c ∈ s.copies, c.pinned = false)
    (hpolicy : bits (s.reg (portReg n 0x58)) 0 2 ≠ 2)
    (hneeds : pulseUnit (Config.portType n) (s.port n).mode = true ∨
      ∀ d ∈ s.stagedDescs n (s.port n).play.start, needsNothing (Config.portType n) (s.desc d)) (reads : ReadErrors) :
    ∃ ds, s.stagePlayers (.port n) reads = { s := s.takeCommand n ds, failed := false } := by
  show ∃ ds, Staging.stagePlayer (s.port n).play.start reads { s := s, failed := false } n = _
  unfold Staging.stagePlayer
  dsimp only
  by_cases hpulse : pulseUnit (Config.portType n) (s.port n).mode = true
  · refine ⟨[], ?_⟩
    rw [hpulse]
    rfl
  · refine ⟨s.stagedDescs n (s.port n).play.start, ?_⟩
    rw [if_neg Bool.false_ne_true, if_neg hpulse, if_neg hpulse,
      Staging.port_of_needsNothing hpinned hpolicy (hneeds.resolve_left hpulse)]
    rfl

/-! #### Its admission (R159-R162) -/

/-- The word of a port's admission shows in bit 0 whether it goes at best effort. -/
theorem bit_admission (be : Bool) (reason d : Nat) : bit (word (b2n be + reason * 2 + d * 256)) 0 = be := by
  unfold bit word
  rw [BitVec.toNat_ofNat]
  cases be
  · rw [show b2n false = 0 from rfl, show (0 + reason * 2 + d * 256) % 2 ^ 32 / 2 ^ 0 % 2 = 0 by omega]
    rfl
  · rw [show b2n true = 1 from rfl, show (1 + reason * 2 + d * 256) % 2 ^ 32 / 2 ^ 0 % 2 = 1 by omega]
    rfl

/-- A port that was admitted, or goes at best effort. -/
def Port.withDemand (demand : Nat) (shares : Tab Nat) (be : Bool) (p : Port) : Port :=
  { p with demand := demand, shares := shares, admitted := !be }

theorem State.takeCommand_admits {n : Nat} (hn : n < 144) (s : State) (ds : List Nat) : ∃ demand shares be,
    (∀ m, (s.takeCommand n ds).port m = if m = n then (s.port n).withDemand demand shares be else s.port m) ∧
      bit ((s.takeCommand n ds).rd (Page.port n) 0x114) 0 = be := by
  have hword : n / 32 ≤ 4 := by omega
  unfold State.takeCommand
  extract_lets t p streamed d shares reason be s1 s2 s3
  have hs3 : Agree 8 s1 s3 := ((Agree.refl 8 s1).step (State.setReg_agree _ _ _) rfl).step
    ((Agree.refl 8 s2).step (State.mapSet_agree _ _ _ _ _) rfl |>.step (State.wr_agree _ _ _ _) rfl) rfl
  have hport (m : Nat) : s3.port m =
      if m = n then (s.port n).withDemand (if be then 0 else d) (if be then [] else shares) be else s.port m :=
    (hs3.port_eq rfl m).trans (State.port_modPort _ _ _ _)
  have hreg : s3.rd (Page.port n) 0x114 = word (b2n be + reason * 2 + d * 256) := by
    refine (State.rd_wr _ _ _ _ _ _ (by decide) (by decide)).trans ((if_neg fun h => Page.port_ne_stream n h.1).trans ?_)
    refine (State.rd_mapSet (by omega) s2 be (Page.port_ne_stream n) (by decide)).trans ?_
    exact State.rd_wr_same s1 (Page.port n) 0x114 _
  refine ⟨if be then 0 else d, if be then [] else shares, be, fun m => ?_, ?_⟩
  · refine Eq.trans ?_ (hport m)
    split
    · exact (State.flag_agree s3 _ _).port_eq rfl m
    · rfl
  · have hflag : (if be then s3.flag Page.stream 0 else s3).rd (Page.port n) 0x114 = s3.rd (Page.port n) 0x114 := by
      split
      · exact (State.rd_flag s3 (by decide)).trans (if_neg fun h => Page.port_ne_stream n h.1)
      · rfl
    rw [hflag, hreg]
    exact bit_admission be reason d

end Machine
end Sys2Proof
end

section
/-! PROOFS. A port armed: its bobbin filled for the first segment, and what stays of its admission (O40). -/

namespace Sys2Proof
namespace Machine

/-! ### What the filling of a bobbin leaves (R86) -/

/-- From s to t a port keeps its playhead, its marker levels and its admission, with the word that shows it; the other ports
stay. -/
structure State.Readies (n : Nat) (s t : State) : Prop where
  play : (t.port n).play = (s.port n).play
  ms : (t.port n).ms = (s.port n).ms
  admitted : (t.port n).admitted = (s.port n).admitted
  other : ∀ m, m ≠ n → t.port m = s.port m
  word : t.rd (Page.port n) 0x114 = s.rd (Page.port n) 0x114

theorem State.Readies.refl (n : Nat) (s : State) : State.Readies n s s := ⟨rfl, rfl, rfl, fun _ _ => rfl, rfl⟩

section Readies

variable {n : Nat} {s t u : State} (h : State.Readies n s t)
include h

theorem State.Readies.trans (k : State.Readies n t u) : State.Readies n s u :=
  ⟨k.play.trans h.play, k.ms.trans h.ms, k.admitted.trans h.admitted, fun m hm => (k.other m hm).trans (h.other m hm),
    k.word.trans h.word⟩

/-- What leaves every port and the word of the admission. -/
theorem State.Readies.same (hports : ∀ m, u.port m = t.port m)
    (hword : u.rd (Page.port n) 0x114 = t.rd (Page.port n) 0x114) : State.Readies n s u :=
  h.trans ⟨by rw [hports], by rw [hports], by rw [hports], fun m _ => hports m, hword⟩

theorem State.Readies.setPort {p : Port} (hplay : p.play = (t.port n).play) (hms : p.ms = (t.port n).ms)
    (hadmitted : p.admitted = (t.port n).admitted) : State.Readies n s (t.setPort n p) := by
  refine h.trans ⟨?_, ?_, ?_, fun m hm => (State.port_setPort _ _ _ _).trans (if_neg hm), rfl⟩ <;>
    rw [State.port_setPort, if_pos rfl]
  · exact hplay
  · exact hms
  · exact hadmitted

/-- A change of the port's bobbin or of its states. -/
theorem State.Readies.modPort {f : Port → Port} (hplay : ∀ p, (f p).play = p.play := by exact fun _ => rfl)
    (hms : ∀ p, (f p).ms = p.ms := by exact fun _ => rfl)
    (hadmitted : ∀ p, (f p).admitted = p.admitted := by exact fun _ => rfl) : State.Readies n s (t.modPort n f) :=
  h.setPort (hplay _) (hms _) (hadmitted _)

theorem State.Readies.notePeak (low : Bool) : State.Readies n s (t.notePeak low) :=
  h.same (fun m => (State.notePeak_agree t low).port_eq rfl m)
    ((State.rd_wr _ _ _ _ _ _ (by decide) (by decide)).trans (if_neg fun hc => Page.port_ne_stream n hc.1))

theorem State.Readies.countReads (reads : ReadErrors) (l : List Nat) : State.Readies n s (t.countReads reads l) :=
  h.same (fun m => (State.countReads_agree t reads l).port_eq rfl m)
    (t.rd_countReads reads l (by decide) fun _ hk hc => Page.memctl_ne_port hk n hc.symm)

theorem State.Readies.dataFault (addr : Nat) (i : Option Nat) : State.Readies n s (t.dataFault n addr i) :=
  h.same (fun m => (State.dataFault_agree t n addr i).port_eq rfl m)
    (((State.Stands.refl n t [0x114]).dataFault n addr i).regs 0x114 (by decide))

theorem State.Readies.requestGranule : State.Readies n s (t.requestGranule n) := by
  have hstray (entry pass : Nat) (w : BitVec 256) (rows : Vector (BitVec 16) 4) :
      State.Readies n s (t.refetchPass n entry pass w rows) := h.modPort
  unfold State.requestGranule
  extract_lets p
  split
  · exact h
  · split
    · exact h
    · split
      · exact h.setPort rfl rfl rfl
      · extract_lets stray ph ahead crcs
        split
        · exact (hstray _ _ _ _).modPort
        · split
          · exact h
          · refine State.Readies.notePeak ?_ _
            exact h.setPort rfl rfl rfl

theorem State.Readies.crcArrive (f : Fetched) : State.Readies n s (t.crcArrive n f) := by
  unfold State.crcArrive
  extract_lets -underBinder -merge p
  split
  · exact h
  · extract_lets -underBinder -merge c1 s0 others b b' s1
    have hport : s0.port n = t.port n ∧ State.Readies n s s0 := by
      unfold s0
      split
      · exact ⟨rfl, h.same (fun _ => rfl) rfl⟩
      · exact ⟨rfl, h⟩
    obtain ⟨hsame, hs0⟩ := hport
    have hcrcs (l : List PassCrc) : State.Readies n s (s0.setPort n { p with bobbin := { p.bobbin with crcs := l } }) :=
      hs0.setPort (by rw [hsame]) (by rw [hsame]) (by rw [hsame])
    split
    · exact hcrcs _
    · split
      · exact hcrcs _
      · exact (hcrcs _).dataFault _ _

theorem State.Readies.deliver (f : Fetched) : State.Readies n s (t.deliver n f) := by
  unfold State.deliver
  dsimp only
  split
  · exact h.crcArrive f
  · exact (h.crcArrive f).modPort (f := fun p => { p with bobbin := { p.bobbin with present := p.bobbin.present ++ [f] } })

theorem State.Readies.fillFirst (reads : ReadErrors) (k : Nat) : State.Readies n s (t.fillFirst n reads k) := by
  induction k generalizing t with
  | zero => exact h
  | succ k ih =>
    unfold State.fillFirst
    extract_lets s1 b
    have hs1 : State.Readies n s s1 := h.requestGranule
    split
    · split
      · exact ih (((hs1.modPort (f := fun p => { p with bobbin := { p.bobbin with flying := p.bobbin.flying.dropLast } })).countReads
          _ _).deliver _)
      · exact h
    · exact h

theorem State.Readies.settleRequest : State.Readies n s (t.settleRequest (.port n)) := by
  have hsettled (p : Port) : p.settled.play = p.play ∧ p.settled.ms = p.ms ∧ p.settled.admitted = p.admitted := by
    unfold Port.settled
    split <;> exact ⟨rfl, rfl, rfl⟩
  rw [State.settleRequest_port]
  split
  · exact h
  · exact h.modPort (fun p => (hsettled p).1) (fun p => (hsettled p).2.1) (fun p => (hsettled p).2.2)

theorem State.Readies.setUnitState (st : UState) : State.Readies n s (t.setUnitState (.port n) st) :=
  (h.modPort (f := fun p => { p with state := st })).settleRequest

theorem State.Readies.restartUnit : State.Readies n s (t.restartUnit (.port n)) := by
  unfold State.restartUnit
  dsimp only
  split
  · exact h.modPort (f := fun p =>
      { p with restart := false, requested := .run, deliver := some .run, withCommit := false })
  · exact h

end Readies

/-! ### A port armed (R86, R189) -/

/-- A port in ARMED, its marker levels clear. -/
def Port.asArmed (p : Port) : Port := { p with state := .armed, ms := 0 }

theorem State.readies_armPort (s : State) (n start : Nat) (reads : ReadErrors) :
    State.Readies n (s.modPort n Port.asArmed) (s.armPort n start reads) := by
  unfold State.armPort
  extract_lets t pulse s1 bobbin
  have hs1 : State.Readies n (s.modPort n Port.asArmed) s1 := .refl n s1
  split
  · exact hs1
  · exact (hs1.modPort (f := fun p => { p with bobbin := bobbin })).fillFirst _ _

/-- A port with its row counters clear. -/
def Port.clearRows (p : Port) : Port := p.on fun ph => { ph with rows := rowsZero }

/-- What arming leaves of a port: armed with row counters and marker levels clear, admitted as it was. -/
theorem State.armAll_port (s : State) (n start : Nat) (reads : ReadErrors) :
    ((s.armAll [n] (.port n) start reads).port n).play.rows = rowsZero ∧
      ((s.armAll [n] (.port n) start reads).port n).ms = 0 ∧
      ((s.armAll [n] (.port n) start reads).port n).admitted = (s.port n).admitted ∧
      (s.armAll [n] (.port n) start reads).rd (Page.port n) 0x114 = s.rd (Page.port n) 0x114 ∧
      s.portsBut (s.armAll [n] (.port n) start reads) [n] := by
  have harm := s.readies_armPort n start reads
  have hend : State.Readies n ((s.armPort n start reads).modPort n Port.clearRows) (s.armAll [n] (.port n) start reads) :=
    ((State.Readies.refl n _).setUnitState .armed).restartUnit
  have harmed : (s.modPort n Port.asArmed).port n = (s.port n).asArmed := (State.port_modPort _ _ _ _).trans (if_pos rfl)
  have hcleared : ((s.armPort n start reads).modPort n Port.clearRows).port n = ((s.armPort n start reads).port n).clearRows :=
    (State.port_modPort _ _ _ _).trans (if_pos rfl)
  refine ⟨?_, ?_, ?_, hend.word.trans harm.word, fun m hm => ?_⟩
  · rw [hend.play, hcleared]
    rfl
  · rw [hend.ms, hcleared]
    exact harm.ms.trans (congrArg Port.ms harmed)
  · rw [hend.admitted, hcleared]
    refine harm.admitted.trans ?_
    rw [harmed]
    rfl
  · have hne : m ≠ n := by simpa using hm
    rw [hend.other m hne, State.port_modPort, if_neg hne, harm.other m hne, State.port_modPort, if_neg hne]

/-- What leads from the staging of a port to its end changes no copy. -/
theorem State.copies_armAll (s : State) (ns : List Nat) (u : SeqUnit) (start : Nat) (reads : ReadErrors) :
    (s.armAll ns u start reads).copies = s.copies := by
  have hplayers : Agree 98364 s (ns.foldl (fun s n => s.armPort n start reads) s) :=
    (Agree.refl 98364 s).step (Agree.foldl_armPort s ns start reads) rfl
  exact (((hplayers.step (State.modPlayhead_agree _ _ _) rfl).step (State.setUnitState_agree _ _ _) rfl).step
    (State.restartUnit_agree _ _) rfl).copies rfl

/-- STAGING_COMPLETE of a port that needs nothing cached (R86, R154, R162). -/
theorem stagingComplete_of_needsNothing {n : Nat} {reads : ReadErrors} {s : State} (hn : n < 144)
    (hready : (s.port n).state = .ready) (hfirst : s.stagingWaits (.port n) = false)
    (hpolicy : bits (s.reg (portReg n 0x58)) 0 2 ≠ 2) (hpinned : ∀ c ∈ s.copies, c.pinned = false)
    (hneeds : pulseUnit (Config.portType n) (s.port n).mode = true ∨
      ∀ d ∈ s.stagedDescs n (s.port n).play.start, needsNothing (Config.portType n) (s.desc d)) :
    Yields (.stagingComplete (.port n) reads) s (fun t => (t.port n).state = .armed ∧ (t.port n).play.rows = rowsZero ∧
      (t.port n).ms = 0 ∧ t.copies = s.copies ∧ bit (t.reg (portReg n 0x114)) 0 = !(t.port n).admitted ∧ s.portsBut t [n]) := by
  have hpolicy' : bits (s.lowReads.reg (portReg n 0x58)) 0 2 ≠ 2 := by
    rw [show s.lowReads.reg (portReg n 0x58) = s.reg (portReg n 0x58) from s.rd_lowReads (by decide) (Page.port_ne_stream n)]
    exact hpolicy
  obtain ⟨ds, hstage⟩ := State.stagePlayers_of_needsNothing (s := s.lowReads) (n := n) hpinned hpolicy'
    (hneeds.imp id fun h => by rw [show (s.lowReads.port n).play.start = (s.port n).play.start from rfl,
      State.stagedDescs_lowReads]; exact h) reads
  obtain ⟨demand, shares, be, hports, hbit⟩ := s.lowReads.takeCommand_admits hn ds
  have hcomplete : s.lowReads.stagingComplete (.port n) reads =
      (s.lowReads.takeCommand n ds).armAll [n] (.port n) (s.port n).play.start reads := by
    rw [State.stagingComplete_of_ready (show s.lowReads.unitState (.port n) = .ready from hready), hstage]
    rfl
  obtain ⟨hrows, hms, hadmitted, hword, hothers⟩ :=
    (s.lowReads.takeCommand n ds).armAll_port n (s.port n).play.start reads
  have harmed := State.state_armAll (s := s.lowReads.takeCommand n ds) (u := .port n) (start := (s.port n).play.start)
    (reads := reads) (m := n) (List.mem_singleton.mpr rfl)
  refine ⟨_, exec_stagingComplete_of_ready (u := .port n) hready hfirst reads, ?_⟩
  rw [hcomplete]
  refine ⟨harmed, hrows, hms, ?_, ?_, fun m hm => (hothers m hm).trans ?_⟩
  · rw [State.copies_armAll]
    exact (State.takeCommand_agree s.lowReads n ds).copies rfl
  · rw [hadmitted, hports n, if_pos rfl]
    refine (congrArg (bit · 0) hword).trans (hbit.trans ?_)
    exact (Bool.not_not be).symm
  · rw [hports m, if_neg (by simpa using hm)]
    rfl

/-- Settles O40: a pin operation by the cases of its completion, staging by its two ends. -/
theorem cachePinsAndStaging : Obligations.CachePinsAndStaging := by
  refine ⟨fun c d un s hc => ⟨fun hgo => ?_, fun hidle => pin_sets hc hidle⟩,
    fun reads s hidle => exec_pinComplete_of_idle hidle reads, fun reads s hgo hheld => ?_,
    fun u reads s hidle => exec_stagingComplete_of_idle hidle reads, fun u reads s hready hfirst => ?_,
    fun n reads s hn hready hfirst hpolicy hpinned hneeds =>
      stagingComplete_of_needsNothing hn hready hfirst hpolicy hpinned hneeds⟩
  · exact (exec_pin hc s).trans (congrArg Host.Outcome.next (State.pinStart_of_go hgo d un))
  · obtain ⟨hcleared, hdesc, hdone⟩ := pinCompleted_done reads hgo hheld
    refine ⟨_, exec_pinComplete_of_go hgo hheld reads, hcleared, hdesc, hdone,
      fun c hold hused => pinCompleted_used reads hgo hheld rfl hold hused,
      fun hun hold => pinCompleted_absent reads hgo hheld rfl hun hold,
      fun c hun hold husers hstages => pinCompleted_unpinned reads hgo hheld rfl hun hold husers hstages,
      fun hpin hold hfull => pinCompleted_full reads hgo hheld rfl hpin hold hfull,
      fun hpin hold hroom => ?_, pinCompleted_only reads s⟩
    obtain ⟨hcopies, hgood⟩ := pinCompleted_pins reads hgo hheld rfl hpin hold hroom
    exact ⟨_, hcopies, rfl, rfl, rfl, rfl, rfl, State.newPinned_length _ _ _, hgood⟩
  · refine ⟨_, exec_stagingComplete_of_ready hready hfirst reads, ?_, ?_⟩
    · rw [← s.players_lowReads u]
      exact State.stagingComplete_whole ((s.unitState_lowReads u).trans hready) reads
    · have hlow : Agree 100412 s s.lowReads := (Agree.refl _ s).step (State.lowReads_agree s) rfl
      exact (hlow.step (State.stagingComplete_agree _ u reads) rfl).changesOnly_of_within

end Machine
end Sys2Proof
end

section
/-! PROOFS. A half of a register counted with a flag of its page, and the bulk port's transfers (O17). -/

namespace Sys2Proof
namespace Machine

/-! ### A half of a register counted, a flag of its page set (R446, R448) -/

section CountedHalf

variable (s : State) (p i : Nat) {o : Nat} (ho : o < 0x400) (hflags : o ≠ 0x14)
include ho hflags

/-- The flag of a count leaves the counter's register. -/
theorem State.rd_flag_countField (lo width by_ : Nat) : ((s.countField p o lo width by_).flag p i).rd p o =
    setBits (s.rd p o) lo width (min (2 ^ width - 1) (bits (s.rd p o) lo width + by_)) :=
  (State.rd_flag _ ho).trans ((if_neg fun h => hflags h.2).trans (State.rd_wr_same s p o _))

/-- A low half counted reads one more, up to its largest value; the high half as before. -/
theorem State.bits_countLow :
    bits (((s.countField p o 0 16 1).flag p i).rd p o) 0 16 = min 0xffff (bits (s.rd p o) 0 16 + 1) ∧
      bits (((s.countField p o 0 16 1).flag p i).rd p o) 16 16 = bits (s.rd p o) 16 16 := by
  have hw := (s.rd p o).isLt
  rw [State.rd_flag_countField s p i ho hflags]
  unfold bits setBits word
  rw [BitVec.toNat_ofNat]
  omega

/-- A high half counted reads one more, up to its largest value; the low half as before. -/
theorem State.bits_countHigh :
    bits (((s.countField p o 16 16 1).flag p i).rd p o) 16 16 = min 0xffff (bits (s.rd p o) 16 16 + 1) ∧
      bits (((s.countField p o 16 16 1).flag p i).rd p o) 0 16 = bits (s.rd p o) 0 16 := by
  have hw := (s.rd p o).isLt
  rw [State.rd_flag_countField s p i ho hflags]
  unfold bits setBits word
  rw [BitVec.toNat_ofNat]
  omega

/-- The flag of a count joins the page's flags. -/
theorem State.flagged_countField (lo width by_ : Nat) :
    s.flagged ((s.countField p o lo width by_).flag p i) p (bitWord i) := by
  unfold State.flagged
  rw [State.rd_flag _ (by decide), if_pos ⟨rfl, rfl⟩,
    State.rd_countField_other _ _ _ _ ho (by decide) fun _ => hflags.symm]

end CountedHalf

/-- A count with its flag changes those two registers alone. -/
theorem State.regsBut_countField (s : State) (p o lo width by_ i : Nat) :
    s.regsBut ((s.countField p o lo width by_).flag p i) [regAddr p o, regAddr p 0x14] := by
  intro a ha
  obtain ⟨hcounter, hflags⟩ := not_or.mp (List.mem_cons.not.mp ha)
  rw [State.reg_flag, if_neg (by simpa using hflags)]
  exact (State.reg_setReg s _ _ _).trans (if_neg hcounter)

/-! ### A transfer that no window grants (R369) -/

/-- The state with the bulk port replaced, a half of HOST's count of refused transfers advanced and its flag set. -/
def State.refusedTlp (s : State) (x : Bulk) (lo : Nat) : State :=
  (({ s with bulk := x } : State).countField Page.host 0x54 lo 16 1).flag Page.host 2

section RefusedTlp

variable (s : State) (x : Bulk)

theorem State.bulk_refusedTlp (lo : Nat) : (s.refusedTlp x lo).bulk = x := (State.flag_agree _ Page.host 2).bulk rfl

/-- A refused write counts in the low half. -/
theorem State.bits_refusedTlp_write :
    bits ((s.refusedTlp x 0).rd Page.host 0x54) 0 16 = min 0xffff (bits (s.rd Page.host 0x54) 0 16 + 1) ∧
      bits ((s.refusedTlp x 0).rd Page.host 0x54) 16 16 = bits (s.rd Page.host 0x54) 16 16 :=
  State.bits_countLow { s with bulk := x } Page.host 2 (by decide) (by decide)

/-- A refused read counts in the high half. -/
theorem State.bits_refusedTlp_read :
    bits ((s.refusedTlp x 16).rd Page.host 0x54) 16 16 = min 0xffff (bits (s.rd Page.host 0x54) 16 16 + 1) ∧
      bits ((s.refusedTlp x 16).rd Page.host 0x54) 0 16 = bits (s.rd Page.host 0x54) 0 16 :=
  State.bits_countHigh { s with bulk := x } Page.host 2 (by decide) (by decide)

/-- A refused transfer sets its flag and changes no register but that and the count. -/
theorem State.refusedTlp_frame (lo : Nat) : s.flagged (s.refusedTlp x lo) Page.host 4 ∧
    s.regsBut (s.refusedTlp x lo) [regAddr Page.host 0x54, regAddr Page.host 0x14] ∧
    s.changesOnly (s.refusedTlp x lo) [.regs, .i3cA, .i3cB, .bulk] := by
  have hagree : Agree 360456 s (s.refusedTlp x lo) :=
    (((Agree.refl 360456 s).setBulk rfl).step (State.countField_agree _ _ _ lo _ _) rfl).step (State.flag_agree _ _ _) rfl
  exact ⟨State.flagged_countField { s with bulk := x } Page.host 2 (by decide) (by decide) lo 16 1,
    State.regsBut_countField { s with bulk := x } Page.host 0x54 lo 16 1 2, hagree.changesOnly_of_within⟩

end RefusedTlp

/-! ### Posted writes (R163, R369) -/

section BulkWrite

variable {a : Nat} {bytes : List Byte} {s : State} (hup : s.bulk.linkUp = true) (hbytes : bytes ≠ [])
include hup hbytes

/-- A write over a link that is up is accepted, waits for room, or is discarded. -/
theorem exec_bulkWriteTlp_of_up : exec (.bulkWriteTlp a bytes) s =
    .next (if s.tlpGranted false a bytes.length then
      if 262144 < s.bulk.held + bytes.length then s
      else { s with bulk := { s.bulk with buffer := s.bulk.buffer ++ [
        { addr := s.memAddr a, bytes := bytes
          windows := (List.range 8).filter fun w => (List.range bytes.length).any fun i => s.windowGrants w false (a + i) }] } }
    else s.refusedTlp { s.bulk with unsupported := s.bulk.unsupported + 1 } 0) :=
  congrArg Host.Outcome.next (if_neg (by simp [hup, hbytes]))

/-- A write that is granted and has room is the last of the posted-write buffer. -/
theorem bulkWriteTlp_posts (hgranted : s.tlpGranted false a bytes.length = true)
    (hroom : s.bulk.held + bytes.length ≤ 262144) :
    Yields (.bulkWriteTlp a bytes) s (fun t =>
      (∃ w : Posted, t.bulk = { s.bulk with buffer := s.bulk.buffer ++ [w] } ∧ w.addr = s.memAddr a ∧ w.bytes = bytes) ∧
      s.changesOnly t [.bulk]) := by
  refine ⟨_, exec_bulkWriteTlp_of_up hup hbytes, ?_⟩
  rw [if_pos hgranted, if_neg (by omega)]
  exact ⟨⟨_, rfl, rfl, rfl⟩, ((Agree.refl 262144 s).setBulk rfl).changesOnly_of_within⟩

/-- A write that is granted waits while the buffer has no room for it. -/
theorem exec_bulkWriteTlp_of_full (hgranted : s.tlpGranted false a bytes.length = true)
    (hfull : 262144 < s.bulk.held + bytes.length) : exec (.bulkWriteTlp a bytes) s = .next s := by
  rw [exec_bulkWriteTlp_of_up hup hbytes, if_pos hgranted, if_pos hfull]

/-- A write with a byte that no window grants is counted, and nothing of it is kept. -/
theorem bulkWriteTlp_discards (hrefused : s.tlpGranted false a bytes.length = false) :
    Yields (.bulkWriteTlp a bytes) s (fun t => t.bulk.buffer = s.bulk.buffer ∧
      bits (t.rd Page.host 0x54) 0 16 = min 0xffff (bits (s.rd Page.host 0x54) 0 16 + 1) ∧
      bits (t.rd Page.host 0x54) 16 16 = bits (s.rd Page.host 0x54) 16 16 ∧ s.flagged t Page.host 4 ∧
      s.regsBut t [regAddr Page.host 0x54, regAddr Page.host 0x14] ∧ s.changesOnly t [.regs, .i3cA, .i3cB, .bulk]) := by
  refine ⟨_, exec_bulkWriteTlp_of_up hup hbytes, ?_⟩
  rw [if_neg (by simp [hrefused])]
  obtain ⟨hlow, hhigh⟩ := s.bits_refusedTlp_write { s.bulk with unsupported := s.bulk.unsupported + 1 }
  exact ⟨by rw [s.bulk_refusedTlp], hlow, hhigh, s.refusedTlp_frame _ 0⟩

end BulkWrite

/-! ### Bulk reads (R141, R369) -/

section BulkRead

variable {a n : Nat} {reads : ReadErrors} {s : State}

/-- The data of a bulk read's completion. -/
def State.bulkData (s : State) (reads : ReadErrors) (a n : Nat) : List Byte := (List.range n).map (s.bulkByte reads a)

theorem State.length_bulkData (s : State) (reads : ReadErrors) (a n : Nat) : (s.bulkData reads a n).length = n := by
  unfold State.bulkData
  rw [List.length_map, List.length_range]

/-- A byte whose granule is read well and that has no write waiting is returned as the memory holds it. -/
theorem State.bulkData_of_read {i : Nat} (hi : i < n) (hgood : s.readFails reads (a + i) = false)
    (hposted : s.posted (a + i) = false) : (s.bulkData reads a n)[i]? = some (s.readByte (a + i)) := by
  have hbyte : s.bulkByte reads a i = s.readByte (a + i) := by
    unfold State.bulkByte
    rw [hgood, hposted]
    rfl
  unfold State.bulkData
  rw [List.getElem?_map, List.getElem?_range hi, Option.map_some, hbyte]

/-- A read over a link that is up completes with its data, or with Unsupported Request. -/
theorem exec_bulkReadTlp_of_up (hup : s.bulk.linkUp = true) : exec (.bulkReadTlp a n reads) s =
    .next (if s.tlpGranted true a n then
      ({ s with free := s.free + n, bulk := { s.bulk with completion := some (s.bulkData reads a n) } }.countService reads
        (s.tlpGranules a n)).lowReads
    else s.refusedTlp { s.bulk with completion := none } 16) :=
  congrArg Host.Outcome.next (if_neg (by simp [hup]))

/-- A read that is granted returns as many bytes as it asks for. -/
theorem bulkReadTlp_returns (hup : s.bulk.linkUp = true) (hgranted : s.tlpGranted true a n = true) :
    Yields (.bulkReadTlp a n reads) s (fun t => ∃ data, t.bulk = { s.bulk with completion := some data } ∧
      data.length = n ∧
      (∀ i, i < n → s.readFails reads (a + i) = false → s.posted (a + i) = false →
        data[i]? = some (s.readByte (a + i))) ∧
      s.changesOnly t [.free, .regs, .i3cA, .i3cB, .bulk]) := by
  have hexec := exec_bulkReadTlp_of_up (a := a) (n := n) (reads := reads) hup
  rw [if_pos hgranted] at hexec
  refine ⟨_, hexec, s.bulkData reads a n, ?_, s.length_bulkData reads a n, fun i hi => State.bulkData_of_read hi,
    Agree.changesOnly_of_within (A := 360460) (exec_agree _ _ _ hexec)⟩
  exact ((State.lowReads_agree _).bulk rfl).trans ((State.countService_agree _ _ _).bulk rfl)

/-- A read with a byte that no window grants returns Unsupported Request and is counted. -/
theorem bulkReadTlp_refuses (hup : s.bulk.linkUp = true) (hrefused : s.tlpGranted true a n = false) :
    Yields (.bulkReadTlp a n reads) s (fun t => t.bulk = { s.bulk with completion := none } ∧
      bits (t.rd Page.host 0x54) 16 16 = min 0xffff (bits (s.rd Page.host 0x54) 16 16 + 1) ∧
      bits (t.rd Page.host 0x54) 0 16 = bits (s.rd Page.host 0x54) 0 16 ∧ s.flagged t Page.host 4 ∧
      s.regsBut t [regAddr Page.host 0x54, regAddr Page.host 0x14] ∧ s.changesOnly t [.regs, .i3cA, .i3cB, .bulk]) := by
  refine ⟨_, exec_bulkReadTlp_of_up hup, ?_⟩
  rw [if_neg (by simp [hrefused])]
  obtain ⟨hhigh, hlow⟩ := s.bits_refusedTlp_read { s.bulk with completion := none }
  exact ⟨s.bulk_refusedTlp _ 16, hhigh, hlow, s.refusedTlp_frame _ 16⟩

end BulkRead

/-- With the link down no transfer does anything. -/
theorem exec_bulkTlp_of_down {a : Nat} {s : State} (hdown : s.bulk.linkUp = false) :
    (∀ bytes, exec (.bulkWriteTlp a bytes) s = .next s) ∧ ∀ n reads, exec (.bulkReadTlp a n reads) s = .next s :=
  ⟨fun _ => congrArg Host.Outcome.next (if_pos (.inl hdown)), fun _ _ => congrArg Host.Outcome.next (if_pos hdown)⟩

/-- Settles O17: a write by whether it is granted and has room, a read by whether it is granted. -/
theorem bulkTransfersFollowTheWindows : Obligations.BulkTransfersFollowTheWindows :=
  fun _ _ => ⟨fun hup _ hbytes hgranted hroom => bulkWriteTlp_posts hup hbytes hgranted hroom,
    fun hup _ hbytes hgranted hfull => exec_bulkWriteTlp_of_full hup hbytes hgranted hfull,
    fun hup _ hbytes hrefused => bulkWriteTlp_discards hup hbytes hrefused,
    fun hup _ _ hgranted => bulkReadTlp_returns hup hgranted, fun hup _ _ hrefused => bulkReadTlp_refuses hup hrefused,
    exec_bulkTlp_of_down⟩

end Machine
end Sys2Proof
end

section
/-! PROOFS. Registers that faults, causes of DEGRADED, ledger entries and escalations leave (for O38). -/

namespace Sys2Proof
namespace Machine

/-! ### Registers that stay (R320-R322, R403, R410, R411) -/

/-- A fault leaves the causes of DEGRADED. -/
theorem State.causes_fault (s : State) (page code : Nat) (d : Word) (hpage : page ≠ Page.health) :
    (s.fault page code d).rd Page.health 0x68 = s.rd Page.health 0x68 := by
  have hlogged : ((s.pageFault page code).logFault page code d).rd Page.health 0x68 = s.rd Page.health 0x68 := by
    unfold State.logFault
    dsimp only
    rw [State.rd_flag _ (by decide), if_neg (by decide), State.rd_wr _ _ _ _ _ _ (by decide) (by decide),
      if_neg (by decide), State.rd_wr _ _ _ _ _ _ (by decide) (by decide), if_neg (by decide)]
    exact (State.rd_wr s page 0x1c _ _ _ (by decide) (by decide)).trans (if_neg fun h => hpage h.1.symm)
  unfold State.fault
  dsimp only
  split
  · exact hlogged
  · exact ((State.emitAll_agree _ _).rd_eq (by decide) _ _).trans hlogged

section RegisterKept

variable (s : State) {q r : Nat} (hr : r < 0x400)
include hr

/-- The lifecycle and fabric modes brought up to date show on GLOBAL and EVENT alone. -/
theorem State.rd_settle (hglobal : q ≠ Page.global) (hevent : q ≠ Page.event) : s.settle.rd q r = s.rd q r := by
  unfold State.settle
  extract_lets life s1 m fabric s2
  have hlife : s1.rd q r = s.rd q r := by
    unfold s1
    split
    · rfl
    · exact (State.rd_flag _ hr).trans (if_neg fun h => hglobal h.1)
  split
  · exact hlife
  · split
    · exact hlife
    · exact ((State.rd_flag _ hr).trans (if_neg fun h => hevent h.1)).trans hlife

/-- A cause of DEGRADED leaves what is neither its register, nor a flag of HEALTH, nor on GLOBAL or EVENT. -/
theorem State.rd_setDegraded_other (i : Nat) (v : Bool) (hglobal : q ≠ Page.global) (hevent : q ≠ Page.event)
    (hhealth : q = Page.health → r ≠ 0x14 ∧ r ≠ 0x68) : (s.setDegraded i v).rd q r = s.rd q r := by
  have hcause (w : Word) : (s.wr Page.health 0x68 w).rd q r = s.rd q r :=
    (State.rd_wr _ _ _ _ _ _ (by decide) hr).trans (if_neg fun h => (hhealth h.1).2 h.2)
  unfold State.setDegraded
  extract_lets w s1
  rw [State.rd_settle _ hr hglobal hevent]
  split
  · exact ((State.rd_flag _ hr).trans (if_neg fun h => (hhealth h.1).1 h.2)).trans (hcause _)
  · exact hcause _

variable (hledger : q ≠ Page.ledger)
include hledger

theorem State.rd_ledgerPut (kind flags : Nat) (payload : List Byte) (content : List Nat) :
    (s.ledgerPut kind flags payload content).rd q r = s.rd q r := by
  unfold State.ledgerPut
  split
  · exact (State.ledgerAppend_agree _ _ _ _ _).rd_eq (by decide) q r
  · rw [State.rd_flag _ hr, if_neg fun h => hledger h.1, State.rd_count _ (by decide) hr, if_neg fun h => hledger h.1]
    rfl

theorem State.rd_ledgerCheckpoint : s.ledgerCheckpoint.rd q r = s.rd q r := by
  unfold State.ledgerCheckpoint
  dsimp only
  rw [State.rd_ledgerPut _ hr hledger]
  split
  · exact State.rd_ledgerPut _ hr hledger _ _ _ _
  · rfl

/-- A ledger entry shows on LEDGER alone. -/
theorem State.rd_ledgerWrite (kind flags : Nat) (payload : List Byte) (content : List Nat) :
    (s.ledgerWrite kind flags payload content).rd q r = s.rd q r := by
  have hput := s.rd_ledgerPut hr hledger kind flags payload content
  unfold State.ledgerWrite
  dsimp only
  split
  · split
    · exact (State.rd_ledgerCheckpoint _ hr hledger).trans hput
    · exact hput
  · exact hput

theorem State.rd_failover (event fault page : Nat) : (s.failover event fault page).rd q r = s.rd q r :=
  State.rd_ledgerWrite _ hr hledger _ _ _ _

/-- A fault that is not of the clocks, escalated, shows on LEDGER alone. -/
theorem State.rd_escalate (fault page : Nat) : (s.escalate fault page).rd q r = s.rd q r := by
  have hswap : s.requestSwap.rd q r = s.rd q r := (State.requestSwap_agree s).rd_eq (by decide) q r
  unfold State.escalate
  split
  · dsimp only
    split
    · exact hswap
    · exact (State.rd_failover _ hr hledger _ _ _).trans hswap
  · rfl

end RegisterKept

/-! ### A cause of DEGRADED (R411, R416) -/

theorem bit_setBits_one (w : Word) : bit (setBits w 1 1 (b2n true)) 1 = true := by
  have hw := w.isLt
  have hone : (w.toNat - w.toNat / 2 ^ 1 % 2 ^ 1 * 2 ^ 1 + 1 % 2 ^ 1 * 2 ^ 1) % 2 ^ 32 / 2 ^ 1 % 2 = 1 := by omega
  unfold bit setBits word
  rw [BitVec.toNat_ofNat, show b2n true = 1 from rfl, hone]
  rfl

/-- The cause of a failed memory, set. -/
theorem State.bit_setDegraded_one (s : State) : bit ((s.setDegraded 1 true).rd Page.health 0x68) 1 = true := by
  have hset : (s.setDegraded 1 true).rd Page.health 0x68 = setBits (s.rd Page.health 0x68) 1 1 (b2n true) := by
    unfold State.setDegraded
    extract_lets w s1
    rw [State.rd_settle _ (by decide) (by decide) (by decide)]
    split
    · exact (State.rd_flag _ (by decide)).trans ((if_neg (by decide)).trans (State.rd_wr_same _ _ _ _))
    · exact State.rd_wr_same _ _ _ _
  rw [hset]
  exact bit_setBits_one _

/-- A cause of DEGRADED drops no flag of HEALTH. -/
theorem State.healthFlag_setDegraded {s : State} {j : Nat} (h : bit (s.rd Page.health 0x14) j = true) (i : Nat) (v : Bool) :
    bit ((s.setDegraded i v).rd Page.health 0x14) j = true := by
  have hcause (w : Word) : bit ((s.wr Page.health 0x68 w).rd Page.health 0x14) j = true := by
    rw [State.rd_wr _ _ _ _ _ _ (by decide) (by decide), if_neg (by decide)]
    exact h
  unfold State.setDegraded
  extract_lets w s1
  rw [State.rd_settle _ (by decide) (by decide) (by decide)]
  split
  · rw [State.rd_flag _ (by decide), if_pos ⟨rfl, rfl⟩]
    exact bit_or_left (hcause _)
  · exact hcause _

/-- A fault that was raised shows still once a cause of DEGRADED is set and it is escalated. -/
theorem State.faulted_degraded {s : State} {page code : Nat} (h : s.faulted page code) (hglobal : page ≠ Page.global)
    (hevent : page ≠ Page.event) (hledger : page ≠ Page.ledger) (i fault p : Nat) (v : Bool) :
    ((s.setDegraded i v).escalate fault p).faulted page code := by
  obtain ⟨hcode, hlast, hflag⟩ := h
  unfold State.faulted
  rw [State.rd_escalate _ (by decide) hledger, State.rd_escalate _ (by decide) (by decide),
    State.rd_escalate _ (by decide) (by decide),
    State.rd_setDegraded_other _ (by decide) _ _ hglobal hevent fun _ => by decide,
    State.rd_setDegraded_other _ (by decide) _ _ (by decide) (by decide) fun _ => by decide]
  exact ⟨hcode, hlast, State.healthFlag_setDegraded hflag i v⟩

end Machine
end Sys2Proof
end

section
/-! PROOFS. The memory stacks: refreshes, readings and crossings, parity errors, training (O38). -/

namespace Sys2Proof
namespace Machine

/-! ### Fitted stacks (R1) -/

theorem State.stackFitted_of_lt {s : State} {k : Nat} (h : k < Config.stackCount s.part) : s.stackFitted k = true :=
  decide_eq_true h

theorem State.stackFitted_of_le {s : State} {k : Nat} (h : Config.stackCount s.part ≤ k) : s.stackFitted k = false :=
  decide_eq_false (Nat.not_lt.mpr h)

/-- The commands of a stack. -/
def stackCommand (k : Nat) (c : Instr) : Prop :=
  c = .refreshTick k ∨ (∃ n, c = .refreshIssue k n) ∨ (∃ n, c = .forcedBatch k n) ∨ (∃ v, c = .stackTempReading k v) ∨
    (∃ n, c = .crossingBatch k n) ∨ (∃ b, c = .forceDoubleWrite k b) ∨ (∃ a b d, c = .parityAlert k a b d) ∨
    (∃ b, c = .trainingComplete k b)

/-- A stack that is not fitted answers nothing. -/
theorem exec_stackCommand_of_unfitted {k : Nat} {s : State} (h : Config.stackCount s.part ≤ k) {c : Instr}
    (hc : stackCommand k c) : exec c s = .next s := by
  have hfit := State.stackFitted_of_le h
  have hguard (b : Bool) : ¬ ((s.stackFitted k && b) = true) := by simp [hfit]
  rcases hc with rfl | ⟨n, rfl⟩ | ⟨n, rfl⟩ | ⟨v, rfl⟩ | ⟨n, rfl⟩ | ⟨b, rfl⟩ | ⟨pc, f, e, rfl⟩ | ⟨b, rfl⟩
  · exact congrArg Host.Outcome.next (if_neg (hguard _))
  · exact congrArg Host.Outcome.next (if_neg (by simp [hfit]))
  · exact congrArg Host.Outcome.next (if_neg (by simp [hfit]))
  · exact congrArg Host.Outcome.next (if_neg (hguard _))
  · exact congrArg Host.Outcome.next (if_neg (hguard _))
  · exact congrArg Host.Outcome.next (if_pos hfit)
  · exact congrArg Host.Outcome.next (if_neg (hguard _))
  · exact congrArg Host.Outcome.next (if_neg (hguard _))

/-! ### Crossings between the modes (R135-R137) -/

section Crossings

variable (s : State) (k j : Nat)

theorem State.stack_countField (p o lo width by_ i : Nat) :
    ((s.countField p o lo width by_).flag p i).stack j = s.stack j :=
  ((State.flag_agree _ p i).stack_eq j).trans ((State.countField_agree s p o lo width by_).stack_eq j)

section Marked

variable {s k} {t : State} {x : Stack} (h : ∀ j, t.stack j = if j = k then x else s.stack j)
include h

theorem State.stack_modStack_marked (f : Stack → Stack) : (t.modStack k f).stack j = if j = k then f x else s.stack j := by
  rw [State.stack_modStack, h k, if_pos rfl, h j]
  split <;> rfl

/-- An upward crossing marks the stack. -/
theorem State.stack_crossUp : (t.crossUp k).stack j = if j = k then { x with up := true } else s.stack j := by
  have hk : t.stack k = x := (h k).trans (if_pos rfl)
  unfold State.crossUp
  split
  · next hup => rw [h, ← hup, hk]
  · rw [State.stack_countField, State.stack_modStack_marked j h]

/-- A downward crossing ends doubled mode. -/
theorem State.stack_crossDown : (t.crossDown k).stack j = if j = k then { x with doubled := false } else s.stack j := by
  unfold State.crossDown
  rw [State.stack_countField, State.stack_modStack_marked j h]

end Marked

theorem State.regsBut_crossUp : s.regsBut (s.crossUp k) [regAddr (Page.memctl k) 0x74, regAddr (Page.memctl k) 0x14] := by
  unfold State.crossUp
  split
  · exact fun _ _ => rfl
  · exact State.regsBut_countField (s.modStack k fun x => { x with up := true }) _ _ _ _ _ _

theorem State.regsBut_crossDown :
    s.regsBut (s.crossDown k) [regAddr (Page.memctl k) 0x74, regAddr (Page.memctl k) 0x14] :=
  State.regsBut_countField (s.modStack k fun x => { x with doubled := false }) _ _ _ _ _ _

/-- An upward crossing is counted and flagged, once. -/
theorem State.crossUp_counts (h : (s.stack k).up = false) : bit ((s.crossUp k).rd (Page.memctl k) 0x14) 5 = true ∧
    bits ((s.crossUp k).rd (Page.memctl k) 0x74) 0 16 = min 0xffff (bits (s.rd (Page.memctl k) 0x74) 0 16 + 1) := by
  unfold State.crossUp
  rw [if_neg (by simp [h])]
  exact ⟨State.bit_rd_flag _ _ (by decide),
    (State.bits_countLow (s.modStack k fun x => { x with up := true }) _ 5 (by decide) (by decide)).1⟩

/-- A downward crossing is counted and flagged. -/
theorem State.crossDown_counts : bit ((s.crossDown k).rd (Page.memctl k) 0x14) 6 = true ∧
    bits ((s.crossDown k).rd (Page.memctl k) 0x74) 16 16 = min 0xffff (bits (s.rd (Page.memctl k) 0x74) 16 16 + 1) :=
  ⟨State.bit_rd_flag _ _ (by decide),
    (State.bits_countHigh (s.modStack k fun x => { x with doubled := false }) _ 6 (by decide) (by decide)).1⟩

end Crossings

/-! ### Temperature readings (R134-R137) -/

/-- A stack with a reading kept; the first one places the mode. -/
def Stack.read (x : Stack) (c : Int) : Stack :=
  { x with
    temp := some c, peakTemp := max x.peakTemp (min 255 c.toNat), initial := false
    doubled := if x.initial then x.forceDouble || decide (80 ≤ c) else x.doubled }

/-- A stack after a reading and the crossing that it makes. -/
def Stack.afterReading (x : Stack) (c : Int) : Stack :=
  { x.read c with
    doubled := if x.initial then x.forceDouble || decide (80 ≤ c) else x.doubled && (x.forceDouble || decide (80 ≤ c))
    up := x.up || (!x.initial && !x.forceDouble && !x.doubled && decide (85 < c)) }

/-- The state after a reading of a tracking stack. -/
def State.readTemp (s : State) (k : Nat) (c : Int) : State :=
  let x := s.stack k
  let s1 := s.setStack k (x.read c)
  if x.initial || x.forceDouble then s1
  else if x.doubled = false ∧ 85 < c then s1.crossUp k
  else if x.doubled = true ∧ c < 80 then s1.crossDown k
  else s1

theorem exec_stackTempReading {k : Nat} {s : State} (hk : k < Config.stackCount s.part)
    (htrack : (s.stack k).train = .tracking) (c : Int) : exec (.stackTempReading k c) s = .next (s.readTemp k c) :=
  congrArg Host.Outcome.next (if_pos (by rw [State.stackFitted_of_lt hk, htrack]; rfl))

section Readings

variable (s : State) (k : Nat) (c : Int)

theorem State.stack_readTemp (j : Nat) :
    (s.readTemp k c).stack j = if j = k then (s.stack k).afterReading c else s.stack j := by
  have hset (i : Nat) := s.stack_setStack k i ((s.stack k).read c)
  unfold State.readTemp
  dsimp only
  split
  · next hkept =>
    have hstays : (s.stack k).afterReading c = (s.stack k).read c := by
      simp only [Bool.or_eq_true] at hkept
      unfold Stack.afterReading Stack.read
      rcases hkept with h | h <;> simp [h]
    rw [hset, hstays]
  · next hfree =>
    simp only [Bool.or_eq_true, not_or, Bool.not_eq_true] at hfree
    obtain ⟨hplaced, hforce⟩ := hfree
    split
    · next hup =>
      have hmarked : (s.stack k).afterReading c = { (s.stack k).read c with up := true } := by
        unfold Stack.afterReading Stack.read
        simp [hplaced, hforce, hup]
      rw [State.stack_crossUp j hset, hmarked]
    · next hup =>
      split
      · next hdown =>
        have hended : (s.stack k).afterReading c = { (s.stack k).read c with doubled := false } := by
          unfold Stack.afterReading Stack.read
          simp [hplaced, hforce, hdown]
        rw [State.stack_crossDown j hset, hended]
      · next hdown =>
        have hstays : (s.stack k).afterReading c = (s.stack k).read c := by
          unfold Stack.afterReading Stack.read
          cases hdoubled : (s.stack k).doubled with
          | false =>
            have hmild : c ≤ 85 := Int.not_lt.mp fun h => hup ⟨hdoubled, h⟩
            simp [hplaced, hforce, hmild]
          | true =>
            have hwarm : 80 ≤ c := Int.not_lt.mp fun h => hdown ⟨hdoubled, h⟩
            simp [hplaced, hwarm]
        rw [hset, hstays]

/-- A reading changes the registers of the crossings alone. -/
theorem State.regsBut_readTemp :
    s.regsBut (s.readTemp k c) [regAddr (Page.memctl k) 0x74, regAddr (Page.memctl k) 0x14] := by
  unfold State.readTemp
  dsimp only
  split
  · exact fun _ _ => rfl
  · split
    · exact State.regsBut_crossUp (s.setStack k ((s.stack k).read c)) k
    · split
      · exact State.regsBut_crossDown (s.setStack k ((s.stack k).read c)) k
      · exact fun _ _ => rfl

/-- The first reading, and any one while FORCE_DOUBLE holds, crosses nothing. -/
theorem State.readTemp_of_kept (h : (s.stack k).initial = true ∨ (s.stack k).forceDouble = true) :
    s.readTemp k c = s.setStack k ((s.stack k).read c) :=
  if_pos (by simpa using h)

section Crossing

variable {s k c} (hplaced : (s.stack k).initial = false) (hforce : (s.stack k).forceDouble = false)
include hplaced hforce

/-- A reading above 85 degrees in normal mode crosses upward. -/
theorem State.readTemp_of_hot (hnormal : (s.stack k).doubled = false) (hhot : 85 < c) :
    s.readTemp k c = (s.setStack k ((s.stack k).read c)).crossUp k :=
  (if_neg (by simp [hplaced, hforce])).trans (if_pos ⟨hnormal, hhot⟩)

/-- A reading below 80 degrees in doubled mode crosses downward. -/
theorem State.readTemp_of_cool (hdoubled : (s.stack k).doubled = true) (hcool : c < 80) :
    s.readTemp k c = (s.setStack k ((s.stack k).read c)).crossDown k :=
  (if_neg (by simp [hplaced, hforce])).trans ((if_neg (by simp [hdoubled])).trans (if_pos ⟨hdoubled, hcool⟩))

end Crossing
end Readings

/-- STACK_TEMP_READING of a tracking stack. -/
theorem stackTempReading_crosses {k : Nat} {s : State} (hk : k < Config.stackCount s.part)
    (htrack : (s.stack k).train = .tracking) (c : Int) :
    Yields (.stackTempReading k c) s (fun t => (t.stack k).temp = some c ∧
      (t.stack k).peakTemp = max (s.stack k).peakTemp (min 255 c.toNat) ∧ (t.stack k).initial = false ∧
      (t.stack k).owed = (s.stack k).owed ∧
      ((s.stack k).initial = true → t.regs = s.regs ∧
        (t.stack k).doubled = ((s.stack k).forceDouble || decide (80 ≤ c)) ∧ (t.stack k).up = (s.stack k).up) ∧
      ((s.stack k).initial = false → (s.stack k).forceDouble = true → t.regs = s.regs ∧
        (t.stack k).doubled = (s.stack k).doubled ∧ (t.stack k).up = (s.stack k).up) ∧
      ((s.stack k).initial = false → (s.stack k).forceDouble = false → (s.stack k).doubled = false →
        ((t.stack k).doubled = false ∧ (t.stack k).up = ((s.stack k).up || decide (85 < c)) ∧
        (85 < c → (s.stack k).up = false → bit (t.rd (Page.memctl k) 0x14) 5 = true ∧
          bits (t.rd (Page.memctl k) 0x74) 0 16 = min 0xffff (bits (s.rd (Page.memctl k) 0x74) 0 16 + 1)))) ∧
      ((s.stack k).initial = false → (s.stack k).forceDouble = false → (s.stack k).doubled = true →
        (t.stack k).doubled = decide (80 ≤ c) ∧ (t.stack k).up = (s.stack k).up ∧
        (c < 80 → bit (t.rd (Page.memctl k) 0x14) 6 = true ∧
          bits (t.rd (Page.memctl k) 0x74) 16 16 = min 0xffff (bits (s.rd (Page.memctl k) 0x74) 16 16 + 1))) ∧
      s.stacksBut t [k] ∧ s.regsBut t [regAddr (Page.memctl k) 0x74, regAddr (Page.memctl k) 0x14] ∧
      s.changesOnly t [.regs, .memctl, .i3cA, .i3cB]) := by
  have hexec := exec_stackTempReading hk htrack c
  have hstack : (s.readTemp k c).stack k = (s.stack k).afterReading c := (s.stack_readTemp k c k).trans (if_pos rfl)
  refine ⟨_, hexec, ?_⟩
  dsimp only
  rw [hstack]
  refine ⟨rfl, rfl, rfl, rfl, fun hfirst => ?_, fun hplaced hforce => ?_, fun hplaced hforce hnormal => ?_,
    fun hplaced hforce hdoubled => ?_, fun j hj => (s.stack_readTemp k c j).trans (if_neg (by simpa using hj)),
    s.regsBut_readTemp k c, Agree.changesOnly_of_within (A := 99336) (exec_agree _ _ _ hexec)⟩
  · rw [State.readTemp_of_kept s k c (.inl hfirst)]
    exact ⟨rfl, by simp [Stack.afterReading, hfirst], by simp [Stack.afterReading, Stack.read, hfirst]⟩
  · rw [State.readTemp_of_kept s k c (.inr hforce)]
    exact ⟨rfl, by simp [Stack.afterReading, hplaced, hforce], by simp [Stack.afterReading, Stack.read, hforce]⟩
  · refine ⟨by simp [Stack.afterReading, hplaced, hnormal], by simp [Stack.afterReading, hplaced, hforce, hnormal],
      fun hhot hunmarked => ?_⟩
    rw [State.readTemp_of_hot hplaced hforce hnormal hhot]
    refine State.crossUp_counts (s.setStack k ((s.stack k).read c)) k ?_
    rw [State.stack_setStack, if_pos rfl]
    exact hunmarked
  · refine ⟨by simp [Stack.afterReading, hplaced, hforce, hdoubled], by simp [Stack.afterReading, Stack.read, hdoubled],
      fun hcool => ?_⟩
    rw [State.readTemp_of_cool hplaced hforce hdoubled hcool]
    exact State.crossDown_counts (s.setStack k ((s.stack k).read c)) k

/-! ### FORCE_DOUBLE (R137) -/

/-- The last reading is below the limit of doubled mode. -/
def Stack.cool (x : Stack) : Bool :=
  match x.temp with
  | some t => decide (t < 80)
  | none => false

theorem Stack.cool_iff (x : Stack) : x.cool = true ↔ ∃ v, x.temp = some v ∧ v < 80 := by
  unfold Stack.cool
  cases x.temp <;> simp

/-- A stack after a write of FORCE_DOUBLE and the crossing that it makes. -/
def Stack.afterForce (x : Stack) (on : Bool) : Stack :=
  { x with
    forceDouble := on, up := x.up || (on && !x.doubled)
    doubled := x.doubled && (on || x.initial || !x.cool) }

/-- A stack with FORCE_DOUBLE replaced, on its register too. -/
def State.putForce (s : State) (k : Nat) (on : Bool) : State :=
  (s.setStack k { s.stack k with forceDouble := on }).wr (Page.memctl k) 0x40 (word (b2n on))

theorem State.stack_putForce (s : State) (k : Nat) (on : Bool) (j : Nat) :
    (s.putForce k on).stack j = if j = k then { s.stack k with forceDouble := on } else s.stack j :=
  State.stack_setStack s k j _

theorem State.writeForceDouble_of_fitted {s : State} {k : Nat} (hk : k < Config.stackCount s.part) (on : Bool) :
    s.writeForceDouble k on =
      if on && !(s.stack k).doubled then (s.putForce k on).crossUp k
      else if !on && (s.stack k).doubled && !(s.stack k).initial && (s.stack k).cool then (s.putForce k on).crossDown k
      else s.putForce k on := by
  unfold State.writeForceDouble
  rw [if_neg (by simp [State.stackFitted_of_lt hk])]
  rfl

theorem State.stack_writeForceDouble {s : State} {k : Nat} (hk : k < Config.stackCount s.part) (on : Bool) (j : Nat) :
    (s.writeForceDouble k on).stack j = if j = k then (s.stack k).afterForce on else s.stack j := by
  have hput := s.stack_putForce k on
  rw [State.writeForceDouble_of_fitted hk]
  split
  · next hup =>
    have hmarked : (s.stack k).afterForce on = { s.stack k with forceDouble := on, up := true } := by
      unfold Stack.afterForce
      simp only [Bool.and_eq_true, Bool.not_eq_true'] at hup
      simp [hup]
    rw [State.stack_crossUp j hput, hmarked]
  · next hup =>
    split
    · next hdown =>
      have hended : (s.stack k).afterForce on = { s.stack k with forceDouble := on, doubled := false } := by
        unfold Stack.afterForce
        simp only [Bool.and_eq_true, Bool.not_eq_true'] at hdown
        simp [hdown]
      rw [State.stack_crossDown j hput, hended]
    · next hdown =>
      have hstays : (s.stack k).afterForce on = { s.stack k with forceDouble := on } := by
        unfold Stack.afterForce
        cases on with
        | true =>
          have hdoubled : (s.stack k).doubled = true := by simpa using hup
          simp [hdoubled]
        | false =>
          cases hdoubled : (s.stack k).doubled with
          | false => simp [hdoubled]
          | true =>
            have hwarm : (s.stack k).initial = false → (s.stack k).cool = false := by simpa [hdoubled] using hdown
            cases hplaced : (s.stack k).initial with
            | true => simp [hdoubled, hplaced]
            | false => simp [hdoubled, hplaced, hwarm hplaced]
      rw [hput, hstays]

/-- A write of FORCE_DOUBLE shows on its register. -/
theorem State.rd_writeForceDouble {s : State} {k : Nat} (hk : k < Config.stackCount s.part) (on : Bool) :
    (s.writeForceDouble k on).rd (Page.memctl k) 0x40 = word (b2n on) := by
  have hput : (s.putForce k on).rd (Page.memctl k) 0x40 = word (b2n on) := State.rd_wr_same _ _ _ _
  have hother : regAddr (Page.memctl k) 0x40 ∉ [regAddr (Page.memctl k) 0x74, regAddr (Page.memctl k) 0x14] := by
    simp [regAddr_inj]
  rw [State.writeForceDouble_of_fitted hk]
  split
  · exact (State.regsBut_crossUp _ k _ hother).trans hput
  · split
    · exact (State.regsBut_crossDown _ k _ hother).trans hput
    · exact hput

/-- FORCE_DOUBLE_WRITE of a fitted stack. -/
theorem forceDoubleWrite_crosses {k : Nat} {s : State} (hk : k < Config.stackCount s.part) (on : Bool) :
    Yields (.forceDoubleWrite k on) s (fun t => t.rd (Page.memctl k) 0x40 = word (b2n on) ∧
      (t.stack k).forceDouble = on ∧ (t.stack k).owed = (s.stack k).owed ∧
      (on = true → (t.stack k).doubled = (s.stack k).doubled ∧
        (t.stack k).up = ((s.stack k).up || !(s.stack k).doubled)) ∧
      (on = false → (t.stack k).up = (s.stack k).up ∧
        ((t.stack k).doubled = false ↔ (s.stack k).doubled = false ∨
          ((s.stack k).initial = false ∧ ∃ v, (s.stack k).temp = some v ∧ v < 80))) ∧
      s.stacksBut t [k] ∧ s.changesOnly t [.regs, .memctl, .i3cA, .i3cB]) := by
  have hstack (j : Nat) := State.stack_writeForceDouble hk on j
  refine ⟨s.writeForceDouble k on, rfl, State.rd_writeForceDouble hk on, ?_⟩
  rw [hstack k, if_pos rfl]
  refine ⟨rfl, rfl, fun hon => ?_, fun hoff => ?_, fun j hj => (hstack j).trans (if_neg (by simpa using hj)),
    (State.writeForceDouble_agree s k on).changesOnly_of_within⟩
  · subst hon
    exact ⟨by simp [Stack.afterForce], by simp [Stack.afterForce]⟩
  · subst hoff
    refine ⟨by simp [Stack.afterForce], ?_⟩
    rw [← Stack.cool_iff]
    simp only [Stack.afterForce]
    cases (s.stack k).doubled <;> cases (s.stack k).initial <;> simp

/-! ### Refreshes and batches (R130, R132, R133, R135, R147) -/

section Refreshes

variable {k : Nat} {s : State} (hk : k < Config.stackCount s.part)
include hk

/-- A tick of a tracking stack: one refresh more is owed, the eighth forces a batch. -/
theorem exec_refreshTick_of_tracking (htrack : (s.stack k).train = .tracking) :
    exec (.refreshTick k) s = .next (s.setStack k { s.stack k with
      owed := min 8 ((s.stack k).owed + 1), peakOwed := max (s.stack k).peakOwed (min 8 ((s.stack k).owed + 1))
      forced := (s.stack k).forced || decide (7 ≤ (s.stack k).owed) }) := by
  have heighth : (min 8 ((s.stack k).owed + 1) == 8) = decide (7 ≤ (s.stack k).owed) := by
    rw [beq_eq_decide]
    exact decide_eq_decide.mpr (by omega)
  have hexec : exec (.refreshTick k) s = .next (s.setStack k (s.stack k).tick) :=
    congrArg Host.Outcome.next (if_pos (by rw [State.stackFitted_of_lt hk, htrack]; rfl))
  rw [hexec]
  unfold Stack.tick
  dsimp only
  rw [heighth]

omit hk in
/-- No refresh is issued while a real-time read waits or runs in a train. -/
theorem exec_refreshIssue_of_busy (n : Nat) (hbusy : s.readWaits k = true ∨ s.trainRuns k = true) :
    exec (.refreshIssue k n) s = .next s :=
  congrArg Host.Outcome.next (if_neg (by rcases hbusy with h | h <;> simp [h]))

/-- An owed refresh of a tracking stack is issued where no batch is due and no real-time read waits or runs. -/
theorem exec_refreshIssue_of_quiet (htrack : (s.stack k).train = .tracking) (n : Nat) (howed : 0 < (s.stack k).owed)
    (hforced : (s.stack k).forced = false) (hup : (s.stack k).up = false) (hwaits : s.readWaits k = false)
    (hruns : s.trainRuns k = false) :
    exec (.refreshIssue k n) s = .next (s.setStack k { s.stack k with
      owed := (s.stack k).owed - 1, taps := ((s.stack k).taps + min n stackLanes) % 65536 }) :=
  congrArg Host.Outcome.next
    (if_pos (by simp [State.stackFitted_of_lt hk, htrack, howed, hforced, hup, hwaits, hruns]))

/-- FORCED_BATCH of a tracking stack: all refreshes owed at once, counted and flagged. -/
theorem forcedBatch_clears (htrack : (s.stack k).train = .tracking) (n : Nat) (hforced : (s.stack k).forced = true)
    (hup : (s.stack k).up = false) :
    Yields (.forcedBatch k n) s (fun t =>
      t.stack k = { s.stack k with
        owed := 0, forced := false, taps := ((s.stack k).taps + min n (stackLanes * (s.stack k).owed)) % 65536 } ∧
      s.flagged t (Page.memctl k) (bitWord 4) ∧
      t.rd (Page.memctl k) 0x70 = word (min 0xffffffff ((s.rd (Page.memctl k) 0x70).toNat + 1)) ∧ s.stacksBut t [k] ∧
      s.regsBut t [regAddr (Page.memctl k) 0x70, regAddr (Page.memctl k) 0x14] ∧
      s.changesOnly t [.regs, .memctl, .i3cA, .i3cB]) := by
  have hexec : exec (.forcedBatch k n) s =
      .next (((s.modStack k fun x => { x with owed := 0, forced := false }.track x.owed n).countField (Page.memctl k) 0x70 0
        32 1).flag (Page.memctl k) 4) :=
    congrArg Host.Outcome.next (if_pos (by simp [State.stackFitted_of_lt hk, htrack, hforced, hup]))
  refine ⟨_, hexec, ?_⟩
  generalize hu : (s.modStack k fun x => { x with owed := 0, forced := false }.track x.owed n) = u at hexec ⊢
  have hsu : Agree 1024 s u := hu ▸ State.modStack_agree s k _
  have hstack (j : Nat) := (State.stack_countField u j (Page.memctl k) 0x70 0 32 1 4).trans
    ((congrArg (State.stack · j) hu.symm).trans (State.stack_modStack s k j _))
  have hflag := u.flagged_countField (Page.memctl k) 4 (o := 0x70) (by decide) (by decide) 0 32 1
  unfold State.flagged at hflag ⊢
  rw [hsu.rd_eq] at hflag
  refine ⟨(hstack k).trans (if_pos rfl), hflag, ?_, fun j hj => (hstack j).trans (if_neg (by simpa using hj)),
    fun a ha => (u.regsBut_countField _ _ _ _ _ _ a ha).trans (hsu.reg_eq (by decide) a),
    Agree.changesOnly_of_within (A := 99336) (exec_agree _ _ _ hexec)⟩
  rw [State.rd_flag _ (by decide), if_neg (by simp)]
  refine (u.rd_count (by decide) (by decide)).trans ?_
  rw [if_pos ⟨rfl, rfl⟩, hsu.rd_eq]

/-- CROSSING_BATCH of a stack that has crossed upward: all refreshes owed at once, and doubled mode. -/
theorem exec_crossingBatch_of_up (n : Nat) (hup : (s.stack k).up = true) :
    exec (.crossingBatch k n) s = .next (s.setStack k { s.stack k with
      owed := 0, forced := false, up := false, doubled := true
      taps := ((s.stack k).taps + min n (stackLanes * (s.stack k).owed)) % 65536 }) :=
  congrArg Host.Outcome.next (if_pos (by rw [State.stackFitted_of_lt hk, hup]; rfl))

/-- TRAINING_COMPLETE of a stack that trains. -/
theorem exec_trainingComplete_of_training (ok : Bool) (htrain : (s.stack k).train = .training) :
    exec (.trainingComplete k ok) s = .next (s.setStack k (
      if ok = true then
        { s.stack k with train := .tracking, doubled := true, initial := true, owed := 0, forced := false, up := false }
      else if (s.stack k).attempts < 2 then { s.stack k with attempts := (s.stack k).attempts + 1 }
      else { s.stack k with train := .failed })) := by
  refine congrArg Host.Outcome.next ((if_pos (by rw [State.stackFitted_of_lt hk, htrain]; rfl)).trans ?_)
  split
  · rfl
  · split <;> rfl

end Refreshes

/-! ### Parity errors (R138-R140) -/

theorem Page.memctl_ne_global (k : Nat) : Page.memctl k ≠ Page.global := by
  unfold Page.memctl Page.global
  omega

theorem Page.memctl_ne_ledger (k : Nat) : Page.memctl k ≠ Page.ledger := by
  unfold Page.memctl Page.ledger
  omega

theorem Page.memctl_ne_event {k : Nat} (hk : k < 2) : Page.memctl k ≠ Page.event := by
  unfold Page.memctl Page.event
  omega

/-- A parity error counted, error and replay, with its two flags. -/
def State.parityCounted (s : State) (k : Nat) : State :=
  ((s.count (Page.memctl k) 0x50).count (Page.memctl k) 0x54).setFlags (Page.memctl k) 3

/-- A pseudo-channel that fails. -/
def State.failPseudo (s : State) (k pc : Nat) : State :=
  (((s.modStack k fun x => { x with failed := x.failed ++ [pc] }).fault (Page.memctl k) 8).setDegraded 1 true).escalate 8
    (Page.memctl k)

/-- A storm of parity errors. -/
def State.parityStorm (s : State) (k : Nat) : State := (s.fault (Page.memctl k) 9).flag (Page.memctl k) 8

/-- A parity error counted, and its pseudo-channel failed where the command has failed four times. -/
def State.parityJudged (s : State) (k pc failures : Nat) : State :=
  if 4 ≤ failures ∧ ((s.parityCounted k).stack k).failed.contains pc = false then (s.parityCounted k).failPseudo k pc
  else s.parityCounted k

/-- The seventeenth error within a millisecond is a storm. -/
def State.parityNoted (s : State) (k errs : Nat) : State := if errs = 17 then s.parityStorm k else s

theorem exec_parityAlert {k pc : Nat} {s : State} (hk : k < Config.stackCount s.part) (hpc : pc < 32)
    (failures errs : Nat) : exec (.parityAlert k pc failures errs) s =
      .next ((s.parityJudged k pc failures).parityNoted k errs) :=
  congrArg Host.Outcome.next (if_pos (by rw [State.stackFitted_of_lt hk, decide_eq_true hpc]; rfl))

section ParityCounted

variable (s : State) (k : Nat)

theorem State.parityCounted_agree : Agree 98312 s (s.parityCounted k) :=
  (((Agree.refl 98312 s).step (State.count_agree _ _ _) rfl).step (State.count_agree _ _ _) rfl).step
    (State.setFlags_agree _ _ _) rfl

theorem State.rd_setFlags (p q r : Nat) (w : Word) (hr : r < 0x400) :
    (s.setFlags p w).rd q r = if q = p ∧ r = 0x14 then s.rd p 0x14 ||| w else s.rd q r := by
  unfold State.rd
  rw [State.reg_setFlags]
  simp only [regAddr_inj hr (show 0x14 < 0x400 by decide)]
  rfl

theorem State.parityCounted_counts :
    (s.parityCounted k).rd (Page.memctl k) 0x50 = word (min 0xffffffff ((s.rd (Page.memctl k) 0x50).toNat + 1)) ∧
      (s.parityCounted k).rd (Page.memctl k) 0x54 = word (min 0xffffffff ((s.rd (Page.memctl k) 0x54).toNat + 1)) := by
  unfold State.parityCounted
  refine ⟨?_, ?_⟩ <;> rw [State.rd_setFlags _ _ _ _ _ (by decide), if_neg (by simp), State.rd_count _ (by decide) (by decide)]
  · rw [if_neg (by simp), State.rd_count _ (by decide) (by decide), if_pos ⟨rfl, rfl⟩]
  · rw [if_pos ⟨rfl, rfl⟩, State.rd_count _ (by decide) (by decide), if_neg (by simp)]

theorem State.parityCounted_flags : bit ((s.parityCounted k).rd (Page.memctl k) 0x14) 0 = true ∧
    bit ((s.parityCounted k).rd (Page.memctl k) 0x14) 1 = true := by
  have hpair (w : Word) : w ||| 3 = w ||| bitWord 1 ||| bitWord 0 := by rw [BitVec.or_assoc]; rfl
  unfold State.parityCounted
  rw [State.rd_setFlags _ _ _ _ _ (by decide), if_pos ⟨rfl, rfl⟩, hpair]
  exact ⟨bit_or_bitWord _ (by decide), bit_or_left (bit_or_bitWord _ (by decide))⟩

theorem State.regsBut_parityCounted : s.regsBut (s.parityCounted k)
    [regAddr (Page.memctl k) 0x50, regAddr (Page.memctl k) 0x54, regAddr (Page.memctl k) 0x14] := by
  intro a ha
  simp only [List.mem_cons, List.not_mem_nil, or_false, not_or] at ha
  obtain ⟨herror, hreplay, hflags⟩ := ha
  refine (State.reg_setFlags _ _ _ _).trans ((if_neg hflags).trans ?_)
  exact ((State.reg_setReg _ _ _ _).trans (if_neg hreplay)).trans ((State.reg_setReg _ _ _ _).trans (if_neg herror))

end ParityCounted

section FailPseudo

variable (s : State) {k : Nat} (hk : k < 2) (pc : Nat)

/-- A pseudo-channel that fails joins those of its stack that failed. -/
theorem State.stack_failPseudo (j : Nat) : (s.failPseudo k pc).stack j =
    if j = k then { s.stack k with failed := (s.stack k).failed ++ [pc] } else s.stack j := by
  unfold State.failPseudo
  rw [(State.escalate_agree _ _ _ _).stack_eq, (State.setDegraded_agree _ _ _).stack_eq, (State.fault_agree _ _ _ _).stack_eq,
    State.stack_modStack]

include hk

/-- A pseudo-channel that fails shows on its stack's page in PAGE_FAULT alone. -/
theorem State.rd_failPseudo {r : Nat} (hr : r < 0x400) (hfault : r ≠ 0x1c) :
    (s.failPseudo k pc).rd (Page.memctl k) r = s.rd (Page.memctl k) r := by
  unfold State.failPseudo
  rw [State.rd_escalate _ hr (Page.memctl_ne_ledger k),
    State.rd_setDegraded_other _ hr _ _ (Page.memctl_ne_global k) (Page.memctl_ne_event hk)
      fun h => absurd h (Page.memctl_ne_health k),
    State.rd_fault_other _ _ hr (Page.memctl_ne_health k) fun _ => hfault]
  rfl

/-- A pseudo-channel that fails is fault 0x08. -/
theorem State.faulted_failPseudo : (s.failPseudo k pc).faulted (Page.memctl k) 8 :=
  State.faulted_degraded (State.faulted_fault _ _ (by decide) (Page.memctl_ne_health k)) (Page.memctl_ne_global k)
    (Page.memctl_ne_event hk) (Page.memctl_ne_ledger k) 1 8 _ true

omit hk in
/-- A pseudo-channel that fails is a cause of DEGRADED. -/
theorem State.degraded_failPseudo (k : Nat) : bit ((s.failPseudo k pc).rd Page.health 0x68) 1 = true := by
  unfold State.failPseudo
  rw [State.rd_escalate _ (by decide) (by decide)]
  exact State.bit_setDegraded_one _

end FailPseudo

section ParityStorm

variable (s : State) (k : Nat)

theorem State.parityStorm_agree : Agree 2203656 s (s.parityStorm k) :=
  ((Agree.refl 2203656 s).step (State.fault_agree _ _ _ _) rfl).step (State.flag_agree _ _ _) rfl

/-- A storm leaves the counters of its stack's page. -/
theorem State.rd_parityStorm {r : Nat} (hr : r < 0x400) (hflags : r ≠ 0x14) (hfault : r ≠ 0x1c) :
    (s.parityStorm k).rd (Page.memctl k) r = s.rd (Page.memctl k) r :=
  (State.rd_flag _ hr).trans ((if_neg fun h => hflags h.2).trans
    (State.rd_fault_other _ _ hr (Page.memctl_ne_health k) fun _ => hfault))

/-- A storm adds its flag to those of its stack's page. -/
theorem State.flagged_parityStorm : s.flagged (s.parityStorm k) (Page.memctl k) (bitWord 8) := by
  unfold State.flagged State.parityStorm
  rw [State.rd_flag _ (by decide), if_pos ⟨rfl, rfl⟩,
    State.rd_fault_other _ _ (by decide) (Page.memctl_ne_health k) fun _ => by decide]

/-- A storm is fault 0x09. -/
theorem State.faulted_parityStorm : (s.parityStorm k).faulted (Page.memctl k) 9 := by
  obtain ⟨hcode, hlast, hflag⟩ := s.faulted_fault 0 (page := Page.memctl k) (code := 9) (by decide) (Page.memctl_ne_health k)
  have hhealth {r : Nat} (hr : r < 0x400) : (s.parityStorm k).rd Page.health r = (s.fault (Page.memctl k) 9).rd Page.health r :=
    (State.rd_flag _ hr).trans (if_neg fun h => Page.memctl_ne_health k h.1.symm)
  refine ⟨?_, (hhealth (by decide)).trans hlast, ?_⟩
  · unfold State.parityStorm
    rw [State.rd_flag _ (by decide), if_neg (by simp)]
    exact hcode
  · rw [hhealth (by decide)]
    exact hflag

/-- A storm leaves the causes of DEGRADED. -/
theorem State.causes_parityStorm : (s.parityStorm k).rd Page.health 0x68 = s.rd Page.health 0x68 :=
  (State.rd_flag _ (by decide)).trans ((if_neg fun h => Page.memctl_ne_health k h.1.symm).trans
    (s.causes_fault _ _ _ (Page.memctl_ne_health k)))

variable (errs : Nat)

theorem State.parityNoted_agree : Agree 2203656 s (s.parityNoted k errs) := by
  unfold State.parityNoted
  split
  · exact s.parityStorm_agree k
  · exact Agree.refl _ s

theorem State.rd_parityNoted {r : Nat} (hr : r < 0x400) (hflags : r ≠ 0x14) (hfault : r ≠ 0x1c) :
    (s.parityNoted k errs).rd (Page.memctl k) r = s.rd (Page.memctl k) r := by
  unfold State.parityNoted
  split
  · exact s.rd_parityStorm k hr hflags hfault
  · rfl

variable {s k} in
theorem State.bit_parityNoted {i : Nat} (h : bit (s.rd (Page.memctl k) 0x14) i = true) :
    bit ((s.parityNoted k errs).rd (Page.memctl k) 0x14) i = true := by
  unfold State.parityNoted
  split
  · rw [s.flagged_parityStorm k]
    exact bit_or_left h
  · exact h

theorem State.causes_parityNoted : (s.parityNoted k errs).rd Page.health 0x68 = s.rd Page.health 0x68 := by
  unfold State.parityNoted
  split
  · exact s.causes_parityStorm k
  · rfl

variable {errs}

theorem State.parityNoted_of_storm (h : errs = 17) : s.parityNoted k errs = s.parityStorm k := if_pos h

theorem State.parityNoted_of_calm (h : errs ≠ 17) : s.parityNoted k errs = s := if_neg h

end ParityStorm

section ParityJudged

variable {s : State} {k pc failures : Nat}

/-- Fewer than four failures of one command fail nothing. -/
theorem State.parityJudged_of_few (h : failures < 4) : s.parityJudged k pc failures = s.parityCounted k :=
  if_neg fun hc => by omega

/-- The fourth failure of one command fails its pseudo-channel. -/
theorem State.parityJudged_of_failed (h : 4 ≤ failures) (hpc : pc ∉ (s.stack k).failed) :
    s.parityJudged k pc failures = (s.parityCounted k).failPseudo k pc :=
  if_pos ⟨h, by rw [(s.parityCounted_agree k).stack_eq]; simpa using hpc⟩

/-- Judging a parity error shows on its stack's page in PAGE_FAULT alone. -/
theorem State.rd_parityJudged (hk : k < 2) {r : Nat} (hr : r < 0x400) (hfault : r ≠ 0x1c) :
    (s.parityJudged k pc failures).rd (Page.memctl k) r = (s.parityCounted k).rd (Page.memctl k) r := by
  unfold State.parityJudged
  split
  · exact State.rd_failPseudo _ hk pc hr hfault
  · rfl

end ParityJudged

/-- PARITY_ALERT of a fitted stack. -/
theorem parityAlert_counts {k pc : Nat} {s : State} (hk : k < Config.stackCount s.part) (hpc : pc < 32)
    (failures errs : Nat) :
    Yields (.parityAlert k pc failures errs) s (fun t =>
      t.rd (Page.memctl k) 0x50 = word (min 0xffffffff ((s.rd (Page.memctl k) 0x50).toNat + 1)) ∧
      t.rd (Page.memctl k) 0x54 = word (min 0xffffffff ((s.rd (Page.memctl k) 0x54).toNat + 1)) ∧
      bit (t.rd (Page.memctl k) 0x14) 0 = true ∧ bit (t.rd (Page.memctl k) 0x14) 1 = true ∧
      (failures < 4 → t.memctl = s.memctl) ∧
      (failures < 4 → errs ≠ 17 →
        s.regsBut t [regAddr (Page.memctl k) 0x50, regAddr (Page.memctl k) 0x54, regAddr (Page.memctl k) 0x14] ∧
        s.changesOnly t [.regs, .i3cA, .i3cB]) ∧
      (4 ≤ failures → pc ∉ (s.stack k).failed → (t.stack k).failed = (s.stack k).failed ++ [pc] ∧ s.stacksBut t [k] ∧
        bit (t.rd Page.health 0x68) 1 = true ∧ (errs ≠ 17 → t.faulted (Page.memctl k) 8)) ∧
      (errs = 17 → t.faulted (Page.memctl k) 9 ∧ bit (t.rd (Page.memctl k) 0x14) 8 = true) ∧
      s.changesOnly t [.free, .regs, .ports, .memctl, .fabric, .i3cA, .i3cB, .ledger, .faults, .twin, .life]) := by
  have hk2 : k < 2 := hk.trans_le (Config.stackCount_le s.part)
  have hexec := exec_parityAlert hk hpc failures errs
  have hcounted := s.parityCounted_agree k
  have hnoted := (s.parityJudged k pc failures).parityNoted_agree k errs
  obtain ⟨herror, hreplay⟩ := s.parityCounted_counts k
  obtain ⟨hfirst, hsecond⟩ := s.parityCounted_flags k
  have hrd {r : Nat} := State.rd_parityJudged (s := s) (pc := pc) (failures := failures) (r := r) hk2
  refine ⟨_, hexec, ?_, ?_, State.bit_parityNoted errs ?_, State.bit_parityNoted errs ?_, fun hfew => ?_,
    fun hfew hcalm => ?_, fun hmany hnew => ?_, fun hstorm => ?_,
    Agree.changesOnly_of_within (A := 674341916) (exec_agree _ _ _ hexec)⟩
  · rw [State.rd_parityNoted _ _ _ (by decide) (by decide) (by decide), hrd (by decide) (by decide), herror]
  · rw [State.rd_parityNoted _ _ _ (by decide) (by decide) (by decide), hrd (by decide) (by decide), hreplay]
  · rw [hrd (by decide) (by decide), hfirst]
  · rw [hrd (by decide) (by decide), hsecond]
  · rw [hnoted.memctl rfl, State.parityJudged_of_few hfew, hcounted.memctl rfl]
  · rw [State.parityNoted_of_calm _ _ hcalm, State.parityJudged_of_few hfew]
    exact ⟨s.regsBut_parityCounted k, hcounted.changesOnly_of_within⟩
  · rw [State.parityJudged_of_failed hmany hnew] at hnoted ⊢
    have hstack (j : Nat) := (hnoted.stack_eq j).trans ((s.parityCounted k).stack_failPseudo pc j)
    refine ⟨?_, fun j hj => ?_, ?_, fun hcalm => ?_⟩
    · rw [hstack, if_pos rfl, hcounted.stack_eq]
    · rw [hstack, if_neg (by simpa using hj), hcounted.stack_eq]
    · rw [State.causes_parityNoted]
      exact State.degraded_failPseudo _ pc k
    · rw [State.parityNoted_of_calm _ _ hcalm]
      exact State.faulted_failPseudo _ hk2 pc
  · rw [State.parityNoted_of_storm _ _ hstorm]
    refine ⟨State.faulted_parityStorm _ k, ?_⟩
    rw [State.flagged_parityStorm]
    exact bit_or_bitWord _ (by decide)

/-- Settles O38: a stack that is not fitted, then each command of one that is. -/
theorem stacksRefreshTrainAndCross : Obligations.StacksRefreshTrainAndCross :=
  ⟨fun _ _ hk _ hc => exec_stackCommand_of_unfitted hk hc, fun _ _ hk => ⟨
    fun htrack => ⟨exec_refreshTick_of_tracking hk htrack, fun n _ _ _ hbusy => exec_refreshIssue_of_busy n hbusy,
      exec_refreshIssue_of_quiet hk htrack, stackTempReading_crosses hk htrack⟩,
    fun n htrack hforced hup => forcedBatch_clears hk htrack n hforced hup, exec_crossingBatch_of_up hk,
    forceDoubleWrite_crosses hk, fun _ failures errs hpc => parityAlert_counts hk hpc failures errs,
    exec_trainingComplete_of_training hk⟩⟩

end Machine
end Sys2Proof
end
